-- ==== Sys2Proof/Word.lean ====
section
/-! DEFINITION. The word types of the RDN-4820 model (00_scope.md R6; 06 R211, R212; 04 R110, R137). -/

namespace Sys2Proof

/-- A byte. -/
abbrev Byte := BitVec 8

/-- A 64-bit set-up register (all registers of the set-up window are 64 bits wide). -/
abbrev Word := BitVec 64

/-- A 128-bit engine instruction (R110). -/
abbrev InstrWord := BitVec 128

/-- The 64 data bytes of a granule, byte 0 in bits [7:0] (R6, R212). -/
abbrev Gran := BitVec 512

/-- A 1 KiB vector register or accumulator row, byte 0 in bits [7:0] (R132, R137). -/
abbrev VReg := BitVec 8192

end Sys2Proof
end

