-- ==== Sys2Proof/Syntax.lean ====
section
/-! DEFINITION. The commands of the block: one constructor for each row of spec/opcode_table.json, in its order, with the
row's operands. The table gives no bits for any row. -/

namespace Sys2Proof

/-- The four engines of a logical core, in the order of R172's stream index (R104, R111). -/
inductive Eng where
  | scu | mxe | vxe | dmx
deriving DecidableEq, Repr

/-- The index of an engine: 0 SCU, 1 MXE, 2 VXE, 3 DMX (R159, R172). -/
def Eng.idx : Eng → Nat
  | .scu => 0
  | .mxe => 1
  | .vxe => 2
  | .dmx => 3

/-- The engine of an index. -/
def Eng.ofIdx (n : Nat) : Eng :=
  if n = 0 then .scu else if n = 1 then .mxe else if n = 2 then .vxe else .dmx

/-- Who issues an instruction: an engine stream of a core, or a thread of a launch on a gather engine (R110, R111,
R155). -/
inductive Issuer where
  | stream (n : Fin 64) (e : Eng)
  | thread (g : Fin 32) (l t : Nat)
deriving DecidableEq, Repr

/-- The queues of a pseudo-channel (R253, R254, R272). -/
inductive HbmQueue where
  | sched | wide | narrow
deriving DecidableEq, Repr


/-- A command: one indivisible event of the part (95_what_each_step_holds.md). -/
inductive Instr where
  /-- BEAT (R19): A bridge side receives a beat whole, checks its bcrc, seq and signature nibble, accepts or discards it, and releases acknowledged retry-buffer entries. -/
  | beat (b : Fin 32) (x : Fin 2) (header : BitVec 256) (body : BitVec 3696)
  /-- BEAT_LAUNCH (R29): A bridge side in ACTIVE or DEGRADED sends a beat, empty if it has nothing to send, unless its retry window is full. -/
  | beatLaunch (b : Fin 32) (x : Fin 2) (new : List (Bool × BitVec 24 × BitVec 512 × BitVec 16))
  /-- BEAT_REPLAY (R19): A sender receives a replay request and resends its buffered beats from the first missing seq in their original order. -/
  | beatReplay (b : Fin 32) (x : Fin 2) (seq : BitVec 8)
  /-- BRIDGE_SILENCE_TIMEOUT (R19): A receiver in ACTIVE or DEGRADED that has received no beat for 64 consecutive ticks enters RETRAIN. -/
  | bridgeSilenceTimeout (b : Fin 32) (x : Fin 2)
  /-- BCRC_LIMIT (R21): A bridge reaching 8 bcrc failures within a window of 2^20 ticks enters RETRAIN. -/
  | bcrcLimit (b : Fin 32) (x : Fin 2)
  /-- BRIDGE_RETRAIN_SIGNAL (R30): A side receives a RETRAIN signal from the far side and starts short training. -/
  | bridgeRetrainSignal (b : Fin 32) (x : Fin 2)
  /-- FORCE_RETRAIN (R28): A write of 1 to BRG_CTL force_retrain puts the side into RETRAIN or restarts training in progress at CALIBRATE. -/
  | forceRetrain (b : Fin 32) (x : Fin 2)
  /-- BRIDGE_RESET_RELEASE (R26): A side whose reset is released enters CALIBRATE when the far side answers, or ACTIVE at once with an all-ones mask and generation 0 when the far side is ACTIVE. -/
  | bridgeResetRelease (b : Fin 32) (x : Fin 2)
  /-- CALIBRATE_DONE (R27): Per-wire phase and deskew calibration completes and the side enters WIRE_TEST. -/
  | calibrateDone (b : Fin 32) (x : Fin 2)
  /-- WIRE_TEST_DONE (R22): The PRBS-31 wire test completes; failing wires are mapped onto spares, groups with 3 or more failures are disabled and the mappings are logged. -/
  | wireTestDone (b : Fin 32) (x : Fin 2) (bad : List (Fin 64 × Fin 66))
  /-- MAP_DONE (R33): Mask and resend-point exchange completes, the width mask and generation are set, and the side enters ACTIVE, DEGRADED or DOWN and resends from its retry buffer. -/
  | mapDone (b : Fin 32)
  /-- ROOT_PLL_LOCK (R47): The ROOT PLL first locks and every ROOT divider starts together, with the GTC counting from 0. -/
  | rootPllLock (p : Fin 2)
  /-- ROOT_UNLOCK (R71): The ROOT PLL loses lock and root_unlock is set and counted. -/
  | rootUnlock (p : Fin 2)
  /-- SPLL_UNLOCK (R53): A service-port fractional PLL loses lock and spll_unlock is set and counted. -/
  | spllUnlock (o : Fin 4)
  /-- REFCLK_LOSS (R51): REFCLK absent for 1 µs or off by more than 100 ppm sets ref_loss, puts the ROOT PLL in holdover, clears aligned, raises a slip if running and sends a POWER record. -/
  | refclkLoss (p : Fin 2)
  /-- HOLDOVER_TIMEOUT (R51): After 10 ms in holdover without REFCLK the device holds all links in retrain until REFCLK returns. -/
  | holdoverTimeout (p : Fin 2)
  /-- REFCLK_RETURN (R52): REFCLK within 100 ppm for 1 ms takes the ROOT PLL out of holdover by phase steering and restarts alignment. -/
  | refclkReturn (p : Fin 2)
  /-- TIMING_EXCHANGE (R56): Every 1 µs a trained link launches a timing word in a link-management frame. -/
  | timingExchange (q : Fin 32) (frac : BitVec 8)
  /-- TIMING_WORD (R57): A received timing word yields a delay and offset, and the delay mean and offset mean are updated and reported. -/
  | timingWord (q : Fin 32) (m : BitVec 128) (frac : BitVec 8)
  /-- DELAY_VALID (R56): Once 4,096 exchanges have been averaged on a trained port, LDLY_STS valid is set. -/
  | delayValid (q : Fin 32)
  /-- GTC_LOAD (R59): After the first 64 exchanges the member loads its GTC with the upstream value that keeps GTC mod 72 unchanged and starts coarse steering. -/
  | gtcLoad (p : Fin 2)
  /-- ALIGNED (R59): When |θ| ≤ 1/16 tick holds for 100 consecutive offset means, the member sets aligned and passes to fine steering. -/
  | aligned (p : Fin 2)
  /-- STEER_LIMIT (R60): Fine steering resting at its ±0.2 ppm limit for 1 ms sets steer_limit. -/
  | steerLimit (p : Fin 2)
  /-- ELASTIC_EXIT (R63): At a receive slot's exit tick a scheduled frame leaves the elastic buffer and lands, or its absence raises FRAME_MISSING. -/
  | elasticExit (q : Fin 32) (f : Nat)
  /-- CONJUNCTION (R68): An orbit begins at a conjunction: scheduled streams restart and the run ends here after STOP or the last orbit. -/
  | conjunction (p : Fin 2)
  /-- NOP (R117): Engine instruction that does nothing for one tick of occupancy. -/
  | nop (u : Issuer) (w : InstrWord)
  /-- SEMWAIT (R117): Wait until a semaphore count reaches n and subtract n; in the scheduled plane a short count faults with SEM_SHORT. -/
  | semwait (n : Fin 64) (e : Eng) (w : InstrWord)
  /-- SEMSIG (R118): Add n to a local semaphore, or send a remote signal to the core named by eid, saturating at 65,535. -/
  | semsig (n : Fin 64) (e : Eng) (w : InstrWord)
  /-- SEMAPHORE_SERVE (R119): In a tick a semaphore takes every arriving signal, then serves waiting SEMWAITs in engine order. -/
  | semaphoreServe (n : Fin 64)
  /-- FENCE (R218): Free-plane instruction that stops its stream until the covered accesses meet the scope's completion condition. -/
  | fence (n : Fin 64) (e : Eng) (w : InstrWord)
  /-- FENCE_COMPLETE (R219): A fence's completion condition holds and its stream resumes issue. -/
  | fenceComplete (n : Fin 64) (e : Eng)
  /-- FENCE_TIMEOUT (R225): A DEV or SYS fence not complete within fence_tmo sets fence_timeout, records ORD_TMO and sends a LINK recovery record. -/
  | fenceTimeout (n : Fin 64) (e : Eng)
  /-- HALT (R117): End the stream, or in a scheduled stream its pass for the current orbit. -/
  | halt (n : Fin 64) (e : Eng) (w : InstrWord)
  /-- LOOP (R121): Repeat the next length instructions count times, up to four levels deep. -/
  | loop (n : Fin 64) (e : Eng) (w : InstrWord)
  /-- SLI (R123): Load a 32-bit immediate into an S register. -/
  | sli (n : Fin 64) (w : InstrWord)
  /-- SADD (R123): S[d] = S[a] + S[b], wrapping. -/
  | sadd (n : Fin 64) (w : InstrWord)
  /-- SSUB (R123): S[d] = S[a] − S[b], wrapping. -/
  | ssub (n : Fin 64) (w : InstrWord)
  /-- SMUL (R123): S[d] = low 32 bits of S[a] × S[b]. -/
  | smul (n : Fin 64) (w : InstrWord)
  /-- SAND (R123): S[d] = S[a] AND S[b]. -/
  | sand (n : Fin 64) (w : InstrWord)
  /-- SOR (R123): S[d] = S[a] OR S[b]. -/
  | sor (n : Fin 64) (w : InstrWord)
  /-- SXOR (R123): S[d] = S[a] XOR S[b]. -/
  | sxor (n : Fin 64) (w : InstrWord)
  /-- SSHL (R123): S[d] = S[a] shifted left by S[b] mod 32. -/
  | sshl (n : Fin 64) (w : InstrWord)
  /-- SSHR (R123): S[d] = S[a] shifted right logically by S[b] mod 32. -/
  | sshr (n : Fin 64) (w : InstrWord)
  /-- SSRA (R123): S[d] = S[a] shifted right arithmetically by S[b] mod 32. -/
  | ssra (n : Fin 64) (w : InstrWord)
  /-- SADDI (R123): S[d] = S[a] + imm32. -/
  | saddi (n : Fin 64) (w : InstrWord)
  /-- ALI (R123): Load a 64-bit immediate into an A register. -/
  | ali (n : Fin 64) (w : InstrWord)
  /-- AADD (R123): A[d] = A[a] + sign-extended S[b]. -/
  | aadd (n : Fin 64) (w : InstrWord)
  /-- AADDI (R123): A[d] = A[a] + sign-extended imm32. -/
  | aaddi (n : Fin 64) (w : InstrWord)
  /-- AFROMS (R123): A[d] = S[a] + S[b] × 2^32. -/
  | afroms (n : Fin 64) (w : InstrWord)
  /-- STOA (R123): Split A[a] into S[d] and S[d + 1]. -/
  | stoa (n : Fin 64) (w : InstrWord)
  /-- SLD (R124): Load 4 bytes of SRAM into S[d]. -/
  | sld (n : Fin 64) (w : InstrWord)
  /-- SST (R124): Store S[b] as 4 bytes to SRAM as a partial-granule write. -/
  | sst (n : Fin 64) (w : InstrWord)
  /-- ALD (R124): Load 8 bytes of SRAM into A[d]. -/
  | ald (n : Fin 64) (w : InstrWord)
  /-- AST (R124): Store A[b] as 8 bytes to SRAM as a partial-granule write. -/
  | ast (n : Fin 64) (w : InstrWord)
  /-- BR (R534): Compare two S registers and jump by imm16 instructions when the condition holds. -/
  | br (n : Fin 64) (w : InstrWord)
  /-- JMP (R534): Jump unconditionally by imm16 instructions. -/
  | jmp (n : Fin 64) (w : InstrWord)
  /-- GTCRD (R123): A[d] = GTC at the issue tick. -/
  | gtcrd (n : Fin 64) (w : InstrWord)
  /-- LOOPIDX (R123): S[d] = iteration index of a loop level. -/
  | loopidx (n : Fin 64) (w : InstrWord)
  /-- GLAUNCH (R152): Queue a gather launch with script, argument table and thread count on a gather engine of the tile. -/
  | glaunch (n : Fin 64) (w : InstrWord)
  /-- RESULT_DELIVERY (R112): An instruction's result becomes visible at its stated latency tick. -/
  | resultDelivery (n : Fin 64) (k : Nat)
  /-- HOME_REFUSAL (R151): A home's refusal of a partial write of SST, AST or VQST reaches the engine, which faults with DATA_CHECK naming the writing instruction. -/
  | homeRefusal (n : Fin 64) (k : Nat)
  /-- MMA (R130): Compute one 256 × 256 output tile C += A·B over kb blocks with exact block accumulation and optional checksum column. -/
  | mma (n : Fin 64) (w : InstrWord)
  /-- MWS (R131): Stream weight panels against 1 to 8 activation columns into bank rows. -/
  | mws (n : Fin 64) (w : InstrWord)
  /-- SRAM_QUEUE_TIMEOUT (R108): A scheduled SRAM request not served within three ticks of its request raises a slip of cause SRAM_QUEUE. -/
  | sramQueueTimeout (n : Fin 64)
  /-- MLDACC (R132): Load accumulator rows from SRAM, set the type tag and optionally the row checksums. -/
  | mldacc (n : Fin 64) (w : InstrWord)
  /-- MSTACC (R132): Store accumulator rows to SRAM with new carried checks. -/
  | mstacc (n : Fin 64) (w : InstrWord)
  /-- MZERO (R132): Zero a bank, its checksums and set its type tag. -/
  | mzero (n : Fin 64) (w : InstrWord)
  /-- VADD (R139): Lane-wise add. -/
  | vadd (n : Fin 64) (w : InstrWord)
  /-- VSUB (R139): Lane-wise subtract. -/
  | vsub (n : Fin 64) (w : InstrWord)
  /-- VMUL (R139): Lane-wise multiply. -/
  | vmul (n : Fin 64) (w : InstrWord)
  /-- VFMA (R139): Lane-wise fused multiply-add with one rounding. -/
  | vfma (n : Fin 64) (w : InstrWord)
  /-- VMIN (R139): Lane-wise minimum under R89. -/
  | vmin (n : Fin 64) (w : InstrWord)
  /-- VMAX (R139): Lane-wise maximum under R89. -/
  | vmax (n : Fin 64) (w : InstrWord)
  /-- VSADD (R139): Add a scalar to every lane. -/
  | vsadd (n : Fin 64) (w : InstrWord)
  /-- VSMUL (R139): Multiply every lane by a scalar. -/
  | vsmul (n : Fin 64) (w : InstrWord)
  /-- VSFMA (R139): Multiply every lane by a scalar and add a second scalar. -/
  | vsfma (n : Fin 64) (w : InstrWord)
  /-- VSEL (R139): Select lanes of va or vb by the lanes of vc. -/
  | vsel (n : Fin 64) (w : InstrWord)
  /-- VCMP (R139): Lane-wise compare producing all-ones or zero lanes. -/
  | vcmp (n : Fin 64) (w : InstrWord)
  /-- VAND (R139): INT32 lane-wise AND. -/
  | vand (n : Fin 64) (w : InstrWord)
  /-- VOR (R139): INT32 lane-wise OR. -/
  | vor (n : Fin 64) (w : InstrWord)
  /-- VXOR (R139): INT32 lane-wise XOR. -/
  | vxor (n : Fin 64) (w : InstrWord)
  /-- VSHL (R139): INT32 lane-wise left shift. -/
  | vshl (n : Fin 64) (w : InstrWord)
  /-- VSHR (R139): INT32 lane-wise arithmetic right shift. -/
  | vshr (n : Fin 64) (w : InstrWord)
  /-- VEXP2 (R99): Lane-wise exp2 by the defined kernel. -/
  | vexp2 (n : Fin 64) (w : InstrWord)
  /-- VLOG2 (R99): Lane-wise log2 by the defined kernel. -/
  | vlog2 (n : Fin 64) (w : InstrWord)
  /-- VRCP (R99): Lane-wise reciprocal by the defined kernel. -/
  | vrcp (n : Fin 64) (w : InstrWord)
  /-- VRSQRT (R99): Lane-wise reciprocal square root by the defined kernel. -/
  | vrsqrt (n : Fin 64) (w : InstrWord)
  /-- VTANH (R99): Lane-wise tanh by the defined kernel. -/
  | vtanh (n : Fin 64) (w : InstrWord)
  /-- VERF (R99): Lane-wise erf by the defined kernel. -/
  | verf (n : Fin 64) (w : InstrWord)
  /-- VFEXP2 (R139): Lane-wise exp2 of a fused scale and offset. -/
  | vfexp2 (n : Fin 64) (w : InstrWord)
  /-- VCVT (R139): Convert lanes between lane types with the given rounding mode. -/
  | vcvt (n : Fin 64) (w : InstrWord)
  /-- VLD (R140): Load a vector register from SRAM, optionally applying block scales. -/
  | vld (n : Fin 64) (w : InstrWord)
  /-- VST (R140): Convert and store a vector register to SRAM with new carried checks. -/
  | vst (n : Fin 64) (w : InstrWord)
  /-- VQST (R141): Block-quantise 256 FP32 lanes and store elements and scale bytes. -/
  | vqst (n : Fin 64) (w : InstrWord)
  /-- VACC (R139): Read an accumulator row into a register, optionally latching its checksum. -/
  | vacc (n : Fin 64) (w : InstrWord)
  /-- VREDSUM (R90): Sum registers in fixed order into an S register. -/
  | vredsum (n : Fin 64) (w : InstrWord)
  /-- VREDMAX (R139): Maximum over registers into an S register. -/
  | vredmax (n : Fin 64) (w : InstrWord)
  /-- VREDMIN (R139): Minimum over registers into an S register. -/
  | vredmin (n : Fin 64) (w : InstrWord)
  /-- VTOPK (R142): Rank candidates and write the top k values and indices. -/
  | vtopk (n : Fin 64) (w : InstrWord)
  /-- VSAMPLE (R143): Choose one index from weights with a generator draw. -/
  | vsample (n : Fin 64) (w : InstrWord)
  /-- VCHK (R135): Compare a register's row sum against a latched checksum within tolerance. -/
  | vchk (n : Fin 64) (w : InstrWord)
  /-- VBCAST (R139): Broadcast a scalar to every lane. -/
  | vbcast (n : Fin 64) (w : InstrWord)
  /-- VLANE (R139): Rotate lanes by a scalar amount. -/
  | vlane (n : Fin 64) (w : InstrWord)
  /-- VMOVS (R139): Move one lane into an S register. -/
  | vmovs (n : Fin 64) (w : InstrWord)
  /-- VIDX (R139): Write lane indices offset by a scalar. -/
  | vidx (n : Fin 64) (w : InstrWord)
  /-- DXFER (R144): Start a 2D/3D transfer from a descriptor, waiting for a free entry in the free plane. -/
  | dxfer (n : Fin 64) (w : InstrWord)
  /-- DMX_TRANSFER_COMPLETE (R148): Every write of a transfer is performed and acknowledged and every read returned; DMX signals its semaphore. -/
  | dmxTransferComplete (n : Fin 64) (id : Nat)
  /-- TRANSFER_STOP (R150): A transfer meeting a failing or unreachable granule stops, sets dmx_err and records its tag without signalling. -/
  | transferStop (n : Fin 64) (id : Nat)
  /-- GATHER_THREAD_START (R153): A gather engine starts the next thread of its launches as a thread becomes free. -/
  | gatherThreadStart (g : Fin 32)
  /-- GLD (R155): Gather script load of 8 to 64 bytes into the thread buffer. -/
  | gld (g : Fin 32) (l t : Nat) (w : InstrWord)
  /-- GLDR (R155): Gather script load of 8 bytes into a T register. -/
  | gldr (g : Fin 32) (l t : Nat) (w : InstrWord)
  /-- GST (R155): Gather script narrow store from the thread buffer. -/
  | gst (g : Fin 32) (l t : Nat) (w : InstrWord)
  /-- GADD (R155): T[td] = T[ta] + T[tb]. -/
  | gadd (g : Fin 32) (l t : Nat) (w : InstrWord)
  /-- GADDI (R155): T[td] = T[ta] + imm32. -/
  | gaddi (g : Fin 32) (l t : Nat) (w : InstrWord)
  /-- GMULI (R155): T[td] = low 64 bits of T[ta] × imm32. -/
  | gmuli (g : Fin 32) (l t : Nat) (w : InstrWord)
  /-- GSHR (R155): Logical right shift of a T register. -/
  | gshr (g : Fin 32) (l t : Nat) (w : InstrWord)
  /-- GANDI (R155): T[td] = T[ta] AND zero-extended imm32. -/
  | gandi (g : Fin 32) (l t : Nat) (w : InstrWord)
  /-- GATOM (R229): Atomic add, min, max or cas at the home of a word, returning the old value. -/
  | gatom (g : Fin 32) (l t : Nat) (w : InstrWord)
  /-- GBR (R155): Skip forward in the script when a condition holds. -/
  | gbr (g : Fin 32) (l t : Nat) (w : InstrWord)
  /-- GEND (R155): End the thread; when the last thread of a launch ends, the launch semaphore is signalled. -/
  | gend (g : Fin 32) (l t : Nat) (w : InstrWord)
  /-- NARROW_ACCESS_ANSWER (R154): The answer to a thread's outstanding narrow access arrives; the thread continues or ends on failure. -/
  | narrowAccessAnswer (g : Fin 32) (l t : Nat)
  /-- LOAD_IMAGE (R177): Host command that verifies and loads an orbit image, stopping previous streams and applying sections. -/
  | loadImage (p : Fin 2) (r : Fin 65) (data : Option (List (BitVec 8)))
  /-- SET_PLACEMENT (R168): Host command that loads the placement table, computes routes and the placement hash. -/
  | setPlacement (p : Fin 2) (r : Fin 65)
  /-- ARM (R181): Host command that checks arming conditions and sends ARM_READY upstream once downstream members are ready. -/
  | arm (p : Fin 2) (r : Fin 65)
  /-- ARM_READY (R182): A member receives an ARM_READY notice, compares hashes and forwards readiness or floods ARM_FAIL. -/
  | armReady (q : Fin 32) (w : BitVec 256)
  /-- ARMED (R182): A member receives the ARMED notice flooded by the master and enters ARMED. -/
  | armed (q : Fin 32) (w : BitVec 256)
  /-- ARM_FAIL (R182): A member receives ARM_FAIL, completes its ARM with the carried status and returns to LOADED. -/
  | armFail (q : Fin 32) (w : BitVec 256)
  /-- ARM_TIMEOUT (R182): No ARMED or ARM_FAIL notice within arm_timeout completes ARM with ARM_TIMEOUT. -/
  | armTimeout (p : Fin 2)
  /-- START (R184): Host command at the master that picks T(0) and floods the START notice. -/
  | start (p : Fin 2) (r : Fin 65)
  /-- START_NOTICE (R184): A member receives the START notice with T(0). -/
  | startNotice (q : Fin 32) (w : BitVec 256)
  /-- RUN_START (R184): At T(0) the member enters RUNNING and the first orbit begins. -/
  | runStart (p : Fin 2)
  /-- STOP (R185): Host command at the master that floods a STOP notice naming a conjunction, or disarms the group when ARMED. -/
  | stop (p : Fin 2) (r : Fin 65)
  /-- STOP_NOTICE (R185): A member receives a STOP notice and ends the run at the named conjunction or returns to LOADED. -/
  | stopNotice (q : Fin 32) (w : BitVec 256)
  /-- HALT_AT (R186): Host command at the master that freezes the group at GTC g with kind HALT. -/
  | haltAt (p : Fin 2) (r : Fin 65)
  /-- HALT_NOTICE (R191): A member receives a HALT notice and adopts its freeze tick if earlier. -/
  | haltNotice (q : Fin 32) (w : BitVec 256)
  /-- SLIP_NOTICE_LAUNCH (R193): At t_d + 2 the originator launches the SLIP notice on the comet lane of every port. -/
  | slipNoticeLaunch (p : Fin 2)
  /-- SLIP (R191): A member receives a SLIP notice, adopts an earlier t_f and forwards it, or records it. -/
  | slip (q : Fin 32) (w : BitVec 256)
  /-- FREEZE (R193): At t_f members stop scheduled issue and launch, HBM refreshes autonomously and ring feed-forward stops. -/
  | freeze (p : Fin 2)
  /-- FREEZE_DRAIN_END (R193): After the drain the member enters HALTED or FAULTED, rebuilds the in-flight list, sends its SLIP recovery record and completes open commands. -/
  | freezeDrainEnd (p : Fin 2)
  /-- SEND_SLOT (R176): A send slot launches the oldest queued scheduled frame of its unit, or raises FRAME_MISSING. -/
  | sendSlot (q : Fin 32) (f : Nat)
  /-- LANDING_OPEN (R179): At tick open of each orbit a landing buffer's counter is cleared. -/
  | landingOpen (p : Fin 2) (j : Nat)
  /-- LANDING_DEADLINE (R179): At tick deadline a counter below expected raises a slip of cause LANDING. -/
  | landingDeadline (p : Fin 2) (j : Nat)
  /-- FORECAST_BIN (R199): A forecast entry takes effect V ticks before its bin, driving ring feed-forward and regulator pre-bias. -/
  | forecastBin (p : Fin 2) (j : Nat)
  /-- PRE_BIAS_END (R201): 100 µs after a bin start a tile's regulator pre-bias has been removed. -/
  | preBiasEnd (t : Fin 16)
  /-- MARGIN_ALARM (R202): A margin monitor below threshold for 4 consecutive ticks raises an alarm, a MARGIN slip while running. -/
  | marginAlarm (d : Fin 36)
  /-- FCAST_DEV (R203): A bin's measured energy differing from its forecast by more than 20 % sets fcast_dev and sends a THERMAL record. -/
  | fcastDev (p : Fin 2) (j : Nat)
  /-- ACK (R222): A cumulative acknowledgement packet arrives and releases requests up to its sequence number. -/
  | ack (p : Fin 2) (dst : BitVec 24) (h : BitVec 512)
  /-- ACK_SEND (R359): A destination sends a cumulative ACK within 0.5 µs of its performed value advancing or once 64 requests are covered. -/
  | ackSend (p : Fin 2) (pix : Nat)
  /-- HBM_REQUEST (R254): A request reaches a channel controller and is queued in its scheduled, wide or narrow queue. -/
  | hbmRequest (n : Fin 64) (id i : Nat)
  /-- HBM_ACCESS_DONE (R267): A DRAM burst completes; the read is decoded, the carried check selected and data delivered or poisoned. -/
  | hbmAccessDone (c : Fin 640) (pc : Fin 2) (q : HbmQueue) (k : Nat) (flip : BitVec 640)
  /-- HBM_BOUND (R255): A scheduled HBM result not delivered within its bound sets bound_miss and raises a slip of cause HBM_BOUND. -/
  | hbmBound (c : Fin 640)
  /-- HBM_REWRITE (R269): A queued rewrite of a heavily corrected granule is performed as one read-correct-write. -/
  | hbmRewrite (c : Fin 640)
  /-- NARROW_REQUEST (R272): A narrow request reaches a narrow queue and is answered from a line buffer or issued alone. -/
  | narrowRequest (g : Fin 32) (l t : Nat)
  /-- REFRESH_SLOT (R260): A listed refresh slot refreshes one bank of a scheduled channel. -/
  | refreshSlot (c : Fin 640) (i : Nat)
  /-- AUTONOMOUS_REFRESH (R259): A controller refreshes a bank by itself at the interval its stack temperature requires. -/
  | autonomousRefresh (c : Fin 640) (bank : Fin 32)
  /-- PRE_RUN_REFRESH (R262): From T(0) − 1,125 MCLK cycles each scheduled channel refreshes every bank once. -/
  | preRunRefresh (c : Fin 640)
  /-- STACK_TEMP_SAMPLE (R263): Each stack's temperature is read every 1 ms. -/
  | stackTempSample (k : Fin 20) (temp : BitVec 8)
  /-- INNER_CE_READ (R264): Mafin reads each stack's inner-code correction count once per second. -/
  | innerCeRead (k : Fin 20) (counts : List (BitVec 32))
  /-- SCRUB_READ (R269): The HBM scrubber reads a granule, rewrites it when corrected and poisons it when uncorrectable. -/
  | scrubRead (c : Fin 640) (loc : Nat) (g : Fin 4) (flip : BitVec 640) (last : Bool)
  /-- MTG_START (R279): A start write to MTG_CTL starts the traffic generator, or sets refused outside BOOTING and IDLE. -/
  | mtgStart (c : Fin 640) (v : Word)
  /-- MTG_STOP (R281): A stop write to MTG_CTL stops the generator at the end of the current granule. -/
  | mtgStop (c : Fin 640) (steps : Nat)
  /-- MTG_DONE (R281): The generator completes its operation and records errors and passes. -/
  | mtgDone (c : Fin 640)
  /-- LASER_FAIL (R295): The primary input low for 50 µs or its fault signal sets laser_fail, holds rings, drops links, sends an OPTIC record and may raise a slip. -/
  | laserFail (o : Fin 4) (fault : Bool)
  /-- STANDBY_ENABLE (R295): 0.1 ms after a primary failure the standby input is enabled. -/
  | standbyEnable (o : Fin 4)
  /-- STANDBY_READY (R295): The standby laser reports ready and the input switch moves to it. -/
  | standbyReady (o : Fin 4) (pwr : BitVec 16)
  /-- LASER_LOSS (R296): Both inputs failed: the switch goes to the absorber, laser_loss is set and the engine's ports are dark. -/
  | laserLoss (o : Fin 4) (fault : Bool)
  /-- SWEEP_STEP (R298): A ring sweep advances one heater step; at its end the ring locks or, after three failures, becomes FAILED. -/
  | sweepStep (o : Fin 4) (i : Fin 8) (kind : Fin 4) (n : Fin 18) (resp : BitVec 16)
  /-- RING_UPDATE (R301): Every 5 µs a ring's heater code is formed and its fast-loop trim updated. -/
  | ringUpdate (o : Fin 4) (i : Fin 8) (kind : Fin 4) (n : Fin 18) (temp : BitVec 12) (e : BitVec 8)
  /-- FF_UPDATE (R300): Every 5 µs the thermal feed-forward model updates its lead temperature. -/
  | ffUpdate (o : Fin 4)
  /-- RECAL_TIMER (R303): Every recal_s seconds the engine starts recalibrating its locked rings. -/
  | recalTimer (o : Fin 4)
  /-- RECAL_RING_DONE (R303): A ring's recalibration sweep ends and its heater table is updated without changing the applied code. -/
  | recalRingDone (o : Fin 4) (i : Fin 8) (kind : Fin 4) (n : Fin 18) (lc : BitVec 16) (last : Bool)
  /-- TABLE_DRIFT (R304): A ring's mean trim over 1 s above 256 codes raises table_drift and starts its recalibration. -/
  | tableDrift (o : Fin 4) (i : Fin 8) (kind : Fin 4) (n : Fin 18)
  /-- TABLE_FLASH_WRITE (R303): Mafin writes the updated heater tables to flash once per hour. -/
  | tableFlashWrite (half : Fin 2)
  /-- EQUALISE (R308): Once a second each fibre's attenuators are set to bring margins within 0.5 dB of the lowest. -/
  | equalise (o : Fin 4)
  /-- MARGIN_SAMPLE (R292): Every 100 µs receive margins are sampled and the 1 ms means compared against thresholds. -/
  | marginSample (q : Fin 32) (m : BitVec 144)
  /-- COMET_RETURN (R318): A withdrawn comet lane returns once its margin has stayed at 3.0 dB or more for 10 s. -/
  | cometReturn (q : Fin 32)
  /-- SLOPE_FIT (R310): Once a second a slope is fitted to each lane's margins and an early handover may start. -/
  | slopeFit (q : Fin 32)
  /-- MOON_REQ (R311): Side A receives MOON_REQ for lane k and begins locking its λ16 modulator. -/
  | moonReq (q : Fin 32) (m : BitVec 128)
  /-- MOON_READY (R311): Side B receives MOON_READY(M) and begins checking frames with lane k from λ16. -/
  | moonReady (q : Fin 32) (m : BitVec 128)
  /-- MOON_PASS_COUNT (R311): After 4,096 consecutive passing frames B sends MOON_SWITCH(S). -/
  | moonPassCount (q : Fin 32)
  /-- MOON_SWITCH (R311): Side A receives MOON_SWITCH(S) and notes the switch frame. -/
  | moonSwitch (q : Fin 32) (m : BitVec 128)
  /-- MOON_SWITCH_FRAME (R311): At frame S side B takes lane k from λ16 and the lane map shows moon mode. -/
  | moonSwitchFrame (q : Fin 32)
  /-- MOON_FAIL (R313): 4,096 passes not reached within 1.9 ms or a moon ring unlocking fails the handover, sets moon_fail and retries once. -/
  | moonFail (q : Fin 32)
  /-- MOON_TEST (R312): A side receives MOON_TEST and locks its moon ring to send or receive idle frames on λ16 for 1 ms. -/
  | moonTest (q : Fin 32) (m : BitVec 128)
  /-- MOON_TEST_END (R312): After 1 ms of moon test side B returns the moon margin in MOON_TEST_DONE. -/
  | moonTestEnd (q : Fin 32) (m : BitVec 8)
  /-- MOON_TEST_DONE (R312): Side A receives the moon margin and the moon is marked available or not. -/
  | moonTestDone (q : Fin 32) (m : BitVec 128)
  /-- MOON_RETURN (R314): A side receives MOON_RETURN and runs the handover in reverse, parking the moon. -/
  | moonReturn (q : Fin 32) (m : BitVec 128)
  /-- RESTRIPE (R316): A side receives RESTRIPE naming a wavelength and a frame for the change to fifteen-lane mode. -/
  | restripe (q : Fin 32) (m : BitVec 128)
  /-- RESTRIPE_FRAME (R316): At the named frame both ends change their lane maps; a scheduled port raises a RESTRIPE slip. -/
  | restripeFrame (q : Fin 32) (rx : Bool)
  /-- DROP (R317): A side receives DROP and the fibre stops carrying traffic, its traffic rerouted and its tap parked. -/
  | drop (q : Fin 32) (m : BitVec 128)
  /-- LOS (R321): All 18 drop filters below −20 dBm for 8 µs: los set, rings HOLD, port down, LINK record, PORT_LOSS slip if scheduled. -/
  | los (q : Fin 32)
  /-- PROBE_TIMER (R322): Every 100 ms a port in PROBE sends 20 µs of idle frames. -/
  | probeTimer (q : Fin 32)
  /-- PROBE_LIGHT (R322): Light received for 10 µs in PROBE triggers a probe at once, or relights the fibre if within 100 µs of a probe. -/
  | probeLight (q : Fin 32)
  /-- FRAME (R335): A frame is received whole, its fcrc checked and corrected, and it is placed by VC into the elastic buffer, retry stream or management handling. -/
  | frame (q : Fin 32) (f : Nat) (w : BitVec 1152)
  /-- LINK_REPLAY_REQUEST (R340): A sender receives a request to replay VC1/VC2 frames from the first missing lseq and resends in order. -/
  | linkReplayRequest (q : Fin 32) (first : BitVec 12)
  /-- CREDIT_RETURN (R341): A credit-return message restores free-plane credits per class. -/
  | creditReturn (q : Fin 32) (m : BitVec 128)
  /-- IDENTITY_FRAGMENT (R337): A Port Identity Record fragment is received; a complete record is checked under R354. -/
  | identityFragment (q : Fin 32) (m : BitVec 128)
  /-- MARGIN_REPORT (R337): A far-end margin report is received for use by the equaliser. -/
  | marginReport (q : Fin 32) (m : BitVec 128)
  /-- RETRAIN (R331): A retrain message from the far side starts a narrow-sweep retrain of the port. -/
  | retrain (q : Fin 32) (m : BitVec 128)
  /-- ALIGN_DONE (R330): Word lock, deskew, frame lock and the moon test complete and the port enters IDENT. -/
  | alignDone (q : Fin 32) (moon : BitVec 8)
  /-- IDENT (R354): A received Port Identity Record is checked and the port enters UP, UNPLACED, MISWIRED or INCOMPATIBLE. -/
  | ident (q : Fin 32)
  /-- PIR_RESEND (R353): Once each second the device resends its Port Identity Record. -/
  | pirResend (q : Fin 32)
  /-- PIR_TIMEOUT (R354): No valid identity record within 1 ms takes the port DOWN. -/
  | pirTimeout (q : Fin 32)
  /-- FRAME_ERROR_LIMIT (R331): 32 uncorrectable frames within 2^20 frames set err_limit and retrain the port. -/
  | frameErrorLimit (q : Fin 32)
  /-- PORT_DOWN (R332): 1,024 consecutive failing frames take the port DOWN and remove it from route candidates within 0.8 µs. -/
  | portDown (q : Fin 32)
  /-- DOWN_RELIGHT (R332): A DOWN port with a lit transmitter retrains once light has been received for 1 s. -/
  | downRelight (q : Fin 32)
  /-- LOAD (R356): A LOAD request packet is received and performed at its home, answered with LOAD_RSP. -/
  | load (p : Fin 2) (dst : BitVec 24) (h : BitVec 512)
  /-- STORE (R359): A sequenced STORE request is checked for session and order and performed at its home. -/
  | store (p : Fin 2) (dst : BitVec 24) (h : BitVec 512) (data : List (BitVec 512 × BitVec 16))
  /-- ATOMIC (R360): An ATOMIC request is performed at its home or answered from the atomic response store. -/
  | atomic (p : Fin 2) (dst : BitVec 24) (h : BitVec 512)
  /-- SEMSIG_PACKET (R356): A remote SEMSIG request packet is received and its count added to the named semaphore. -/
  | semsigPacket (p : Fin 2) (dst : BitVec 24) (h : BitVec 512)
  /-- LOAD_RSP (R357): A load response arrives and is matched to its request by tag, or discarded. -/
  | loadRsp (p : Fin 2) (dst : BitVec 24) (h : BitVec 512) (data : List (BitVec 512 × BitVec 16))
  /-- ATOMIC_RSP (R356): An atomic response returns the old value to the requester. -/
  | atomicRsp (p : Fin 2) (dst : BitVec 24) (h : BitVec 512)
  /-- NAK (R362): A NAK arrives; STALE records the new session and marks requests lost, others end the requester. -/
  | nak (p : Fin 2) (dst : BitVec 24) (h : BitVec 512)
  /-- MC_AXIS (R349): An axis multicast is written locally, acknowledged and passed on for count hops. -/
  | mcAxis (p : Fin 2) (dst : BitVec 24) (h : BitVec 512) (data : List (BitVec 512 × BitVec 16))
  /-- MC_MASK (R350): A mask multicast is replicated over the sub-block and written where marked, or discarded when ARMED or RUNNING. -/
  | mcMask (p : Fin 2) (dst : BitVec 24) (h : BitVec 512) (data : List (BitVec 512 × BitVec 16))
  /-- MC_ACK (R352): A multicast acknowledgement arrives at the source. -/
  | mcAck (p : Fin 2) (dst : BitVec 24) (h : BitVec 512)
  /-- E2E_RETRANSMIT (R361): No ACK advancing within e2e_rto, or a completed route update after a port loss, retransmits unacknowledged requests and multicasts. -/
  | e2eRetransmit (p : Fin 2) (pix : Nat)
  /-- RDMA_WRITE (R365): An RDMA WRITE arrives on the service port and is performed as stores, or on the host register region as register writes. -/
  | rdmaWrite (p : Fin 2) (qp : BitVec 24) (rkey : BitVec 32) (va : BitVec 64) (data : List (BitVec 8))
  /-- RDMA_READ (R365): An RDMA READ arrives and is answered from memory or from the register or doorbell region. -/
  | rdmaRead (p : Fin 2) (qp : BitVec 24) (rkey : BitVec 32) (va : BitVec 64) (n : Nat)
  /-- FETCH_ADD (R365): A RoCEv2 FETCH_ADD is performed as an 8-byte atomic add, or NAKed when aimed at a host region. -/
  | fetchAdd (p : Fin 2) (qp : BitVec 24) (va : BitVec 64) (v : BitVec 64)
  /-- CMP_SWAP (R365): A RoCEv2 CMP_SWAP is performed as an 8-byte compare and swap. -/
  | cmpSwap (p : Fin 2) (qp : BitVec 24) (va : BitVec 64) (c v : BitVec 64)
  /-- ROCE_SEND (R365): A SEND carrying a packet header performs a min, max, 4-byte atomic or SEMSIG and is answered by a SEND. -/
  | roceSend (p : Fin 2) (qp : BitVec 24) (h : BitVec 512)
  /-- ROCE_ACK (R366): A RoCEv2 acknowledgement arrives, completing host-window transfers and fences up to its PSN. -/
  | roceAck (p : Fin 2) (qp : BitVec 24) (seq : Nat)
  /-- QP_RETRY_EXHAUSTION (R366): A far-device queue pair fails by retry exhaustion, outstanding requests become unknown and a LINK record is sent. -/
  | qpRetryExhaustion (p : Fin 2) (i : Fin 4096)
  /-- PCS_LOCK_LOSS (R364): A service port loses PCS lock; queue pairs move to the next port and host connections on it fail. -/
  | pcsLockLoss (o : Fin 4) (lane : Fin 4)
  /-- COLLECTIVE_POST_TAKE (R381): A collective engine takes the next posted descriptor when the post word exceeds its consumed count and a trigger entry is free. -/
  | collectivePostTake (e : Fin 4)
  /-- TRIGGER_FIRE (R383): A waiting collective operation fires when its counter word reaches threshold, or a scheduled one at its orbit tick. -/
  | triggerFire (e : Fin 4) (sched : Bool) (i : Nat)
  /-- COLL_DATA (R388): A COLL DATA packet brings a segment that is added and forwarded, written to dst or held. -/
  | collData (p : Fin 2) (h : BitVec 512) (data : List (BitVec 512 × BitVec 16))
  /-- COLL_CREDIT (R389): A COLL CREDIT packet frees segments on a stream and the sender may continue. -/
  | collCredit (p : Fin 2) (h : BitVec 512)
  /-- COLL_ABORT (R397): A COLL ABORT packet aborts the same operation with cause REMOTE and is forwarded. -/
  | collAbort (p : Fin 2) (h : BitVec 512)
  /-- COLL_TIMEOUT (R396): No segment or message of an operation received for coll_tmo aborts it with cause TIMEOUT. -/
  | collTimeout (e : Fin 4) (k : Nat)
  /-- COMET_SLOT (R391): A comet slot on λ17 is received, crc checked, and taken as a control notice or collective message. -/
  | cometSlot (q : Fin 32) (w : BitVec 576)
  /-- COMET_LAUNCH (R392): A member launches a comet message in the first comet slot after the hop's last contribution. -/
  | cometLaunch (e : Fin 4)
  /-- COLLECTIVE_COMPLETE (R384): An operation completes on a member: completion word incremented and SEMSIG sent when enabled. -/
  | collectiveComplete (e : Fin 4) (k : Nat)
  /-- HOST_CONN_REQ (R402): A communication-management REQ sets up a host control connection, or is rejected. -/
  | hostConnReq (o : Fin 4) (target : BitVec 8) (qpn : BitVec 24)
  /-- HOST_CONN_LOST (R412): A host control connection fails; its rings are disabled, unstarted entries dropped and conn_lost set. -/
  | hostConnLost (p : Fin 2) (c : Fin 4)
  /-- ARP_REQUEST (R404): The device answers ARP for its configured addresses. -/
  | arpRequest (o : Fin 4) (ip : BitVec 32)
  /-- NEIGHBOUR_SOLICITATION (R404): The device answers IPv6 neighbour discovery for its configured addresses. -/
  | neighbourSolicitation (o : Fin 4) (ip : BitVec 128)
  /-- ICMP_ECHO (R404): The device answers ICMP echo for its configured addresses. -/
  | icmpEcho (o : Fin 4) (ip : BitVec 128) (data : List (BitVec 8))
  /-- I3C_REGISTER_WRITE (R405): An I3C private write performs a register write after its CRC-8 and offset checks. -/
  | i3cRegisterWrite (h : Fin 2) (bytes : List (BitVec 8))
  /-- I3C_READ_REQUEST (R405): An I3C private write requests a register read. -/
  | i3cReadRequest (h : Fin 2) (bytes : List (BitVec 8))
  /-- I3C_PRIVATE_READ (R405): An I3C private read returns the last requested value and a status byte. -/
  | i3cPrivateRead (h : Fin 2)
  /-- ENTDAA (R405): The I3C controller assigns the target a dynamic address. -/
  | entdaa (h : Fin 2) (addr : BitVec 7)
  /-- COMMAND_DOORBELL (R408): A write to a command ring doorbell updates P, is ignored as stale, or stops the ring with ring_err. -/
  | commandDoorbell (p : Fin 2) (r : Fin 64) (n : BitVec 32)
  /-- COMPLETION_DOORBELL (R410): A write of the host consumed count H to a completion ring doorbell frees record slots. -/
  | completionDoorbell (p : Fin 2) (q : Fin 64) (n : BitVec 32)
  /-- COMMAND_FETCH (R409): The device fetches command ring entries up to 8 ahead of the command in progress. -/
  | commandFetch (p : Fin 2) (r : Fin 64) (desc : List (BitVec 8))
  /-- COMMAND_START (R418): The next fetched entry starts after the previous completes, and its checks run in order. -/
  | commandStart (p : Fin 2) (r : Fin 65) (ext : Option (List (BitVec 8))) (storeOk : Bool)
  /-- CONTROL_SLOT_GRANT (R420): A waiting control command takes the partition's control slot and is checked against the present state. -/
  | controlSlotGrant (p : Fin 2) (ext : Option (List (BitVec 8))) (storeOk : Bool)
  /-- COMPLETION_WRITE (R410): A waiting completion record is written once its slot is free. -/
  | completionWrite (p : Fin 2) (q : Fin 64)
  /-- RING_RESUME (R411): A write of resume restarts a stopped command ring. -/
  | ringResume (p : Fin 2) (r : Fin 64)
  /-- COMMAND_RING_ENABLE (R431): Setting enable in HIF_CR_CFG resets P and C, or sets ring_err when the ring is invalid. -/
  | commandRingEnable (p : Fin 2) (r : Fin 64)
  /-- COMPLETION_RING_ENABLE (R431): Setting enable in HIF_CQ_CFG resets its written count and H. -/
  | completionRingEnable (p : Fin 2) (q : Fin 64)
  /-- MAILBOX_GO (R406): Writing go starts the mailbox command, whose record goes to the mailbox completion words. -/
  | mailboxGo (p : Fin 2) (i3c : Bool)
  /-- NOP_COMMAND (R421): Host command that does nothing and completes OK. -/
  | nopCommand (p : Fin 2) (r : Fin 65)
  /-- QUERY (R422): Host command that returns an identity or capability page. -/
  | query (p : Fin 2) (r : Fin 65)
  /-- READ_STATE (R422): Host command that returns SCH_STS and the GTC. -/
  | readState (p : Fin 2) (r : Fin 65)
  /-- WRITE_MEM (R422): Host command that writes device memory or registers from a host window. -/
  | writeMem (p : Fin 2) (r : Fin 65) (data : Option (List (BitVec 8)))
  /-- READ_MEM (R422): Host command that reads device memory or registers into a host window. -/
  | readMem (p : Fin 2) (r : Fin 65)
  /-- CLEAR_FAULT (R422): Host command that returns a HALTED or FAULTED partition to LOADED. -/
  | clearFault (p : Fin 2) (r : Fin 65)
  /-- SWAP_CORE (R478): Authenticated host command that holds the tile and moves a logical core onto the spare. -/
  | swapCore (p : Fin 2) (r : Fin 65)
  /-- SPARE_SELF_TEST_DONE (R479): The spare's self-test ends; the map is written and state reset, or on failure the original core is reconnected with NO_SPARE. -/
  | spareSelfTestDone (p : Fin 2) (ok : Bool)
  /-- TILE_RELEASE (R479): At 10 µs the tile is released and the replaced core powered down. -/
  | tileRelease (p : Fin 2)
  /-- SWAP_LOG_STORED (R479): The swap's ageing-log entry is stored and SWAP_CORE completes OK. -/
  | swapLogStored (p : Fin 2)
  /-- PORT_CTL_DARK (R423): PORT_CTL action that darkens a port or sets light_en = 0 on an engine. -/
  | portCtlDark (p : Fin 2) (r : Fin 65)
  /-- PORT_CTL_LIGHT (R423): PORT_CTL action that lights a port or an engine. -/
  | portCtlLight (p : Fin 2) (r : Fin 65)
  /-- PORT_CTL_RETRAIN (R423): PORT_CTL action that retrains a port. -/
  | portCtlRetrain (p : Fin 2) (r : Fin 65)
  /-- PORT_CTL_RESTORE (R423): PORT_CTL action that retrains a restriped or dropped fibre on all wavelengths. -/
  | portCtlRestore (p : Fin 2) (r : Fin 65)
  /-- PORT_CTL_MOON_RETURN (R423): PORT_CTL action that returns a lane from the moon. -/
  | portCtlMoonReturn (p : Fin 2) (r : Fin 65)
  /-- CAL_OPTICS (R305): Host command that starts a recalibration pass at once on the named ports. -/
  | calOptics (p : Fin 2) (r : Fin 65)
  /-- SET_POLICY_OPTICAL (R424): SET_POLICY item 0x01 sets the optical failure policy of the named engines. -/
  | setPolicyOptical (p : Fin 2) (r : Fin 65)
  /-- SET_POLICY_AS_WIRED (R424): SET_POLICY item 0x02 sets as-wired acceptance. -/
  | setPolicyAsWired (p : Fin 2) (r : Fin 65)
  /-- SET_POLICY_FAR_DEVICE (R424): SET_POLICY item 0x03 writes a far-device entry after in-flight accesses finish. -/
  | setPolicyFarDevice (p : Fin 2) (r : Fin 65)
  /-- SET_POLICY_HOST_WINDOW (R424): SET_POLICY item 0x04 writes a host window entry after in-flight accesses finish. -/
  | setPolicyHostWindow (p : Fin 2) (r : Fin 65)
  /-- SET_POLICY_ENCRYPTION (R424): SET_POLICY item 0x05 sets inline encryption from the next reset. -/
  | setPolicyEncryption (p : Fin 2) (r : Fin 65)
  /-- KEY_ROTATE_INSTALL (R502): KEY_ROTATE action 0 installs the first command key through the I3C mailbox. -/
  | keyRotateInstall (p : Fin 2) (r : Fin 65) (storeOk : Bool)
  /-- KEY_ROTATE_ROTATE (R502): KEY_ROTATE action 1 replaces the command key under the present key. -/
  | keyRotateRotate (p : Fin 2) (r : Fin 65) (storeOk : Bool)
  /-- KEY_ROTATE_RELEASE (R502): KEY_ROTATE action 2 erases the command key and makes the partition unowned. -/
  | keyRotateRelease (p : Fin 2) (r : Fin 65) (storeOk : Bool)
  /-- ATTEST_REPORT (R506): ATTEST type 0 writes a signed attestation report with the host nonce. -/
  | attestReport (p : Fin 2) (r : Fin 65)
  /-- ATTEST_DEVICEID_CERT (R505): ATTEST type 1 writes the DeviceID certificate. -/
  | attestDeviceidCert (p : Fin 2) (r : Fin 65)
  /-- ATTEST_ALIAS_CERT (R505): ATTEST type 2 writes the partition's Alias certificate. -/
  | attestAliasCert (p : Fin 2) (r : Fin 65)
  /-- PARTITION_SPLIT (R509): PARTITION action 0 copies the key to East, raises counters and warm-resets into two-partition mode. -/
  | partitionSplit (p : Fin 2) (r : Fin 65) (storeOk : Bool)
  /-- PARTITION_MERGE (R509): PARTITION action 1 erases the East key and warm-resets into whole-device mode. -/
  | partitionMerge (p : Fin 2) (r : Fin 65) (storeOk : Bool)
  /-- PARTITION_CONSENT (R509): PARTITION action 2 on East grants merge consent for 60 s. -/
  | partitionConsent (p : Fin 2) (r : Fin 65) (storeOk : Bool)
  /-- CONSENT_EXPIRY (R509): East merge consent lapses after 60 s. -/
  | consentExpiry
  /-- SEAM_SIDEBAND (R508): The seam sideband wire changes the other half's IDLE or consent bit, or carries divider alignment and GTC load. -/
  | seamSideband (h : Fin 2)
  /-- RESET_UNIT_WARM (R423): RESET_UNIT kind 0 completes OK and then performs a warm reset of the partition. -/
  | resetUnitWarm (p : Fin 2) (r : Fin 65)
  /-- RESET_UNIT_HALF (R423): RESET_UNIT kind 1 starts a partial reset of a half. -/
  | resetUnitHalf (p : Fin 2) (r : Fin 65)
  /-- RESET_UNIT_OE (R423): RESET_UNIT kind 2 starts a partial reset of an optical engine. -/
  | resetUnitOe (p : Fin 2) (r : Fin 65)
  /-- RESET_UNIT_TILE (R423): RESET_UNIT kind 3 starts a partial reset of a tile. -/
  | resetUnitTile (p : Fin 2) (r : Fin 65)
  /-- RESET_UNIT_PORT (R423): RESET_UNIT kind 4 starts a partial reset of a port. -/
  | resetUnitPort (p : Fin 2) (r : Fin 65)
  /-- RESET_UNIT_ENGINE (R442): RESET_UNIT kind 5 clears the named engines of a core and releases a stream held at a fence. -/
  | resetUnitEngine (p : Fin 2) (r : Fin 65)
  /-- RESET_UNIT_COLLECTIVE (R398): RESET_UNIT kind 6 returns every group of a collective engine to READY. -/
  | resetUnitCollective (p : Fin 2) (r : Fin 65)
  /-- RESET_UNIT_GATHER (R442): RESET_UNIT kind 7 ends every thread and launch of a gather engine without signalling. -/
  | resetUnitGather (p : Fin 2) (r : Fin 65)
  /-- PARTIAL_RESET_DONE (R443): A partial reset ends; sections are reapplied, a half resynchronises its dividers and GTC, and RESET_UNIT completes. -/
  | partialResetDone (p : Fin 2) (k : Nat)
  /-- REPLAN_MARGINS (R489): Host command that re-plans each die's voltage offset and applies it at once. -/
  | replanMargins (p : Fin 2) (r : Fin 65)
  /-- FW_STAGE_FIRMWARE (R449): FW_STAGE kind 0 verifies a firmware image and writes it to the inactive slot. -/
  | fwStageFirmware (p : Fin 2) (r : Fin 65) (data : Option (List (BitVec 8))) (flashOk : Bool)
  /-- FW_STAGE_CONFIG (R449): FW_STAGE kind 1 replaces the configuration record. -/
  | fwStageConfig (p : Fin 2) (r : Fin 65) (data : Option (List (BitVec 8))) (flashOk : Bool)
  /-- FW_COMMIT (R450): FW_COMMIT makes the staged slot active with trial set, for the next reset. -/
  | fwCommit (p : Fin 2) (r : Fin 65)
  /-- FW_COMMIT_RESET_NOW (R450): FW_COMMIT with reset_now makes the staged slot active and performs a warm reset. -/
  | fwCommitResetNow (p : Fin 2) (r : Fin 65)
  /-- COLD_RESET (R441): COLD_RST_N held low for at least 10 µs, or power-on, resets the whole package. -/
  | coldReset (power : Bool)
  /-- COLD_RESET_RELEASE (R436): Cold reset is released: straps are latched and checked and the partition enters BOOTING. -/
  | coldResetRelease (straps : BitVec 8)
  /-- BOOT_SLOT_SELECT (R447): The boot ROM reads the boot record, counts trial attempts and chooses a slot. -/
  | bootSlotSelect (h : Fin 2)
  /-- FIRMWARE_VERIFIED (R497): The firmware has been read and verified, or fails and the other slot is tried. -/
  | firmwareVerified (h : Fin 2) (net : List (BitVec 8))
  /-- MAFIN_START (R436): Mafin starts, reads fuses, configuration and ageing log, builds core maps and sends latched records. -/
  | mafinStart (p : Fin 2)
  /-- STACK_TRAINING_DONE (R242): Stack PHY training and identity checks complete, failing stacks are marked and zero-fill begins. -/
  | stackTrainingDone (p : Fin 2) (bad : List (Fin 20)) (lanes : List (Fin 640 × Nat))
  /-- ZERO_FILL_DONE (R271): HBM zero-fill completes and MEM_STS ready is set. -/
  | zeroFillDone (p : Fin 2)
  /-- BOOT_COMPLETE (R437): With all conditions met, Mafin sets the lock bits and the partition enters IDLE, clearing trial. -/
  | bootComplete (p : Fin 2) (storeOk : Bool)
  /-- BOOT_WATCHDOG (R447): Mafin not reaching IDLE within 10 s causes a warm reset. -/
  | bootWatchdog (p : Fin 2)
  /-- BOOT_GO (R448): Writing BOOT_CTL go boots the image held in SRAM. -/
  | bootGo (p : Fin 2)
  /-- NETWORK_BOOT_TIMEOUT (R448): 60 s without a network boot image sends the boot ROM into hold mode. -/
  | networkBootTimeout (h : Fin 2)
  /-- DEBUG_READ (R455): A debug window read returns state without changing it, recording carried-check failures in DBG_STS. -/
  | debugRead (p : Fin 2) (off : BitVec 26)
  /-- DEBUG_WRITE (R456): A debug window write is performed where permitted or ignored with dbg_refused. -/
  | debugWrite (p : Fin 2) (off : BitVec 26) (v : Word)
  /-- SRAM_REWRITE (R465): A queued SRAM rewrite of a corrected granule is performed in a free port S slot. -/
  | sramRewrite (t : Fin 16)
  /-- SRAM_SCRUB (R466): The SRAM scrubber reads a granule and handles it by R465. -/
  | sramScrub (t : Fin 16) (g : Fin 1572864) (flip : BitVec 600)
  /-- UE_LIMIT (R482): More than ue_limit uncorrectable detections in a tile or stack within 60 minutes quarantines the partition. -/
  | ueLimit (p : Fin 2) (unit : Fin 36)
  /-- QUARANTINE_DARK (R483): Within 1 ms of quarantine every tensor transmitter and comet lane goes dark. -/
  | quarantineDark (p : Fin 2)
  /-- FAULT_RECORD_LOG (R473): A fault record enters the internal log, replacing the oldest CE record when full and asserting alert. -/
  | faultRecordLog (p : Fin 2)
  /-- FAULT_RING_WRITE (R474): A pending fault record is written to the host fault ring once a slot is free. -/
  | faultRingWrite (p : Fin 2)
  /-- FAULT_RING_ENABLE (R474): Setting enable in FLT_RING_CFG resets written and host_consumed. -/
  | faultRingEnable (p : Fin 2)
  /-- FAULT_RING_CONSUMED (R474): A write of host_consumed to FLT_RING_STS frees fault ring slots. -/
  | faultRingConsumed (p : Fin 2) (n : BitVec 32)
  /-- AGE_LOG_SELECT (R492): A write of AGE_LOG_SEL clears ready and fetches the selected ageing-log entry. -/
  | ageLogSelect (p : Fin 2) (v : Word)
  /-- AGE_LOG_READY (R492): The selected ageing-log entry arrives in AGE_LOG_DATA and ready is set. -/
  | ageLogReady (p : Fin 2)
  /-- AGEING_SAMPLE (R485): An ageing monitor is sampled and a limit crossing sends a CE advisory. -/
  | ageingSample (monitor : Fin 3) (unit : Fin 640) (v : BitVec 16)
  /-- AGEING_DAILY_ENTRY (R487): Mafin writes each monitor's daily entry, merging old trend entries when full. -/
  | ageingDailyEntry
  /-- DIE_TEMP_SAMPLE (R524): Die temperatures are sampled each 1 ms against warning, shutdown and THERMTRIP limits. -/
  | dieTempSample (u : Fin 60) (t : BitVec 12)
  /-- RAIL_FAULT (R515): A rail out of its window for 10 µs with COLD_RST_N high is a rail fault that quarantines both partitions. -/
  | railFault (k : Fin 10) (mv : BitVec 16)
  /-- POWER_SAMPLE (R517): The 1 ms package power mean is compared with the limit, raising a POWER slip or throttling. -/
  | powerSample (w : BitVec 16) (rails : List (BitVec 16 × BitVec 16))
  /-- FLAG_CLEAR (R430): A write of 1 to a W1C flag clears it unless hardware sets it in the same cycle. -/
  | flagClear (p : Fin 2) (off : BitVec 26) (v : Word)
  /-- LOCK_SET (R8): A write of 1 to a lock bit makes the block's RWL fields read-only until cold or warm reset. -/
  | lockSet (p : Fin 2) (off : BitVec 26) (v : Word)
  /-- REGISTER_WRITE (R429): A write to a register field with no behaviour of its own updates it, ignoring RO and locked fields. -/
  | registerWrite (p : Fin 2) (off : BitVec 26) (v : Word) (i3c : Bool)
  /-- FREE_FRAME_LAUNCH (R336): A frame slot not listed in a send table launches a free-plane frame, a management frame when one is pending, or an idle frame. -/
  | freeFrameLaunch (q : Fin 32) (f : Nat)
  /-- LASER_SOURCE_READY (R436): An enabled primary laser input reports ready, the input switch moves to it and the rings begin their sweeps; a relit failed input is used again after 1 s of ready. -/
  | laserSourceReady (o : Fin 4) (pwr : BitVec 16)
  /-- RDMA_READ_RESPONSE (R462): An RDMA READ response arrives on a service port, each granule gets a new carried check, and the waiting transfer or far load proceeds. -/
  | rdmaReadResponse (p : Fin 2) (qp : BitVec 24) (data : List (BitVec 8))
  /-- ATOMIC_ACKNOWLEDGE (R365): A RoCEv2 atomic acknowledgement of a FETCH_ADD or CMP_SWAP returns the old value to the requesting thread. -/
  | atomicAcknowledge (p : Fin 2) (qp : BitVec 24) (old : BitVec 64)
  /-- CONGESTION_NOTIFICATION_PACKET (R364): A congestion notification packet arrives for a queue pair and its send rate is reduced DCQCN-style. -/
  | congestionNotificationPacket (p : Fin 2) (i : Fin 4096)
  /-- PFC_PAUSE (R364): An IEEE 802.1Qbb priority flow control frame arrives on a service port and pauses or resumes transmission on the configured priority. -/
  | pfcPause (o : Fin 4) (prio : Fin 8) (pause : Bool)
  /-- ROUTER_ADVERTISEMENT (R452): An IPv6 router advertisement arrives and the service port learns or updates its default router. -/
  | routerAdvertisement (o : Fin 4) (router : BitVec 128) (life : BitVec 16)
  /-- COMET_MESSAGE_MISSING (R392): A scheduled comet message not received within h of its sender's expected launch raises FRAME_MISSING. -/
  | cometMessageMissing (e : Fin 4) (k : Nat)
  /-- PCS_LOCK_GAINED (R364): A service port reaches PCS lock and becomes usable by far-device queue pairs and host connections. -/
  | pcsLockGained (o : Fin 4) (lane : Fin 4)
deriving DecidableEq, Repr

end Sys2Proof
end

