-- ==== Sys2Proof/Decode.lean ====
section
/-! DEFINITION. The words of commands. spec/opcode_table.json gives no row any bits, so no word spells a command
(DEDUCED, notes/assumptions/5.md). -/

namespace Sys2Proof

/-- The command that a word of the table spells: none, because the table gives no row bits. -/
def decodeTableWord (nbits w : Nat) : Option Instr :=
  match nbits, w with
  | _, _ => none

end Sys2Proof
end

