-- ==== Sys2Proof/Config.lean ====
section
/-! DEFINITION. The free values: constants with no body for what the spec leaves open, each applied to a counter of State
that the step reads and advances, or to the operands it may depend on. Nothing can evaluate them, so a statement about
one holds for every value. -/

namespace Sys2Proof

/-- The value of the n-th open choice (DESIGN CHOICE, notes/assumptions/3.md): entropy draws (14 R495), the content of an aborted
collective's destination (06 R237), a reduced send rate (09 R364). -/
opaque Config.freeNat : Nat → Nat

/-- The n-th open choice between two roundings of an exact quotient (DESIGN CHOICE, notes/assumptions/4.md). -/
opaque Config.freeBit : Nat → Bool

/-- The place of a granule of a scheduled collective in its group's slices of the collective buffer (10 R390): group,
operation's phase byte, segment and granule (DESIGN CHOICE, notes/assumptions/36.md). -/
opaque Config.collIndex : Nat → Nat → Nat → Nat → Nat

end Sys2Proof
end

