-- ==== Sys2Proof/Machine/Bits.lean ====
section
/-! DEFINITION. Bit fields, byte order (R6), sign extension, and the canonical sparse tables that hold
every indexed piece of state. -/

namespace Sys2Proof.Machine

/-- Bits [lo + w − 1 : lo] of a number (R6). -/
def bits (x lo w : Nat) : Nat := (x >>> lo) % 2 ^ w

/-- One bit of a number as a Boolean. -/
def bitAt (x i : Nat) : Bool := x.testBit i

/-- `x` with bits [lo + w − 1 : lo] replaced by the low `w` bits of `v`. -/
def putBits (x lo w v : Nat) : Nat :=
  (x - bits x lo w * 2 ^ lo) + (v % 2 ^ w) * 2 ^ lo

/-- 1 for true, 0 for false. -/
def b2n (b : Bool) : Nat := if b then 1 else 0

/-- The two's-complement value of the low `w` bits of `x`. -/
def sext (w x : Nat) : Int :=
  let y := x % 2 ^ w
  if y < 2 ^ (w - 1) then (y : Int) else (y : Int) - (2 ^ w : Nat)

/-- The low `w` bits of an integer, as a number. -/
def wrapNat (w : Nat) (i : Int) : Nat := (i % ((2 ^ w : Nat) : Int)).toNat

/-- An integer clamped to a two's-complement range of `w` bits. -/
def clampS (w : Nat) (i : Int) : Int :=
  let hi : Int := (2 ^ (w - 1) : Nat) - 1
  let lo : Int := -((2 ^ (w - 1) : Nat) : Int)
  if i > hi then hi else if i < lo then lo else i

/-- The number of bits set in a mask. -/
def popcount (w x : Nat) : Nat := ((List.range w).filter fun i => x.testBit i).length

/-- Ceiling division. -/
def cdiv (a b : Nat) : Nat := (a + b - 1) / b

/-- The `n` bytes of a number, least significant first (R6). -/
def toLE : Nat → Nat → List Byte
  | 0, _ => []
  | n + 1, x => BitVec.ofNat 8 x :: toLE n (x / 256)

/-- The number whose bytes, least significant first, are given (R6). -/
def ofLE : List Byte → Nat
  | [] => 0
  | b :: bs => b.toNat + 256 * ofLE bs

/-- Byte values as bytes, and back. -/
def toBytes (l : List Nat) : List Byte := l.map (BitVec.ofNat 8)
def ofBytes (l : List Byte) : List Nat := l.map (·.toNat)

/-- `n` bytes from offset `o` of a byte list, as a number; missing bytes read 0. -/
def leAt (bs : List Byte) (o n : Nat) : Nat := ofLE ((bs.drop o).take n)

/-- A byte list cut or padded with zeros to `n` bytes. -/
def padTo (n : Nat) (bs : List Byte) : List Byte := (bs ++ List.replicate (n - bs.length) 0).take n

/-- A byte list cut into pieces of `k` bytes, at most `n` of them. -/
def chunks (k : Nat) : Nat → List Byte → List (List Byte)
  | 0, _ => []
  | n + 1, bs => if bs.isEmpty then [] else bs.take k :: chunks k n (bs.drop k)

/-- The granules of a byte list (R212), the last one padded with zeros. -/
def granules (bs : List Byte) : List Gran :=
  (chunks 64 (cdiv bs.length 64) bs).map fun c => BitVec.ofNat 512 (ofLE c)

/-- The first `n` numbers from `a`. -/
def span (a n : Nat) : List Nat := (List.range n).map (a + ·)

/-- Whether all of a list is zero. -/
def allZero (bs : List Byte) : Bool := bs.all (· == 0)

/-! ### Sparse tables in one canonical form

A table holds the entries that differ from a default, by strictly rising key, so equal tables are equal data. -/

/-- Entries of a table that differ from its default. -/
abbrev Tab (α : Type) := List (Nat × α)

/-- The entry of a key, if listed. -/
def tabFind {α : Type} : Tab α → Nat → Option α
  | [], _ => none
  | (k, v) :: t, q => if q = k then some v else tabFind t q

/-- The value at a key: the listed one or the default. -/
def tabGet {α : Type} (d : Nat → α) (t : Tab α) (k : Nat) : α := (tabFind t k).getD (d k)

/-- A table with `k` listed as `v`. -/
def tabIns {α : Type} : Tab α → Nat → α → Tab α
  | [], q, x => [(q, x)]
  | (k, v) :: t, q, x =>
    if q < k then (q, x) :: (k, v) :: t
    else if q = k then (q, x) :: t
    else (k, v) :: tabIns t q x

/-- A table with `k` not listed. -/
def tabDel {α : Type} : Tab α → Nat → Tab α
  | [], _ => []
  | (k, v) :: t, q => if q = k then tabDel t q else (k, v) :: tabDel t q

/-- Write a value; writing the default unlists the key, which keeps the canonical form. -/
def tabSet {α : Type} [DecidableEq α] (d : Nat → α) (t : Tab α) (k : Nat) (v : α) : Tab α :=
  if v = d k then tabDel t k else tabIns t k v

/-- Update the value at a key. -/
def tabUpd {α : Type} [DecidableEq α] (d : Nat → α) (t : Tab α) (k : Nat) (f : α → α) : Tab α :=
  tabSet d t k (f (tabGet d t k))

/-- The canonical form: every key above `lo`, strictly rising, and no entry equal to the default. -/
def tabWfFrom {α : Type} [DecidableEq α] (d : Nat → α) : Nat → Tab α → Bool
  | _, [] => true
  | lo, (k, v) :: t => decide (lo ≤ k) && decide (v ≠ d k) && tabWfFrom d (k + 1) t

/-- The canonical form of a table. -/
def tabWf {α : Type} [DecidableEq α] (d : Nat → α) (t : Tab α) : Bool := tabWfFrom d 0 t

/-- A list with the entry at `i` replaced; unchanged when `i` is past its end. -/
def setAt {α : Type} : List α → Nat → α → List α
  | [], _, _ => []
  | _ :: t, 0, x => x :: t
  | y :: t, i + 1, x => y :: setAt t i x

/-- A list without its entry at `i`. -/
def removeAt {α : Type} : List α → Nat → List α
  | [], _ => []
  | _ :: t, 0 => t
  | y :: t, i + 1 => y :: removeAt t i

/-- A list in which the first entry that satisfies `q` is replaced by `f` of it. -/
def updFirst {α : Type} (q : α → Bool) (f : α → α) : List α → List α
  | [] => []
  | y :: t => if q y then f y :: t else y :: updFirst q f t

end Sys2Proof.Machine
end

