-- ==== Sys2Proof/Machine/RegMap.lean ====
section
/-! DEFINITION. The registers of the set-up window: their offsets, instances and fields, from the register tables of
R43, R70, R159, R204, R239, R283, R324, R367, R399, R431, R459, R491, R512 and R525. Every register has one home in
State, under the key `Reg.key`. -/

namespace Sys2Proof.Machine

/-- The registers of the set-up window, by the spec's names. -/
inductive Reg where
  | ID_DEVICE
  | ID_SERIAL
  | ID_FL_STS
  | ID_DIE
  | BRG_CTL
  | BRG_WIDTH_STS
  | BRG_MASK
  | BRG_EVT
  | BRG_EVT_CNT
  | BRG_GROUP_SEL
  | BRG_GROUP_STS
  | TILE_LPMAP
  | CLK_STS
  | CLK_EVT
  | CLK_EVT_CNT
  | GTC_VALUE
  | GTC_CTL
  | GTC_ALIGN_STS
  | LDLY_STS
  | LDLY_ASYM
  | CORE_CTL
  | CORE_STS
  | ENG_FAULT
  | CORE_EVT
  | CORE_EVT_CNT
  | EXC_CNT_A
  | EXC_CNT_B
  | EXC_CNT_C
  | DMX_STS
  | DMX_ERR_TAG
  | CHK_STS
  | SEM_VAL
  | GXE_STS
  | GXE_EVT
  | GXE_ERR
  | SCH_CTL
  | SCH_STS
  | SCH_CONJ
  | SCH_FREEZE
  | SCH_SLIP
  | SCH_SLIP_GTC
  | SCH_EVT
  | SCH_EVT_CNT
  | SCH_IMG_HASH
  | SCH_PLC_HASH
  | LAND_STS
  | ORD_CTL
  | ORD_STS
  | ORD_EVT
  | ORD_EVT_CNT
  | ORD_TMO
  | ORD_TMO_SEQ
  | MEM_CTL
  | MEM_STS
  | MEM_EVT
  | MEM_EVT_CNT
  | MST_STS
  | MCH_STS
  | MCH_EVT
  | MCH_EVT_CNT
  | MCH_ERR_LOC
  | MCH_CE_CNT
  | MTG_CTL
  | MTG_LIMIT
  | MTG_SEED
  | MTG_STS
  | MTG_ERR
  | OE_CTL
  | OE_STS
  | OE_EVT
  | OE_EVT_CNT
  | OE_POLICY
  | OE_LASER_STS
  | OE_FF_COEF
  | OE_RINGTAB_CTL
  | OE_RINGTAB_DATA
  | OE_RING_STS
  | OE_SP_STS
  | OE_FIB_STS
  | OE_FIB_LANEMAP
  | OE_FIB_EVT
  | OE_FIB_EVT_CNT
  | OE_FIB_MARGIN
  | OE_FIB_COMET
  | OE_FIB_EVT_CNT1
  | NET_CTL
  | NET_STS
  | NET_EVT
  | NET_EVT_CNT0
  | NET_EVT_CNT1
  | ROUTE_SEL
  | ROUTE_DATA
  | E2E_SEL
  | E2E_STS
  | E2E_ISSUED
  | E2E_ACKED
  | FAR_SEL
  | FAR_DATA
  | PORT_STS
  | PORT_EVT
  | PORT_EVT_CNT
  | PORT_ERR_CNT
  | PORT_PIR
  | COL_CTL
  | COL_STS
  | COL_EVT
  | COL_EVT_CNT
  | COL_GRP_SEL
  | COL_GRP_STS
  | COL_GRP_DONE
  | COL_ABORT
  | HIF_CTL
  | HIF_STS
  | HIF_EVT
  | HIF_EVT_CNT0
  | HIF_EVT_CNT1
  | HIF_AUTH_STS
  | HIF_WIN_SEL
  | HIF_CONN_STS
  | HIF_WIN_DATA
  | HIF_CR_ADDR
  | HIF_CR_CFG
  | HIF_CR_STS
  | HIF_CQ_ADDR
  | HIF_CQ_CFG
  | HIF_CQ_STS
  | HIF_MBOX_DESC
  | HIF_MBOX_CTL
  | HIF_MBOX_CPL
  | HIF_MBOX_EXT
  | BOOT_STS
  | BOOT_CTL
  | BOOT_EVT
  | BOOT_EVT_CNT
  | RST_CAUSE
  | FW_STS
  | FW_BUILD_A
  | FW_BUILD_B
  | DBG_APER_SEL
  | DBG_APER_BASE
  | DBG_STS
  | INFL_STS
  | FLT_CTL
  | FLT_STS
  | FLT_EVT
  | FLT_EVT_CNT
  | FLT_RING_ADDR
  | FLT_RING_CFG
  | FLT_RING_STS
  | FLT_LOG_SEL
  | FLT_LOG_DATA
  | AGE_SEL
  | AGE_STS
  | AGE_PLAN
  | AGE_LOG_SEL
  | AGE_LOG_DATA
  | SRM_STS
  | SEC_STS
  | SEC_EVT
  | SEC_EVT_CNT
  | SEC_MC
  | SEC_FW_MEAS
  | PWR_STS
  | PWR_EVT
  | PWR_EVT_CNT
  | PWR_RAIL_SEL
  | PWR_RAIL_STS
  | PWR_TEMP_SEL
  | PWR_TEMP_STS
deriving DecidableEq, Repr

/-- The access types of R8's table. -/
inductive Access where
  | ro | rw | w1c | w1s | rwl
deriving DecidableEq, Repr

/-- One field of a register table: its place, access and reset value. A reset value the spec takes from elsewhere
(straps, fuses, flash) stands as 0 here and is set when its source is read. -/
structure FieldInfo where
  lo : Nat
  width : Nat
  access : Access
  reset : Nat
deriving DecidableEq, Repr

/-- Where a register sits: offset from the window base 0x1F0_0000_0000, strides and counts of its instances, whether
each partition has its own set, and the register whose lock bit makes its RWL fields read-only. -/
structure RegInfo where
  base : Nat
  s1 : Nat := 0
  n1 : Nat := 1
  s2 : Nat := 0
  n2 : Nat := 1
  s3 : Nat := 0
  n3 : Nat := 1
  perPartition : Bool := false
  lock : Option Reg := none
  fields : List FieldInfo
deriving DecidableEq, Repr

/-- A field by name. -/
structure Fld where
  reg : Reg
  lo : Nat
  width : Nat
deriving DecidableEq, Repr

/-- The register tables. -/
def regInfo : Reg → RegInfo
  | .ID_DEVICE => { base := 0x0, perPartition := Bool.true, fields := [⟨0, 16, .ro, 0x4820⟩, ⟨16, 1, .ro, 0⟩, ⟨17, 2, .ro, 0⟩, ⟨19, 1, .ro, 0⟩] }
  | .ID_SERIAL => { base := 0x8, fields := [⟨0, 64, .ro, 0⟩] }
  | .ID_FL_STS => { base := 0x10, perPartition := Bool.true, fields := [⟨0, 8, .ro, 0⟩, ⟨8, 8, .ro, 0⟩, ⟨16, 8, .ro, 0⟩, ⟨24, 6, .ro, 0⟩] }
  | .ID_DIE => { base := 0x100, s1 := 0x8, n1 := 40, fields := [⟨0, 2, .ro, 0⟩, ⟨2, 8, .ro, 0⟩, ⟨10, 8, .ro, 0⟩, ⟨18, 5, .ro, 0⟩] }
  | .BRG_CTL => { base := 0x10000, s1 := 0x100, n1 := 32, s2 := 0x80, n2 := 2, lock := some .BRG_CTL, fields := [⟨0, 1, .rwl, 1⟩, ⟨1, 1, .w1s, 0⟩, ⟨2, 1, .rwl, 0⟩, ⟨31, 1, .w1s, 0⟩] }
  | .BRG_WIDTH_STS => { base := 0x10008, s1 := 0x100, n1 := 32, s2 := 0x80, n2 := 2, lock := some .BRG_CTL, fields := [⟨0, 4, .ro, 1⟩, ⟨4, 7, .ro, 0⟩, ⟨11, 3, .ro, 0⟩, ⟨16, 16, .ro, 0⟩, ⟨32, 16, .ro, 0⟩, ⟨48, 16, .ro, 0⟩] }
  | .BRG_MASK => { base := 0x10010, s1 := 0x100, n1 := 32, s2 := 0x80, n2 := 2, lock := some .BRG_CTL, fields := [⟨0, 64, .ro, 0xffffffffffffffff⟩] }
  | .BRG_EVT => { base := 0x10018, s1 := 0x100, n1 := 32, s2 := 0x80, n2 := 2, lock := some .BRG_CTL, fields := [⟨0, 1, .w1c, 0⟩, ⟨1, 1, .w1c, 0⟩, ⟨2, 1, .w1c, 0⟩, ⟨3, 1, .w1c, 0⟩, ⟨4, 1, .w1c, 0⟩] }
  | .BRG_EVT_CNT => { base := 0x10020, s1 := 0x100, n1 := 32, s2 := 0x80, n2 := 2, lock := some .BRG_CTL, fields := [⟨0, 16, .ro, 0⟩, ⟨16, 16, .ro, 0⟩, ⟨32, 16, .ro, 0⟩, ⟨48, 16, .ro, 0⟩] }
  | .BRG_GROUP_SEL => { base := 0x10028, s1 := 0x100, n1 := 32, s2 := 0x80, n2 := 2, lock := some .BRG_CTL, fields := [⟨0, 6, .rw, 0⟩] }
  | .BRG_GROUP_STS => { base := 0x10030, s1 := 0x100, n1 := 32, s2 := 0x80, n2 := 2, lock := some .BRG_CTL, fields := [⟨0, 1, .ro, 0⟩, ⟨1, 2, .ro, 0⟩, ⟨3, 7, .ro, 0x7f⟩, ⟨10, 7, .ro, 0x7f⟩, ⟨48, 16, .ro, 0⟩] }
  | .TILE_LPMAP => { base := 0x20000, s1 := 0x8, n1 := 16, lock := some .TILE_LPMAP, fields := [⟨0, 3, .rwl, 0⟩, ⟨4, 3, .rwl, 0⟩, ⟨8, 3, .rwl, 0⟩, ⟨12, 3, .rwl, 0⟩, ⟨16, 3, .rwl, 0⟩, ⟨24, 5, .ro, 0⟩, ⟨31, 1, .w1s, 0⟩] }
  | .CLK_STS => { base := 0x30000, perPartition := Bool.true, fields := [⟨0, 1, .ro, 0⟩, ⟨1, 1, .ro, 0⟩, ⟨2, 1, .ro, 0⟩, ⟨3, 4, .ro, 0⟩, ⟨7, 2, .ro, 0⟩, ⟨9, 7, .ro, 0⟩] }
  | .CLK_EVT => { base := 0x30008, perPartition := Bool.true, fields := [⟨0, 1, .w1c, 0⟩, ⟨1, 1, .w1c, 0⟩, ⟨2, 1, .w1c, 0⟩, ⟨3, 1, .w1c, 0⟩, ⟨4, 1, .w1c, 0⟩, ⟨5, 1, .w1c, 0⟩, ⟨16, 16, .ro, 0⟩, ⟨32, 16, .ro, 0⟩] }
  | .CLK_EVT_CNT => { base := 0x30010, perPartition := Bool.true, fields := [⟨0, 16, .ro, 0⟩, ⟨16, 16, .ro, 0⟩, ⟨32, 16, .ro, 0⟩, ⟨48, 16, .ro, 0⟩] }
  | .GTC_VALUE => { base := 0x30018, perPartition := Bool.true, fields := [⟨0, 64, .ro, 0⟩] }
  | .GTC_CTL => { base := 0x30020, perPartition := Bool.true, lock := some .GTC_CTL, fields := [⟨0, 7, .rwl, 4⟩, ⟨7, 1, .ro, 0⟩, ⟨8, 5, .ro, 0⟩, ⟨31, 1, .w1s, 0⟩] }
  | .GTC_ALIGN_STS => { base := 0x30028, perPartition := Bool.true, fields := [⟨0, 1, .ro, 0⟩, ⟨1, 2, .ro, 0⟩, ⟨3, 21, .ro, 0⟩, ⟨24, 24, .ro, 0⟩, ⟨48, 8, .ro, 0⟩, ⟨56, 8, .ro, 0⟩] }
  | .LDLY_STS => { base := 0x31000, s1 := 0x20, n1 := 32, fields := [⟨0, 1, .ro, 0⟩, ⟨1, 24, .ro, 0⟩, ⟨32, 16, .ro, 0⟩, ⟨48, 16, .ro, 0⟩] }
  | .LDLY_ASYM => { base := 0x31008, s1 := 0x20, n1 := 32, lock := some .GTC_CTL, fields := [⟨0, 16, .rwl, 0⟩] }
  | .CORE_CTL => { base := 0x100000, s1 := 0x1000, n1 := 64, lock := some .CORE_CTL, fields := [⟨0, 1, .rwl, 1⟩, ⟨31, 1, .w1s, 0⟩] }
  | .CORE_STS => { base := 0x100008, s1 := 0x1000, n1 := 64, fields := [⟨0, 2, .ro, 0⟩, ⟨2, 2, .ro, 0⟩, ⟨4, 2, .ro, 0⟩, ⟨6, 2, .ro, 0⟩, ⟨8, 3, .ro, 0⟩, ⟨11, 1, .ro, 0⟩, ⟨12, 1, .ro, 0⟩] }
  | .ENG_FAULT => { base := 0x100010, s1 := 0x1000, n1 := 64, s2 := 0x8, n2 := 4, fields := [⟨0, 4, .ro, 0⟩, ⟨4, 32, .ro, 0⟩, ⟨36, 1, .ro, 0⟩] }
  | .CORE_EVT => { base := 0x100030, s1 := 0x1000, n1 := 64, fields := [⟨0, 1, .w1c, 0⟩, ⟨1, 1, .w1c, 0⟩, ⟨2, 1, .w1c, 0⟩, ⟨3, 1, .w1c, 0⟩] }
  | .CORE_EVT_CNT => { base := 0x100038, s1 := 0x1000, n1 := 64, fields := [⟨0, 16, .ro, 0⟩, ⟨16, 16, .ro, 0⟩, ⟨32, 16, .ro, 0⟩, ⟨48, 16, .ro, 0⟩] }
  | .EXC_CNT_A => { base := 0x100040, s1 := 0x1000, n1 := 64, fields := [⟨0, 32, .ro, 0⟩, ⟨32, 32, .ro, 0⟩] }
  | .EXC_CNT_B => { base := 0x100048, s1 := 0x1000, n1 := 64, fields := [⟨0, 32, .ro, 0⟩, ⟨32, 32, .ro, 0⟩] }
  | .EXC_CNT_C => { base := 0x100050, s1 := 0x1000, n1 := 64, fields := [⟨0, 32, .ro, 0⟩] }
  | .DMX_STS => { base := 0x100058, s1 := 0x1000, n1 := 64, fields := [⟨0, 7, .ro, 0⟩] }
  | .DMX_ERR_TAG => { base := 0x100060, s1 := 0x1000, n1 := 64, fields := [⟨0, 64, .ro, 0⟩] }
  | .CHK_STS => { base := 0x100068, s1 := 0x1000, n1 := 64, fields := [⟨0, 8, .ro, 0⟩, ⟨8, 1, .ro, 0⟩, ⟨32, 32, .ro, 0⟩] }
  | .SEM_VAL => { base := 0x100100, s1 := 0x1000, n1 := 64, s2 := 0x8, n2 := 64, fields := [⟨0, 16, .ro, 0⟩] }
  | .GXE_STS => { base := 0x140000, s1 := 0x100, n1 := 32, fields := [⟨0, 11, .ro, 0⟩, ⟨11, 5, .ro, 0⟩] }
  | .GXE_EVT => { base := 0x140008, s1 := 0x100, n1 := 32, fields := [⟨0, 1, .w1c, 0⟩, ⟨16, 16, .ro, 0⟩] }
  | .GXE_ERR => { base := 0x140010, s1 := 0x100, n1 := 32, fields := [⟨0, 41, .ro, 0⟩, ⟨41, 4, .ro, 0⟩, ⟨45, 11, .ro, 0⟩] }
  | .SCH_CTL => { base := 0x40000, perPartition := Bool.true, lock := some .SCH_CTL, fields := [⟨0, 16, .rwl, 0x64⟩, ⟨16, 1, .rwl, 1⟩, ⟨31, 1, .w1s, 0⟩] }
  | .SCH_STS => { base := 0x40008, perPartition := Bool.true, fields := [⟨0, 4, .ro, 0⟩, ⟨4, 25, .ro, 0⟩, ⟨29, 35, .ro, 0⟩] }
  | .SCH_CONJ => { base := 0x40010, perPartition := Bool.true, fields := [⟨0, 64, .ro, 0⟩] }
  | .SCH_FREEZE => { base := 0x40018, perPartition := Bool.true, fields := [⟨0, 64, .ro, 0⟩] }
  | .SCH_SLIP => { base := 0x40020, perPartition := Bool.true, fields := [⟨0, 8, .ro, 0⟩, ⟨8, 14, .ro, 0⟩, ⟨22, 1, .ro, 0⟩, ⟨23, 1, .ro, 0⟩, ⟨24, 4, .ro, 0⟩] }
  | .SCH_SLIP_GTC => { base := 0x40028, perPartition := Bool.true, fields := [⟨0, 64, .ro, 0⟩] }
  | .SCH_EVT => { base := 0x40030, perPartition := Bool.true, fields := [⟨0, 1, .w1c, 0⟩, ⟨1, 1, .w1c, 0⟩, ⟨2, 1, .w1c, 0⟩, ⟨3, 1, .w1c, 0⟩] }
  | .SCH_EVT_CNT => { base := 0x40038, perPartition := Bool.true, fields := [⟨0, 16, .ro, 0⟩, ⟨16, 16, .ro, 0⟩, ⟨32, 16, .ro, 0⟩, ⟨48, 16, .ro, 0⟩] }
  | .SCH_IMG_HASH => { base := 0x40040, s1 := 0x8, n1 := 6, perPartition := Bool.true, fields := [⟨0, 64, .ro, 0⟩] }
  | .SCH_PLC_HASH => { base := 0x40070, s1 := 0x8, n1 := 2, perPartition := Bool.true, fields := [⟨0, 64, .ro, 0⟩] }
  | .LAND_STS => { base := 0x41000, s1 := 0x8, n1 := 256, perPartition := Bool.true, fields := [⟨0, 24, .ro, 0⟩, ⟨24, 1, .ro, 0⟩, ⟨25, 1, .ro, 0⟩] }
  | .ORD_CTL => { base := 0x50000, perPartition := Bool.true, lock := some .ORD_CTL, fields := [⟨0, 16, .rwl, 0x7d0⟩, ⟨31, 1, .w1s, 0⟩] }
  | .ORD_STS => { base := 0x50008, perPartition := Bool.true, fields := [⟨0, 9, .ro, 0⟩, ⟨9, 9, .ro, 0⟩] }
  | .ORD_EVT => { base := 0x50010, perPartition := Bool.true, fields := [⟨0, 1, .w1c, 0⟩, ⟨1, 1, .w1c, 0⟩] }
  | .ORD_EVT_CNT => { base := 0x50018, perPartition := Bool.true, fields := [⟨0, 16, .ro, 0⟩, ⟨16, 16, .ro, 0⟩] }
  | .ORD_TMO => { base := 0x50020, perPartition := Bool.true, fields := [⟨0, 6, .ro, 0⟩, ⟨6, 2, .ro, 0⟩, ⟨8, 2, .ro, 0⟩, ⟨10, 14, .ro, 0⟩] }
  | .ORD_TMO_SEQ => { base := 0x50028, perPartition := Bool.true, fields := [⟨0, 32, .ro, 0⟩, ⟨32, 32, .ro, 0⟩] }
  | .MEM_CTL => { base := 0x60000, perPartition := Bool.true, lock := some .MEM_CTL, fields := [⟨0, 1, .rwl, 0⟩, ⟨1, 1, .rwl, 1⟩, ⟨2, 8, .rwl, 0x18⟩, ⟨31, 1, .w1s, 0⟩] }
  | .MEM_STS => { base := 0x60008, perPartition := Bool.true, fields := [⟨0, 1, .ro, 0⟩, ⟨1, 1, .ro, 0⟩, ⟨2, 10, .ro, 0⟩, ⟨12, 10, .ro, 0⟩] }
  | .MEM_EVT => { base := 0x60010, perPartition := Bool.true, fields := [⟨0, 1, .w1c, 0⟩, ⟨1, 1, .w1c, 0⟩, ⟨2, 1, .w1c, 0⟩, ⟨3, 1, .w1c, 0⟩, ⟨4, 1, .w1c, 0⟩, ⟨16, 16, .ro, 0⟩] }
  | .MEM_EVT_CNT => { base := 0x60018, perPartition := Bool.true, fields := [⟨0, 16, .ro, 0⟩, ⟨16, 16, .ro, 0⟩, ⟨32, 16, .ro, 0⟩, ⟨48, 16, .ro, 0⟩] }
  | .MST_STS => { base := 0x60100, s1 := 0x8, n1 := 20, fields := [⟨0, 8, .ro, 0⟩, ⟨8, 8, .ro, 0⟩, ⟨16, 7, .ro, 0⟩, ⟨23, 1, .ro, 0⟩, ⟨24, 1, .ro, 0⟩] }
  | .MCH_STS => { base := 0x80000, s1 := 0x100, n1 := 640, fields := [⟨0, 2, .ro, 1⟩, ⟨2, 1, .ro, 1⟩, ⟨3, 7, .ro, 0⟩, ⟨10, 7, .ro, 0⟩, ⟨17, 7, .ro, 0⟩, ⟨24, 7, .ro, 0⟩, ⟨32, 16, .ro, 0⟩] }
  | .MCH_EVT => { base := 0x80008, s1 := 0x100, n1 := 640, fields := [⟨0, 1, .w1c, 0⟩, ⟨1, 1, .w1c, 0⟩, ⟨2, 1, .w1c, 0⟩, ⟨3, 1, .w1c, 0⟩, ⟨4, 1, .w1c, 0⟩, ⟨5, 1, .w1c, 0⟩, ⟨16, 16, .ro, 0⟩, ⟨32, 16, .ro, 0⟩] }
  | .MCH_EVT_CNT => { base := 0x80010, s1 := 0x100, n1 := 640, fields := [⟨0, 16, .ro, 0⟩, ⟨16, 16, .ro, 0⟩, ⟨32, 16, .ro, 0⟩, ⟨48, 16, .ro, 0⟩] }
  | .MCH_ERR_LOC => { base := 0x80018, s1 := 0x100, n1 := 640, fields := [⟨0, 24, .ro, 0⟩, ⟨24, 1, .ro, 0⟩, ⟨25, 2, .ro, 0⟩, ⟨27, 3, .ro, 0⟩] }
  | .MCH_CE_CNT => { base := 0x80020, s1 := 0x100, n1 := 640, fields := [⟨0, 32, .ro, 0⟩, ⟨32, 32, .ro, 0⟩] }
  | .MTG_CTL => { base := 0x80040, s1 := 0x100, n1 := 640, fields := [⟨0, 1, .w1s, 0⟩, ⟨1, 1, .w1s, 0⟩, ⟨2, 3, .rw, 0⟩, ⟨5, 2, .rw, 0⟩, ⟨7, 1, .rw, 0⟩, ⟨8, 2, .rw, 3⟩, ⟨10, 1, .rw, 0⟩] }
  | .MTG_LIMIT => { base := 0x80048, s1 := 0x100, n1 := 640, fields := [⟨0, 24, .rw, 0⟩, ⟨24, 24, .rw, 0x8fffff⟩] }
  | .MTG_SEED => { base := 0x80050, s1 := 0x100, n1 := 640, fields := [⟨0, 64, .rw, 0⟩] }
  | .MTG_STS => { base := 0x80058, s1 := 0x100, n1 := 640, fields := [⟨0, 1, .ro, 0⟩, ⟨1, 1, .ro, 0⟩, ⟨2, 1, .ro, 0⟩, ⟨3, 1, .ro, 0⟩, ⟨4, 32, .ro, 0⟩, ⟨36, 28, .ro, 0⟩] }
  | .MTG_ERR => { base := 0x80060, s1 := 0x100, n1 := 640, fields := [⟨0, 24, .ro, 0⟩, ⟨24, 1, .ro, 0⟩, ⟨25, 2, .ro, 0⟩, ⟨27, 10, .ro, 0⟩] }
  | .OE_CTL => { base := 0x200000, s1 := 0x10000, n1 := 4, lock := some .OE_CTL, fields := [⟨0, 1, .rw, 0⟩, ⟨1, 1, .rwl, 1⟩, ⟨2, 16, .rwl, 0x258⟩, ⟨18, 8, .rwl, 0x78⟩, ⟨31, 1, .w1s, 0⟩] }
  | .OE_STS => { base := 0x200008, s1 := 0x10000, n1 := 4, lock := some .OE_CTL, fields := [⟨0, 1, .ro, 0⟩, ⟨1, 16, .ro, 0⟩, ⟨17, 12, .ro, 0⟩, ⟨29, 1, .ro, 0⟩] }
  | .OE_EVT => { base := 0x200010, s1 := 0x10000, n1 := 4, lock := some .OE_CTL, fields := [⟨0, 1, .w1c, 0⟩, ⟨1, 1, .w1c, 0⟩, ⟨2, 1, .w1c, 0⟩, ⟨3, 1, .w1c, 0⟩, ⟨4, 1, .w1c, 0⟩, ⟨16, 16, .ro, 0⟩] }
  | .OE_EVT_CNT => { base := 0x200018, s1 := 0x10000, n1 := 4, lock := some .OE_CTL, fields := [⟨0, 16, .ro, 0⟩, ⟨16, 16, .ro, 0⟩, ⟨32, 16, .ro, 0⟩, ⟨48, 16, .ro, 0⟩] }
  | .OE_POLICY => { base := 0x200020, s1 := 0x10000, n1 := 4, lock := some .OE_CTL, fields := [⟨0, 1, .ro, 0⟩] }
  | .OE_LASER_STS => { base := 0x200028, s1 := 0x10000, n1 := 4, lock := some .OE_CTL, fields := [⟨0, 16, .ro, 0⟩, ⟨16, 16, .ro, 0⟩, ⟨32, 1, .ro, 0⟩, ⟨33, 1, .ro, 1⟩, ⟨34, 1, .ro, 0⟩, ⟨35, 1, .ro, 0⟩] }
  | .OE_FF_COEF => { base := 0x200030, s1 := 0x10000, n1 := 4, lock := some .OE_CTL, fields := [⟨0, 16, .rwl, 0x4b⟩, ⟨16, 16, .rwl, 0x190⟩, ⟨32, 16, .rwl, 0x32⟩] }
  | .OE_RINGTAB_CTL => { base := 0x200038, s1 := 0x10000, n1 := 4, lock := some .OE_CTL, fields := [⟨0, 3, .rw, 0⟩, ⟨3, 2, .rw, 0⟩, ⟨5, 5, .rw, 0⟩, ⟨10, 4, .rw, 0⟩] }
  | .OE_RINGTAB_DATA => { base := 0x200040, s1 := 0x10000, n1 := 4, lock := some .OE_CTL, fields := [⟨0, 16, .rwl, 0⟩] }
  | .OE_RING_STS => { base := 0x200048, s1 := 0x10000, n1 := 4, lock := some .OE_CTL, fields := [⟨0, 3, .ro, 0⟩, ⟨3, 16, .ro, 0⟩, ⟨19, 13, .ro, 0⟩, ⟨32, 12, .ro, 0⟩, ⟨44, 2, .ro, 0⟩] }
  | .OE_SP_STS => { base := 0x200050, s1 := 0x10000, n1 := 4, lock := some .OE_CTL, fields := [⟨0, 1, .ro, 0⟩, ⟨1, 4, .ro, 0⟩, ⟨5, 4, .ro, 0⟩] }
  | .OE_FIB_STS => { base := 0x201000, s1 := 0x10000, n1 := 4, s2 := 0x100, n2 := 8, lock := some .OE_CTL, fields := [⟨0, 3, .ro, 0⟩, ⟨3, 1, .ro, 0⟩, ⟨4, 1, .ro, 0⟩, ⟨5, 5, .ro, 0⟩, ⟨10, 8, .ro, 0x80⟩, ⟨18, 16, .ro, 0⟩] }
  | .OE_FIB_LANEMAP => { base := 0x201008, s1 := 0x10000, n1 := 4, s2 := 0x100, n2 := 8, lock := some .OE_CTL, fields := [⟨0, 5, .ro, 0x1f⟩, ⟨5, 5, .ro, 0⟩, ⟨10, 5, .ro, 0x1f⟩, ⟨15, 5, .ro, 0x1f⟩] }
  | .OE_FIB_EVT => { base := 0x201010, s1 := 0x10000, n1 := 4, s2 := 0x100, n2 := 8, lock := some .OE_CTL, fields := [⟨0, 1, .w1c, 0⟩, ⟨1, 1, .w1c, 0⟩, ⟨2, 1, .w1c, 0⟩, ⟨3, 1, .w1c, 0⟩, ⟨4, 1, .w1c, 0⟩, ⟨5, 1, .w1c, 0⟩, ⟨6, 1, .w1c, 0⟩, ⟨7, 1, .w1c, 0⟩, ⟨8, 1, .w1c, 0⟩, ⟨16, 16, .ro, 0⟩] }
  | .OE_FIB_EVT_CNT => { base := 0x201018, s1 := 0x10000, n1 := 4, s2 := 0x100, n2 := 8, lock := some .OE_CTL, fields := [⟨0, 16, .ro, 0⟩, ⟨16, 16, .ro, 0⟩, ⟨32, 16, .ro, 0⟩, ⟨48, 16, .ro, 0⟩] }
  | .OE_FIB_MARGIN => { base := 0x201020, s1 := 0x10000, n1 := 4, s2 := 0x100, n2 := 8, s3 := 0x8, n3 := 3, lock := some .OE_CTL, fields := [⟨0, 8, .ro, 0x80⟩, ⟨8, 8, .ro, 0x80⟩, ⟨16, 8, .ro, 0x80⟩, ⟨24, 8, .ro, 0x80⟩, ⟨32, 8, .ro, 0x80⟩, ⟨40, 8, .ro, 0x80⟩, ⟨48, 8, .ro, 0x80⟩, ⟨56, 8, .ro, 0x80⟩] }
  | .OE_FIB_COMET => { base := 0x201038, s1 := 0x10000, n1 := 4, s2 := 0x100, n2 := 8, lock := some .OE_CTL, fields := [⟨0, 2, .rwl, 0⟩, ⟨2, 1, .rwl, 0⟩, ⟨8, 8, .rwl, 0xff⟩] }
  | .OE_FIB_EVT_CNT1 => { base := 0x201040, s1 := 0x10000, n1 := 4, s2 := 0x100, n2 := 8, lock := some .OE_CTL, fields := [⟨0, 16, .ro, 0⟩, ⟨16, 16, .ro, 0⟩, ⟨32, 16, .ro, 0⟩, ⟨48, 16, .ro, 0⟩] }
  | .NET_CTL => { base := 0x300000, perPartition := Bool.true, lock := some .NET_CTL, fields := [⟨0, 1, .ro, 0⟩, ⟨1, 16, .rwl, 0x64⟩, ⟨31, 1, .w1s, 0⟩] }
  | .NET_STS => { base := 0x300008, perPartition := Bool.true, fields := [⟨0, 8, .ro, 1⟩, ⟨8, 1, .ro, 0⟩, ⟨9, 14, .ro, 0x3fff⟩, ⟨23, 3, .ro, 0⟩, ⟨32, 32, .ro, 0⟩] }
  | .NET_EVT => { base := 0x300010, perPartition := Bool.true, fields := [⟨0, 1, .w1c, 0⟩, ⟨1, 1, .w1c, 0⟩, ⟨2, 1, .w1c, 0⟩, ⟨3, 1, .w1c, 0⟩, ⟨4, 1, .w1c, 0⟩, ⟨5, 1, .w1c, 0⟩, ⟨6, 1, .w1c, 0⟩, ⟨7, 1, .w1c, 0⟩] }
  | .NET_EVT_CNT0 => { base := 0x300018, perPartition := Bool.true, fields := [⟨0, 16, .ro, 0⟩, ⟨16, 16, .ro, 0⟩, ⟨32, 16, .ro, 0⟩, ⟨48, 16, .ro, 0⟩] }
  | .NET_EVT_CNT1 => { base := 0x300020, perPartition := Bool.true, fields := [⟨0, 16, .ro, 0⟩, ⟨16, 16, .ro, 0⟩, ⟨32, 16, .ro, 0⟩, ⟨48, 16, .ro, 0⟩] }
  | .ROUTE_SEL => { base := 0x300028, perPartition := Bool.true, fields := [⟨0, 10, .rw, 0⟩] }
  | .ROUTE_DATA => { base := 0x300030, perPartition := Bool.true, fields := [⟨0, 64, .ro, 0⟩] }
  | .E2E_SEL => { base := 0x300038, perPartition := Bool.true, fields := [⟨0, 10, .rw, 0⟩] }
  | .E2E_STS => { base := 0x300040, perPartition := Bool.true, fields := [⟨0, 12, .ro, 0⟩, ⟨12, 1, .ro, 0⟩, ⟨32, 32, .ro, 0⟩] }
  | .E2E_ISSUED => { base := 0x300048, perPartition := Bool.true, fields := [⟨0, 64, .ro, 0⟩] }
  | .E2E_ACKED => { base := 0x300050, perPartition := Bool.true, fields := [⟨0, 64, .ro, 0⟩] }
  | .FAR_SEL => { base := 0x300058, perPartition := Bool.true, fields := [⟨0, 12, .rw, 0⟩] }
  | .FAR_DATA => { base := 0x300060, s1 := 0x8, n1 := 4, perPartition := Bool.true, fields := [⟨0, 64, .ro, 0⟩] }
  | .PORT_STS => { base := 0x301000, s1 := 0x100, n1 := 32, fields := [⟨0, 4, .ro, 0⟩, ⟨4, 5, .ro, 0⟩, ⟨9, 8, .ro, 0⟩, ⟨17, 1, .ro, 0⟩, ⟨18, 1, .ro, 0⟩, ⟨19, 1, .ro, 0⟩] }
  | .PORT_EVT => { base := 0x301008, s1 := 0x100, n1 := 32, fields := [⟨0, 1, .w1c, 0⟩, ⟨1, 1, .w1c, 0⟩, ⟨2, 1, .w1c, 0⟩, ⟨3, 1, .w1c, 0⟩, ⟨4, 1, .w1c, 0⟩, ⟨16, 16, .ro, 0⟩] }
  | .PORT_EVT_CNT => { base := 0x301010, s1 := 0x100, n1 := 32, fields := [⟨0, 16, .ro, 0⟩, ⟨16, 16, .ro, 0⟩, ⟨32, 16, .ro, 0⟩, ⟨48, 16, .ro, 0⟩] }
  | .PORT_ERR_CNT => { base := 0x301018, s1 := 0x100, n1 := 32, fields := [⟨0, 32, .ro, 0⟩, ⟨32, 32, .ro, 0⟩] }
  | .PORT_PIR => { base := 0x301040, s1 := 0x100, n1 := 32, s2 := 0x8, n2 := 8, fields := [⟨0, 64, .ro, 0⟩] }
  | .COL_CTL => { base := 0x340000, s1 := 0x10000, n1 := 4, lock := some .COL_CTL, fields := [⟨0, 16, .rwl, 0x7d0⟩, ⟨31, 1, .w1s, 0⟩] }
  | .COL_STS => { base := 0x340008, s1 := 0x10000, n1 := 4, fields := [⟨0, 9, .ro, 0⟩, ⟨9, 12, .ro, 0⟩, ⟨21, 12, .ro, 0⟩, ⟨33, 9, .ro, 0⟩, ⟨42, 22, .ro, 0⟩] }
  | .COL_EVT => { base := 0x340010, s1 := 0x10000, n1 := 4, fields := [⟨0, 1, .w1c, 0⟩, ⟨1, 1, .w1c, 0⟩, ⟨2, 1, .w1c, 0⟩, ⟨3, 1, .w1c, 0⟩] }
  | .COL_EVT_CNT => { base := 0x340018, s1 := 0x10000, n1 := 4, fields := [⟨0, 16, .ro, 0⟩, ⟨16, 16, .ro, 0⟩, ⟨32, 16, .ro, 0⟩, ⟨48, 16, .ro, 0⟩] }
  | .COL_GRP_SEL => { base := 0x340020, s1 := 0x10000, n1 := 4, fields := [⟨0, 8, .rw, 0⟩] }
  | .COL_GRP_STS => { base := 0x340028, s1 := 0x10000, n1 := 4, fields := [⟨0, 2, .ro, 0⟩, ⟨2, 1, .ro, 0⟩, ⟨3, 1, .ro, 0⟩, ⟨4, 4, .ro, 0⟩, ⟨32, 32, .ro, 0⟩] }
  | .COL_GRP_DONE => { base := 0x340030, s1 := 0x10000, n1 := 4, fields := [⟨0, 32, .ro, 0⟩, ⟨32, 32, .ro, 0⟩] }
  | .COL_ABORT => { base := 0x340038, s1 := 0x10000, n1 := 4, fields := [⟨0, 8, .ro, 0⟩, ⟨8, 4, .ro, 0⟩, ⟨12, 6, .ro, 0x3f⟩, ⟨32, 32, .ro, 0⟩] }
  | .HIF_CTL => { base := 0x380000, perPartition := Bool.true, lock := some .HIF_CTL, fields := [⟨0, 1, .rwl, 1⟩, ⟨31, 1, .w1s, 0⟩] }
  | .HIF_STS => { base := 0x380008, perPartition := Bool.true, fields := [⟨0, 4, .ro, 1⟩, ⟨4, 1, .ro, 0⟩, ⟨5, 4, .ro, 0⟩, ⟨9, 1, .ro, 0⟩] }
  | .HIF_EVT => { base := 0x380010, perPartition := Bool.true, fields := [⟨0, 1, .w1c, 0⟩, ⟨1, 1, .w1c, 0⟩, ⟨2, 1, .w1c, 0⟩, ⟨3, 1, .w1c, 0⟩, ⟨4, 1, .w1c, 0⟩, ⟨5, 1, .w1c, 0⟩] }
  | .HIF_EVT_CNT0 => { base := 0x380018, perPartition := Bool.true, fields := [⟨0, 16, .ro, 0⟩, ⟨16, 16, .ro, 0⟩, ⟨32, 16, .ro, 0⟩, ⟨48, 16, .ro, 0⟩] }
  | .HIF_EVT_CNT1 => { base := 0x380020, perPartition := Bool.true, fields := [⟨0, 16, .ro, 0⟩, ⟨16, 16, .ro, 0⟩] }
  | .HIF_AUTH_STS => { base := 0x380028, perPartition := Bool.true, fields := [⟨0, 64, .ro, 0⟩] }
  | .HIF_WIN_SEL => { base := 0x380030, perPartition := Bool.true, fields := [⟨0, 8, .rw, 0⟩] }
  | .HIF_CONN_STS => { base := 0x380040, s1 := 0x8, n1 := 4, perPartition := Bool.true, fields := [⟨0, 1, .ro, 0⟩, ⟨1, 2, .ro, 0⟩, ⟨3, 24, .ro, 0⟩] }
  | .HIF_WIN_DATA => { base := 0x380060, s1 := 0x8, n1 := 4, perPartition := Bool.true, fields := [⟨0, 64, .ro, 0⟩] }
  | .HIF_CR_ADDR => { base := 0x381000, s1 := 0x20, n1 := 64, perPartition := Bool.true, fields := [⟨0, 64, .rw, 0⟩] }
  | .HIF_CR_CFG => { base := 0x381008, s1 := 0x20, n1 := 64, perPartition := Bool.true, fields := [⟨0, 1, .rw, 0⟩, ⟨1, 1, .rw, 0⟩, ⟨2, 1, .w1s, 0⟩, ⟨3, 1, .ro, 0⟩, ⟨4, 1, .ro, 0⟩, ⟨8, 5, .rw, 0⟩, ⟨16, 6, .rw, 0⟩, ⟨22, 2, .rw, 0⟩, ⟨32, 32, .rw, 0⟩] }
  | .HIF_CR_STS => { base := 0x381010, s1 := 0x20, n1 := 64, perPartition := Bool.true, fields := [⟨0, 32, .ro, 0⟩, ⟨32, 32, .ro, 0⟩] }
  | .HIF_CQ_ADDR => { base := 0x382000, s1 := 0x20, n1 := 64, perPartition := Bool.true, fields := [⟨0, 64, .rw, 0⟩] }
  | .HIF_CQ_CFG => { base := 0x382008, s1 := 0x20, n1 := 64, perPartition := Bool.true, fields := [⟨0, 1, .rw, 0⟩, ⟨8, 5, .rw, 0⟩, ⟨22, 2, .rw, 0⟩, ⟨32, 32, .rw, 0⟩] }
  | .HIF_CQ_STS => { base := 0x382010, s1 := 0x20, n1 := 64, perPartition := Bool.true, fields := [⟨0, 32, .ro, 0⟩, ⟨32, 32, .ro, 0⟩] }
  | .HIF_MBOX_DESC => { base := 0x383000, s1 := 0x8, n1 := 8, perPartition := Bool.true, fields := [⟨0, 64, .rw, 0⟩] }
  | .HIF_MBOX_CTL => { base := 0x383040, perPartition := Bool.true, fields := [⟨0, 1, .w1s, 0⟩, ⟨1, 1, .ro, 0⟩, ⟨2, 1, .w1c, 0⟩, ⟨16, 16, .ro, 0⟩] }
  | .HIF_MBOX_CPL => { base := 0x383080, s1 := 0x8, n1 := 4, perPartition := Bool.true, fields := [⟨0, 64, .ro, 0⟩] }
  | .HIF_MBOX_EXT => { base := 0x384000, s1 := 0x8, n1 := 512, perPartition := Bool.true, fields := [⟨0, 64, .rw, 0⟩] }
  | .BOOT_STS => { base := 0x390000, perPartition := Bool.true, fields := [⟨0, 8, .ro, 0⟩, ⟨8, 2, .ro, 0⟩, ⟨10, 4, .ro, 0⟩, ⟨14, 1, .ro, 0⟩, ⟨15, 1, .ro, 0⟩] }
  | .BOOT_CTL => { base := 0x390008, perPartition := Bool.true, fields := [⟨0, 1, .w1s, 0⟩, ⟨1, 18, .rw, 0⟩] }
  | .BOOT_EVT => { base := 0x390010, perPartition := Bool.true, fields := [⟨0, 1, .w1c, 0⟩, ⟨1, 1, .w1c, 0⟩, ⟨2, 1, .w1c, 0⟩] }
  | .BOOT_EVT_CNT => { base := 0x390018, perPartition := Bool.true, fields := [⟨0, 16, .ro, 0⟩, ⟨16, 16, .ro, 0⟩, ⟨32, 16, .ro, 0⟩] }
  | .RST_CAUSE => { base := 0x390020, perPartition := Bool.true, fields := [⟨0, 4, .ro, 0⟩, ⟨4, 3, .ro, 0⟩, ⟨7, 10, .ro, 0⟩, ⟨32, 16, .ro, 0⟩] }
  | .FW_STS => { base := 0x390028, perPartition := Bool.true, fields := [⟨0, 1, .ro, 0⟩, ⟨1, 1, .ro, 0⟩, ⟨2, 1, .ro, 0⟩, ⟨3, 1, .ro, 0⟩, ⟨4, 1, .ro, 0⟩, ⟨5, 8, .ro, 0⟩, ⟨13, 32, .ro, 0⟩] }
  | .FW_BUILD_A => { base := 0x390030, perPartition := Bool.true, fields := [⟨0, 64, .ro, 0⟩] }
  | .FW_BUILD_B => { base := 0x390038, perPartition := Bool.true, fields := [⟨0, 64, .ro, 0⟩] }
  | .DBG_APER_SEL => { base := 0x390040, perPartition := Bool.true, fields := [⟨0, 4, .rw, 0⟩, ⟨8, 8, .rw, 0⟩, ⟨16, 1, .rw, 0⟩] }
  | .DBG_APER_BASE => { base := 0x390048, perPartition := Bool.true, fields := [⟨0, 41, .rw, 0⟩] }
  | .DBG_STS => { base := 0x390050, perPartition := Bool.true, fields := [⟨0, 1, .ro, 0⟩, ⟨1, 1, .ro, 0⟩, ⟨2, 39, .ro, 0⟩] }
  | .INFL_STS => { base := 0x390058, perPartition := Bool.true, fields := [⟨0, 17, .ro, 0⟩, ⟨17, 1, .ro, 0⟩, ⟨18, 1, .ro, 0⟩] }
  | .FLT_CTL => { base := 0x3a0000, perPartition := Bool.true, fields := [⟨0, 8, .rw, 0x10⟩, ⟨8, 16, .rw, 0x3c⟩, ⟨24, 1, .rw, 1⟩] }
  | .FLT_STS => { base := 0x3a0008, perPartition := Bool.true, fields := [⟨0, 1, .ro, 0⟩, ⟨1, 1, .ro, 0⟩, ⟨2, 3, .ro, 0⟩, ⟨5, 9, .ro, 0⟩, ⟨16, 32, .ro, 0⟩] }
  | .FLT_EVT => { base := 0x3a0010, perPartition := Bool.true, fields := [⟨0, 1, .w1c, 0⟩, ⟨1, 1, .w1c, 0⟩, ⟨2, 1, .w1c, 0⟩, ⟨3, 1, .w1c, 0⟩] }
  | .FLT_EVT_CNT => { base := 0x3a0018, perPartition := Bool.true, fields := [⟨0, 16, .ro, 0⟩, ⟨16, 16, .ro, 0⟩, ⟨32, 16, .ro, 0⟩, ⟨48, 16, .ro, 0⟩] }
  | .FLT_RING_ADDR => { base := 0x3a0020, perPartition := Bool.true, fields := [⟨0, 64, .rw, 0⟩] }
  | .FLT_RING_CFG => { base := 0x3a0028, perPartition := Bool.true, fields := [⟨0, 1, .rw, 0⟩, ⟨8, 5, .rw, 0⟩, ⟨22, 2, .rw, 0⟩, ⟨32, 32, .rw, 0⟩] }
  | .FLT_RING_STS => { base := 0x3a0030, perPartition := Bool.true, fields := [⟨0, 32, .ro, 0⟩, ⟨32, 32, .rw, 0⟩] }
  | .FLT_LOG_SEL => { base := 0x3a0038, perPartition := Bool.true, fields := [⟨0, 8, .rw, 0⟩] }
  | .FLT_LOG_DATA => { base := 0x3a0040, s1 := 0x8, n1 := 8, perPartition := Bool.true, fields := [⟨0, 64, .ro, 0⟩] }
  | .AGE_SEL => { base := 0x3a0080, perPartition := Bool.true, fields := [⟨0, 6, .rw, 0⟩] }
  | .AGE_STS => { base := 0x3a0088, perPartition := Bool.true, fields := [⟨0, 5, .ro, 0⟩, ⟨8, 6, .ro, 0⟩, ⟨16, 6, .ro, 0x3f⟩, ⟨24, 6, .ro, 0x3f⟩, ⟨30, 1, .ro, 0⟩, ⟨32, 16, .ro, 0⟩] }
  | .AGE_PLAN => { base := 0x3a0090, perPartition := Bool.true, fields := [⟨0, 32, .ro, 0⟩, ⟨32, 8, .ro, 0⟩, ⟨40, 8, .ro, 0⟩] }
  | .AGE_LOG_SEL => { base := 0x3a0098, perPartition := Bool.true, fields := [⟨0, 18, .rw, 0⟩, ⟨18, 1, .rw, 0⟩, ⟨31, 1, .ro, 0⟩] }
  | .AGE_LOG_DATA => { base := 0x3a00a0, s1 := 0x8, n1 := 4, perPartition := Bool.true, fields := [⟨0, 64, .ro, 0⟩] }
  | .SRM_STS => { base := 0x3a0200, s1 := 0x8, n1 := 16, fields := [⟨0, 16, .ro, 0⟩, ⟨16, 16, .ro, 0⟩, ⟨32, 21, .ro, 0⟩, ⟨53, 3, .ro, 0⟩, ⟨56, 1, .ro, 0⟩] }
  | .SEC_STS => { base := 0x3b0000, perPartition := Bool.true, fields := [⟨0, 1, .ro, 0⟩, ⟨1, 1, .ro, 0⟩, ⟨2, 1, .ro, 0⟩, ⟨3, 1, .ro, 0⟩, ⟨8, 4, .ro, 0⟩, ⟨32, 32, .ro, 0⟩] }
  | .SEC_EVT => { base := 0x3b0008, perPartition := Bool.true, fields := [⟨0, 1, .w1c, 0⟩, ⟨1, 1, .w1c, 0⟩, ⟨2, 1, .w1c, 0⟩, ⟨3, 1, .w1c, 0⟩] }
  | .SEC_EVT_CNT => { base := 0x3b0010, perPartition := Bool.true, fields := [⟨0, 16, .ro, 0⟩, ⟨16, 16, .ro, 0⟩, ⟨32, 16, .ro, 0⟩, ⟨48, 16, .ro, 0⟩] }
  | .SEC_MC => { base := 0x3b0018, perPartition := Bool.true, fields := [⟨0, 32, .ro, 0⟩, ⟨32, 32, .ro, 0⟩] }
  | .SEC_FW_MEAS => { base := 0x3b0020, s1 := 0x8, n1 := 6, perPartition := Bool.true, fields := [⟨0, 64, .ro, 0⟩] }
  | .PWR_STS => { base := 0x3c0000, perPartition := Bool.true, fields := [⟨0, 16, .ro, 0⟩, ⟨16, 16, .ro, 0⟩, ⟨32, 16, .ro, 0⟩, ⟨48, 1, .ro, 0⟩] }
  | .PWR_EVT => { base := 0x3c0008, perPartition := Bool.true, fields := [⟨0, 1, .w1c, 0⟩, ⟨1, 1, .w1c, 0⟩, ⟨2, 1, .w1c, 0⟩, ⟨3, 1, .w1c, 0⟩] }
  | .PWR_EVT_CNT => { base := 0x3c0010, perPartition := Bool.true, fields := [⟨0, 16, .ro, 0⟩, ⟨16, 16, .ro, 0⟩, ⟨32, 16, .ro, 0⟩, ⟨48, 16, .ro, 0⟩] }
  | .PWR_RAIL_SEL => { base := 0x3c0018, perPartition := Bool.true, fields := [⟨0, 4, .rw, 0⟩] }
  | .PWR_RAIL_STS => { base := 0x3c0020, perPartition := Bool.true, fields := [⟨0, 16, .ro, 0⟩, ⟨16, 16, .ro, 0⟩, ⟨32, 16, .ro, 0xffff⟩, ⟨48, 1, .ro, 0⟩, ⟨49, 1, .ro, 0⟩] }
  | .PWR_TEMP_SEL => { base := 0x3c0028, perPartition := Bool.true, fields := [⟨0, 6, .rw, 0⟩] }
  | .PWR_TEMP_STS => { base := 0x3c0030, perPartition := Bool.true, fields := [⟨0, 12, .ro, 0⟩, ⟨12, 12, .ro, 0⟩, ⟨24, 8, .ro, 0⟩, ⟨32, 8, .ro, 0⟩, ⟨40, 1, .ro, 0⟩] }

/-- Every register, in the order of the offsets' tables. -/
def allRegs : List Reg :=
  [Reg.ID_DEVICE, Reg.ID_SERIAL, Reg.ID_FL_STS, Reg.ID_DIE, Reg.BRG_CTL, Reg.BRG_WIDTH_STS, Reg.BRG_MASK,
    Reg.BRG_EVT, Reg.BRG_EVT_CNT, Reg.BRG_GROUP_SEL, Reg.BRG_GROUP_STS, Reg.TILE_LPMAP, Reg.CLK_STS, Reg.CLK_EVT,
    Reg.CLK_EVT_CNT, Reg.GTC_VALUE, Reg.GTC_CTL, Reg.GTC_ALIGN_STS, Reg.LDLY_STS, Reg.LDLY_ASYM, Reg.CORE_CTL,
    Reg.CORE_STS, Reg.ENG_FAULT, Reg.CORE_EVT, Reg.CORE_EVT_CNT, Reg.EXC_CNT_A, Reg.EXC_CNT_B, Reg.EXC_CNT_C,
    Reg.DMX_STS, Reg.DMX_ERR_TAG, Reg.CHK_STS, Reg.SEM_VAL, Reg.GXE_STS, Reg.GXE_EVT, Reg.GXE_ERR, Reg.SCH_CTL,
    Reg.SCH_STS, Reg.SCH_CONJ, Reg.SCH_FREEZE, Reg.SCH_SLIP]
  ++ [Reg.SCH_SLIP_GTC, Reg.SCH_EVT, Reg.SCH_EVT_CNT, Reg.SCH_IMG_HASH, Reg.SCH_PLC_HASH, Reg.LAND_STS, Reg.ORD_CTL,
    Reg.ORD_STS, Reg.ORD_EVT, Reg.ORD_EVT_CNT, Reg.ORD_TMO, Reg.ORD_TMO_SEQ, Reg.MEM_CTL, Reg.MEM_STS, Reg.MEM_EVT,
    Reg.MEM_EVT_CNT, Reg.MST_STS, Reg.MCH_STS, Reg.MCH_EVT, Reg.MCH_EVT_CNT, Reg.MCH_ERR_LOC, Reg.MCH_CE_CNT,
    Reg.MTG_CTL, Reg.MTG_LIMIT, Reg.MTG_SEED, Reg.MTG_STS, Reg.MTG_ERR, Reg.OE_CTL, Reg.OE_STS, Reg.OE_EVT,
    Reg.OE_EVT_CNT, Reg.OE_POLICY, Reg.OE_LASER_STS, Reg.OE_FF_COEF, Reg.OE_RINGTAB_CTL, Reg.OE_RINGTAB_DATA,
    Reg.OE_RING_STS, Reg.OE_SP_STS, Reg.OE_FIB_STS, Reg.OE_FIB_LANEMAP]
  ++ [Reg.OE_FIB_EVT, Reg.OE_FIB_EVT_CNT, Reg.OE_FIB_MARGIN, Reg.OE_FIB_COMET, Reg.OE_FIB_EVT_CNT1, Reg.NET_CTL,
    Reg.NET_STS, Reg.NET_EVT, Reg.NET_EVT_CNT0, Reg.NET_EVT_CNT1, Reg.ROUTE_SEL, Reg.ROUTE_DATA, Reg.E2E_SEL,
    Reg.E2E_STS, Reg.E2E_ISSUED, Reg.E2E_ACKED, Reg.FAR_SEL, Reg.FAR_DATA, Reg.PORT_STS, Reg.PORT_EVT,
    Reg.PORT_EVT_CNT, Reg.PORT_ERR_CNT, Reg.PORT_PIR, Reg.COL_CTL, Reg.COL_STS, Reg.COL_EVT, Reg.COL_EVT_CNT,
    Reg.COL_GRP_SEL, Reg.COL_GRP_STS, Reg.COL_GRP_DONE, Reg.COL_ABORT, Reg.HIF_CTL, Reg.HIF_STS, Reg.HIF_EVT,
    Reg.HIF_EVT_CNT0, Reg.HIF_EVT_CNT1, Reg.HIF_AUTH_STS, Reg.HIF_WIN_SEL, Reg.HIF_CONN_STS, Reg.HIF_WIN_DATA]
  ++ [Reg.HIF_CR_ADDR, Reg.HIF_CR_CFG, Reg.HIF_CR_STS, Reg.HIF_CQ_ADDR, Reg.HIF_CQ_CFG, Reg.HIF_CQ_STS,
    Reg.HIF_MBOX_DESC, Reg.HIF_MBOX_CTL, Reg.HIF_MBOX_CPL, Reg.HIF_MBOX_EXT, Reg.BOOT_STS, Reg.BOOT_CTL,
    Reg.BOOT_EVT, Reg.BOOT_EVT_CNT, Reg.RST_CAUSE, Reg.FW_STS, Reg.FW_BUILD_A, Reg.FW_BUILD_B, Reg.DBG_APER_SEL,
    Reg.DBG_APER_BASE, Reg.DBG_STS, Reg.INFL_STS, Reg.FLT_CTL, Reg.FLT_STS, Reg.FLT_EVT, Reg.FLT_EVT_CNT,
    Reg.FLT_RING_ADDR, Reg.FLT_RING_CFG, Reg.FLT_RING_STS, Reg.FLT_LOG_SEL, Reg.FLT_LOG_DATA, Reg.AGE_SEL,
    Reg.AGE_STS, Reg.AGE_PLAN, Reg.AGE_LOG_SEL, Reg.AGE_LOG_DATA, Reg.SRM_STS, Reg.SEC_STS, Reg.SEC_EVT,
    Reg.SEC_EVT_CNT]
  ++ [Reg.SEC_MC, Reg.SEC_FW_MEAS, Reg.PWR_STS, Reg.PWR_EVT, Reg.PWR_EVT_CNT, Reg.PWR_RAIL_SEL, Reg.PWR_RAIL_STS,
    Reg.PWR_TEMP_SEL, Reg.PWR_TEMP_STS]

/-- The key of a register instance in the register table of State: its offset in the 64 MiB window, with the
partition's own set apart. -/
def Reg.key (r : Reg) (p i j k : Nat) : Nat :=
  let d := regInfo r
  (if d.perPartition then p * 0x4000000 else 0) + d.base + i * d.s1 + j * d.s2 + k * d.s3

/-- The instance of a register at an offset, if the offset is one of it. -/
def regAt? (off : Nat) (r : Reg) : Option (Nat × Nat × Nat) :=
  let d := regInfo r
  if off < d.base then none
  else
    let x := off - d.base
    let i := if d.n1 ≤ 1 then 0 else min (x / d.s1) (d.n1 - 1)
    let x := x - i * d.s1
    let j := if d.n2 ≤ 1 then 0 else min (x / d.s2) (d.n2 - 1)
    let x := x - j * d.s2
    let k := if d.n3 ≤ 1 then 0 else min (x / d.s3) (d.n3 - 1)
    if x = k * d.s3 then some (i, j, k) else none

/-- The register and instance at an offset of the window. -/
def decodeOffset (off : Nat) : Option (Reg × Nat × Nat × Nat) :=
  allRegs.findSome? fun r => (regAt? off r).map fun x => (r, x.1, x.2.1, x.2.2)

/-- The reset contents of a register instance: every field at its reset value; PORT_STS logical resets to p (R367). -/
def Reg.resetOf (r : Reg) (i : Nat) : Word :=
  BitVec.ofNat 64 ((regInfo r).fields.foldl (fun a f => a + f.reset * 2 ^ f.lo) 0
    + (if r = .PORT_STS then i * 16 else 0))

/-- What a register key reads before anything writes it. -/
def regDefault (key : Nat) : Word :=
  match decodeOffset (key % 0x4000000) with
  | some (r, i, _, _) => r.resetOf i
  | none => 0

/-! ### The fields by name -/

namespace F

/-- R43: ID_DEVICE part_code. -/
def ID_DEVICE_part_code : Fld := ⟨.ID_DEVICE, 0, 16⟩
/-- R43: ID_DEVICE grade_x. -/
def ID_DEVICE_grade_x : Fld := ⟨.ID_DEVICE, 16, 1⟩
/-- R43: ID_DEVICE divisor. -/
def ID_DEVICE_divisor : Fld := ⟨.ID_DEVICE, 17, 2⟩
/-- R43: ID_DEVICE two_part. -/
def ID_DEVICE_two_part : Fld := ⟨.ID_DEVICE, 19, 1⟩
/-- R43: ID_SERIAL serial. -/
def ID_SERIAL_serial : Fld := ⟨.ID_SERIAL, 0, 64⟩
/-- R43: ID_FL_STS dev_fl. -/
def ID_FL_STS_dev_fl : Fld := ⟨.ID_FL_STS, 0, 8⟩
/-- R43: ID_FL_STS west_fl. -/
def ID_FL_STS_west_fl : Fld := ⟨.ID_FL_STS, 8, 8⟩
/-- R43: ID_FL_STS east_fl. -/
def ID_FL_STS_east_fl : Fld := ⟨.ID_FL_STS, 16, 8⟩
/-- R43: ID_FL_STS limit_die. -/
def ID_FL_STS_limit_die : Fld := ⟨.ID_FL_STS, 24, 6⟩
/-- R43: ID_DIE kind. -/
def ID_DIE_kind : Fld := ⟨.ID_DIE, 0, 2⟩
/-- R43: ID_DIE stepping. -/
def ID_DIE_stepping : Fld := ⟨.ID_DIE, 2, 8⟩
/-- R43: ID_DIE fl. -/
def ID_DIE_fl : Fld := ⟨.ID_DIE, 10, 8⟩
/-- R43: ID_DIE fused_bad. -/
def ID_DIE_fused_bad : Fld := ⟨.ID_DIE, 18, 5⟩
/-- R43: BRG_CTL enable. -/
def BRG_CTL_enable : Fld := ⟨.BRG_CTL, 0, 1⟩
/-- R43: BRG_CTL force_retrain. -/
def BRG_CTL_force_retrain : Fld := ⟨.BRG_CTL, 1, 1⟩
/-- R43: BRG_CTL slip_mask. -/
def BRG_CTL_slip_mask : Fld := ⟨.BRG_CTL, 2, 1⟩
/-- R43: BRG_CTL lock. -/
def BRG_CTL_lock : Fld := ⟨.BRG_CTL, 31, 1⟩
/-- R43: BRG_WIDTH_STS state. -/
def BRG_WIDTH_STS_state : Fld := ⟨.BRG_WIDTH_STS, 0, 4⟩
/-- R43: BRG_WIDTH_STS width. -/
def BRG_WIDTH_STS_width : Fld := ⟨.BRG_WIDTH_STS, 4, 7⟩
/-- R43: BRG_WIDTH_STS gran_per_beat. -/
def BRG_WIDTH_STS_gran_per_beat : Fld := ⟨.BRG_WIDTH_STS, 11, 3⟩
/-- R43: BRG_WIDTH_STS generation. -/
def BRG_WIDTH_STS_generation : Fld := ⟨.BRG_WIDTH_STS, 16, 16⟩
/-- R43: BRG_WIDTH_STS signature. -/
def BRG_WIDTH_STS_signature : Fld := ⟨.BRG_WIDTH_STS, 32, 16⟩
/-- R43: BRG_WIDTH_STS far_signature. -/
def BRG_WIDTH_STS_far_signature : Fld := ⟨.BRG_WIDTH_STS, 48, 16⟩
/-- R43: BRG_MASK mask. -/
def BRG_MASK_mask : Fld := ⟨.BRG_MASK, 0, 64⟩
/-- R43: BRG_EVT retrain. -/
def BRG_EVT_retrain : Fld := ⟨.BRG_EVT, 0, 1⟩
/-- R43: BRG_EVT sig_mismatch. -/
def BRG_EVT_sig_mismatch : Fld := ⟨.BRG_EVT, 1, 1⟩
/-- R43: BRG_EVT bcrc_limit. -/
def BRG_EVT_bcrc_limit : Fld := ⟨.BRG_EVT, 2, 1⟩
/-- R43: BRG_EVT degraded. -/
def BRG_EVT_degraded : Fld := ⟨.BRG_EVT, 3, 1⟩
/-- R43: BRG_EVT replay. -/
def BRG_EVT_replay : Fld := ⟨.BRG_EVT, 4, 1⟩
/-- R43: BRG_EVT_CNT retrain_cnt. -/
def BRG_EVT_CNT_retrain_cnt : Fld := ⟨.BRG_EVT_CNT, 0, 16⟩
/-- R43: BRG_EVT_CNT sig_cnt. -/
def BRG_EVT_CNT_sig_cnt : Fld := ⟨.BRG_EVT_CNT, 16, 16⟩
/-- R43: BRG_EVT_CNT bcrc_cnt. -/
def BRG_EVT_CNT_bcrc_cnt : Fld := ⟨.BRG_EVT_CNT, 32, 16⟩
/-- R43: BRG_EVT_CNT replay_cnt. -/
def BRG_EVT_CNT_replay_cnt : Fld := ⟨.BRG_EVT_CNT, 48, 16⟩
/-- R43: BRG_GROUP_SEL group. -/
def BRG_GROUP_SEL_group : Fld := ⟨.BRG_GROUP_SEL, 0, 6⟩
/-- R43: BRG_GROUP_STS good. -/
def BRG_GROUP_STS_good : Fld := ⟨.BRG_GROUP_STS, 0, 1⟩
/-- R43: BRG_GROUP_STS bad_wires. -/
def BRG_GROUP_STS_bad_wires : Fld := ⟨.BRG_GROUP_STS, 1, 2⟩
/-- R43: BRG_GROUP_STS bad_pos0. -/
def BRG_GROUP_STS_bad_pos0 : Fld := ⟨.BRG_GROUP_STS, 3, 7⟩
/-- R43: BRG_GROUP_STS bad_pos1. -/
def BRG_GROUP_STS_bad_pos1 : Fld := ⟨.BRG_GROUP_STS, 10, 7⟩
/-- R43: BRG_GROUP_STS degraded_cnt. -/
def BRG_GROUP_STS_degraded_cnt : Fld := ⟨.BRG_GROUP_STS, 48, 16⟩
/-- R43: TILE_LPMAP lc0_phys. -/
def TILE_LPMAP_lc0_phys : Fld := ⟨.TILE_LPMAP, 0, 3⟩
/-- R43: TILE_LPMAP lc1_phys. -/
def TILE_LPMAP_lc1_phys : Fld := ⟨.TILE_LPMAP, 4, 3⟩
/-- R43: TILE_LPMAP lc2_phys. -/
def TILE_LPMAP_lc2_phys : Fld := ⟨.TILE_LPMAP, 8, 3⟩
/-- R43: TILE_LPMAP lc3_phys. -/
def TILE_LPMAP_lc3_phys : Fld := ⟨.TILE_LPMAP, 12, 3⟩
/-- R43: TILE_LPMAP spare_phys. -/
def TILE_LPMAP_spare_phys : Fld := ⟨.TILE_LPMAP, 16, 3⟩
/-- R43: TILE_LPMAP failed. -/
def TILE_LPMAP_failed : Fld := ⟨.TILE_LPMAP, 24, 5⟩
/-- R43: TILE_LPMAP lock. -/
def TILE_LPMAP_lock : Fld := ⟨.TILE_LPMAP, 31, 1⟩
/-- R70: CLK_STS ref_present. -/
def CLK_STS_ref_present : Fld := ⟨.CLK_STS, 0, 1⟩
/-- R70: CLK_STS root_lock. -/
def CLK_STS_root_lock : Fld := ⟨.CLK_STS, 1, 1⟩
/-- R70: CLK_STS holdover. -/
def CLK_STS_holdover : Fld := ⟨.CLK_STS, 2, 1⟩
/-- R70: CLK_STS spll_lock. -/
def CLK_STS_spll_lock : Fld := ⟨.CLK_STS, 3, 4⟩
/-- R70: CLK_STS divisor. -/
def CLK_STS_divisor : Fld := ⟨.CLK_STS, 7, 2⟩
/-- R70: CLK_STS block_pos. -/
def CLK_STS_block_pos : Fld := ⟨.CLK_STS, 9, 7⟩
/-- R70: CLK_EVT ref_loss. -/
def CLK_EVT_ref_loss : Fld := ⟨.CLK_EVT, 0, 1⟩
/-- R70: CLK_EVT root_unlock. -/
def CLK_EVT_root_unlock : Fld := ⟨.CLK_EVT, 1, 1⟩
/-- R70: CLK_EVT spll_unlock. -/
def CLK_EVT_spll_unlock : Fld := ⟨.CLK_EVT, 2, 1⟩
/-- R70: CLK_EVT steer_limit. -/
def CLK_EVT_steer_limit : Fld := ⟨.CLK_EVT, 3, 1⟩
/-- R70: CLK_EVT align_lost. -/
def CLK_EVT_align_lost : Fld := ⟨.CLK_EVT, 4, 1⟩
/-- R70: CLK_EVT buf_margin. -/
def CLK_EVT_buf_margin : Fld := ⟨.CLK_EVT, 5, 1⟩
/-- R70: CLK_EVT root_cnt. -/
def CLK_EVT_root_cnt : Fld := ⟨.CLK_EVT, 16, 16⟩
/-- R70: CLK_EVT spll_cnt. -/
def CLK_EVT_spll_cnt : Fld := ⟨.CLK_EVT, 32, 16⟩
/-- R70: CLK_EVT_CNT ref_loss_cnt. -/
def CLK_EVT_CNT_ref_loss_cnt : Fld := ⟨.CLK_EVT_CNT, 0, 16⟩
/-- R70: CLK_EVT_CNT steer_cnt. -/
def CLK_EVT_CNT_steer_cnt : Fld := ⟨.CLK_EVT_CNT, 16, 16⟩
/-- R70: CLK_EVT_CNT align_cnt. -/
def CLK_EVT_CNT_align_cnt : Fld := ⟨.CLK_EVT_CNT, 32, 16⟩
/-- R70: CLK_EVT_CNT margin_cnt. -/
def CLK_EVT_CNT_margin_cnt : Fld := ⟨.CLK_EVT_CNT, 48, 16⟩
/-- R70: GTC_VALUE gtc. -/
def GTC_VALUE_gtc : Fld := ⟨.GTC_VALUE, 0, 64⟩
/-- R70: GTC_CTL guard. -/
def GTC_CTL_guard : Fld := ⟨.GTC_CTL, 0, 7⟩
/-- R70: GTC_CTL master. -/
def GTC_CTL_master : Fld := ⟨.GTC_CTL, 7, 1⟩
/-- R70: GTC_CTL upstream_port. -/
def GTC_CTL_upstream_port : Fld := ⟨.GTC_CTL, 8, 5⟩
/-- R70: GTC_CTL lock. -/
def GTC_CTL_lock : Fld := ⟨.GTC_CTL, 31, 1⟩
/-- R70: GTC_ALIGN_STS aligned. -/
def GTC_ALIGN_STS_aligned : Fld := ⟨.GTC_ALIGN_STS, 0, 1⟩
/-- R70: GTC_ALIGN_STS phase. -/
def GTC_ALIGN_STS_phase : Fld := ⟨.GTC_ALIGN_STS, 1, 2⟩
/-- R70: GTC_ALIGN_STS theta. -/
def GTC_ALIGN_STS_theta : Fld := ⟨.GTC_ALIGN_STS, 3, 21⟩
/-- R70: GTC_ALIGN_STS steer_ppb. -/
def GTC_ALIGN_STS_steer_ppb : Fld := ⟨.GTC_ALIGN_STS, 24, 24⟩
/-- R70: GTC_ALIGN_STS spll_cnt. -/
def GTC_ALIGN_STS_spll_cnt : Fld := ⟨.GTC_ALIGN_STS, 48, 8⟩
/-- R70: GTC_ALIGN_STS root_cnt. -/
def GTC_ALIGN_STS_root_cnt : Fld := ⟨.GTC_ALIGN_STS, 56, 8⟩
/-- R70: LDLY_STS valid. -/
def LDLY_STS_valid : Fld := ⟨.LDLY_STS, 0, 1⟩
/-- R70: LDLY_STS delay. -/
def LDLY_STS_delay : Fld := ⟨.LDLY_STS, 1, 24⟩
/-- R70: LDLY_STS budget. -/
def LDLY_STS_budget : Fld := ⟨.LDLY_STS, 32, 16⟩
/-- R70: LDLY_STS margin. -/
def LDLY_STS_margin : Fld := ⟨.LDLY_STS, 48, 16⟩
/-- R70: LDLY_ASYM asym_ps. -/
def LDLY_ASYM_asym_ps : Fld := ⟨.LDLY_ASYM, 0, 16⟩
/-- R159: CORE_CTL chk_report. -/
def CORE_CTL_chk_report : Fld := ⟨.CORE_CTL, 0, 1⟩
/-- R159: CORE_CTL lock. -/
def CORE_CTL_lock : Fld := ⟨.CORE_CTL, 31, 1⟩
/-- R159: CORE_STS scu_state. -/
def CORE_STS_scu_state : Fld := ⟨.CORE_STS, 0, 2⟩
/-- R159: CORE_STS mxe_state. -/
def CORE_STS_mxe_state : Fld := ⟨.CORE_STS, 2, 2⟩
/-- R159: CORE_STS vxe_state. -/
def CORE_STS_vxe_state : Fld := ⟨.CORE_STS, 4, 2⟩
/-- R159: CORE_STS dmx_state. -/
def CORE_STS_dmx_state : Fld := ⟨.CORE_STS, 6, 2⟩
/-- R159: CORE_STS phys. -/
def CORE_STS_phys : Fld := ⟨.CORE_STS, 8, 3⟩
/-- R159: CORE_STS acc0_int. -/
def CORE_STS_acc0_int : Fld := ⟨.CORE_STS, 11, 1⟩
/-- R159: CORE_STS acc1_int. -/
def CORE_STS_acc1_int : Fld := ⟨.CORE_STS, 12, 1⟩
/-- R159: ENG_FAULT cause. -/
def ENG_FAULT_cause : Fld := ⟨.ENG_FAULT, 0, 4⟩
/-- R159: ENG_FAULT index. -/
def ENG_FAULT_index : Fld := ⟨.ENG_FAULT, 4, 32⟩
/-- R159: ENG_FAULT sched. -/
def ENG_FAULT_sched : Fld := ⟨.ENG_FAULT, 36, 1⟩
/-- R159: CORE_EVT eng_fault. -/
def CORE_EVT_eng_fault : Fld := ⟨.CORE_EVT, 0, 1⟩
/-- R159: CORE_EVT chk_fail. -/
def CORE_EVT_chk_fail : Fld := ⟨.CORE_EVT, 1, 1⟩
/-- R159: CORE_EVT sem_ovf. -/
def CORE_EVT_sem_ovf : Fld := ⟨.CORE_EVT, 2, 1⟩
/-- R159: CORE_EVT dmx_err. -/
def CORE_EVT_dmx_err : Fld := ⟨.CORE_EVT, 3, 1⟩
/-- R159: CORE_EVT_CNT fault_cnt. -/
def CORE_EVT_CNT_fault_cnt : Fld := ⟨.CORE_EVT_CNT, 0, 16⟩
/-- R159: CORE_EVT_CNT chk_cnt. -/
def CORE_EVT_CNT_chk_cnt : Fld := ⟨.CORE_EVT_CNT, 16, 16⟩
/-- R159: CORE_EVT_CNT ovf_cnt. -/
def CORE_EVT_CNT_ovf_cnt : Fld := ⟨.CORE_EVT_CNT, 32, 16⟩
/-- R159: CORE_EVT_CNT dmx_cnt. -/
def CORE_EVT_CNT_dmx_cnt : Fld := ⟨.CORE_EVT_CNT, 48, 16⟩
/-- R159: EXC_CNT_A invalid_cnt. -/
def EXC_CNT_A_invalid_cnt : Fld := ⟨.EXC_CNT_A, 0, 32⟩
/-- R159: EXC_CNT_A nan_in_cnt. -/
def EXC_CNT_A_nan_in_cnt : Fld := ⟨.EXC_CNT_A, 32, 32⟩
/-- R159: EXC_CNT_B overflow_cnt. -/
def EXC_CNT_B_overflow_cnt : Fld := ⟨.EXC_CNT_B, 0, 32⟩
/-- R159: EXC_CNT_B flush_cnt. -/
def EXC_CNT_B_flush_cnt : Fld := ⟨.EXC_CNT_B, 32, 32⟩
/-- R159: EXC_CNT_C sr_cnt. -/
def EXC_CNT_C_sr_cnt : Fld := ⟨.EXC_CNT_C, 0, 32⟩
/-- R159: DMX_STS outstanding. -/
def DMX_STS_outstanding : Fld := ⟨.DMX_STS, 0, 7⟩
/-- R159: DMX_ERR_TAG tag. -/
def DMX_ERR_TAG_tag : Fld := ⟨.DMX_ERR_TAG, 0, 64⟩
/-- R159: CHK_STS row. -/
def CHK_STS_row : Fld := ⟨.CHK_STS, 0, 8⟩
/-- R159: CHK_STS bank. -/
def CHK_STS_bank : Fld := ⟨.CHK_STS, 8, 1⟩
/-- R159: CHK_STS ratio. -/
def CHK_STS_ratio : Fld := ⟨.CHK_STS, 32, 32⟩
/-- R159: SEM_VAL count. -/
def SEM_VAL_count : Fld := ⟨.SEM_VAL, 0, 16⟩
/-- R159: GXE_STS active. -/
def GXE_STS_active : Fld := ⟨.GXE_STS, 0, 11⟩
/-- R159: GXE_STS pending. -/
def GXE_STS_pending : Fld := ⟨.GXE_STS, 11, 5⟩
/-- R159: GXE_EVT thread_err. -/
def GXE_EVT_thread_err : Fld := ⟨.GXE_EVT, 0, 1⟩
/-- R159: GXE_EVT err_cnt. -/
def GXE_EVT_err_cnt : Fld := ⟨.GXE_EVT, 16, 16⟩
/-- R159: GXE_ERR addr. -/
def GXE_ERR_addr : Fld := ⟨.GXE_ERR, 0, 41⟩
/-- R159: GXE_ERR cause. -/
def GXE_ERR_cause : Fld := ⟨.GXE_ERR, 41, 4⟩
/-- R159: GXE_ERR thread. -/
def GXE_ERR_thread : Fld := ⟨.GXE_ERR, 45, 11⟩
/-- R204: SCH_CTL arm_timeout. -/
def SCH_CTL_arm_timeout : Fld := ⟨.SCH_CTL, 0, 16⟩
/-- R204: SCH_CTL fcast_en. -/
def SCH_CTL_fcast_en : Fld := ⟨.SCH_CTL, 16, 1⟩
/-- R204: SCH_CTL lock. -/
def SCH_CTL_lock : Fld := ⟨.SCH_CTL, 31, 1⟩
/-- R204: SCH_STS plane. -/
def SCH_STS_plane : Fld := ⟨.SCH_STS, 0, 4⟩
/-- R204: SCH_STS pos. -/
def SCH_STS_pos : Fld := ⟨.SCH_STS, 4, 25⟩
/-- R204: SCH_STS orbit. -/
def SCH_STS_orbit : Fld := ⟨.SCH_STS, 29, 35⟩
/-- R204: SCH_CONJ conj. -/
def SCH_CONJ_conj : Fld := ⟨.SCH_CONJ, 0, 64⟩
/-- R204: SCH_FREEZE t_f. -/
def SCH_FREEZE_t_f : Fld := ⟨.SCH_FREEZE, 0, 64⟩
/-- R204: SCH_SLIP cause. -/
def SCH_SLIP_cause : Fld := ⟨.SCH_SLIP, 0, 8⟩
/-- R204: SCH_SLIP origin. -/
def SCH_SLIP_origin : Fld := ⟨.SCH_SLIP, 8, 14⟩
/-- R204: SCH_SLIP local. -/
def SCH_SLIP_local : Fld := ⟨.SCH_SLIP, 22, 1⟩
/-- R204: SCH_SLIP late. -/
def SCH_SLIP_late : Fld := ⟨.SCH_SLIP, 23, 1⟩
/-- R204: SCH_SLIP notices. -/
def SCH_SLIP_notices : Fld := ⟨.SCH_SLIP, 24, 4⟩
/-- R204: SCH_SLIP_GTC t_d. -/
def SCH_SLIP_GTC_t_d : Fld := ⟨.SCH_SLIP_GTC, 0, 64⟩
/-- R204: SCH_EVT slip. -/
def SCH_EVT_slip : Fld := ⟨.SCH_EVT, 0, 1⟩
/-- R204: SCH_EVT freeze_late. -/
def SCH_EVT_freeze_late : Fld := ⟨.SCH_EVT, 1, 1⟩
/-- R204: SCH_EVT late_landing. -/
def SCH_EVT_late_landing : Fld := ⟨.SCH_EVT, 2, 1⟩
/-- R204: SCH_EVT fcast_dev. -/
def SCH_EVT_fcast_dev : Fld := ⟨.SCH_EVT, 3, 1⟩
/-- R204: SCH_EVT_CNT slip_cnt. -/
def SCH_EVT_CNT_slip_cnt : Fld := ⟨.SCH_EVT_CNT, 0, 16⟩
/-- R204: SCH_EVT_CNT late_cnt. -/
def SCH_EVT_CNT_late_cnt : Fld := ⟨.SCH_EVT_CNT, 16, 16⟩
/-- R204: SCH_EVT_CNT landing_cnt. -/
def SCH_EVT_CNT_landing_cnt : Fld := ⟨.SCH_EVT_CNT, 32, 16⟩
/-- R204: SCH_EVT_CNT fcast_cnt. -/
def SCH_EVT_CNT_fcast_cnt : Fld := ⟨.SCH_EVT_CNT, 48, 16⟩
/-- R204: SCH_IMG_HASH hash. -/
def SCH_IMG_HASH_hash : Fld := ⟨.SCH_IMG_HASH, 0, 64⟩
/-- R204: SCH_PLC_HASH hash. -/
def SCH_PLC_HASH_hash : Fld := ⟨.SCH_PLC_HASH, 0, 64⟩
/-- R204: LAND_STS count. -/
def LAND_STS_count : Fld := ⟨.LAND_STS, 0, 24⟩
/-- R204: LAND_STS met. -/
def LAND_STS_met : Fld := ⟨.LAND_STS, 24, 1⟩
/-- R204: LAND_STS late. -/
def LAND_STS_late : Fld := ⟨.LAND_STS, 25, 1⟩
/-- R239: ORD_CTL fence_tmo. -/
def ORD_CTL_fence_tmo : Fld := ⟨.ORD_CTL, 0, 16⟩
/-- R239: ORD_CTL lock. -/
def ORD_CTL_lock : Fld := ⟨.ORD_CTL, 31, 1⟩
/-- R239: ORD_STS waiting. -/
def ORD_STS_waiting : Fld := ⟨.ORD_STS, 0, 9⟩
/-- R239: ORD_STS stalled. -/
def ORD_STS_stalled : Fld := ⟨.ORD_STS, 9, 9⟩
/-- R239: ORD_EVT fence_timeout. -/
def ORD_EVT_fence_timeout : Fld := ⟨.ORD_EVT, 0, 1⟩
/-- R239: ORD_EVT fence_released. -/
def ORD_EVT_fence_released : Fld := ⟨.ORD_EVT, 1, 1⟩
/-- R239: ORD_EVT_CNT tmo_cnt. -/
def ORD_EVT_CNT_tmo_cnt : Fld := ⟨.ORD_EVT_CNT, 0, 16⟩
/-- R239: ORD_EVT_CNT rel_cnt. -/
def ORD_EVT_CNT_rel_cnt : Fld := ⟨.ORD_EVT_CNT, 16, 16⟩
/-- R239: ORD_TMO core. -/
def ORD_TMO_core : Fld := ⟨.ORD_TMO, 0, 6⟩
/-- R239: ORD_TMO engine. -/
def ORD_TMO_engine : Fld := ⟨.ORD_TMO, 6, 2⟩
/-- R239: ORD_TMO scope. -/
def ORD_TMO_scope : Fld := ⟨.ORD_TMO, 8, 2⟩
/-- R239: ORD_TMO pix. -/
def ORD_TMO_pix : Fld := ⟨.ORD_TMO, 10, 14⟩
/-- R239: ORD_TMO_SEQ target. -/
def ORD_TMO_SEQ_target : Fld := ⟨.ORD_TMO_SEQ, 0, 32⟩
/-- R239: ORD_TMO_SEQ acked. -/
def ORD_TMO_SEQ_acked : Fld := ⟨.ORD_TMO_SEQ, 32, 32⟩
/-- R283: MEM_CTL enc_en. -/
def MEM_CTL_enc_en : Fld := ⟨.MEM_CTL, 0, 1⟩
/-- R283: MEM_CTL scrub_en. -/
def MEM_CTL_scrub_en : Fld := ⟨.MEM_CTL, 1, 1⟩
/-- R283: MEM_CTL scrub_hours. -/
def MEM_CTL_scrub_hours : Fld := ⟨.MEM_CTL, 2, 8⟩
/-- R283: MEM_CTL lock. -/
def MEM_CTL_lock : Fld := ⟨.MEM_CTL, 31, 1⟩
/-- R283: MEM_STS ready. -/
def MEM_STS_ready : Fld := ⟨.MEM_STS, 0, 1⟩
/-- R283: MEM_STS enc_active. -/
def MEM_STS_enc_active : Fld := ⟨.MEM_STS, 1, 1⟩
/-- R283: MEM_STS sched_ch. -/
def MEM_STS_sched_ch : Fld := ⟨.MEM_STS, 2, 10⟩
/-- R283: MEM_STS failed_ch. -/
def MEM_STS_failed_ch : Fld := ⟨.MEM_STS, 12, 10⟩
/-- R283: MEM_EVT ce. -/
def MEM_EVT_ce : Fld := ⟨.MEM_EVT, 0, 1⟩
/-- R283: MEM_EVT ue. -/
def MEM_EVT_ue : Fld := ⟨.MEM_EVT, 1, 1⟩
/-- R283: MEM_EVT ceiling. -/
def MEM_EVT_ceiling : Fld := ⟨.MEM_EVT, 2, 1⟩
/-- R283: MEM_EVT chan_fail. -/
def MEM_EVT_chan_fail : Fld := ⟨.MEM_EVT, 3, 1⟩
/-- R283: MEM_EVT scrub_pass. -/
def MEM_EVT_scrub_pass : Fld := ⟨.MEM_EVT, 4, 1⟩
/-- R283: MEM_EVT fail_cnt. -/
def MEM_EVT_fail_cnt : Fld := ⟨.MEM_EVT, 16, 16⟩
/-- R283: MEM_EVT_CNT ce_cnt. -/
def MEM_EVT_CNT_ce_cnt : Fld := ⟨.MEM_EVT_CNT, 0, 16⟩
/-- R283: MEM_EVT_CNT ue_cnt. -/
def MEM_EVT_CNT_ue_cnt : Fld := ⟨.MEM_EVT_CNT, 16, 16⟩
/-- R283: MEM_EVT_CNT ceiling_cnt. -/
def MEM_EVT_CNT_ceiling_cnt : Fld := ⟨.MEM_EVT_CNT, 32, 16⟩
/-- R283: MEM_EVT_CNT scrub_cnt. -/
def MEM_EVT_CNT_scrub_cnt : Fld := ⟨.MEM_EVT_CNT, 48, 16⟩
/-- R283: MST_STS temp. -/
def MST_STS_temp : Fld := ⟨.MST_STS, 0, 8⟩
/-- R283: MST_STS temp_max. -/
def MST_STS_temp_max : Fld := ⟨.MST_STS, 8, 8⟩
/-- R283: MST_STS lanes_repaired. -/
def MST_STS_lanes_repaired : Fld := ⟨.MST_STS, 16, 7⟩
/-- R283: MST_STS hot. -/
def MST_STS_hot : Fld := ⟨.MST_STS, 23, 1⟩
/-- R283: MST_STS failed. -/
def MST_STS_failed : Fld := ⟨.MST_STS, 24, 1⟩
/-- R283: MCH_STS mode. -/
def MCH_STS_mode : Fld := ⟨.MCH_STS, 0, 2⟩
/-- R283: MCH_STS auto_ref. -/
def MCH_STS_auto_ref : Fld := ⟨.MCH_STS, 2, 1⟩
/-- R283: MCH_STS nq0. -/
def MCH_STS_nq0 : Fld := ⟨.MCH_STS, 3, 7⟩
/-- R283: MCH_STS nq1. -/
def MCH_STS_nq1 : Fld := ⟨.MCH_STS, 10, 7⟩
/-- R283: MCH_STS wq0. -/
def MCH_STS_wq0 : Fld := ⟨.MCH_STS, 17, 7⟩
/-- R283: MCH_STS wq1. -/
def MCH_STS_wq1 : Fld := ⟨.MCH_STS, 24, 7⟩
/-- R283: MCH_STS max_gap. -/
def MCH_STS_max_gap : Fld := ⟨.MCH_STS, 32, 16⟩
/-- R283: MCH_EVT ce. -/
def MCH_EVT_ce : Fld := ⟨.MCH_EVT, 0, 1⟩
/-- R283: MCH_EVT ue. -/
def MCH_EVT_ue : Fld := ⟨.MCH_EVT, 1, 1⟩
/-- R283: MCH_EVT heavy_ce. -/
def MCH_EVT_heavy_ce : Fld := ⟨.MCH_EVT, 2, 1⟩
/-- R283: MCH_EVT check_mismatch. -/
def MCH_EVT_check_mismatch : Fld := ⟨.MCH_EVT, 3, 1⟩
/-- R283: MCH_EVT bound_miss. -/
def MCH_EVT_bound_miss : Fld := ⟨.MCH_EVT, 4, 1⟩
/-- R283: MCH_EVT poison_read. -/
def MCH_EVT_poison_read : Fld := ⟨.MCH_EVT, 5, 1⟩
/-- R283: MCH_EVT mismatch_cnt. -/
def MCH_EVT_mismatch_cnt : Fld := ⟨.MCH_EVT, 16, 16⟩
/-- R283: MCH_EVT poison_cnt. -/
def MCH_EVT_poison_cnt : Fld := ⟨.MCH_EVT, 32, 16⟩
/-- R283: MCH_EVT_CNT ce_cnt. -/
def MCH_EVT_CNT_ce_cnt : Fld := ⟨.MCH_EVT_CNT, 0, 16⟩
/-- R283: MCH_EVT_CNT ue_cnt. -/
def MCH_EVT_CNT_ue_cnt : Fld := ⟨.MCH_EVT_CNT, 16, 16⟩
/-- R283: MCH_EVT_CNT heavy_cnt. -/
def MCH_EVT_CNT_heavy_cnt : Fld := ⟨.MCH_EVT_CNT, 32, 16⟩
/-- R283: MCH_EVT_CNT miss_cnt. -/
def MCH_EVT_CNT_miss_cnt : Fld := ⟨.MCH_EVT_CNT, 48, 16⟩
/-- R283: MCH_ERR_LOC loc. -/
def MCH_ERR_LOC_loc : Fld := ⟨.MCH_ERR_LOC, 0, 24⟩
/-- R283: MCH_ERR_LOC pc. -/
def MCH_ERR_LOC_pc : Fld := ⟨.MCH_ERR_LOC, 24, 1⟩
/-- R283: MCH_ERR_LOC granule. -/
def MCH_ERR_LOC_granule : Fld := ⟨.MCH_ERR_LOC, 25, 2⟩
/-- R283: MCH_ERR_LOC symbols. -/
def MCH_ERR_LOC_symbols : Fld := ⟨.MCH_ERR_LOC, 27, 3⟩
/-- R283: MCH_CE_CNT sym_cnt. -/
def MCH_CE_CNT_sym_cnt : Fld := ⟨.MCH_CE_CNT, 0, 32⟩
/-- R283: MCH_CE_CNT inner_cnt. -/
def MCH_CE_CNT_inner_cnt : Fld := ⟨.MCH_CE_CNT, 32, 32⟩
/-- R283: MTG_CTL start. -/
def MTG_CTL_start : Fld := ⟨.MTG_CTL, 0, 1⟩
/-- R283: MTG_CTL stop. -/
def MTG_CTL_stop : Fld := ⟨.MTG_CTL, 1, 1⟩
/-- R283: MTG_CTL pattern. -/
def MTG_CTL_pattern : Fld := ⟨.MTG_CTL, 2, 3⟩
/-- R283: MTG_CTL op. -/
def MTG_CTL_op : Fld := ⟨.MTG_CTL, 5, 2⟩
/-- R283: MTG_CTL raw. -/
def MTG_CTL_raw : Fld := ⟨.MTG_CTL, 7, 1⟩
/-- R283: MTG_CTL pc_mask. -/
def MTG_CTL_pc_mask : Fld := ⟨.MTG_CTL, 8, 2⟩
/-- R283: MTG_CTL loop. -/
def MTG_CTL_loop : Fld := ⟨.MTG_CTL, 10, 1⟩
/-- R283: MTG_LIMIT first. -/
def MTG_LIMIT_first : Fld := ⟨.MTG_LIMIT, 0, 24⟩
/-- R283: MTG_LIMIT last. -/
def MTG_LIMIT_last : Fld := ⟨.MTG_LIMIT, 24, 24⟩
/-- R283: MTG_SEED seed. -/
def MTG_SEED_seed : Fld := ⟨.MTG_SEED, 0, 64⟩
/-- R283: MTG_STS busy. -/
def MTG_STS_busy : Fld := ⟨.MTG_STS, 0, 1⟩
/-- R283: MTG_STS done. -/
def MTG_STS_done : Fld := ⟨.MTG_STS, 1, 1⟩
/-- R283: MTG_STS refused. -/
def MTG_STS_refused : Fld := ⟨.MTG_STS, 2, 1⟩
/-- R283: MTG_STS fail. -/
def MTG_STS_fail : Fld := ⟨.MTG_STS, 3, 1⟩
/-- R283: MTG_STS errors. -/
def MTG_STS_errors : Fld := ⟨.MTG_STS, 4, 32⟩
/-- R283: MTG_STS passes. -/
def MTG_STS_passes : Fld := ⟨.MTG_STS, 36, 28⟩
/-- R283: MTG_ERR loc. -/
def MTG_ERR_loc : Fld := ⟨.MTG_ERR, 0, 24⟩
/-- R283: MTG_ERR pc. -/
def MTG_ERR_pc : Fld := ⟨.MTG_ERR, 24, 1⟩
/-- R283: MTG_ERR granule. -/
def MTG_ERR_granule : Fld := ⟨.MTG_ERR, 25, 2⟩
/-- R283: MTG_ERR bit. -/
def MTG_ERR_bit : Fld := ⟨.MTG_ERR, 27, 10⟩
/-- R324: OE_CTL light_en. -/
def OE_CTL_light_en : Fld := ⟨.OE_CTL, 0, 1⟩
/-- R324: OE_CTL standby_hot. -/
def OE_CTL_standby_hot : Fld := ⟨.OE_CTL, 1, 1⟩
/-- R324: OE_CTL recal_s. -/
def OE_CTL_recal_s : Fld := ⟨.OE_CTL, 2, 16⟩
/-- R324: OE_CTL early_lead. -/
def OE_CTL_early_lead : Fld := ⟨.OE_CTL, 18, 8⟩
/-- R324: OE_CTL lock. -/
def OE_CTL_lock : Fld := ⟨.OE_CTL, 31, 1⟩
/-- R324: OE_STS ff_active. -/
def OE_STS_ff_active : Fld := ⟨.OE_STS, 0, 1⟩
/-- R324: OE_STS lead. -/
def OE_STS_lead : Fld := ⟨.OE_STS, 1, 16⟩
/-- R324: OE_STS temp. -/
def OE_STS_temp : Fld := ⟨.OE_STS, 17, 12⟩
/-- R324: OE_STS recal_busy. -/
def OE_STS_recal_busy : Fld := ⟨.OE_STS, 29, 1⟩
/-- R324: OE_EVT laser_fail. -/
def OE_EVT_laser_fail : Fld := ⟨.OE_EVT, 0, 1⟩
/-- R324: OE_EVT laser_loss. -/
def OE_EVT_laser_loss : Fld := ⟨.OE_EVT, 1, 1⟩
/-- R324: OE_EVT table_drift. -/
def OE_EVT_table_drift : Fld := ⟨.OE_EVT, 2, 1⟩
/-- R324: OE_EVT table_range. -/
def OE_EVT_table_range : Fld := ⟨.OE_EVT, 3, 1⟩
/-- R324: OE_EVT recal_pass. -/
def OE_EVT_recal_pass : Fld := ⟨.OE_EVT, 4, 1⟩
/-- R324: OE_EVT loss_cnt. -/
def OE_EVT_loss_cnt : Fld := ⟨.OE_EVT, 16, 16⟩
/-- R324: OE_EVT_CNT laser_cnt. -/
def OE_EVT_CNT_laser_cnt : Fld := ⟨.OE_EVT_CNT, 0, 16⟩
/-- R324: OE_EVT_CNT drift_cnt. -/
def OE_EVT_CNT_drift_cnt : Fld := ⟨.OE_EVT_CNT, 16, 16⟩
/-- R324: OE_EVT_CNT range_cnt. -/
def OE_EVT_CNT_range_cnt : Fld := ⟨.OE_EVT_CNT, 32, 16⟩
/-- R324: OE_EVT_CNT recal_cnt. -/
def OE_EVT_CNT_recal_cnt : Fld := ⟨.OE_EVT_CNT, 48, 16⟩
/-- R324: OE_POLICY policy. -/
def OE_POLICY_policy : Fld := ⟨.OE_POLICY, 0, 1⟩
/-- R324: OE_LASER_STS pri_pwr. -/
def OE_LASER_STS_pri_pwr : Fld := ⟨.OE_LASER_STS, 0, 16⟩
/-- R324: OE_LASER_STS sby_pwr. -/
def OE_LASER_STS_sby_pwr : Fld := ⟨.OE_LASER_STS, 16, 16⟩
/-- R324: OE_LASER_STS in_sel. -/
def OE_LASER_STS_in_sel : Fld := ⟨.OE_LASER_STS, 32, 1⟩
/-- R324: OE_LASER_STS absorber. -/
def OE_LASER_STS_absorber : Fld := ⟨.OE_LASER_STS, 33, 1⟩
/-- R324: OE_LASER_STS pri_fault. -/
def OE_LASER_STS_pri_fault : Fld := ⟨.OE_LASER_STS, 34, 1⟩
/-- R324: OE_LASER_STS sby_fault. -/
def OE_LASER_STS_sby_fault : Fld := ⟨.OE_LASER_STS, 35, 1⟩
/-- R324: OE_FF_COEF k_mc. -/
def OE_FF_COEF_k_mc : Fld := ⟨.OE_FF_COEF, 0, 16⟩
/-- R324: OE_FF_COEF tau_th. -/
def OE_FF_COEF_tau_th : Fld := ⟨.OE_FF_COEF, 16, 16⟩
/-- R324: OE_FF_COEF tau_s. -/
def OE_FF_COEF_tau_s : Fld := ⟨.OE_FF_COEF, 32, 16⟩
/-- R324: OE_RINGTAB_CTL fibre. -/
def OE_RINGTAB_CTL_fibre : Fld := ⟨.OE_RINGTAB_CTL, 0, 3⟩
/-- R324: OE_RINGTAB_CTL kind. -/
def OE_RINGTAB_CTL_kind : Fld := ⟨.OE_RINGTAB_CTL, 3, 2⟩
/-- R324: OE_RINGTAB_CTL n. -/
def OE_RINGTAB_CTL_n : Fld := ⟨.OE_RINGTAB_CTL, 5, 5⟩
/-- R324: OE_RINGTAB_CTL entry. -/
def OE_RINGTAB_CTL_entry : Fld := ⟨.OE_RINGTAB_CTL, 10, 4⟩
/-- R324: OE_RINGTAB_DATA code. -/
def OE_RINGTAB_DATA_code : Fld := ⟨.OE_RINGTAB_DATA, 0, 16⟩
/-- R324: OE_RING_STS state. -/
def OE_RING_STS_state : Fld := ⟨.OE_RING_STS, 0, 3⟩
/-- R324: OE_RING_STS code. -/
def OE_RING_STS_code : Fld := ⟨.OE_RING_STS, 3, 16⟩
/-- R324: OE_RING_STS trim. -/
def OE_RING_STS_trim : Fld := ⟨.OE_RING_STS, 19, 13⟩
/-- R324: OE_RING_STS temp. -/
def OE_RING_STS_temp : Fld := ⟨.OE_RING_STS, 32, 12⟩
/-- R324: OE_RING_STS sweeps_failed. -/
def OE_RING_STS_sweeps_failed : Fld := ⟨.OE_RING_STS, 44, 2⟩
/-- R324: OE_SP_STS mode. -/
def OE_SP_STS_mode : Fld := ⟨.OE_SP_STS, 0, 1⟩
/-- R324: OE_SP_STS lane_sig. -/
def OE_SP_STS_lane_sig : Fld := ⟨.OE_SP_STS, 1, 4⟩
/-- R324: OE_SP_STS pcs_lock. -/
def OE_SP_STS_pcs_lock : Fld := ⟨.OE_SP_STS, 5, 4⟩
/-- R324: OE_FIB_STS state. -/
def OE_FIB_STS_state : Fld := ⟨.OE_FIB_STS, 0, 3⟩
/-- R324: OE_FIB_STS moon_avail. -/
def OE_FIB_STS_moon_avail : Fld := ⟨.OE_FIB_STS, 3, 1⟩
/-- R324: OE_FIB_STS comet_ok. -/
def OE_FIB_STS_comet_ok : Fld := ⟨.OE_FIB_STS, 4, 1⟩
/-- R324: OE_FIB_STS worst. -/
def OE_FIB_STS_worst : Fld := ⟨.OE_FIB_STS, 5, 5⟩
/-- R324: OE_FIB_STS worst_margin. -/
def OE_FIB_STS_worst_margin : Fld := ⟨.OE_FIB_STS, 10, 8⟩
/-- R324: OE_FIB_STS worst_slope. -/
def OE_FIB_STS_worst_slope : Fld := ⟨.OE_FIB_STS, 18, 16⟩
/-- R324: OE_FIB_LANEMAP moon_lane. -/
def OE_FIB_LANEMAP_moon_lane : Fld := ⟨.OE_FIB_LANEMAP, 0, 5⟩
/-- R324: OE_FIB_LANEMAP lanes. -/
def OE_FIB_LANEMAP_lanes : Fld := ⟨.OE_FIB_LANEMAP, 5, 5⟩
/-- R324: OE_FIB_LANEMAP excl0. -/
def OE_FIB_LANEMAP_excl0 : Fld := ⟨.OE_FIB_LANEMAP, 10, 5⟩
/-- R324: OE_FIB_LANEMAP excl1. -/
def OE_FIB_LANEMAP_excl1 : Fld := ⟨.OE_FIB_LANEMAP, 15, 5⟩
/-- R324: OE_FIB_EVT warn. -/
def OE_FIB_EVT_warn : Fld := ⟨.OE_FIB_EVT, 0, 1⟩
/-- R324: OE_FIB_EVT handover. -/
def OE_FIB_EVT_handover : Fld := ⟨.OE_FIB_EVT, 1, 1⟩
/-- R324: OE_FIB_EVT loss. -/
def OE_FIB_EVT_loss : Fld := ⟨.OE_FIB_EVT, 2, 1⟩
/-- R324: OE_FIB_EVT moon_fail. -/
def OE_FIB_EVT_moon_fail : Fld := ⟨.OE_FIB_EVT, 3, 1⟩
/-- R324: OE_FIB_EVT restripe. -/
def OE_FIB_EVT_restripe : Fld := ⟨.OE_FIB_EVT, 4, 1⟩
/-- R324: OE_FIB_EVT drop. -/
def OE_FIB_EVT_drop : Fld := ⟨.OE_FIB_EVT, 5, 1⟩
/-- R324: OE_FIB_EVT los. -/
def OE_FIB_EVT_los : Fld := ⟨.OE_FIB_EVT, 6, 1⟩
/-- R324: OE_FIB_EVT ring_unlock. -/
def OE_FIB_EVT_ring_unlock : Fld := ⟨.OE_FIB_EVT, 7, 1⟩
/-- R324: OE_FIB_EVT comet_down. -/
def OE_FIB_EVT_comet_down : Fld := ⟨.OE_FIB_EVT, 8, 1⟩
/-- R324: OE_FIB_EVT comet_cnt. -/
def OE_FIB_EVT_comet_cnt : Fld := ⟨.OE_FIB_EVT, 16, 16⟩
/-- R324: OE_FIB_EVT_CNT warn_cnt. -/
def OE_FIB_EVT_CNT_warn_cnt : Fld := ⟨.OE_FIB_EVT_CNT, 0, 16⟩
/-- R324: OE_FIB_EVT_CNT handover_cnt. -/
def OE_FIB_EVT_CNT_handover_cnt : Fld := ⟨.OE_FIB_EVT_CNT, 16, 16⟩
/-- R324: OE_FIB_EVT_CNT loss_cnt. -/
def OE_FIB_EVT_CNT_loss_cnt : Fld := ⟨.OE_FIB_EVT_CNT, 32, 16⟩
/-- R324: OE_FIB_EVT_CNT unlock_cnt. -/
def OE_FIB_EVT_CNT_unlock_cnt : Fld := ⟨.OE_FIB_EVT_CNT, 48, 16⟩
/-- R324: OE_FIB_MARGIN margin0. -/
def OE_FIB_MARGIN_margin0 : Fld := ⟨.OE_FIB_MARGIN, 0, 8⟩
/-- R324: OE_FIB_MARGIN margin1. -/
def OE_FIB_MARGIN_margin1 : Fld := ⟨.OE_FIB_MARGIN, 8, 8⟩
/-- R324: OE_FIB_MARGIN margin2. -/
def OE_FIB_MARGIN_margin2 : Fld := ⟨.OE_FIB_MARGIN, 16, 8⟩
/-- R324: OE_FIB_MARGIN margin3. -/
def OE_FIB_MARGIN_margin3 : Fld := ⟨.OE_FIB_MARGIN, 24, 8⟩
/-- R324: OE_FIB_MARGIN margin4. -/
def OE_FIB_MARGIN_margin4 : Fld := ⟨.OE_FIB_MARGIN, 32, 8⟩
/-- R324: OE_FIB_MARGIN margin5. -/
def OE_FIB_MARGIN_margin5 : Fld := ⟨.OE_FIB_MARGIN, 40, 8⟩
/-- R324: OE_FIB_MARGIN margin6. -/
def OE_FIB_MARGIN_margin6 : Fld := ⟨.OE_FIB_MARGIN, 48, 8⟩
/-- R324: OE_FIB_MARGIN margin7. -/
def OE_FIB_MARGIN_margin7 : Fld := ⟨.OE_FIB_MARGIN, 56, 8⟩
/-- R324: OE_FIB_COMET bus. -/
def OE_FIB_COMET_bus : Fld := ⟨.OE_FIB_COMET, 0, 2⟩
/-- R324: OE_FIB_COMET tap_en. -/
def OE_FIB_COMET_tap_en : Fld := ⟨.OE_FIB_COMET, 2, 1⟩
/-- R324: OE_FIB_COMET weight. -/
def OE_FIB_COMET_weight : Fld := ⟨.OE_FIB_COMET, 8, 8⟩
/-- R324: OE_FIB_EVT_CNT1 moon_fail_cnt. -/
def OE_FIB_EVT_CNT1_moon_fail_cnt : Fld := ⟨.OE_FIB_EVT_CNT1, 0, 16⟩
/-- R324: OE_FIB_EVT_CNT1 restripe_cnt. -/
def OE_FIB_EVT_CNT1_restripe_cnt : Fld := ⟨.OE_FIB_EVT_CNT1, 16, 16⟩
/-- R324: OE_FIB_EVT_CNT1 drop_cnt. -/
def OE_FIB_EVT_CNT1_drop_cnt : Fld := ⟨.OE_FIB_EVT_CNT1, 32, 16⟩
/-- R324: OE_FIB_EVT_CNT1 los_cnt. -/
def OE_FIB_EVT_CNT1_los_cnt : Fld := ⟨.OE_FIB_EVT_CNT1, 48, 16⟩
/-- R367: NET_CTL aswired. -/
def NET_CTL_aswired : Fld := ⟨.NET_CTL, 0, 1⟩
/-- R367: NET_CTL e2e_rto. -/
def NET_CTL_e2e_rto : Fld := ⟨.NET_CTL, 1, 16⟩
/-- R367: NET_CTL lock. -/
def NET_CTL_lock : Fld := ⟨.NET_CTL, 31, 1⟩
/-- R367: NET_STS lpl. -/
def NET_STS_lpl : Fld := ⟨.NET_STS, 0, 8⟩
/-- R367: NET_STS placed. -/
def NET_STS_placed : Fld := ⟨.NET_STS, 8, 1⟩
/-- R367: NET_STS pix. -/
def NET_STS_pix : Fld := ⟨.NET_STS, 9, 14⟩
/-- R367: NET_STS topology. -/
def NET_STS_topology : Fld := ⟨.NET_STS, 23, 3⟩
/-- R367: NET_STS session. -/
def NET_STS_session : Fld := ⟨.NET_STS, 32, 32⟩
/-- R367: NET_EVT miswire. -/
def NET_EVT_miswire : Fld := ⟨.NET_EVT, 0, 1⟩
/-- R367: NET_EVT incompatible. -/
def NET_EVT_incompatible : Fld := ⟨.NET_EVT, 1, 1⟩
/-- R367: NET_EVT fw_differs. -/
def NET_EVT_fw_differs : Fld := ⟨.NET_EVT, 2, 1⟩
/-- R367: NET_EVT hash_differs. -/
def NET_EVT_hash_differs : Fld := ⟨.NET_EVT, 3, 1⟩
/-- R367: NET_EVT unreachable. -/
def NET_EVT_unreachable : Fld := ⟨.NET_EVT, 4, 1⟩
/-- R367: NET_EVT stale. -/
def NET_EVT_stale : Fld := ⟨.NET_EVT, 5, 1⟩
/-- R367: NET_EVT mcast_discard. -/
def NET_EVT_mcast_discard : Fld := ⟨.NET_EVT, 6, 1⟩
/-- R367: NET_EVT retx. -/
def NET_EVT_retx : Fld := ⟨.NET_EVT, 7, 1⟩
/-- R367: NET_EVT_CNT0 miswire_cnt. -/
def NET_EVT_CNT0_miswire_cnt : Fld := ⟨.NET_EVT_CNT0, 0, 16⟩
/-- R367: NET_EVT_CNT0 incompat_cnt. -/
def NET_EVT_CNT0_incompat_cnt : Fld := ⟨.NET_EVT_CNT0, 16, 16⟩
/-- R367: NET_EVT_CNT0 fw_cnt. -/
def NET_EVT_CNT0_fw_cnt : Fld := ⟨.NET_EVT_CNT0, 32, 16⟩
/-- R367: NET_EVT_CNT0 hash_cnt. -/
def NET_EVT_CNT0_hash_cnt : Fld := ⟨.NET_EVT_CNT0, 48, 16⟩
/-- R367: NET_EVT_CNT1 unreach_cnt. -/
def NET_EVT_CNT1_unreach_cnt : Fld := ⟨.NET_EVT_CNT1, 0, 16⟩
/-- R367: NET_EVT_CNT1 stale_cnt. -/
def NET_EVT_CNT1_stale_cnt : Fld := ⟨.NET_EVT_CNT1, 16, 16⟩
/-- R367: NET_EVT_CNT1 mcast_cnt. -/
def NET_EVT_CNT1_mcast_cnt : Fld := ⟨.NET_EVT_CNT1, 32, 16⟩
/-- R367: NET_EVT_CNT1 retx_cnt. -/
def NET_EVT_CNT1_retx_cnt : Fld := ⟨.NET_EVT_CNT1, 48, 16⟩
/-- R367: ROUTE_SEL pix. -/
def ROUTE_SEL_pix : Fld := ⟨.ROUTE_SEL, 0, 10⟩
/-- R367: ROUTE_DATA entry. -/
def ROUTE_DATA_entry : Fld := ⟨.ROUTE_DATA, 0, 64⟩
/-- R367: E2E_SEL pix. -/
def E2E_SEL_pix : Fld := ⟨.E2E_SEL, 0, 10⟩
/-- R367: E2E_STS outstanding. -/
def E2E_STS_outstanding : Fld := ⟨.E2E_STS, 0, 12⟩
/-- R367: E2E_STS reach. -/
def E2E_STS_reach : Fld := ⟨.E2E_STS, 12, 1⟩
/-- R367: E2E_STS dst_session. -/
def E2E_STS_dst_session : Fld := ⟨.E2E_STS, 32, 32⟩
/-- R367: E2E_ISSUED seq. -/
def E2E_ISSUED_seq : Fld := ⟨.E2E_ISSUED, 0, 64⟩
/-- R367: E2E_ACKED seq. -/
def E2E_ACKED_seq : Fld := ⟨.E2E_ACKED, 0, 64⟩
/-- R367: FAR_SEL index. -/
def FAR_SEL_index : Fld := ⟨.FAR_SEL, 0, 12⟩
/-- R367: FAR_DATA data. -/
def FAR_DATA_data : Fld := ⟨.FAR_DATA, 0, 64⟩
/-- R367: PORT_STS state. -/
def PORT_STS_state : Fld := ⟨.PORT_STS, 0, 4⟩
/-- R367: PORT_STS logical. -/
def PORT_STS_logical : Fld := ⟨.PORT_STS, 4, 5⟩
/-- R367: PORT_STS lpl. -/
def PORT_STS_lpl : Fld := ⟨.PORT_STS, 9, 8⟩
/-- R367: PORT_STS sched_ok. -/
def PORT_STS_sched_ok : Fld := ⟨.PORT_STS, 17, 1⟩
/-- R367: PORT_STS spare_used. -/
def PORT_STS_spare_used : Fld := ⟨.PORT_STS, 18, 1⟩
/-- R367: PORT_STS phase_ident. -/
def PORT_STS_phase_ident : Fld := ⟨.PORT_STS, 19, 1⟩
/-- R367: PORT_EVT down. -/
def PORT_EVT_down : Fld := ⟨.PORT_EVT, 0, 1⟩
/-- R367: PORT_EVT miswired. -/
def PORT_EVT_miswired : Fld := ⟨.PORT_EVT, 1, 1⟩
/-- R367: PORT_EVT incompatible. -/
def PORT_EVT_incompatible : Fld := ⟨.PORT_EVT, 2, 1⟩
/-- R367: PORT_EVT retrain. -/
def PORT_EVT_retrain : Fld := ⟨.PORT_EVT, 3, 1⟩
/-- R367: PORT_EVT err_limit. -/
def PORT_EVT_err_limit : Fld := ⟨.PORT_EVT, 4, 1⟩
/-- R367: PORT_EVT incompat_cnt. -/
def PORT_EVT_incompat_cnt : Fld := ⟨.PORT_EVT, 16, 16⟩
/-- R367: PORT_EVT_CNT down_cnt. -/
def PORT_EVT_CNT_down_cnt : Fld := ⟨.PORT_EVT_CNT, 0, 16⟩
/-- R367: PORT_EVT_CNT miswired_cnt. -/
def PORT_EVT_CNT_miswired_cnt : Fld := ⟨.PORT_EVT_CNT, 16, 16⟩
/-- R367: PORT_EVT_CNT retrain_cnt. -/
def PORT_EVT_CNT_retrain_cnt : Fld := ⟨.PORT_EVT_CNT, 32, 16⟩
/-- R367: PORT_EVT_CNT limit_cnt. -/
def PORT_EVT_CNT_limit_cnt : Fld := ⟨.PORT_EVT_CNT, 48, 16⟩
/-- R367: PORT_ERR_CNT corrected. -/
def PORT_ERR_CNT_corrected : Fld := ⟨.PORT_ERR_CNT, 0, 32⟩
/-- R367: PORT_ERR_CNT uncorrectable. -/
def PORT_ERR_CNT_uncorrectable : Fld := ⟨.PORT_ERR_CNT, 32, 32⟩
/-- R367: PORT_PIR bytes. -/
def PORT_PIR_bytes : Fld := ⟨.PORT_PIR, 0, 64⟩
/-- R399: COL_CTL coll_tmo. -/
def COL_CTL_coll_tmo : Fld := ⟨.COL_CTL, 0, 16⟩
/-- R399: COL_CTL lock. -/
def COL_CTL_lock : Fld := ⟨.COL_CTL, 31, 1⟩
/-- R399: COL_STS groups. -/
def COL_STS_groups : Fld := ⟨.COL_STS, 0, 9⟩
/-- R399: COL_STS slices. -/
def COL_STS_slices : Fld := ⟨.COL_STS, 9, 12⟩
/-- R399: COL_STS comet_bufs. -/
def COL_STS_comet_bufs : Fld := ⟨.COL_STS, 21, 12⟩
/-- R399: COL_STS active. -/
def COL_STS_active : Fld := ⟨.COL_STS, 33, 9⟩
/-- R399: COL_STS consumed. -/
def COL_STS_consumed : Fld := ⟨.COL_STS, 42, 22⟩
/-- R399: COL_EVT abort. -/
def COL_EVT_abort : Fld := ⟨.COL_EVT, 0, 1⟩
/-- R399: COL_EVT mismatch. -/
def COL_EVT_mismatch : Fld := ⟨.COL_EVT, 1, 1⟩
/-- R399: COL_EVT comet_fallback. -/
def COL_EVT_comet_fallback : Fld := ⟨.COL_EVT, 2, 1⟩
/-- R399: COL_EVT late_discard. -/
def COL_EVT_late_discard : Fld := ⟨.COL_EVT, 3, 1⟩
/-- R399: COL_EVT_CNT abort_cnt. -/
def COL_EVT_CNT_abort_cnt : Fld := ⟨.COL_EVT_CNT, 0, 16⟩
/-- R399: COL_EVT_CNT mismatch_cnt. -/
def COL_EVT_CNT_mismatch_cnt : Fld := ⟨.COL_EVT_CNT, 16, 16⟩
/-- R399: COL_EVT_CNT fallback_cnt. -/
def COL_EVT_CNT_fallback_cnt : Fld := ⟨.COL_EVT_CNT, 32, 16⟩
/-- R399: COL_EVT_CNT discard_cnt. -/
def COL_EVT_CNT_discard_cnt : Fld := ⟨.COL_EVT_CNT, 48, 16⟩
/-- R399: COL_GRP_SEL gid. -/
def COL_GRP_SEL_gid : Fld := ⟨.COL_GRP_SEL, 0, 8⟩
/-- R399: COL_GRP_STS state. -/
def COL_GRP_STS_state : Fld := ⟨.COL_GRP_STS, 0, 2⟩
/-- R399: COL_GRP_STS sched. -/
def COL_GRP_STS_sched : Fld := ⟨.COL_GRP_STS, 2, 1⟩
/-- R399: COL_GRP_STS comet. -/
def COL_GRP_STS_comet : Fld := ⟨.COL_GRP_STS, 3, 1⟩
/-- R399: COL_GRP_STS cause. -/
def COL_GRP_STS_cause : Fld := ⟨.COL_GRP_STS, 4, 4⟩
/-- R399: COL_GRP_STS fired. -/
def COL_GRP_STS_fired : Fld := ⟨.COL_GRP_STS, 32, 32⟩
/-- R399: COL_GRP_DONE completed. -/
def COL_GRP_DONE_completed : Fld := ⟨.COL_GRP_DONE, 0, 32⟩
/-- R399: COL_GRP_DONE aborted. -/
def COL_GRP_DONE_aborted : Fld := ⟨.COL_GRP_DONE, 32, 32⟩
/-- R399: COL_ABORT gid. -/
def COL_ABORT_gid : Fld := ⟨.COL_ABORT, 0, 8⟩
/-- R399: COL_ABORT cause. -/
def COL_ABORT_cause : Fld := ⟨.COL_ABORT, 8, 4⟩
/-- R399: COL_ABORT port. -/
def COL_ABORT_port : Fld := ⟨.COL_ABORT, 12, 6⟩
/-- R399: COL_ABORT seq. -/
def COL_ABORT_seq : Fld := ⟨.COL_ABORT, 32, 32⟩
/-- R431: HIF_CTL mbox_crit. -/
def HIF_CTL_mbox_crit : Fld := ⟨.HIF_CTL, 0, 1⟩
/-- R431: HIF_CTL lock. -/
def HIF_CTL_lock : Fld := ⟨.HIF_CTL, 31, 1⟩
/-- R431: HIF_STS state. -/
def HIF_STS_state : Fld := ⟨.HIF_STS, 0, 4⟩
/-- R431: HIF_STS primary. -/
def HIF_STS_primary : Fld := ⟨.HIF_STS, 4, 1⟩
/-- R431: HIF_STS conn_up. -/
def HIF_STS_conn_up : Fld := ⟨.HIF_STS, 5, 4⟩
/-- R431: HIF_STS ctl_busy. -/
def HIF_STS_ctl_busy : Fld := ⟨.HIF_STS, 9, 1⟩
/-- R431: HIF_EVT auth_fail. -/
def HIF_EVT_auth_fail : Fld := ⟨.HIF_EVT, 0, 1⟩
/-- R431: HIF_EVT auth_stale. -/
def HIF_EVT_auth_stale : Fld := ⟨.HIF_EVT, 1, 1⟩
/-- R431: HIF_EVT ring_err. -/
def HIF_EVT_ring_err : Fld := ⟨.HIF_EVT, 2, 1⟩
/-- R431: HIF_EVT stale_db. -/
def HIF_EVT_stale_db : Fld := ⟨.HIF_EVT, 3, 1⟩
/-- R431: HIF_EVT conn_lost. -/
def HIF_EVT_conn_lost : Fld := ⟨.HIF_EVT, 4, 1⟩
/-- R431: HIF_EVT state_reject. -/
def HIF_EVT_state_reject : Fld := ⟨.HIF_EVT, 5, 1⟩
/-- R431: HIF_EVT_CNT0 auth_fail_cnt. -/
def HIF_EVT_CNT0_auth_fail_cnt : Fld := ⟨.HIF_EVT_CNT0, 0, 16⟩
/-- R431: HIF_EVT_CNT0 auth_stale_cnt. -/
def HIF_EVT_CNT0_auth_stale_cnt : Fld := ⟨.HIF_EVT_CNT0, 16, 16⟩
/-- R431: HIF_EVT_CNT0 ring_err_cnt. -/
def HIF_EVT_CNT0_ring_err_cnt : Fld := ⟨.HIF_EVT_CNT0, 32, 16⟩
/-- R431: HIF_EVT_CNT0 stale_db_cnt. -/
def HIF_EVT_CNT0_stale_db_cnt : Fld := ⟨.HIF_EVT_CNT0, 48, 16⟩
/-- R431: HIF_EVT_CNT1 conn_cnt. -/
def HIF_EVT_CNT1_conn_cnt : Fld := ⟨.HIF_EVT_CNT1, 0, 16⟩
/-- R431: HIF_EVT_CNT1 reject_cnt. -/
def HIF_EVT_CNT1_reject_cnt : Fld := ⟨.HIF_EVT_CNT1, 16, 16⟩
/-- R431: HIF_AUTH_STS last. -/
def HIF_AUTH_STS_last : Fld := ⟨.HIF_AUTH_STS, 0, 64⟩
/-- R431: HIF_WIN_SEL window. -/
def HIF_WIN_SEL_window : Fld := ⟨.HIF_WIN_SEL, 0, 8⟩
/-- R431: HIF_CONN_STS up. -/
def HIF_CONN_STS_up : Fld := ⟨.HIF_CONN_STS, 0, 1⟩
/-- R431: HIF_CONN_STS sp. -/
def HIF_CONN_STS_sp : Fld := ⟨.HIF_CONN_STS, 1, 2⟩
/-- R431: HIF_CONN_STS host_qpn. -/
def HIF_CONN_STS_host_qpn : Fld := ⟨.HIF_CONN_STS, 3, 24⟩
/-- R431: HIF_WIN_DATA data. -/
def HIF_WIN_DATA_data : Fld := ⟨.HIF_WIN_DATA, 0, 64⟩
/-- R431: HIF_CR_ADDR addr. -/
def HIF_CR_ADDR_addr : Fld := ⟨.HIF_CR_ADDR, 0, 64⟩
/-- R431: HIF_CR_CFG enable. -/
def HIF_CR_CFG_enable : Fld := ⟨.HIF_CR_CFG, 0, 1⟩
/-- R431: HIF_CR_CFG stop_on_reject. -/
def HIF_CR_CFG_stop_on_reject : Fld := ⟨.HIF_CR_CFG, 1, 1⟩
/-- R431: HIF_CR_CFG resume. -/
def HIF_CR_CFG_resume : Fld := ⟨.HIF_CR_CFG, 2, 1⟩
/-- R431: HIF_CR_CFG stopped. -/
def HIF_CR_CFG_stopped : Fld := ⟨.HIF_CR_CFG, 3, 1⟩
/-- R431: HIF_CR_CFG ring_err. -/
def HIF_CR_CFG_ring_err : Fld := ⟨.HIF_CR_CFG, 4, 1⟩
/-- R431: HIF_CR_CFG log_size. -/
def HIF_CR_CFG_log_size : Fld := ⟨.HIF_CR_CFG, 8, 5⟩
/-- R431: HIF_CR_CFG cq. -/
def HIF_CR_CFG_cq : Fld := ⟨.HIF_CR_CFG, 16, 6⟩
/-- R431: HIF_CR_CFG conn. -/
def HIF_CR_CFG_conn : Fld := ⟨.HIF_CR_CFG, 22, 2⟩
/-- R431: HIF_CR_CFG rkey. -/
def HIF_CR_CFG_rkey : Fld := ⟨.HIF_CR_CFG, 32, 32⟩
/-- R431: HIF_CR_STS producer. -/
def HIF_CR_STS_producer : Fld := ⟨.HIF_CR_STS, 0, 32⟩
/-- R431: HIF_CR_STS consumer. -/
def HIF_CR_STS_consumer : Fld := ⟨.HIF_CR_STS, 32, 32⟩
/-- R431: HIF_CQ_ADDR addr. -/
def HIF_CQ_ADDR_addr : Fld := ⟨.HIF_CQ_ADDR, 0, 64⟩
/-- R431: HIF_CQ_CFG enable. -/
def HIF_CQ_CFG_enable : Fld := ⟨.HIF_CQ_CFG, 0, 1⟩
/-- R431: HIF_CQ_CFG log_size. -/
def HIF_CQ_CFG_log_size : Fld := ⟨.HIF_CQ_CFG, 8, 5⟩
/-- R431: HIF_CQ_CFG conn. -/
def HIF_CQ_CFG_conn : Fld := ⟨.HIF_CQ_CFG, 22, 2⟩
/-- R431: HIF_CQ_CFG rkey. -/
def HIF_CQ_CFG_rkey : Fld := ⟨.HIF_CQ_CFG, 32, 32⟩
/-- R431: HIF_CQ_STS written. -/
def HIF_CQ_STS_written : Fld := ⟨.HIF_CQ_STS, 0, 32⟩
/-- R431: HIF_CQ_STS host_consumed. -/
def HIF_CQ_STS_host_consumed : Fld := ⟨.HIF_CQ_STS, 32, 32⟩
/-- R431: HIF_MBOX_DESC desc. -/
def HIF_MBOX_DESC_desc : Fld := ⟨.HIF_MBOX_DESC, 0, 64⟩
/-- R431: HIF_MBOX_CTL go. -/
def HIF_MBOX_CTL_go : Fld := ⟨.HIF_MBOX_CTL, 0, 1⟩
/-- R431: HIF_MBOX_CTL busy. -/
def HIF_MBOX_CTL_busy : Fld := ⟨.HIF_MBOX_CTL, 1, 1⟩
/-- R431: HIF_MBOX_CTL done. -/
def HIF_MBOX_CTL_done : Fld := ⟨.HIF_MBOX_CTL, 2, 1⟩
/-- R431: HIF_MBOX_CTL done_cnt. -/
def HIF_MBOX_CTL_done_cnt : Fld := ⟨.HIF_MBOX_CTL, 16, 16⟩
/-- R431: HIF_MBOX_CPL cpl. -/
def HIF_MBOX_CPL_cpl : Fld := ⟨.HIF_MBOX_CPL, 0, 64⟩
/-- R431: HIF_MBOX_EXT ext. -/
def HIF_MBOX_EXT_ext : Fld := ⟨.HIF_MBOX_EXT, 0, 64⟩
/-- R459: BOOT_STS straps. -/
def BOOT_STS_straps : Fld := ⟨.BOOT_STS, 0, 8⟩
/-- R459: BOOT_STS boot_src. -/
def BOOT_STS_boot_src : Fld := ⟨.BOOT_STS, 8, 2⟩
/-- R459: BOOT_STS stage. -/
def BOOT_STS_stage : Fld := ⟨.BOOT_STS, 10, 4⟩
/-- R459: BOOT_STS strap_err. -/
def BOOT_STS_strap_err : Fld := ⟨.BOOT_STS, 14, 1⟩
/-- R459: BOOT_STS boot_fail. -/
def BOOT_STS_boot_fail : Fld := ⟨.BOOT_STS, 15, 1⟩
/-- R459: BOOT_CTL go. -/
def BOOT_CTL_go : Fld := ⟨.BOOT_CTL, 0, 1⟩
/-- R459: BOOT_CTL granules. -/
def BOOT_CTL_granules : Fld := ⟨.BOOT_CTL, 1, 18⟩
/-- R459: BOOT_EVT fw_fallback. -/
def BOOT_EVT_fw_fallback : Fld := ⟨.BOOT_EVT, 0, 1⟩
/-- R459: BOOT_EVT partial_reset. -/
def BOOT_EVT_partial_reset : Fld := ⟨.BOOT_EVT, 1, 1⟩
/-- R459: BOOT_EVT dbg_refused. -/
def BOOT_EVT_dbg_refused : Fld := ⟨.BOOT_EVT, 2, 1⟩
/-- R459: BOOT_EVT_CNT fallback_cnt. -/
def BOOT_EVT_CNT_fallback_cnt : Fld := ⟨.BOOT_EVT_CNT, 0, 16⟩
/-- R459: BOOT_EVT_CNT partial_cnt. -/
def BOOT_EVT_CNT_partial_cnt : Fld := ⟨.BOOT_EVT_CNT, 16, 16⟩
/-- R459: BOOT_EVT_CNT refused_cnt. -/
def BOOT_EVT_CNT_refused_cnt : Fld := ⟨.BOOT_EVT_CNT, 32, 16⟩
/-- R459: RST_CAUSE kind. -/
def RST_CAUSE_kind : Fld := ⟨.RST_CAUSE, 0, 4⟩
/-- R459: RST_CAUSE source. -/
def RST_CAUSE_source : Fld := ⟨.RST_CAUSE, 4, 3⟩
/-- R459: RST_CAUSE unit. -/
def RST_CAUSE_unit : Fld := ⟨.RST_CAUSE, 7, 10⟩
/-- R459: RST_CAUSE warm_cnt. -/
def RST_CAUSE_warm_cnt : Fld := ⟨.RST_CAUSE, 32, 16⟩
/-- R459: FW_STS active. -/
def FW_STS_active : Fld := ⟨.FW_STS, 0, 1⟩
/-- R459: FW_STS booted. -/
def FW_STS_booted : Fld := ⟨.FW_STS, 1, 1⟩
/-- R459: FW_STS trial. -/
def FW_STS_trial : Fld := ⟨.FW_STS, 2, 1⟩
/-- R459: FW_STS staged. -/
def FW_STS_staged : Fld := ⟨.FW_STS, 3, 1⟩
/-- R459: FW_STS busy. -/
def FW_STS_busy : Fld := ⟨.FW_STS, 4, 1⟩
/-- R459: FW_STS attempts. -/
def FW_STS_attempts : Fld := ⟨.FW_STS, 5, 8⟩
/-- R459: FW_STS sec_version. -/
def FW_STS_sec_version : Fld := ⟨.FW_STS, 13, 32⟩
/-- R459: FW_BUILD_A build. -/
def FW_BUILD_A_build : Fld := ⟨.FW_BUILD_A, 0, 64⟩
/-- R459: FW_BUILD_B build. -/
def FW_BUILD_B_build : Fld := ⟨.FW_BUILD_B, 0, 64⟩
/-- R459: DBG_APER_SEL space. -/
def DBG_APER_SEL_space : Fld := ⟨.DBG_APER_SEL, 0, 4⟩
/-- R459: DBG_APER_SEL unit. -/
def DBG_APER_SEL_unit : Fld := ⟨.DBG_APER_SEL, 8, 8⟩
/-- R459: DBG_APER_SEL bank. -/
def DBG_APER_SEL_bank : Fld := ⟨.DBG_APER_SEL, 16, 1⟩
/-- R459: DBG_APER_BASE base. -/
def DBG_APER_BASE_base : Fld := ⟨.DBG_APER_BASE, 0, 41⟩
/-- R459: DBG_STS check_fail. -/
def DBG_STS_check_fail : Fld := ⟨.DBG_STS, 0, 1⟩
/-- R459: DBG_STS ue. -/
def DBG_STS_ue : Fld := ⟨.DBG_STS, 1, 1⟩
/-- R459: DBG_STS addr. -/
def DBG_STS_addr : Fld := ⟨.DBG_STS, 2, 39⟩
/-- R459: INFL_STS entries. -/
def INFL_STS_entries : Fld := ⟨.INFL_STS, 0, 17⟩
/-- R459: INFL_STS overflow. -/
def INFL_STS_overflow : Fld := ⟨.INFL_STS, 17, 1⟩
/-- R459: INFL_STS valid. -/
def INFL_STS_valid : Fld := ⟨.INFL_STS, 18, 1⟩
/-- R491: FLT_CTL ue_limit. -/
def FLT_CTL_ue_limit : Fld := ⟨.FLT_CTL, 0, 8⟩
/-- R491: FLT_CTL sram_scrub_s. -/
def FLT_CTL_sram_scrub_s : Fld := ⟨.FLT_CTL, 8, 16⟩
/-- R491: FLT_CTL alert_en. -/
def FLT_CTL_alert_en : Fld := ⟨.FLT_CTL, 24, 1⟩
/-- R491: FLT_STS replay_ready. -/
def FLT_STS_replay_ready : Fld := ⟨.FLT_STS, 0, 1⟩
/-- R491: FLT_STS quarantined. -/
def FLT_STS_quarantined : Fld := ⟨.FLT_STS, 1, 1⟩
/-- R491: FLT_STS q_cause. -/
def FLT_STS_q_cause : Fld := ⟨.FLT_STS, 2, 3⟩
/-- R491: FLT_STS log_count. -/
def FLT_STS_log_count : Fld := ⟨.FLT_STS, 5, 9⟩
/-- R491: FLT_STS last_seq. -/
def FLT_STS_last_seq : Fld := ⟨.FLT_STS, 16, 32⟩
/-- R491: FLT_EVT record. -/
def FLT_EVT_record : Fld := ⟨.FLT_EVT, 0, 1⟩
/-- R491: FLT_EVT record_hi. -/
def FLT_EVT_record_hi : Fld := ⟨.FLT_EVT, 1, 1⟩
/-- R491: FLT_EVT lost. -/
def FLT_EVT_lost : Fld := ⟨.FLT_EVT, 2, 1⟩
/-- R491: FLT_EVT quarantine. -/
def FLT_EVT_quarantine : Fld := ⟨.FLT_EVT, 3, 1⟩
/-- R491: FLT_EVT_CNT record_cnt. -/
def FLT_EVT_CNT_record_cnt : Fld := ⟨.FLT_EVT_CNT, 0, 16⟩
/-- R491: FLT_EVT_CNT hi_cnt. -/
def FLT_EVT_CNT_hi_cnt : Fld := ⟨.FLT_EVT_CNT, 16, 16⟩
/-- R491: FLT_EVT_CNT lost_cnt. -/
def FLT_EVT_CNT_lost_cnt : Fld := ⟨.FLT_EVT_CNT, 32, 16⟩
/-- R491: FLT_EVT_CNT quar_cnt. -/
def FLT_EVT_CNT_quar_cnt : Fld := ⟨.FLT_EVT_CNT, 48, 16⟩
/-- R491: FLT_RING_ADDR addr. -/
def FLT_RING_ADDR_addr : Fld := ⟨.FLT_RING_ADDR, 0, 64⟩
/-- R491: FLT_RING_CFG enable. -/
def FLT_RING_CFG_enable : Fld := ⟨.FLT_RING_CFG, 0, 1⟩
/-- R491: FLT_RING_CFG log_size. -/
def FLT_RING_CFG_log_size : Fld := ⟨.FLT_RING_CFG, 8, 5⟩
/-- R491: FLT_RING_CFG conn. -/
def FLT_RING_CFG_conn : Fld := ⟨.FLT_RING_CFG, 22, 2⟩
/-- R491: FLT_RING_CFG rkey. -/
def FLT_RING_CFG_rkey : Fld := ⟨.FLT_RING_CFG, 32, 32⟩
/-- R491: FLT_RING_STS written. -/
def FLT_RING_STS_written : Fld := ⟨.FLT_RING_STS, 0, 32⟩
/-- R491: FLT_RING_STS host_consumed. -/
def FLT_RING_STS_host_consumed : Fld := ⟨.FLT_RING_STS, 32, 32⟩
/-- R491: FLT_LOG_SEL index. -/
def FLT_LOG_SEL_index : Fld := ⟨.FLT_LOG_SEL, 0, 8⟩
/-- R491: FLT_LOG_DATA data. -/
def FLT_LOG_DATA_data : Fld := ⟨.FLT_LOG_DATA, 0, 64⟩
/-- R491: AGE_SEL die. -/
def AGE_SEL_die : Fld := ⟨.AGE_SEL, 0, 6⟩
/-- R491: AGE_STS off. -/
def AGE_STS_off : Fld := ⟨.AGE_STS, 0, 5⟩
/-- R491: AGE_STS thr. -/
def AGE_STS_thr : Fld := ⟨.AGE_STS, 8, 6⟩
/-- R491: AGE_STS s_min. -/
def AGE_STS_s_min : Fld := ⟨.AGE_STS, 16, 6⟩
/-- R491: AGE_STS slack. -/
def AGE_STS_slack : Fld := ⟨.AGE_STS, 24, 6⟩
/-- R491: AGE_STS limit. -/
def AGE_STS_limit : Fld := ⟨.AGE_STS, 30, 1⟩
/-- R491: AGE_STS ro_drift. -/
def AGE_STS_ro_drift : Fld := ⟨.AGE_STS, 32, 16⟩
/-- R491: AGE_PLAN generation. -/
def AGE_PLAN_generation : Fld := ⟨.AGE_PLAN, 0, 32⟩
/-- R491: AGE_PLAN changed. -/
def AGE_PLAN_changed : Fld := ⟨.AGE_PLAN, 32, 8⟩
/-- R491: AGE_PLAN at_limit. -/
def AGE_PLAN_at_limit : Fld := ⟨.AGE_PLAN, 40, 8⟩
/-- R491: AGE_LOG_SEL index. -/
def AGE_LOG_SEL_index : Fld := ⟨.AGE_LOG_SEL, 0, 18⟩
/-- R491: AGE_LOG_SEL part. -/
def AGE_LOG_SEL_part : Fld := ⟨.AGE_LOG_SEL, 18, 1⟩
/-- R491: AGE_LOG_SEL ready. -/
def AGE_LOG_SEL_ready : Fld := ⟨.AGE_LOG_SEL, 31, 1⟩
/-- R491: AGE_LOG_DATA data. -/
def AGE_LOG_DATA_data : Fld := ⟨.AGE_LOG_DATA, 0, 64⟩
/-- R491: SRM_STS ce_cnt. -/
def SRM_STS_ce_cnt : Fld := ⟨.SRM_STS, 0, 16⟩
/-- R491: SRM_STS ue_cnt. -/
def SRM_STS_ue_cnt : Fld := ⟨.SRM_STS, 16, 16⟩
/-- R491: SRM_STS granule. -/
def SRM_STS_granule : Fld := ⟨.SRM_STS, 32, 21⟩
/-- R491: SRM_STS word. -/
def SRM_STS_word : Fld := ⟨.SRM_STS, 53, 3⟩
/-- R491: SRM_STS last_ue. -/
def SRM_STS_last_ue : Fld := ⟨.SRM_STS, 56, 1⟩
/-- R512: SEC_STS owned. -/
def SEC_STS_owned : Fld := ⟨.SEC_STS, 0, 1⟩
/-- R512: SEC_STS uds_locked. -/
def SEC_STS_uds_locked : Fld := ⟨.SEC_STS, 1, 1⟩
/-- R512: SEC_STS consent. -/
def SEC_STS_consent : Fld := ⟨.SEC_STS, 2, 1⟩
/-- R512: SEC_STS peer_idle. -/
def SEC_STS_peer_idle : Fld := ⟨.SEC_STS, 3, 1⟩
/-- R512: SEC_STS revoked. -/
def SEC_STS_revoked : Fld := ⟨.SEC_STS, 8, 4⟩
/-- R512: SEC_STS key_gen. -/
def SEC_STS_key_gen : Fld := ⟨.SEC_STS, 32, 32⟩
/-- R512: SEC_EVT key_change. -/
def SEC_EVT_key_change : Fld := ⟨.SEC_EVT, 0, 1⟩
/-- R512: SEC_EVT mode_change. -/
def SEC_EVT_mode_change : Fld := ⟨.SEC_EVT, 1, 1⟩
/-- R512: SEC_EVT boot_verify. -/
def SEC_EVT_boot_verify : Fld := ⟨.SEC_EVT, 2, 1⟩
/-- R512: SEC_EVT store_err. -/
def SEC_EVT_store_err : Fld := ⟨.SEC_EVT, 3, 1⟩
/-- R512: SEC_EVT_CNT key_cnt. -/
def SEC_EVT_CNT_key_cnt : Fld := ⟨.SEC_EVT_CNT, 0, 16⟩
/-- R512: SEC_EVT_CNT mode_cnt. -/
def SEC_EVT_CNT_mode_cnt : Fld := ⟨.SEC_EVT_CNT, 16, 16⟩
/-- R512: SEC_EVT_CNT verify_cnt. -/
def SEC_EVT_CNT_verify_cnt : Fld := ⟨.SEC_EVT_CNT, 32, 16⟩
/-- R512: SEC_EVT_CNT store_cnt. -/
def SEC_EVT_CNT_store_cnt : Fld := ⟨.SEC_EVT_CNT, 48, 16⟩
/-- R512: SEC_MC min_sec_version. -/
def SEC_MC_min_sec_version : Fld := ⟨.SEC_MC, 0, 32⟩
/-- R512: SEC_MC mode_changes. -/
def SEC_MC_mode_changes : Fld := ⟨.SEC_MC, 32, 32⟩
/-- R512: SEC_FW_MEAS meas. -/
def SEC_FW_MEAS_meas : Fld := ⟨.SEC_FW_MEAS, 0, 64⟩
/-- R525: PWR_STS pkg_w. -/
def PWR_STS_pkg_w : Fld := ⟨.PWR_STS, 0, 16⟩
/-- R525: PWR_STS pkg_max_w. -/
def PWR_STS_pkg_max_w : Fld := ⟨.PWR_STS, 16, 16⟩
/-- R525: PWR_STS limit_w. -/
def PWR_STS_limit_w : Fld := ⟨.PWR_STS, 32, 16⟩
/-- R525: PWR_STS throttle. -/
def PWR_STS_throttle : Fld := ⟨.PWR_STS, 48, 1⟩
/-- R525: PWR_EVT power_limit. -/
def PWR_EVT_power_limit : Fld := ⟨.PWR_EVT, 0, 1⟩
/-- R525: PWR_EVT rail_fault. -/
def PWR_EVT_rail_fault : Fld := ⟨.PWR_EVT, 1, 1⟩
/-- R525: PWR_EVT temp_warn. -/
def PWR_EVT_temp_warn : Fld := ⟨.PWR_EVT, 2, 1⟩
/-- R525: PWR_EVT temp_shut. -/
def PWR_EVT_temp_shut : Fld := ⟨.PWR_EVT, 3, 1⟩
/-- R525: PWR_EVT_CNT limit_cnt. -/
def PWR_EVT_CNT_limit_cnt : Fld := ⟨.PWR_EVT_CNT, 0, 16⟩
/-- R525: PWR_EVT_CNT rail_cnt. -/
def PWR_EVT_CNT_rail_cnt : Fld := ⟨.PWR_EVT_CNT, 16, 16⟩
/-- R525: PWR_EVT_CNT warn_cnt. -/
def PWR_EVT_CNT_warn_cnt : Fld := ⟨.PWR_EVT_CNT, 32, 16⟩
/-- R525: PWR_EVT_CNT shut_cnt. -/
def PWR_EVT_CNT_shut_cnt : Fld := ⟨.PWR_EVT_CNT, 48, 16⟩
/-- R525: PWR_RAIL_SEL rail. -/
def PWR_RAIL_SEL_rail : Fld := ⟨.PWR_RAIL_SEL, 0, 4⟩
/-- R525: PWR_RAIL_STS mv. -/
def PWR_RAIL_STS_mv : Fld := ⟨.PWR_RAIL_STS, 0, 16⟩
/-- R525: PWR_RAIL_STS current. -/
def PWR_RAIL_STS_current : Fld := ⟨.PWR_RAIL_STS, 16, 16⟩
/-- R525: PWR_RAIL_STS min_mv. -/
def PWR_RAIL_STS_min_mv : Fld := ⟨.PWR_RAIL_STS, 32, 16⟩
/-- R525: PWR_RAIL_STS in_window. -/
def PWR_RAIL_STS_in_window : Fld := ⟨.PWR_RAIL_STS, 48, 1⟩
/-- R525: PWR_RAIL_STS faulted. -/
def PWR_RAIL_STS_faulted : Fld := ⟨.PWR_RAIL_STS, 49, 1⟩
/-- R525: PWR_TEMP_SEL unit. -/
def PWR_TEMP_SEL_unit : Fld := ⟨.PWR_TEMP_SEL, 0, 6⟩
/-- R525: PWR_TEMP_STS temp. -/
def PWR_TEMP_STS_temp : Fld := ⟨.PWR_TEMP_STS, 0, 12⟩
/-- R525: PWR_TEMP_STS temp_max. -/
def PWR_TEMP_STS_temp_max : Fld := ⟨.PWR_TEMP_STS, 12, 12⟩
/-- R525: PWR_TEMP_STS warn. -/
def PWR_TEMP_STS_warn : Fld := ⟨.PWR_TEMP_STS, 24, 8⟩
/-- R525: PWR_TEMP_STS shut. -/
def PWR_TEMP_STS_shut : Fld := ⟨.PWR_TEMP_STS, 32, 8⟩
/-- R525: PWR_TEMP_STS warn_active. -/
def PWR_TEMP_STS_warn_active : Fld := ⟨.PWR_TEMP_STS, 40, 1⟩

end F

end Sys2Proof.Machine
end

