-- ==== Sys2Proof/Machine/Types.lean ====
section
/-! DEFINITION. The records State is made of: bridges, cores, gather engines, memory, orbit image and placement,
fault records, and what leaves the part. Each field names the rule that gives the machine that state. -/

namespace Sys2Proof.Machine

/-! ### Engines (04) -/

/-- The two planes of execution (05 R162). -/
inductive Plane where
  | free | sched
deriving DecidableEq, Repr

/-- The engine-fault causes of R116. -/
inductive EngCause where
  | illegalInstr | addrRange | align | operandRegion | accType | issueConflict | semShort | queueFull
  | dataCheck | loopDepth
deriving DecidableEq, Repr

/-- The code ENG_FAULT records (R116). -/
def EngCause.code : EngCause → Nat
  | .illegalInstr => 1
  | .addrRange => 2
  | .align => 3
  | .operandRegion => 4
  | .accType => 5
  | .issueConflict => 6
  | .semShort => 7
  | .queueFull => 8
  | .dataCheck => 9
  | .loopDepth => 10

/-- One open LOOP of a stream: body indices [first, last], iterations in all and the present one (R117, R121). -/
structure LoopFrame where
  first : Nat
  last : Nat
  count : Nat
  iter : Nat
deriving DecidableEq, Repr

/-- The scopes of FENCE (R117, R219). -/
inductive Scope where
  | core | dev | sys
deriving DecidableEq, Repr

/-- A fence that its stream waits at (R218–R225): its scope, the transfers it covers, the sequence number it awaits from
each destination package, its issue tick, whether it has timed out (R225), and whether requests it waits on were lost
(R362, R366). -/
structure Fence where
  scope : Scope
  transfers : List Nat
  targets : List (Nat × Nat)
  issued : Nat
  timedOut : Bool
  lost : Bool := false
deriving DecidableEq, Repr

/-- What a stream is doing (R111, R117, R116, R173, R225). -/
inductive Status where
  | idle
  | running
  | waitSem (sem n : Nat)
  | waitFence (f : Fence)
  | passDone
  | faulted
deriving DecidableEq, Repr

/-- One engine's instruction stream (R111, R173). `tick` is the issue tick of the last instruction issued (or the
base its successor's delta counts from), `busy` the tick from which the engine may issue again (R158). -/
structure Stream where
  plane : Plane := .free
  early : Bool := false
  start : Nat := 0
  instrs : List InstrWord := []
  pc : Nat := 0
  loops : List LoopFrame := []
  status : Status := .idle
  issuedOne : Bool := false
  tick : Nat := 0
  busy : Nat := 0
deriving DecidableEq, Repr

/-- A row checksum of an accumulator bank and its valid bit (R133). -/
structure RowSum where
  sum : BitVec 32
  valid : Bool
deriving DecidableEq, Repr

/-- A checksum latch CK[l] (R135). -/
structure CkLatch where
  sum : BitVec 32
  valid : Bool
  bank : Bool
  row : Nat
deriving DecidableEq, Repr

/-- A transfer the DMX holds (R144, R147): its 512-bit descriptor, the plane and index of the DXFER, and its issue tick;
`next` counts the granules passed to their destinations so far, in the order of R145; `held` the granules read and not
yet passed; `asked` those whose read an HBM controller has queued; `out` the HBM writes not yet performed; `fail` the
first granule that failed (R150). -/
structure Transfer where
  id : Nat
  desc : BitVec 512
  plane : Plane
  index : Nat
  issued : Nat
  next : Nat := 0
  held : Tab (Option (Gran × BitVec 16)) := []
  asked : List Nat := []
  out : Nat := 0
  fail : Option Nat := none
deriving DecidableEq, Repr

/-- A part of an instruction's result, which becomes visible at its latency (R112, R158). -/
inductive Effect where
  | sreg (d : Nat) (v : BitVec 32)
  | areg (d : Nat) (v : BitVec 64)
  | vreg (d : Nat) (v : VReg)
  | vhalf (d : Nat) (hi : Bool) (v : BitVec 4096)
  | accRows (bank : Bool) (row : Nat) (rows : List VReg)
  | accTag (bank : Bool) (int : Bool)
  | rowSums (bank : Bool) (row : Nat) (sums : List RowSum)
  | latch (l : Nat) (v : CkLatch)
  | semAdd (sem n : Nat)
  | semSub (sem n : Nat)
  | writeGran (addr : Nat) (data : Gran) (check : BitVec 16)
  | writeBytes (addr : Nat) (bytes : List Byte)
  | chkFail (bank : Bool) (row ratio : Nat)
  | launch (gx : Nat) (script : List InstrWord) (args nth sem : Nat) (semEn : Bool)
deriving DecidableEq, Repr

/-- A result under way: the engine and instruction index it belongs to, the tick its latency ends, and its effects. -/
structure Pend where
  eng : Eng
  index : Nat
  due : Nat
  effects : List Effect
deriving DecidableEq, Repr

/-- A logical core (R104): registers, accumulator banks with their checksums and type tags, checksum latches,
semaphores with the signals arriving and not yet counted (R119), the four streams, results under way and the DMX's
transfers. -/
structure Core where
  sregs : Tab (BitVec 32) := []
  aregs : Tab (BitVec 64) := []
  vregs : Tab VReg := []
  acc : Tab VReg := []
  accInt0 : Bool := false
  accInt1 : Bool := false
  sums : Tab RowSum := []
  cks : Tab CkLatch := []
  sems : Tab Nat := []
  arriving : List (Nat × Nat) := []
  scu : Stream := {}
  mxe : Stream := {}
  vxe : Stream := {}
  dmx : Stream := {}
  pends : List Pend := []
  transfers : List Transfer := []
  nextTransfer : Nat := 0
deriving DecidableEq, Repr

/-! ### Gather engines (04 R152–R157) -/

/-- A narrow access outstanding: what it will do when answered (R154, R155, R229). -/
inductive NarrowOp where
  | load (boff size : Nat)
  | loadReg (td : Nat)
  | store (bytes : List Byte)
  | atomic (op : Nat) (w8 : Bool) (v c : Nat) (td : Nat)
deriving DecidableEq, Repr

/-- What came of a narrow access: the bytes read or the old value, or the cause of its failure (R116, R157). -/
inductive Answer where
  | value (v : Nat)
  | failed (cause : EngCause)
deriving DecidableEq, Repr

/-- A thread's outstanding narrow access: effective address, size in bytes and operation; `away` once it was sent to
an HBM narrow queue, another package or a far device, the answer that has come back from there, and its issue tick. -/
structure Narrow where
  addr : Nat
  size : Nat
  op : NarrowOp
  away : Bool
  answer : Option Answer
  issued : Nat := 0
deriving DecidableEq, Repr

/-- A gather thread (R153): its launch, index, registers T0–T7, 64-byte buffer, script position and access. -/
structure Thread where
  launch : Nat
  index : Nat
  regs : Tab (BitVec 64)
  buf : Gran
  pc : Nat
  access : Option Narrow
deriving DecidableEq, Repr

/-- A launch (R152, R153): the launching core, script, argument table, thread count, completion semaphore, threads
started and ended, and whether one failed (R157). -/
structure Launch where
  id : Nat
  core : Nat
  script : List InstrWord
  args : Nat
  nth : Nat
  sem : Nat
  semEn : Bool
  started : Nat
  ended : Nat
  failed : Bool
deriving DecidableEq, Repr

/-- A gather engine: its launches in launch order and its running threads by slot. -/
structure Gather where
  launches : List Launch := []
  threads : List Thread := []
  nextLaunch : Nat := 0
deriving DecidableEq, Repr

/-! ### Die bridges (01) -/

/-- A granule in a beat: plane bit, 24-bit route tag, data and carried check (R15). -/
structure BeatGran where
  sched : Bool
  tag : BitVec 24
  data : Gran
  check : BitVec 16
deriving DecidableEq, Repr

/-- A sent beat kept in the retry buffer (R19). -/
structure SentBeat where
  seq : Nat
  grans : List BeatGran
deriving DecidableEq, Repr

/-- What a wire test found of one group on a side's receive direction (R22, R43 BRG_GROUP_STS). -/
structure GroupSts where
  good : Bool
  bad : Nat
  pos0 : Nat
  pos1 : Nat
deriving DecidableEq, Repr

/-- One side of a bridge (R19–R33): retry buffer, next send seq, the seq accepted next, whether beats are discarded
until a replay, beats waiting to be sent, the ticks of recent bcrc failures (R21), the groups found by the last wire
test, the receive mask, whether training is the short one, whether the pair was set by a training since reset, and the
count of degraded events (BRG_GROUP_STS degraded_cnt). -/
structure Side where
  retry : List SentBeat := []
  resend : List SentBeat := []
  sendSeq : Nat := 0
  expect : Nat := 0
  ackVld : Bool := false
  awaitReplay : Bool := false
  queue : List BeatGran := []
  failTicks : List Nat := []
  groups : Tab GroupSts := []
  goodMask : BitVec 64 := BitVec.allOnes 64
  short : Bool := false
  degradedCnt : Nat := 0
deriving DecidableEq, Repr

/-! ### Memory (07, 13 R464) -/

/-- The side word of an SRAM granule and the bits in error of its stored code words (R464): carried check, poison, and
one error bit per stored bit (eight 72-bit words, then the 24-bit side word). -/
structure SramSide where
  check : BitVec 16
  poison : Bool
  err : BitVec 600
deriving DecidableEq, Repr

/-- A request in a narrow queue of a pseudo-channel (R272): its arrival number in the channel, the thread it answers, its
address and physical granule, size and operation. -/
structure NarrowReq where
  arr : Nat
  gx : Nat
  launch : Nat
  index : Nat
  part : Nat
  addr : Nat
  phys : Nat
  size : Nat
  op : NarrowOp
deriving DecidableEq, Repr

/-- A granule request of a transfer in a wide or scheduled queue (R253, R254): its arrival number in the channel, the
transfer and granule, address and physical granule, and the granule to write, if it writes. -/
structure WideReq where
  arr : Nat
  core : Nat
  id : Nat
  gran : Nat
  part : Nat
  addr : Nat
  phys : Nat
  write : Option (Gran × BitVec 16)
deriving DecidableEq, Repr

/-- A line buffer entry: physical granule, corrected data and selected check (R273); most recently used first. -/
structure LineBuf where
  phys : Nat
  data : Gran
  check : BitVec 16
deriving DecidableEq, Repr

/-- A traffic generator at work (R281): its settings at start, and the channel's mode before the test. -/
structure Mtg where
  ctl : Nat
  limit : Nat
  seed : Nat
  mode : Nat
deriving DecidableEq, Repr

/-- One HBM channel (R252–R282): the scheduled, wide and narrow queues and line buffers of its two pseudo-channels, the
arrival number the next request takes, whether a ceiling passed makes it refresh autonomously (R263), queued rewrites (R269),
last refresh tick by bank (pc × 16 + bank), the generator under way, and its PHY eye in % of UI, last and narrowest of the day
(R485). -/
structure Chan where
  ceiling : Bool := false
  nextArr : Nat := 0
  sched0 : List WideReq := []
  sched1 : List WideReq := []
  wide0 : List WideReq := []
  wide1 : List WideReq := []
  narrow0 : List NarrowReq := []
  narrow1 : List NarrowReq := []
  lines0 : List LineBuf := []
  lines1 : List LineBuf := []
  rewrites : List Nat := []
  lastRef : Tab Nat := []
  mtg : Option Mtg := none
  eye : Option Nat := none
  eyeLow : Option Nat := none
deriving DecidableEq, Repr

/-! ### Orbit image and placement (05) -/

/-- A STREAM section (R173). -/
structure ImgStream where
  lc : Nat
  eng : Eng
  start : Nat
  plane : Plane
  early : Bool
  instrs : List InstrWord
deriving DecidableEq, Repr

/-- A LINK_SLOTS entry of a port (R175). -/
structure LinkSlot where
  port : Nat
  first : Nat
  count : Nat
  recv : Bool
  unit : Nat
deriving DecidableEq, Repr

/-- A REFRESH section (R260). -/
structure RefreshSec where
  chan : Nat
  hot : Bool
  slots : List (Nat × Nat × Nat)
deriving DecidableEq, Repr

/-- A landing buffer (R178). -/
structure Landing where
  base : Nat
  size : Nat
  expected : Nat
  opn : Nat
  deadline : Nat
deriving DecidableEq, Repr

/-- A forecast bin (R197). -/
structure Forecast where
  tileW : List Nat
  oeW : List Nat
  hbmW : Nat
  totalW : Nat
deriving DecidableEq, Repr

/-- The loaded orbit image: header fields (R170), hashes, and the sections that apply to this member (R171, R172). -/
structure Image where
  fl : Nat
  divisor : Nat
  length : Nat
  orbits : Nat
  members : Nat
  horizon : Nat
  hop : Nat
  build : Nat
  hash : List Byte
  plcHash : List Byte
  streams : List ImgStream
  slots : List LinkSlot
  budgets : List Nat
  refresh : List RefreshSec
  landing : List Landing
  forecast : List Forecast
  groups : List Byte
  data : List (Nat × List Byte)
deriving DecidableEq, Repr

/-- A port entry of a member record (R167). -/
structure PortEntry where
  nbrPix : Nat
  nbrPort : Nat
  dir : Nat
deriving DecidableEq, Repr

/-- A member record of the placement table (R167). -/
structure Member where
  pix : Nat
  x : Nat
  y : Nat
  z : Nat
  upstream : Nat
  serial : Nat
  ports : List PortEntry
deriving DecidableEq, Repr

/-- The placement table in force (R166–R169) and this package's own PIX in it. -/
structure Placement where
  topology : Nat
  dimX : Nat
  dimY : Nat
  dimZ : Nat
  master : Nat
  own : Nat
  members : List Member
  hash : List Byte
  diameter : Nat
deriving DecidableEq, Repr

/-- A control notice (R190). -/
structure Notice where
  origin : Nat
  kind : Nat
  code : Nat
  a : Nat
  b : Nat
  orbit : Nat
deriving DecidableEq, Repr

/-! ### Faults (13) -/

/-- An event raised for the fault log (R470, R472), not yet a numbered record. -/
structure Raised where
  cls : Nat
  kind : Nat
  unit : Nat
  die : Nat
  eid : Nat
  gtc : Nat
  orbit : Nat
  addr : Nat
  info0 : Nat
  info1 : Nat
  count : Nat
  recovery : Bool
  changed : Bool
deriving DecidableEq, Repr

/-- A fault record in the internal log (R470): its 64 bytes without the ring phase, and whether it has been written to
the fault ring. -/
structure Logged where
  seq : Nat
  cls : Nat
  bytes : List Byte
  written : Bool
deriving DecidableEq, Repr

/-- An in-flight list entry (R457). -/
structure InFlight where
  kind : Nat
  unit : Nat
  pix : Nat
  granules : Nat
  addr : Nat
  issued : Nat
  seq : Nat
deriving DecidableEq, Repr

/-! ### Fuses and flash (12 R446, 13 R487, 14) -/

/-- An ageing-log entry (R487), without its CRC. -/
structure AgeEntry where
  type : Nat
  unitKind : Nat
  unit : Nat
  day : Nat
  value0 : Nat
  value1 : Nat
deriving DecidableEq, Repr

/-- One half's flash (R446): boot record, firmware slots (empty: marked empty, R449), configuration record, heater tables
and ageing log; whether the slot that is not active holds an image that FW_STAGE verified (FW_STS staged); and the comet taps
it holds by port, as OE_FIB_COMET words (R436). -/
structure Flash where
  active : Nat := 0
  trial : Bool := false
  attempts : Nat := 0
  bootSeq : Nat := 0
  slotA : List Byte := []
  slotB : List Byte := []
  config : List Byte := []
  heaters : Tab (BitVec 16) := []
  perm : List AgeEntry := []
  trend : List AgeEntry := []
  staged : Bool := false
  taps : Tab Nat := []
deriving DecidableEq, Repr

/-- What is fused (R37, R40, R43, R488, 14): serial, grade, and by die its stepping, feature level, bad cores and
margin threshold; root key hashes and their revocation bits; the unique device secret and the DeviceID certificate (R493). -/
structure Fuses where
  serial : BitVec 64 := 0
  gradeX : Bool := false
  stepping : Tab Nat := []
  fl : Tab Nat := []
  fusedBad : Tab Nat := []
  thr : Tab Nat := []
  rootKeys : List (List Byte) := []
  revoked : Nat := 0
  uds : Nat := 0
  devCert : List Byte := []
deriving DecidableEq, Repr

/-- A die's ageing monitors and margin plan (R485–R489): offset code, lowest slack since the last re-plan (none without a
sample), lowest slack of the last second, whether the plan is at its limit, oscillator drift in 10 ppm as a 16-bit field; and of
the present day the sum and number of the drift samples and the lowest slack. -/
structure Die where
  off : Nat := 0
  sMin : Option Nat := none
  slack : Nat := 0
  limit : Bool := false
  drift : Nat := 0
  driftSum : Int := 0
  driftN : Nat := 0
  dayLow : Option Nat := none
deriving DecidableEq, Repr

/-! ### Management (11 R405, 12 R447, 14, 15) -/

/-- An I3C target (R405): the levels of its lands I3C_SA1 and I3C_SA0 (R521), its dynamic address, and what the next private read
returns. -/
structure I3c where
  sa : BitVec 2 := 0
  dyn : Option Nat := none
  value : Word := 0
  status : Nat := 0
deriving DecidableEq, Repr

/-- A firmware image that was verified: the header fields that matter later, and its measurement (R496, R497). -/
structure Firmware where
  keyIndex : Nat
  raise : Bool
  revoke : Nat
  sec : Nat
  build : Nat
  meas : List Byte
deriving DecidableEq, Repr

/-- One half's MGP (R436, R447): the slot its boot ROM has chosen (0 A, 1 B, 2 network, 3 held in SRAM), whether it has
already turned to the other slot, the firmware verified and running, and how far its boot has come: 0 ROM, 1 loading, 2 the held
image named, 3 Mafin, 7 hold. -/
structure Mgp where
  stage : Nat := 0
  slot : Nat := 0
  second : Bool := false
  fw : Option Firmware := none
deriving DecidableEq, Repr

/-- The secure store (R494, R504): the two command-key slots, MC0 as each half's store holds it, MC1–MC5, and East's merge
consent (R509). -/
structure Vault where
  key0 : Option (List Byte) := none
  key1 : Option (List Byte) := none
  mc0W : Nat := 0
  mc0E : Nat := 0
  mc1 : Nat := 0
  mc2 : Nat := 0
  mc3 : Nat := 0
  mc4 : Nat := 0
  mc5 : Nat := 0
  consent : Bool := false
deriving DecidableEq, Repr

/-- A rail (R515, R525): voltage and current last measured, the lowest voltage since cold or warm reset, whether it is in its
window, and whether it has had a rail fault. -/
structure Rail where
  mv : Nat := 0
  amps : Nat := 0
  minMv : Nat := 0xFFFF
  inWin : Bool := false
  faulted : Bool := false
deriving DecidableEq, Repr

/-- A sensor (R524, R525): temperature, the highest since cold or warm reset (1/16 °C), and whether the warning stands
(R468). -/
structure Temp where
  now : Nat := 0
  max : Nat := 0
  warn : Bool := false
deriving DecidableEq, Repr

/-- A SWAP_CORE in progress (R479): logical core, the physical core it leaves, the spare, and how far it has come: 0 the spare's
self-test, 1 the map written, 2 the tile released. -/
structure Swap where
  core : Nat
  old : Nat
  spare : Nat
  phase : Nat
deriving DecidableEq, Repr

/-! ### Requests between packages (09 R356–R362) -/

/-- A free-plane packet: the fields of the 64-byte header (R356) and its data granules with their carried checks. -/
structure Packet where
  op : Nat
  flags : Nat
  granules : Nat
  srcEid : Nat
  aop : Nat
  addr : Nat
  seq : Nat
  srcSession : Nat
  dstSession : Nat
  launch : Nat
  bytes : Nat
  tag : Nat
  opv : Nat
  opc : Nat
  aux : Nat
  data : List (Gran × BitVec 16)
deriving DecidableEq, Repr

/-- A scheduled frame queued for a send slot (R176, R334, R339): sending UNIT and port, destination PIX, UNIT and granule
index, its one or two granules, and the transfer it belongs to. -/
structure VcFrame where
  unit : Nat
  port : Nat
  dstPix : Nat
  dstUnit : Nat
  gidx : Nat
  data : List (Gran × BitVec 16)
  owner : Option (Nat × Nat)
deriving DecidableEq, Repr

/-- A host control connection (R401, R402): whether it is established, its service port, the host's queue pair and the
R_Keys of its two regions. -/
structure HostConn where
  up : Bool
  sp : Nat
  hostQpn : Nat
  regKey : Nat := 0
  dbKey : Nat := 0
deriving DecidableEq, Repr

/-- Who waits for a response: a gather thread, a DMX transfer, or nobody (R357). -/
inductive Waiter where
  | thread (gx launch index : Nat)
  | transfer (core id gran : Nat)
  | none
deriving DecidableEq, Repr

/-- A request that awaits a response by its tag (R357): to a package (its PIX), a far device (1,024 + entry), or host
memory through connection c (8,192 + c). -/
structure Await where
  tag : Nat
  pix : Nat
  who : Waiter
  packet : Packet
deriving DecidableEq, Repr

/-- The sending side of a destination package's sequence (R222, R357, R361): requests not acknowledged, and those lost at a NAK
STALE or a failed queue pair (R362, R366). -/
structure E2eOut where
  issued : Nat := 0
  acked : Nat := 0
  unacked : List Packet := []
  lost : List Packet := []
  session : Nat := 0
  sync : Bool := true
deriving DecidableEq, Repr

/-- The receiving side of a source package's sequence (R358–R360): its session, the highest performed and the value last
acknowledged, the reorder window, the responses of its last 256 atomics, and the tags of its last 256 multicasts (R352). -/
structure E2eIn where
  session : Nat := 0
  performed : Nat := 0
  ackSent : Nat := 0
  window : List Packet := []
  atomics : List (Nat × Nat) := []
  mcTags : List Nat := []
deriving DecidableEq, Repr

/-! ### Tensor ports and optical engines (08, 09) -/

/-- A ring (R288, R297–R304): its state code, applied heater code, fast-loop trim, cluster sensor reading, consecutive
failed sweeps, consecutive updates at the unlock condition (R301); the sweep under way: whether it is full, steps taken,
best response and its code (R298); the trim statistics of the present second (R304); and the shift the day's last recalibration
found (R485). -/
structure Ring where
  state : Nat := 0
  code : Nat := 0
  trim : Int := 0
  temp : Nat := 0
  failed : Nat := 0
  bad : Nat := 0
  full : Bool := true
  step : Nat := 0
  best : Nat := 0
  bestCode : Nat := 0
  driftSum : Nat := 0
  driftN : Nat := 0
  shift : Option Int := none
deriving DecidableEq, Repr

/-- A receive wavelength (R292, R309, R310): its last ten samples (newest first, 0.1 dB), the sum and count of the present
second, the last ten one-second sums and counts, its conditions; and for the transmit direction, the margin the far end
last reported and the attenuation set (R308); the lowest one-second mean of the day (R485). -/
structure Wave where
  samples : List Int := []
  secSum : Int := 0
  secN : Nat := 0
  means : List (Int × Nat) := []
  warn : Bool := false
  hand : Bool := false
  loss : Bool := false
  far : Int := -128
  atten : Nat := 0
  dayLow : Option Int := none
deriving DecidableEq, Repr

/-- A handover of a logical lane on the receiving side (R311, R313, R314): `stage` 0 asked, 1 mirrored and checked, 2
switch frame named; the frame M or S; whether it is the retry; whether it runs in reverse. -/
structure Handover where
  lane : Nat
  stage : Nat
  frame : Nat
  retried : Bool
  back : Bool
deriving DecidableEq, Repr

/-- A free-plane frame waiting to launch, its lseq and lack still 0 (R334, R340), and the port whose buffer it came from
(R341). -/
structure FreeFrame where
  bits : BitVec 1152
  src : Option Nat
deriving DecidableEq, Repr

/-- A tensor port (02 R56–R66, 08, 09): timing words (last times received; delays and offsets in 1/512 tick, newest
first), frame counts since training, elastic buffer by receive slot, error windows (R331, R332), link sequence and
retry buffer (R340), credits out and owed by class (R341), queues, where a packet being received goes (by
class), identity records, wavelengths, handover; of the transmit direction the lane map, the lane to mirror and the frame of the
switch (R311), whether its moon passed its last test (R312); restripes named (R316), moon tests under way, whether training
began with a full sweep (R330), whether a RESTORE is to be judged at its end (R316), whether its transmitter is lit and
whether it is held dark (R423, R483), and probing (R322). -/
structure Port where
  heard : Bool := false
  lastRx : Nat := 0
  lastArr : Nat := 0
  delays : List Int := []
  thetas : List Int := []
  low : Bool := false
  rxFrames : Nat := 0
  txFrames : Nat := 0
  elastic : List (Nat × BitVec 1152) := []
  badAt : List Nat := []
  badRun : Nat := 0
  lseq : Nat := 0
  lexp : Nat := 0
  lackVld : Bool := false
  awaitReplay : Bool := false
  retry : List (Nat × BitVec 1152) := []
  resend : List (Nat × BitVec 1152) := []
  freeq : List FreeFrame := []
  outCls : Tab Nat := []
  owed : Tab Nat := []
  fwd : Tab Nat := []
  mgmt : List (BitVec 128) := []
  frags : Tab (List Byte) := []
  pir : List Byte := []
  sent : List Byte := []
  waves : Tab Wave := []
  hand : Option Handover := none
  txLane : Nat := 0x1F
  txLanes : Nat := 0
  txExcl0 : Nat := 0x1F
  txExcl1 : Nat := 0x1F
  mirror : Option Nat := none
  rxStripe : Option (Nat × Nat) := none
  txStripe : Option (Nat × Nat) := none
  testing : Bool := false
  moonOut : Bool := false
  txSwitch : Option Nat := none
  txMoon : Bool := false
  fullTrain : Bool := true
  restore : Bool := false
  lit : Bool := false
  dark : Bool := false
  lastProbe : Option Nat := none
deriving DecidableEq, Repr

/-- An optical engine (08): whether each laser input is enabled and has failed, the primary's reference power in 0.01 dBm
(R294), the two stages of the thermal model as FP32 codes and the forecast power in effect (R300), the fibres whose
recalibration pass is not ended and those it ended (R303, R305). -/
structure Oe where
  priOn : Bool := false
  sbyOn : Bool := false
  priFail : Bool := false
  sbyFail : Bool := false
  ready : Bool := false
  refPwr : Int := 0
  modelM : Nat := 0
  modelS : Nat := 0
  watts : Nat := 0
  recal : List Nat := []
  recalled : List Nat := []
deriving DecidableEq, Repr

/-! ### Collective engines (10) -/

/-- A group's state on its engine (R386, R396–R398): 0 empty, 1 READY, 2 BROKEN; the cause that broke it; sequence numbers
of the last operation fired, completed and aborted. -/
structure CollGroup where
  state : Nat := 0
  cause : Nat := 0
  fired : Nat := 0
  completed : Nat := 0
  aborted : Nat := 0
deriving DecidableEq, Repr

/-- A segment or comet message on its way (R388, R391): the neighbour, operation, segment, phase byte (phase, axis, arm),
wire type and data. -/
structure CollMsg where
  pix : Nat
  gid : Nat
  seq : Nat
  tag : Nat
  segment : Nat
  phase : Nat
  wtype : Nat
  data : List (Gran × BitVec 16)
deriving DecidableEq, Repr

/-- A segment of an operation on this member (R377, R378, R389, R390): the partial it has formed, the axis it waits for (as
an index into the masked axes), what the arms have brought (by
2 × axis + arm), whether its partial has left toward the root, whether its
result is written, and granules that scheduled frames have brought, by phase byte × 128 + granule. -/
structure CollSeg where
  value : Option (List (BitVec 32)) := none
  axis : Nat := 0
  arms : Tab (Option (List (BitVec 32))) := []
  sent : Bool := false
  written : Bool := false
  parts : Tab (Option (Gran × BitVec 16)) := []
deriving DecidableEq, Repr

/-- A fired operation (R384–R390): its descriptor, group, sequence, tick of its last segment and of its firing; its segments; the messages
that wait for credits; and by stream (phase byte) credits out and segments accepted. -/
structure CollOp where
  desc : BitVec 512
  gid : Nat
  seq : Nat
  last : Nat
  issued : Nat := 0
  segs : Tab CollSeg := []
  outq : List CollMsg := []
  spent : Tab Nat := []
  accepted : Tab Nat := []
deriving DecidableEq, Repr

/-- A collective engine (R369, R381): group states, consumed count, descriptors that wait for their counter, fired
operations, data that came before its operation fired (R387), comet messages that wait for a slot, the destinations of aborted
operations (R457 kind 5), and comet messages already taken (R393). -/
structure CollEng where
  groups : Tab CollGroup := []
  consumed : Nat := 0
  waiting : List (BitVec 512) := []
  ops : List CollOp := []
  early : List CollMsg := []
  comets : List CollMsg := []
  undone : List InFlight := []
  taken : List (Nat × Nat × Nat × Nat) := []
deriving DecidableEq, Repr

end Sys2Proof.Machine
end

