-- ==== Sys2Proof/Machine/State.lean ====
section
/-! DEFINITION. The state of the RDN-4820 (plain data): every register of the set-up window, every memory, queue, buffer,
counter, mode and pin the spec names, and the queue of waiting commands. -/

namespace Sys2Proof.Machine

/-- Why the machine would stop with a fault. No meaning of this model raises it: every error the spec describes (an
engine fault, a slip, a quarantine, a refused command) is a next state. -/
inductive Fault where
  /-- Never raised (safe: a machine that never stops hides no error). -/
  | none
deriving DecidableEq, Repr

/-- Why a command has no effect here. -/
inductive Refusal where
  /-- An arm of exec whose meaning is not written. -/
  | notModelled (mnemonic : String)
  /-- The command names an event that the part is not in a position to have: a completion of something not in progress,
  an instruction that is not the next one of its stream, a unit that is absent. Raised by the meanings; safe, because
  the spec gives no such event. -/
  | notEnabled (why : String)
deriving DecidableEq, Repr


/-- The partition states of R416. -/
inductive PState where
  | cold | booting | idle | loaded | armed | running | halted | faulted | quarantined
deriving DecidableEq, Repr

/-- The code HIF_STS shows (R416). -/
def PState.code : PState → Nat
  | .cold => 0
  | .booting => 1
  | .idle => 2
  | .loaded => 3
  | .armed => 4
  | .running => 5
  | .halted => 6
  | .faulted => 7
  | .quarantined => 8

/-- The freeze a member holds (R191–R196). -/
structure Freeze where
  tf : Nat
  td : Nat
  cause : Nat
  origin : Nat
  isLocal : Bool
  late : Bool
  launched : Bool
  frozen : Bool
deriving DecidableEq, Repr

/-- Where a command came from (R406, R407). -/
inductive CmdSrc where
  | ring (r : Fin 64)
  | mailbox
deriving DecidableEq, Repr

/-- A started host command (R418): its descriptor and extension, whether its checks have passed, and how far a command
of several steps has come; whether its record is discarded (R412), and whether it came through the mailbox from the I3C path
(R502). -/
structure OpenCmd where
  src : CmdSrc
  desc : List Byte
  ext : List Byte
  checked : Bool
  stage : Nat
  note : Nat
  orphan : Bool
  i3c : Bool := false
deriving DecidableEq, Repr

/-- A completion record (R414) on its way to its completion ring. -/
structure CplRec where
  cq : Nat
  ring : Nat
  entry : Nat
  opcode : Nat
  cmdId : Nat
  status : Nat
  detail : Nat
  state : Nat
  res0 : Nat
  res1 : Nat
  stop : Bool
deriving DecidableEq, Repr

/-- One partition: its partial resets in progress as kind and unit (R443, R445), its core swap (R479), its Alias private key and
certificate (R499, R505), whether an ageing-log entry is being fetched (R492), whether it runs no sequence because its straps
were refused (R434), whether its boot zero-fills SRAM and HBM (R436, R509) and whether a zero-fill runs (R271), when records of a
class, kind and unit were last sent (R472); its state machine (R416), group tick counter (R54), alignment (R59–R61), image, placement and run
(05), freeze (R191), control slot and commands (11), fault log (13), and its end-to-end request state (09): awaited
answers, multicasts sent and not yet acknowledged by every package (R352), send rates of its far-device queue pairs in
2^-32 of the line rate (R364). -/
structure Part where
  state : PState := .cold
  gtc : Nat := 0
  rootTrim : Int := 0
  goodMeans : Nat := 0
  exchanges : Nat := 0
  loadThetas : List Int := []
  linksHeld : Bool := false
  image : Option Image := none
  placement : Option Placement := none
  t0 : Option Nat := none
  stopAt : Option Nat := none
  lateStart : Bool := false
  orbit : Nat := 0
  conj : Nat := 0
  freeze : Option Freeze := none
  ownFault : Bool := false
  seen : List (Nat × Nat × Nat × Nat) := []
  ready : List Nat := []
  armed : Bool := false
  landOpen : List Nat := []
  fcastNow : Option Nat := none
  inflight : List InFlight := []
  missed : List InFlight := []
  raised : List Raised := []
  log : List Logged := []
  lost : Nat := 0
  fetched : Tab (List (List Byte)) := []
  opens : List OpenCmd := []
  slotHolder : Option CmdSrc := none
  slotWait : List CmdSrc := []
  records : List CplRec := []
  routes : Tab Nat := []
  e2eOut : Tab E2eOut := []
  e2eIn : Tab E2eIn := []
  awaits : List Await := []
  mcOut : List (Packet × List Nat) := []
  rates : Tab Nat := []
  nextTag : Nat := 0
  far : Tab (BitVec 256) := []
  windows : Tab (BitVec 256) := []
  conns : Tab HostConn := []
  sendq : List VcFrame := []
  session : Nat := 0
  memKey : Nat := 0
  resets : List (Nat × Nat) := []
  swap : Option Swap := none
  aliasKey : Nat := 0
  aliasCert : List Byte := []
  ageSel : Bool := false
  stopped : Bool := false
  wipe : Bool := false
  filling : Bool := false
  sentAt : List (Nat × Nat × Nat × Nat) := []
deriving DecidableEq, Repr

/-- What leaves the part: appended to `out`, the model's own record of the outputs a command caused. -/
inductive Emit where
  | beat (b side : Nat) (header : BitVec 256) (body : BitVec 3696)
  | bridgeRetrain (b side : Nat)
  | bridgeReplay (b side seq : Nat)
  | bridgeDeliver (b side : Nat) (gran : BeatGran)
  | packet (p pix : Nat) (pkt : Packet)
  | notice (p : Nat) (ports : List Nat) (n : Notice)
  | roce (p entry : Nat) (pkt : Packet)
  | hostRead (p conn rkey addr len : Nat)
  | hostWrite (p conn rkey addr : Nat) (data : List Byte)
  | frame (port : Nat) (f : BitVec 1152)
  | freeFrame (port : Nat) (f : BitVec 1152)
  | message (port : Nat) (m : BitVec 128)
  | linkReplay (port seq : Nat)
  | comet (ports : List Nat) (slot : BitVec 576)
  | cometNotice (port : Nat) (payload : BitVec 256)
  | regValue (p off : Nat) (v : Word)
  | roceAck (p qp : Nat)
  | roceNak (p qp code : Nat)
  | roceData (p qp : Nat) (data : List Byte)
  | roceAtomic (p qp old : Nat)
  | roceSend (p qp : Nat) (pkt : Packet)
  | cmRep (sp p conn regKey dbKey : Nat)
  | cmRej (sp : Nat)
  | arpReply (sp ip : Nat)
  | neighbourAdvert (sp : Nat) (ip : Nat)
  | echoReply (sp ip : Nat) (data : List Byte)
  | i3cAnswer (half : Nat) (v : Word) (status crc : Nat)
  | seam (half : Nat) (idle consent : Bool)
deriving DecidableEq, Repr

/-- The state of the package. -/
structure State where
  twoPart : Bool := false
  straps : BitVec 8 := 0
  regs : Tab Word := []
  mem : List Host.Cell := []
  sram : Tab SramSide := []
  hbmSide : Tab (BitVec 128) := []
  hbmUsed : Tab Bool := []
  sides : Tab Side := []
  cores : Tab Core := []
  gathers : Tab Gather := []
  chans : Tab Chan := []
  ports : Tab Port := []
  oes : Tab Oe := []
  colls : Tab CollEng := []
  rings : Tab Ring := []
  heaters : Tab (BitVec 16) := []
  dies : Tab Die := []
  preBias : Tab Nat := []
  pfc : Tab Nat := []
  routers : Tab (BitVec 128) := []
  sramFix : Tab (List Nat) := []
  ueTicks : Tab (List Nat) := []
  held : List Nat := []
  fuses : Fuses := {}
  flash0 : Flash := {}
  flash1 : Flash := {}
  mgp0 : Mgp := {}
  mgp1 : Mgp := {}
  vault : Vault := {}
  i3c0 : I3c := {}
  i3c1 : I3c := {}
  rails : Tab Rail := []
  temps : Tab Temp := []
  trip0 : Bool := false
  trip1 : Bool := false
  day : Nat := 0
  modeDue : Bool := false
  powerOver : Bool := false
  part0 : Part := {}
  part1 : Part := {}
  out : List Emit := []
  free : Nat := 0
  pending : List Instr := []
deriving DecidableEq, Repr

/-- The machine right after reset: held in cold reset (R416 COLD, R441), nothing written. -/
def State.reset : State := {}

/-- The outcome of a command. -/
abbrev Res := Host.Outcome State Fault Refusal

end Sys2Proof.Machine
end

