-- ==== Sys2Proof/Machine/Ops.lean ====
section
/-! DEFINITION. The named operations over State: units and partitions, registers and their event counters (R8, R9), fault
events (R472), schedule slips (R191, R192), and what leaves the part. -/

namespace Sys2Proof.Machine

/-! ### Units -/

def State.part (s : State) (p : Nat) : Part := if p = 1 then s.part1 else s.part0

def State.updPart (s : State) (p : Nat) (f : Part → Part) : State :=
  if p = 1 then { s with part1 := f s.part1 } else { s with part0 := f s.part0 }

/-- The partition that a unit of the given half belongs to (R5): the half itself in two-partition mode, otherwise 0. -/
def State.partOfHalf (s : State) (half : Nat) : Nat := if s.twoPart then half else 0

def State.partOfCore (s : State) (n : Nat) : Nat := s.partOfHalf (n / 32)

def State.partOfTile (s : State) (t : Nat) : Nat := s.partOfHalf (t / 8)

def State.partOfChan (s : State) (ci : Nat) : Nat := s.partOfHalf (ci / 320)

def State.partOfOe (s : State) (o : Nat) : Nat := s.partOfHalf (o / 2)

def State.partOfPort (s : State) (q : Nat) : Nat := s.partOfHalf (q / 16)

/-- The partitions in being: one in whole-device mode, two otherwise (R5). -/
def State.parts (s : State) : List Nat := if s.twoPart then [0, 1] else [0]

def coreDefault : Nat → Core := fun _ => {}
def gatherDefault : Nat → Gather := fun _ => {}
def sideDefault : Nat → Side := fun _ => {}
def chanDefault : Nat → Chan := fun _ => {}

def State.core (s : State) (n : Nat) : Core := tabGet coreDefault s.cores n

def State.updCore (s : State) (n : Nat) (f : Core → Core) : State :=
  { s with cores := tabUpd coreDefault s.cores n f }

def State.gather (s : State) (g : Nat) : Gather := tabGet gatherDefault s.gathers g

def State.updGather (s : State) (g : Nat) (f : Gather → Gather) : State :=
  { s with gathers := tabUpd gatherDefault s.gathers g f }

def State.side (s : State) (b x : Nat) : Side := tabGet sideDefault s.sides (2 * b + x)

def State.updSide (s : State) (b x : Nat) (f : Side → Side) : State :=
  { s with sides := tabUpd sideDefault s.sides (2 * b + x) f }

def State.chan (s : State) (c : Nat) : Chan := tabGet chanDefault s.chans c

def State.updChan (s : State) (c : Nat) (f : Chan → Chan) : State :=
  { s with chans := tabUpd chanDefault s.chans c f }

def portDefault : Nat → Port := fun _ => {}
def oeDefault : Nat → Oe := fun _ => {}
def ringDefault : Nat → Ring := fun _ => {}
def heaterDefault : Nat → BitVec 16 := fun _ => 0

/-- A tensor port, by its physical number. -/
def State.port (s : State) (q : Nat) : Port := tabGet portDefault s.ports q

def State.updPort (s : State) (q : Nat) (f : Port → Port) : State := { s with ports := tabUpd portDefault s.ports q f }

/-- An optical engine. -/
def State.oe (s : State) (o : Nat) : Oe := tabGet oeDefault s.oes o

def State.updOe (s : State) (o : Nat) (f : Oe → Oe) : State := { s with oes := tabUpd oeDefault s.oes o f }

def waveDefault : Nat → Wave := fun _ => {}

def collDefault : Nat → CollEng := fun _ => {}

/-- A collective engine. -/
def State.coll (s : State) (e : Nat) : CollEng := tabGet collDefault s.colls e

def State.updColl (s : State) (e : Nat) (f : CollEng → CollEng) : State := { s with colls := tabUpd collDefault s.colls e f }

def dieDefault : Nat → Die := fun _ => {}

/-- A die, by its index (R43). -/
def State.die (s : State) (d : Nat) : Die := tabGet dieDefault s.dies d

def State.updDie (s : State) (d : Nat) (f : Die → Die) : State := { s with dies := tabUpd dieDefault s.dies d f }

/-- The partition of a die: 0–15 compute, 16–31 base, 32–35 EIC, 36–39 PIC (R43). -/
def State.partOfDie (s : State) (d : Nat) : Nat := if d < 32 then s.partOfTile (d % 16) else s.partOfOe (d % 4)

/-- Record something that leaves the part. -/
def State.emit (s : State) (e : Emit) : State := { s with out := s.out ++ [e] }

def State.emits (s : State) (es : List Emit) : State := { s with out := s.out ++ es }

/-- Take a fresh free value's index (DESIGN CHOICE, notes/assumptions/3.md). -/
def State.takeFree (s : State) : Nat × State := (s.free, { s with free := s.free + 1 })

/-! ### Registers -/

/-- The stored word of a register. -/
def State.reg (s : State) (r : Reg) (p : Nat) (i : Nat := 0) (j : Nat := 0) (k : Nat := 0) : Word :=
  tabGet regDefault s.regs (r.key p i j k)

/-- Store a register's word. -/
def State.setReg (s : State) (r : Reg) (v : Word) (p : Nat) (i : Nat := 0) (j : Nat := 0) (k : Nat := 0) : State :=
  { s with regs := tabSet regDefault s.regs (r.key p i j k) v }

/-- A field of a register (R6). -/
def State.rd (s : State) (f : Fld) (p : Nat) (i : Nat := 0) (j : Nat := 0) (k : Nat := 0) : Nat :=
  bits (s.reg f.reg p i j k).toNat f.lo f.width

/-- Write a field of a register by the hardware's own action. -/
def State.wr (s : State) (f : Fld) (v : Nat) (p : Nat) (i : Nat := 0) (j : Nat := 0) (k : Nat := 0) : State :=
  s.setReg f.reg (BitVec.ofNat 64 (putBits (s.reg f.reg p i j k).toNat f.lo f.width v)) p i j k

/-- A one-bit field as a Boolean. -/
def State.rdB (s : State) (f : Fld) (p : Nat) (i : Nat := 0) (j : Nat := 0) (k : Nat := 0) : Bool :=
  s.rd f p i j k == 1

/-- Add to a counter field, wrapping at its width. -/
def State.count (s : State) (f : Fld) (n : Nat) (p : Nat) (i : Nat := 0) (j : Nat := 0) (k : Nat := 0) : State :=
  s.wr f (s.rd f p i j k + n) p i j k

/-- Add to a counter field, saturating at its width. -/
def State.countSat (s : State) (f : Fld) (n : Nat) (p : Nat) (i : Nat := 0) (j : Nat := 0) (k : Nat := 0) : State :=
  s.wr f (min (s.rd f p i j k + n) (2 ^ f.width - 1)) p i j k

/-- Hardware sets a flag: the flag becomes 1 and its 16-bit event counter increments, wrapping (R9). -/
def State.flag (s : State) (f c : Fld) (p : Nat) (i : Nat := 0) (j : Nat := 0) : State :=
  (s.wr f 1 p i j).count c 1 p i j

/-! ### Halves -/

/-- Whether a partition is in being (R5). -/
def State.hasPart (s : State) (p : Nat) : Bool := p == 0 || s.twoPart

/-- The half whose MGP serves a partition (R5, R444). -/
def State.mgpOf (s : State) (p : Nat) : Nat := s.rd F.HIF_STS_primary p

def State.mgp (s : State) (h : Nat) : Mgp := if h = 1 then s.mgp1 else s.mgp0

def State.updMgp (s : State) (h : Nat) (f : Mgp → Mgp) : State :=
  if h = 1 then { s with mgp1 := f s.mgp1 } else { s with mgp0 := f s.mgp0 }

def State.flash (s : State) (h : Nat) : Flash := if h = 1 then s.flash1 else s.flash0

def State.updFlash (s : State) (h : Nat) (f : Flash → Flash) : State :=
  if h = 1 then { s with flash1 := f s.flash1 } else { s with flash0 := f s.flash0 }

/-! ### Own identity -/

/-- The package's own PIX (NET_STS pix; 0x3FFF with no placement, R247). -/
def State.ownPix (s : State) (p : Nat) : Nat := s.rd F.NET_STS_pix p

/-- The 24-bit EID of a UNIT of this package (R344). -/
def State.eid (s : State) (p unit : Nat) : Nat := s.ownPix p * 1024 + unit

/-- Whether the partition runs the scheduled plane. -/
def State.running (s : State) (p : Nat) : Bool := (s.part p).state == .running

/-- Whether the latched straps select divisor code 01 (R1): CCLK is ROOT ÷ 5. -/
def State.slow (s : State) : Bool := bits s.straps.toNat 0 2 == 1

/-- Whether a partition is contained: its engines and the work in flight have stopped (R483). -/
def State.contained (s : State) (p : Nat) : Bool := (s.part p).state == .quarantined

/-- Enter a partition state; HIF_STS shows it (R416). East's merge consent ends when it leaves IDLE (R509). -/
def State.enter (s : State) (p : Nat) (st : PState) : State :=
  let s := if p = 1 ∧ st ≠ .idle then { s with vault := { s.vault with consent := false } } else s
  (s.updPart p fun q => { q with state := st }).wr F.HIF_STS_state st.code p

/-! ### Fault events (13) -/

/-- Merge an event with one of the same class, kind and source unit that is not yet recorded (R472). -/
def mergeRaised (r : Raised) : List Raised → List Raised
  | [] => [r]
  | x :: t =>
    if x.cls = r.cls ∧ x.kind = r.kind ∧ x.unit = r.unit ∧ ¬ r.recovery then
      { x with count := min (x.count + 1) 255 } :: t
    else x :: mergeRaised r t

/-- Raise an event for the fault log; FAULT_RECORD_LOG gives it its number (R472, R473). `orbit` reads 0 outside
RUNNING (R470). -/
def State.record (s : State) (p cls kind unit : Nat) (die : Nat := 0xFF) (eid : Nat := 0) (addr : Nat := 0)
    (info0 : Nat := 0) (info1 : Nat := 0) (changed : Bool := false) : State :=
  let q := s.part p
  let r : Raised := {
    cls := cls, kind := kind, unit := unit, die := die, eid := eid, gtc := q.gtc,
    orbit := if q.state = .running then q.orbit else 0,
    addr := addr, info0 := info0, info1 := info1, count := 1, recovery := false, changed := changed }
  s.updPart p fun q => { q with raised := mergeRaised r q.raised }

/-! ### Slips (05 R189–R192) -/

/-- The own freeze of a slip cause while RUNNING: the freeze tick t_d + H, the cause, origin and position latched
(R191, R193). -/
def State.ownFreeze (s : State) (p cause horizon : Nat) : State :=
  let q := s.part p
  let pix := s.ownPix p
  let s := s.updPart p fun q => { q with
    freeze := some { tf := q.gtc + horizon, td := q.gtc, cause := cause, origin := pix, isLocal := true,
                     late := false, launched := false, frozen := false }
    ownFault := true }
  let s := s.setReg .SCH_FREEZE (BitVec.ofNat 64 (q.gtc + horizon)) p
  let s := s.setReg .SCH_SLIP_GTC (BitVec.ofNat 64 q.gtc) p
  let s := s.wr F.SCH_SLIP_cause cause p
  let s := s.wr F.SCH_SLIP_origin pix p
  let s := s.wr F.SCH_SLIP_local 1 p
  let s := s.wr F.SCH_STS_pos (q.gtc - q.conj) p
  s.wr F.SCH_STS_orbit q.orbit p

/-- A schedule slip cause detected at the present tick. While RUNNING with no freeze tick held, the freeze tick becomes
t_d + H and the cause is latched (R191, R193); otherwise the cause is recorded in SCH_EVT only (R192). -/
def State.slip (s : State) (p cause : Nat) : State :=
  let t := s.flag F.SCH_EVT_slip F.SCH_EVT_CNT_slip_cnt p
  match (s.part p).state, (s.part p).freeze, (s.part p).image with
  | .running, none, some img => t.ownFreeze p cause img.horizon
  | _, _, _ => t

/-- A slip raised only while the scheduled plane runs. -/
def State.slipIfRunning (s : State) (p cause : Nat) : State := if s.running p then s.slip p cause else s

/-- Whether the member has stopped its own scheduled issue: it originated the freeze (from t_d + 1), or t_f has come
(R193). -/
def State.schedStopped (s : State) (p : Nat) : Bool :=
  match (s.part p).freeze with
  | some f => f.isLocal || f.frozen
  | none => false

/-! ### Ageing log (13 R487) -/

/-- Add an entry to the permanent part of the ageing log in the flash of a half. -/
def State.ageLog (s : State) (half type unitKind unit v0 v1 : Nat) : State :=
  let e : AgeEntry := { type := type, unitKind := unitKind, unit := unit, day := s.day, value0 := v0, value1 := v1 }
  if half = 1 then { s with flash1 := { s.flash1 with perm := s.flash1.perm ++ [e] } }
  else { s with flash0 := { s.flash0 with perm := s.flash0.perm ++ [e] } }

/-- A command for an event the part is not in a position to have. -/
def notEnabled (why : String) : Res := .refused (.notEnabled why)

/-- A next state when the event can happen here, otherwise the refusal of that name. -/
def guarded (ok : Bool) (why : String) (t : State) : Res := if ok then .next t else notEnabled why

end Sys2Proof.Machine
end

