-- ==== Sys2Proof/Machine/Cmd.lean ====
section
/-! DEFINITION. Host commands in progress (11 R409–R421): the state table, the control slot, and completion with its
record. -/

namespace Sys2Proof.Machine

/-- A command's source from its operand: rings 0–63, then the mailbox. -/
def srcOf (r : Nat) : CmdSrc := if h : r < 64 then .ring ⟨r, h⟩ else .mailbox

/-- A field of a descriptor (R413). -/
def OpenCmd.field (o : OpenCmd) (off n : Nat) : Nat := leAt o.desc off n
def OpenCmd.opcode (o : OpenCmd) : Nat := o.field 0 1
def OpenCmd.arg0 (o : OpenCmd) : Nat := o.field 8 8
def OpenCmd.arg1 (o : OpenCmd) : Nat := o.field 16 8
def OpenCmd.arg2 (o : OpenCmd) : Nat := o.field 24 8

/-- The commands (R421): opcode, critical, control, and the legal states as a mask over the codes 1–8 of R416. -/
def cmdTable : List (Nat × Bool × Bool × Nat) :=
  [(0x00, false, false, 0x1FE), (0x01, false, false, 0x1FE), (0x02, false, false, 0x1FE), (0x03, false, false, 0x0FC),
   (0x04, false, false, 0x1FC), (0x10, true, true, 0x0CC), (0x11, true, true, 0x0CC), (0x12, false, true, 0x008),
   (0x13, false, true, 0x010), (0x14, false, true, 0x030), (0x15, false, true, 0x020), (0x16, false, true, 0x0C0),
   (0x20, true, true, 0x0CC), (0x21, true, true, 0x1FC), (0x22, false, false, 0x0FC), (0x23, true, true, 0x0CC),
   (0x30, true, true, 0x1FC), (0x31, false, false, 0x1FC), (0x32, true, true, 0x004), (0x33, true, true, 0x1FC),
   (0x34, true, true, 0x0CC), (0x38, true, false, 0x1FC), (0x39, true, true, 0x1CC)]

/-- The row of an opcode. -/
def cmdRow (op : Nat) : Option (Bool × Bool × Nat) := (cmdTable.find? fun r => r.1 == op).map (·.2)

/-- Whether a command is legal in a state (R421). -/
def legalIn (op : Nat) (st : PState) : Bool :=
  match cmdRow op with
  | some r => r.2.2.testBit st.code
  | none => false

/-- Whether a command is a control command (R420). -/
def isControl (op : Nat) : Bool :=
  match cmdRow op with
  | some r => r.2.1
  | none => false

/-- The open command of a source. -/
def State.openOf (s : State) (p : Nat) (src : CmdSrc) : Option OpenCmd := (s.part p).opens.find? fun o => o.src == src

/-- The open command of a source, when its checks have passed and it is the command named (R418 step 5). -/
def State.running? (s : State) (p r op : Nat) : Option OpenCmd :=
  match s.openOf p (srcOf r) with
  | some o => if o.checked && o.opcode == op then some o else none
  | none => none

/-- Replace an open command. -/
def State.setOpen (s : State) (p : Nat) (o : OpenCmd) : State :=
  s.updPart p fun q => { q with opens := updFirst (fun x => x.src == o.src) (fun _ => o) q.opens }

/-- Release the control slot when this source holds it (R420). -/
def State.releaseSlot (s : State) (p : Nat) (src : CmdSrc) : State :=
  s.updPart p fun q => { q with slotHolder := if q.slotHolder == some src then none else q.slotHolder }

/-- The bytes of a completion record (R414). -/
def CplRec.bytes (c : CplRec) (phase : Nat) : List Byte :=
  toLE 4 c.cmdId ++ toLE 1 c.status ++ toLE 1 c.detail ++ toLE 1 c.state ++ toLE 1 (phase + c.ring * 2) ++
    toLE 2 c.entry ++ toLE 1 c.opcode ++ toLE 5 0 ++ toLE 8 c.res0 ++ toLE 8 c.res1

/-- The flags that refusals set in HIF_EVT. -/
def State.refusalFlags (s : State) (p status : Nat) : State :=
  if status = 0x01 then s.flag F.HIF_EVT_state_reject F.HIF_EVT_CNT1_reject_cnt p
  else if status = 0x04 then s.flag F.HIF_EVT_auth_fail F.HIF_EVT_CNT0_auth_fail_cnt p
  else if status = 0x05 then s.flag F.HIF_EVT_auth_stale F.HIF_EVT_CNT0_auth_stale_cnt p
  else s

/-- Complete an open command (R409–R411, R414): the slot is released, C advances, and its record waits for its completion
ring; a mailbox command's record goes to the completion words (R406). The record of a command whose connection was lost
is discarded (R412). The ring and entry fields of a mailbox record are free values (DESIGN CHOICE, notes/assumptions/31.md). -/
def State.complete (s : State) (p : Nat) (src : CmdSrc) (status detail r0 r1 : Nat) : State :=
  match s.openOf p src with
  | none => s
  | some o =>
    let s := (s.releaseSlot p src).refusalFlags p status
    let s := s.updPart p fun q => { q with
      opens := q.opens.filter fun x => x.src != src, slotWait := q.slotWait.filter (· != src) }
    let c : CplRec := {
      cq := 0, ring := 0, entry := 0, opcode := o.opcode, cmdId := o.field 4 4, status := status, detail := detail,
      state := (s.part p).state.code, res0 := r0 % 2 ^ 64, res1 := r1 % 2 ^ 64, stop := false }
    match src with
    | .ring r =>
      if o.orphan then s
      else
        let n := s.rd F.HIF_CR_STS_consumer p r
        let c := { c with
          cq := s.rd F.HIF_CR_CFG_cq p r, ring := r, entry := n % 2 ^ 16
          stop := s.rdB F.HIF_CR_CFG_stop_on_reject p r && status != 0 }
        let s := s.count F.HIF_CR_STS_consumer 1 p r
        s.updPart p fun q => { q with records := q.records ++ [c] }
    | .mailbox =>
      let f := s.takeFree
      let c := { c with ring := Config.freeNat f.1 % 64, entry := Config.freeNat f.1 / 64 % 2 ^ 16 }
      let b := c.bytes (Config.freeNat f.1 / 2 ^ 22 % 2)
      let s := (List.range 4).foldl (fun a i =>
        a.setReg .HIF_MBOX_CPL (BitVec.ofNat 64 (leAt b (8 * i) 8)) p i) f.2
      (s.wr F.HIF_MBOX_CTL_busy 0 p).flag F.HIF_MBOX_CTL_done F.HIF_MBOX_CTL_done_cnt p

/-- Complete every open command of one opcode whose checks have passed. -/
def State.completeOp (s : State) (p op status detail r0 r1 : Nat) : State :=
  ((s.part p).opens.filter fun o => o.checked && o.opcode == op).foldl
    (fun a o => a.complete p o.src status detail r0 r1) s

/-- The commands that end by R182, R183 and R193 and not by R417. -/
def endsByRun (op : Nat) : Bool := op == 0x12 || op == 0x13 || op == 0x14 || op == 0x15

/-- A started command that is not legal in the partition's present state stops and completes with ABORTED (R417). -/
def State.abortOpens (s : State) (p : Nat) : State :=
  ((s.part p).opens.filter fun o =>
      o.checked && !endsByRun o.opcode && !legalIn o.opcode (s.part p).state).foldl
    (fun a o => a.complete p o.src 0x18 0 0 0) s

/-- An event moves the partition to a state (R416, R417). -/
def State.enterEvent (s : State) (p : Nat) (st : PState) : State := (s.enter p st).abortOpens p

end Sys2Proof.Machine
end

