-- ==== Sys2Proof/Machine/Crc.lean ====
section
/-! DEFINITION. The cyclic redundancy checks of the spec, bit by bit from their polynomials. -/

namespace Sys2Proof.Machine

/-- One bit of an unreflected CRC of width `w`. -/
def crcStep (w poly r : Nat) : Nat :=
  if r.testBit (w - 1) then (r * 2 % 2 ^ w) ^^^ poly else r * 2 % 2 ^ w

/-- One byte of an unreflected CRC. -/
def crcByte (w poly r : Nat) (b : Byte) : Nat :=
  (List.range 8).foldl (fun a _ => crcStep w poly a) (r ^^^ (b.toNat * 2 ^ (w - 8)))

/-- An unreflected CRC over bytes in ascending order. -/
def crcFwd (w poly init : Nat) (bs : List Byte) : Nat := bs.foldl (crcByte w poly) init

/-- One byte of a reflected CRC with reflected polynomial `poly`. -/
def crcByteR (poly r : Nat) (b : Byte) : Nat :=
  (List.range 8).foldl (fun a _ => if a % 2 = 1 then (a / 2) ^^^ poly else a / 2) (r ^^^ b.toNat)

/-- A reflected 32-bit CRC with all-ones initial value and final inversion. -/
def crcRefl32 (poly : Nat) (bs : List Byte) : Nat :=
  bs.foldl (crcByteR poly) 0xFFFFFFFF ^^^ 0xFFFFFFFF

/-- The carried check (R461): CRC-16, polynomial 0x8BB7, initial value 0, unreflected. -/
def crc16T10 (bs : List Byte) : Nat := crcFwd 16 0x8BB7 0 bs

/-- CRC-16/CCITT-FALSE (R29): polynomial 0x1021, initial value 0xFFFF, unreflected. -/
def crc16Ccitt (bs : List Byte) : Nat := crcFwd 16 0x1021 0xFFFF bs

/-- CRC-32 with the IEEE polynomial (R15). PRESUMED: reflected, initial value and final XOR all ones, as in IEEE 802.3
(PRESUMED, notes/assumptions/10.md). -/
def crc32Ieee (bs : List Byte) : Nat := crcRefl32 0xEDB88320 bs

/-- CRC-32C (R470). PRESUMED: reflected Castagnoli polynomial, initial value and final XOR all ones
(PRESUMED, notes/assumptions/10.md). -/
def crc32C (bs : List Byte) : Nat := crcRefl32 0x82F63B78 bs

/-- CRC-8, polynomial 0x07, initial value 0 (R405). -/
def crc8 (bs : List Byte) : Nat := crcFwd 8 0x07 0 bs

/-- The carried check of a granule's 64 data bytes in ascending order (R461). -/
def granCheck (g : Gran) : BitVec 16 := BitVec.ofNat 16 (crc16T10 (toLE 64 g.toNat))

end Sys2Proof.Machine
end

