-- ==== Sys2Proof/Machine/Crypto.lean ====
section
/-! DEFINITION. The cryptographic functions the spec names by their public standards (07 R277; 05 R169, R170; 11 R426;
14 R497–R506): SHA-256 and SHA-384, HMAC, HKDF, AES-256 with XTS and key wrap, and the curve P-384. PRESUMED: the spec
names the standards and does not restate them (PRESUMED, notes/assumptions/14.md). -/

namespace Sys2Proof.Machine

/-! ### Hashes (FIPS 180-4) -/

/-- The first 64 bits of the fractional parts of the cube roots of the first 80 primes: the round constants of SHA-384, whose upper
halves are the first 64 of SHA-256. -/
def sha2K : List Nat :=
    [0x428A2F98D728AE22, 0x7137449123EF65CD, 0xB5C0FBCFEC4D3B2F, 0xE9B5DBA58189DBBC, 0x3956C25BF348B538]
    ++ [0x59F111F1B605D019, 0x923F82A4AF194F9B, 0xAB1C5ED5DA6D8118, 0xD807AA98A3030242, 0x12835B0145706FBE]
    ++ [0x243185BE4EE4B28C, 0x550C7DC3D5FFB4E2, 0x72BE5D74F27B896F, 0x80DEB1FE3B1696B1, 0x9BDC06A725C71235]
    ++ [0xC19BF174CF692694, 0xE49B69C19EF14AD2, 0xEFBE4786384F25E3, 0x0FC19DC68B8CD5B5, 0x240CA1CC77AC9C65]
    ++ [0x2DE92C6F592B0275, 0x4A7484AA6EA6E483, 0x5CB0A9DCBD41FBD4, 0x76F988DA831153B5, 0x983E5152EE66DFAB]
    ++ [0xA831C66D2DB43210, 0xB00327C898FB213F, 0xBF597FC7BEEF0EE4, 0xC6E00BF33DA88FC2, 0xD5A79147930AA725]
    ++ [0x06CA6351E003826F, 0x142929670A0E6E70, 0x27B70A8546D22FFC, 0x2E1B21385C26C926, 0x4D2C6DFC5AC42AED]
    ++ [0x53380D139D95B3DF, 0x650A73548BAF63DE, 0x766A0ABB3C77B2A8, 0x81C2C92E47EDAEE6, 0x92722C851482353B]
    ++ [0xA2BFE8A14CF10364, 0xA81A664BBC423001, 0xC24B8B70D0F89791, 0xC76C51A30654BE30, 0xD192E819D6EF5218]
    ++ [0xD69906245565A910, 0xF40E35855771202A, 0x106AA07032BBD1B8, 0x19A4C116B8D2D0C8, 0x1E376C085141AB53]
    ++ [0x2748774CDF8EEB99, 0x34B0BCB5E19B48A8, 0x391C0CB3C5C95A63, 0x4ED8AA4AE3418ACB, 0x5B9CCA4F7763E373]
    ++ [0x682E6FF3D6B2B8A3, 0x748F82EE5DEFB2FC, 0x78A5636F43172F60, 0x84C87814A1F0AB72, 0x8CC702081A6439EC]
    ++ [0x90BEFFFA23631E28, 0xA4506CEBDE82BDE9, 0xBEF9A3F7B2C67915, 0xC67178F2E372532B, 0xCA273ECEEA26619C]
    ++ [0xD186B8C721C0C207, 0xEADA7DD6CDE0EB1E, 0xF57D4F7FEE6ED178, 0x06F067AA72176FBA, 0x0A637DC5A2C898A6]
    ++ [0x113F9804BEF90DAE, 0x1B710B35131C471B, 0x28DB77F523047D84, 0x32CAAB7B40C72493, 0x3C9EBE0A15C9BEBC]
    ++ [0x431D67C49C100D4C, 0x4CC5D4BECB3E42B6, 0x597F299CFC657E2A, 0x5FCB6FAB3AD6FAEC, 0x6C44198C4A475817]

/-- The initial words of SHA-256: 32 bits of the square roots of the first 8 primes; and of SHA-384: 64 bits of those of the next 8. -/
def sha256Init : List Nat :=
    [0x6A09E667, 0xBB67AE85, 0x3C6EF372, 0xA54FF53A, 0x510E527F, 0x9B05688C, 0x1F83D9AB, 0x5BE0CD19]
def sha384Init : List Nat :=
    [0xCBBB9D5DC1059ED8, 0x629A292A367CD507, 0x9159015A3070DD17, 0x152FECD8F70E5939]
    ++ [0x67332667FFC00B31, 0x8EB44A8768581511, 0xDB0C2E0D64F98FA7, 0x47B5481DBEFA4FA4]

/-- Rotate a w-bit number right. -/
def rotr (w x n : Nat) : Nat := (x >>> n) ||| ((x <<< (w - n)) % 2 ^ w)

/-- The widths, rounds and rotation amounts of a SHA-2 function. -/
structure Sha2 where
  w : Nat
  rounds : Nat
  S0 : Nat × Nat × Nat
  S1 : Nat × Nat × Nat
  s0 : Nat × Nat × Nat
  s1 : Nat × Nat × Nat

def sha2Big (w : Nat) (r : Nat × Nat × Nat) (x : Nat) : Nat := rotr w x r.1 ^^^ rotr w x r.2.1 ^^^ rotr w x r.2.2
def sha2Small (w : Nat) (r : Nat × Nat × Nat) (x : Nat) : Nat := rotr w x r.1 ^^^ rotr w x r.2.1 ^^^ (x >>> r.2.2)

/-- The message schedule, newest word first. -/
def sha2Sched (c : Sha2) : Nat → List Nat → List Nat
  | 0, ws => ws
  | n + 1, ws =>
    let x := (sha2Small c.w c.s1 (ws.getD 1 0) + ws.getD 6 0 + sha2Small c.w c.s0 (ws.getD 14 0) + ws.getD 15 0)
      % 2 ^ c.w
    sha2Sched c n (x :: ws)

/-- One round on the working variables a … h. -/
def sha2Round (c : Sha2) (h : List Nat) (kw : Nat × Nat) : List Nat :=
  match h with
  | [a, b, cc, d, e, f, g, hh] =>
    let m := 2 ^ c.w
    let t1 := (hh + sha2Big c.w c.S1 e + ((e &&& f) ^^^ ((m - 1 - e) &&& g)) + kw.1 + kw.2) % m
    let t2 := (sha2Big c.w c.S0 a + ((a &&& b) ^^^ (a &&& cc) ^^^ (b &&& cc))) % m
    [(t1 + t2) % m, a, b, cc, (d + t1) % m, e, f, g]
  | _ => h

/-- A big-endian number of bytes. -/
def ofBE (bs : List Byte) : Nat := ofLE bs.reverse
/-- The n bytes of a number, most significant first. -/
def toBE (n x : Nat) : List Byte := (toLE n x).reverse

/-- One block. -/
def sha2Block (c : Sha2) (ks : List Nat) (h : List Nat) (blk : List Byte) : List Nat :=
  let ws := (chunks (c.w / 8) 16 blk).map ofBE
  let sched := (sha2Sched c (c.rounds - 16) ws.reverse).reverse
  let h' := (ks.zip sched).foldl (sha2Round c) h
  (h.zip h').map fun x => (x.1 + x.2) % 2 ^ c.w

/-- The padded message. -/
def sha2Pad (c : Sha2) (bs : List Byte) : List Byte :=
  let blk := 2 * c.w
  let lenB := c.w / 4
  let n := bs.length + 1 + lenB
  bs ++ [0x80] ++ List.replicate ((blk - n % blk) % blk) 0 ++ toBE lenB (8 * bs.length)

/-- A SHA-2 digest from its initial words. -/
def sha2 (c : Sha2) (init : List Nat) (bs : List Byte) : List Byte :=
  let ks := (sha2K.take c.rounds).map (· >>> (64 - c.w))
  let m := sha2Pad c bs
  let h := (chunks (2 * c.w) (m.length / (2 * c.w)) m).foldl (sha2Block c ks) init
  h.flatMap (toBE (c.w / 8))

def sha256Cfg : Sha2 := ⟨32, 64, (2, 13, 22), (6, 11, 25), (7, 18, 3), (17, 19, 10)⟩
def sha512Cfg : Sha2 := ⟨64, 80, (28, 34, 39), (14, 18, 41), (1, 8, 7), (19, 61, 6)⟩

def sha256 (bs : List Byte) : List Byte := sha2 sha256Cfg sha256Init bs

/-- SHA-384. -/
def sha384 (bs : List Byte) : List Byte :=
  (sha2 sha512Cfg sha384Init bs).take 48

/-- HMAC (RFC 2104) over a hash of the given block size. -/
def hmac (hash : List Byte → List Byte) (blk : Nat) (key msg : List Byte) : List Byte :=
  let k := padTo blk (if blk < key.length then hash key else key)
  hash (k.map (· ^^^ 0x5C) ++ hash (k.map (· ^^^ 0x36) ++ msg))

def hmacSha256 : List Byte → List Byte → List Byte := hmac sha256 64
def hmacSha384 : List Byte → List Byte → List Byte := hmac sha384 128

/-- The blocks T(i) of HKDF-Expand. -/
def hkdfBlocks (prk info : List Byte) : Nat → Nat → List Byte → List Byte
  | 0, _, _ => []
  | n + 1, i, prev =>
    let t := hmacSha384 prk (prev ++ info ++ [BitVec.ofNat 8 i])
    t ++ hkdfBlocks prk info n (i + 1) t

/-- HKDF-SHA-384 (RFC 5869): extract with a salt (empty: 48 zero bytes) and expand to `len` bytes. -/
def hkdfSha384 (salt ikm info : List Byte) (len : Nat) : List Byte :=
  let prk := hmacSha384 (if salt.isEmpty then List.replicate 48 0 else salt) ikm
  (hkdfBlocks prk info (cdiv len 48) 1 []).take len

/-! ### AES-256 (FIPS 197), XTS (IEEE 1619), key wrap (RFC 3394) -/

/-- Bytes packed into a number, the first lowest. -/
def packed (l : List Nat) : Nat := l.foldr (fun b a => b + 256 * a) 0

/-- The AES S-box, entry b in bits 8b to 8b + 7. -/
def aesSbox : Nat := packed (
    [0x63, 0x7C, 0x77, 0x7B, 0xF2, 0x6B, 0x6F, 0xC5, 0x30, 0x01, 0x67, 0x2B, 0xFE, 0xD7, 0xAB, 0x76]
    ++ [0xCA, 0x82, 0xC9, 0x7D, 0xFA, 0x59, 0x47, 0xF0, 0xAD, 0xD4, 0xA2, 0xAF, 0x9C, 0xA4, 0x72, 0xC0]
    ++ [0xB7, 0xFD, 0x93, 0x26, 0x36, 0x3F, 0xF7, 0xCC, 0x34, 0xA5, 0xE5, 0xF1, 0x71, 0xD8, 0x31, 0x15]
    ++ [0x04, 0xC7, 0x23, 0xC3, 0x18, 0x96, 0x05, 0x9A, 0x07, 0x12, 0x80, 0xE2, 0xEB, 0x27, 0xB2, 0x75]
    ++ [0x09, 0x83, 0x2C, 0x1A, 0x1B, 0x6E, 0x5A, 0xA0, 0x52, 0x3B, 0xD6, 0xB3, 0x29, 0xE3, 0x2F, 0x84]
    ++ [0x53, 0xD1, 0x00, 0xED, 0x20, 0xFC, 0xB1, 0x5B, 0x6A, 0xCB, 0xBE, 0x39, 0x4A, 0x4C, 0x58, 0xCF]
    ++ [0xD0, 0xEF, 0xAA, 0xFB, 0x43, 0x4D, 0x33, 0x85, 0x45, 0xF9, 0x02, 0x7F, 0x50, 0x3C, 0x9F, 0xA8]
    ++ [0x51, 0xA3, 0x40, 0x8F, 0x92, 0x9D, 0x38, 0xF5, 0xBC, 0xB6, 0xDA, 0x21, 0x10, 0xFF, 0xF3, 0xD2]
    ++ [0xCD, 0x0C, 0x13, 0xEC, 0x5F, 0x97, 0x44, 0x17, 0xC4, 0xA7, 0x7E, 0x3D, 0x64, 0x5D, 0x19, 0x73]
    ++ [0x60, 0x81, 0x4F, 0xDC, 0x22, 0x2A, 0x90, 0x88, 0x46, 0xEE, 0xB8, 0x14, 0xDE, 0x5E, 0x0B, 0xDB]
    ++ [0xE0, 0x32, 0x3A, 0x0A, 0x49, 0x06, 0x24, 0x5C, 0xC2, 0xD3, 0xAC, 0x62, 0x91, 0x95, 0xE4, 0x79]
    ++ [0xE7, 0xC8, 0x37, 0x6D, 0x8D, 0xD5, 0x4E, 0xA9, 0x6C, 0x56, 0xF4, 0xEA, 0x65, 0x7A, 0xAE, 0x08]
    ++ [0xBA, 0x78, 0x25, 0x2E, 0x1C, 0xA6, 0xB4, 0xC6, 0xE8, 0xDD, 0x74, 0x1F, 0x4B, 0xBD, 0x8B, 0x8A]
    ++ [0x70, 0x3E, 0xB5, 0x66, 0x48, 0x03, 0xF6, 0x0E, 0x61, 0x35, 0x57, 0xB9, 0x86, 0xC1, 0x1D, 0x9E]
    ++ [0xE1, 0xF8, 0x98, 0x11, 0x69, 0xD9, 0x8E, 0x94, 0x9B, 0x1E, 0x87, 0xE9, 0xCE, 0x55, 0x28, 0xDF]
    ++ [0x8C, 0xA1, 0x89, 0x0D, 0xBF, 0xE6, 0x42, 0x68, 0x41, 0x99, 0x2D, 0x0F, 0xB0, 0x54, 0xBB, 0x16])

/-- The inverse S-box, in the same way. -/
def aesInvSbox : Nat := packed (
    [0x52, 0x09, 0x6A, 0xD5, 0x30, 0x36, 0xA5, 0x38, 0xBF, 0x40, 0xA3, 0x9E, 0x81, 0xF3, 0xD7, 0xFB]
    ++ [0x7C, 0xE3, 0x39, 0x82, 0x9B, 0x2F, 0xFF, 0x87, 0x34, 0x8E, 0x43, 0x44, 0xC4, 0xDE, 0xE9, 0xCB]
    ++ [0x54, 0x7B, 0x94, 0x32, 0xA6, 0xC2, 0x23, 0x3D, 0xEE, 0x4C, 0x95, 0x0B, 0x42, 0xFA, 0xC3, 0x4E]
    ++ [0x08, 0x2E, 0xA1, 0x66, 0x28, 0xD9, 0x24, 0xB2, 0x76, 0x5B, 0xA2, 0x49, 0x6D, 0x8B, 0xD1, 0x25]
    ++ [0x72, 0xF8, 0xF6, 0x64, 0x86, 0x68, 0x98, 0x16, 0xD4, 0xA4, 0x5C, 0xCC, 0x5D, 0x65, 0xB6, 0x92]
    ++ [0x6C, 0x70, 0x48, 0x50, 0xFD, 0xED, 0xB9, 0xDA, 0x5E, 0x15, 0x46, 0x57, 0xA7, 0x8D, 0x9D, 0x84]
    ++ [0x90, 0xD8, 0xAB, 0x00, 0x8C, 0xBC, 0xD3, 0x0A, 0xF7, 0xE4, 0x58, 0x05, 0xB8, 0xB3, 0x45, 0x06]
    ++ [0xD0, 0x2C, 0x1E, 0x8F, 0xCA, 0x3F, 0x0F, 0x02, 0xC1, 0xAF, 0xBD, 0x03, 0x01, 0x13, 0x8A, 0x6B]
    ++ [0x3A, 0x91, 0x11, 0x41, 0x4F, 0x67, 0xDC, 0xEA, 0x97, 0xF2, 0xCF, 0xCE, 0xF0, 0xB4, 0xE6, 0x73]
    ++ [0x96, 0xAC, 0x74, 0x22, 0xE7, 0xAD, 0x35, 0x85, 0xE2, 0xF9, 0x37, 0xE8, 0x1C, 0x75, 0xDF, 0x6E]
    ++ [0x47, 0xF1, 0x1A, 0x71, 0x1D, 0x29, 0xC5, 0x89, 0x6F, 0xB7, 0x62, 0x0E, 0xAA, 0x18, 0xBE, 0x1B]
    ++ [0xFC, 0x56, 0x3E, 0x4B, 0xC6, 0xD2, 0x79, 0x20, 0x9A, 0xDB, 0xC0, 0xFE, 0x78, 0xCD, 0x5A, 0xF4]
    ++ [0x1F, 0xDD, 0xA8, 0x33, 0x88, 0x07, 0xC7, 0x31, 0xB1, 0x12, 0x10, 0x59, 0x27, 0x80, 0xEC, 0x5F]
    ++ [0x60, 0x51, 0x7F, 0xA9, 0x19, 0xB5, 0x4A, 0x0D, 0x2D, 0xE5, 0x7A, 0x9F, 0x93, 0xC9, 0x9C, 0xEF]
    ++ [0xA0, 0xE0, 0x3B, 0x4D, 0xAE, 0x2A, 0xF5, 0xB0, 0xC8, 0xEB, 0xBB, 0x3C, 0x83, 0x53, 0x99, 0x61]
    ++ [0x17, 0x2B, 0x04, 0x7E, 0xBA, 0x77, 0xD6, 0x26, 0xE1, 0x69, 0x14, 0x63, 0x55, 0x21, 0x0C, 0x7D])

/-- SubBytes on n packed bytes. -/
def aesSub (sb n x : Nat) : Nat := packed ((List.range n).map fun i => bits sb (8 * bits x (8 * i) 8) 8)

/-- The round-key words of a 256-bit key, newest first; the first byte of a word is its lowest. -/
def aesExpand : Nat → Nat → List Nat → List Nat
  | 0, _, ws => ws
  | n + 1, i, ws =>
    let t := ws.headD 0
    let t' :=
      if i % 8 = 0 then aesSub aesSbox 4 (t / 2 ^ 8 + t % 2 ^ 8 * 2 ^ 24) ^^^ 2 ^ (i / 8 - 1)
      else if i % 8 = 4 then aesSub aesSbox 4 t
      else t
    aesExpand n (i + 1) ((ws.getD 7 0 ^^^ t') :: ws)

/-- The 15 round keys. -/
def aesKeys (key : List Byte) : List Nat :=
  let all := (aesExpand 52 8 ((chunks 4 8 (padTo 32 key)).map ofLE).reverse).reverse
  (List.range 15).map fun r => (List.range 4).foldr (fun i a => all.getD (4 * r + i) 0 + 2 ^ 32 * a) 0

/-- ShiftRows by `d` columns per row. -/
def aesShift (d x : Nat) : Nat :=
  packed ((List.range 16).map fun i => bits x (8 * ((i % 4) + 4 * ((i / 4 + d * (i % 4)) % 4))) 8)

/-- Each of 16 packed bytes doubled in the field of AES. -/
def aesTwice (x : Nat) : Nat :=
  ((x &&& 0x7F7F7F7F7F7F7F7F7F7F7F7F7F7F7F7F) * 2) ^^^ (((x >>> 7) &&& 0x01010101010101010101010101010101) * 0x1B)

/-- Each column's bytes moved up by one row. -/
def aesRot (x : Nat) : Nat :=
  ((x >>> 8) &&& 0x00FFFFFF00FFFFFF00FFFFFF00FFFFFF) ||| ((x &&& 0x000000FF000000FF000000FF000000FF) <<< 24)

/-- MixColumns, whose coefficients are 2, 3, 1, 1. -/
def aesMix (x : Nat) : Nat :=
  let r := aesRot x
  aesTwice (x ^^^ r) ^^^ r ^^^ aesRot r ^^^ aesRot (aesRot r)

/-- InvMixColumns, with coefficients 14, 11, 13, 9: MixColumns after 5, 0, 4, 0. -/
def aesInvMix (x : Nat) : Nat := aesMix (x ^^^ aesTwice (aesTwice (x ^^^ aesRot (aesRot x))))

/-- AES-256 encryption of a block under round keys. -/
def aesEncR (ks : List Nat) (blk : Nat) : Nat :=
  let st := (List.range 13).foldl (fun x r => aesMix (aesShift 1 (aesSub aesSbox 16 x)) ^^^ ks.getD (r + 1) 0) (blk ^^^ ks.getD 0 0)
  aesShift 1 (aesSub aesSbox 16 st) ^^^ ks.getD 14 0

/-- AES-256 decryption of a block under round keys. -/
def aesDecR (ks : List Nat) (blk : Nat) : Nat :=
  let st := (List.range 13).foldl (fun x r => aesInvMix (aesSub aesInvSbox 16 (aesShift 3 x) ^^^ ks.getD (13 - r) 0)) (blk ^^^ ks.getD 14 0)
  aesSub aesInvSbox 16 (aesShift 3 st) ^^^ ks.getD 0 0

/-- AES-256 on one 16-byte block. -/
def aesEnc (key blk : List Byte) : List Byte := toLE 16 (aesEncR (aesKeys key) (ofLE blk))
def aesDec (key blk : List Byte) : List Byte := toLE 16 (aesDecR (aesKeys key) (ofLE blk))

/-- Multiply an XTS tweak (little-endian) by α. -/
def xtsNext (t : Nat) : Nat := if t.testBit 127 then ((t * 2) % 2 ^ 128) ^^^ 0x87 else t * 2

/-- The tweaks of the four blocks of a granule. -/
def xtsTweaks (t : Nat) : List Nat := [t, xtsNext t, xtsNext (xtsNext t), xtsNext (xtsNext (xtsNext t))]

/-- AES(K2, tweak) (R277). -/
def xtsTweak (k2 : List Byte) (tweak : Nat) : Nat := ofLE (aesEnc k2 (toLE 16 tweak))

/-- A granule through AES-XTS with a block function (R277). -/
def xtsGran (f : List Byte → List Byte) (t : Nat) (g : Gran) : Gran :=
  BitVec.ofNat 512 (((xtsTweaks t).zipIdx).foldl (fun a x =>
    let blk := bits g.toNat (128 * x.2) 128
    a + (ofLE (f (toLE 16 (blk ^^^ x.1))) ^^^ x.1) * 2 ^ (128 * x.2)) 0)

def xtsEncrypt (k1 k2 : List Byte) (tweak : Nat) (g : Gran) : Gran := xtsGran (aesEnc k1) (xtsTweak k2 tweak) g
def xtsDecrypt (k1 k2 : List Byte) (tweak : Nat) (g : Gran) : Gran := xtsGran (aesDec k1) (xtsTweak k2 tweak) g

/-- AES key unwrap (RFC 3394) of n + 1 semiblocks; none when the integrity check fails. -/
def kwUnwrap (kek wrapped : List Byte) : Option (List Byte) :=
  let bl := (chunks 8 64 wrapped).map ofBE
  match bl with
  | [] => none
  | a :: rs =>
    let n := rs.length
    let r := (List.range (6 * n)).foldl (fun (st : Nat × List Nat) q =>
      let t := 6 * n - q
      let i := (t - 1) % n
      let b := ofBE (aesDec kek (toBE 8 (st.1 ^^^ t) ++ toBE 8 (st.2.getD i 0)))
      (b / 2 ^ 64, setAt st.2 i (b % 2 ^ 64))) (a, rs)
    if r.1 = 0xA6A6A6A6A6A6A6A6 then some (r.2.flatMap (toBE 8)) else none

/-! ### The curve P-384 (SP 800-186) and ECDSA (FIPS 186-5) -/

def p384p : Nat := 2 ^ 384 - 2 ^ 128 - 2 ^ 96 + 2 ^ 32 - 1
def p384n : Nat := 0xFFFFFFFFFFFFFFFFFFFFFFFFFFFFFFFFFFFFFFFFFFFFFFFFC7634D81F4372DDF581A0DB248B0A77AECEC196ACCC52973
def p384b : Nat := 0xB3312FA7E23EE7E4988E056BE3F82D19181D9C6EFE8141120314088F5013875AC656398D8A2ED19D2A85C8EDD3EC2AEF
def p384g : Nat × Nat :=
  (0xAA87CA22BE8B05378EB1C71EF320AD746E1D3B628BA79B9859F741E082542A385502F25DBF55296C3A545E3872760AB7,
   0x3617DE4A96262C6F5D9E98BF9292DC29F8F41DBD289A147CE9DA3113B5F0B8C00A60B1CE1D7E819D7A431D7C90EA0E5F)

/-- x to the power e modulo m, over the bits of e from the top. -/
def powMod (m x e : Nat) : Nat → Nat
  | 0 => 1 % m
  | n + 1 => let h := powMod m x (e / 2) n
             if e = 0 then 1 % m else if e % 2 = 1 then h * h % m * x % m else h * h % m

/-- The inverse modulo a prime of at most 384 bits. -/
def invMod (m x : Nat) : Nat := powMod m x (m - 2) 384

/-- A point, none for the point at infinity. -/
abbrev EcPoint := Option (Nat × Nat)

/-- Point addition. -/
def ecAdd (P Q : EcPoint) : EcPoint :=
  let p := p384p
  match P, Q with
  | none, q => q
  | q, none => q
  | some (x1, y1), some (x2, y2) =>
    if x1 = x2 ∧ (y1 + y2) % p = 0 then none
    else
      let l := if x1 = x2 ∧ y1 = y2 then (3 * x1 * x1 + p - 3) % p * invMod p (2 * y1) % p
               else (y2 + p - y1) % p * invMod p ((x2 + p - x1) % p) % p
      let x3 := (l * l + 2 * p - x1 - x2) % p
      some (x3, (l * ((x1 + p - x3) % p) + p - y1) % p)

/-- Double a point in Jacobian coordinates: (X, Y, Z) is (X/Z², Y/Z³), and Z = 0 the point at infinity. -/
def jacDouble (P : Nat × Nat × Nat) : Nat × Nat × Nat :=
  let p := p384p
  match P with
  | (X, Y, Z) =>
    let Y2 := Y * Y % p
    let Z2 := Z * Z % p
    let S := 4 * X * Y2 % p
    let M := 3 * (X + p - Z2) * (X + Z2) % p
    let X' := (M * M + 2 * p - 2 * S) % p
    (X', (M * (S + p - X') + 8 * p - 8 * (Y2 * Y2 % p)) % p, 2 * Y * Z % p)

/-- Add an affine point to one in Jacobian coordinates. -/
def jacAdd (P : Nat × Nat × Nat) (Q : Nat × Nat) : Nat × Nat × Nat :=
  let p := p384p
  match P, Q with
  | (X, Y, Z), (x, y) =>
    if Z = 0 then (x, y, 1)
    else
      let Z2 := Z * Z % p
      let H := (x * Z2 + p - X) % p
      let R := (y * (Z2 * Z % p) + p - Y) % p
      if H = 0 then (if R = 0 then jacDouble P else (1, 1, 0))
      else
        let H2 := H * H % p
        let H3 := H2 * H % p
        let V := X * H2 % p
        let X' := (R * R + 3 * p - H3 - 2 * V) % p
        (X', (R * (V + p - X') + p - Y * H3 % p) % p, Z * H % p)

/-- Scalar multiplication, over the bits from the top. -/
def ecMul (k : Nat) (P : EcPoint) : EcPoint :=
  match P with
  | none => none
  | some Q =>
    match (List.range 384).foldl (fun acc i =>
        let acc := jacDouble acc
        if k.testBit (383 - i) then jacAdd acc Q else acc) (1, 1, 0) with
    | (X, Y, Z) =>
      if Z = 0 then none
      else
        let v := invMod p384p Z
        let v2 := v * v % p384p
        some (X * v2 % p384p, Y * (v2 * v % p384p) % p384p)

/-- Whether coordinates name a point of the curve. -/
def onCurve (x y : Nat) : Bool :=
  decide (x < p384p) && decide (y < p384p) && (y * y % p384p == (x * x % p384p * x + (p384p - 3) * x + p384b) % p384p)

/-- ECDSA verification of a 48-byte digest with a public key and signature of big-endian halves. -/
def ecdsaVerify (pub sig digest : List Byte) : Bool :=
  let x := ofBE (pub.take 48)
  let y := ofBE ((pub.drop 48).take 48)
  let r := ofBE (sig.take 48)
  let s := ofBE ((sig.drop 48).take 48)
  if r = 0 ∨ s = 0 ∨ p384n ≤ r ∨ p384n ≤ s ∨ ! onCurve x y then false
  else
    let w := invMod p384n s
    let z := ofBE digest
    match ecAdd (ecMul (z * w % p384n) (some p384g)) (ecMul (r * w % p384n) (some (x, y))) with
    | none => false
    | some (px, _) => px % p384n == r

/-- ECDSA signature of a digest with private key d and nonce k. -/
def ecdsaSign (d k : Nat) (digest : List Byte) : List Byte :=
  match ecMul k (some p384g) with
  | none => List.replicate 96 0
  | some (px, _) =>
    let r := px % p384n
    toBE 48 r ++ toBE 48 (invMod p384n k * ((ofBE digest + r * d) % p384n) % p384n)

/-- The public key of a private key, as 96 bytes. -/
def ecPublic (d : Nat) : List Byte :=
  match ecMul d (some p384g) with
  | none => List.replicate 96 0
  | some (x, y) => toBE 48 x ++ toBE 48 y

end Sys2Proof.Machine
end

