-- ==== Sys2Proof/Machine/Frames.lean ====
section
/-! DEFINITION. Tensor frames (09 R333–R337): their layout, check and single-bit correction, management messages, and the
64-byte packet header (R356) with the frames a packet takes. -/

namespace Sys2Proof.Machine

/-! ### Frames (R333, R334) -/

/-- A field of a frame. -/
def frameF (w : BitVec 1152) (lo n : Nat) : Nat := bits w.toNat lo n

/-- The bytes fcrc covers: bits [95:0] and [1151:128] (R333). -/
def fcrcBytes (w : Nat) : List Byte := toLE 12 w ++ toLE 128 (w / 2 ^ 128)

/-- A frame with its fcrc. -/
def sealFrame (w : Nat) : BitVec 1152 :=
  let w := putBits w 96 32 0
  BitVec.ofNat 1152 (w + crc32C (fcrcBytes w) * 2 ^ 96)

/-- One step of the reflected CRC-32C register. -/
def crcBack (a : Nat) : Nat := if a % 2 = 1 then (a / 2) ^^^ 0x82F63B78 else a / 2

/-- The covered bit, counted from the last, whose error gives this syndrome. -/
def errPlace (syn : Nat) : Nat → Nat → Nat → Option Nat
  | 0, _, _ => none
  | n + 1, cur, k =>
    let c := crcBack cur
    if c = syn then some k else errPlace syn n c (k + 1)

/-- A received frame with any single-bit error corrected, and whether one was; none when it is uncorrectable (R335). -/
def checkFrame (w : BitVec 1152) : Option (BitVec 1152 × Bool) :=
  let syn := crc32C (fcrcBytes w.toNat) ^^^ frameF w 96 32
  if syn = 0 then some (w, false)
  else if syn = 2 ^ Nat.log2 syn then some (sealFrame w.toNat, true)
  else match errPlace syn 1120 1 0 with
    | none => none
    | some k =>
      let i := 1119 - k
      let i := if i < 96 then i else i + 32
      some (BitVec.ofNat 1152 (w.toNat ^^^ 2 ^ i), true)

/-- A frame from its header fields (R333) and at most two granules with their carried checks. -/
def mkFrame (vc dl kind route : Nat) (gs : List (Gran × BitVec 16)) : BitVec 1152 :=
  let gv := 2 ^ gs.length - 1
  let body := gs.zipIdx.foldl (fun a g =>
    a + g.1.2.toNat * 2 ^ (64 + 16 * g.2) + g.1.1.toNat * 2 ^ (128 + 512 * g.2)) 0
  sealFrame (vc + dl * 2 ^ 2 + kind * 2 ^ 3 + gv * 2 ^ 5 + route + body)

/-- The granules present in a frame with their carried checks. -/
def frameGrans (w : BitVec 1152) : List (Gran × BitVec 16) :=
  ((List.range 2).filter fun i => w.toNat.testBit (5 + i)).map fun i =>
    (BitVec.ofNat 512 (frameF w (128 + 512 * i) 512), BitVec.ofNat 16 (frameF w (64 + 16 * i) 16))

/-- A scheduled frame (R334). -/
def VcFrame.bits (f : VcFrame) : BitVec 1152 :=
  mkFrame 0 0 3 (f.dstPix * 2 ^ 8 + f.dstUnit * 2 ^ 22 + f.gidx * 2 ^ 32) f.data

/-- The payload granules of a management frame: eight 16-byte messages (R337). -/
def mgmtGrans (ms : List (BitVec 128)) : List (Gran × BitVec 16) :=
  let pay := ms.zipIdx.foldl (fun a m => a + m.1.toNat * 2 ^ (128 * m.2)) 0
  let g0 : Gran := BitVec.ofNat 512 pay
  let g1 : Gran := BitVec.ofNat 512 (pay / 2 ^ 512)
  [(g0, granCheck g0), (g1, granCheck g1)]

/-- The route bits of lack and lack_vld (R334). -/
def Port.lackBits (p : Port) : Nat := if p.lackVld then ((p.lexp + 4095) % 4096) * 2 ^ 20 + 2 ^ 32 else 0

/-- A management frame of at most eight messages; with none, the idle frame (R336, R337). -/
def Port.mgmtFrame (p : Port) (ms : List (BitVec 128)) : BitVec 1152 := mkFrame 3 0 3 p.lackBits (mgmtGrans ms)

/-- Queue a management message on a port. -/
def State.queueMgmt (s : State) (q : Nat) (m : Nat) : State :=
  s.updPort q fun p => { p with mgmt := p.mgmt ++ [BitVec.ofNat 128 m] }

/-- An optical management message (R314). -/
def opticMsg (op lane margin frame : Nat) : Nat :=
  op + lane * 2 ^ 8 + (margin % 256) * 2 ^ 16 + (frame % 2 ^ 64) * 2 ^ 32

/-! ### Packets (R356) -/

/-- The 64-byte packet header (R356). -/
def Packet.header (k : Packet) : Gran :=
  BitVec.ofNat 512 (
    k.op + k.flags * 2 ^ 8 + k.granules * 2 ^ 16 + k.srcEid * 2 ^ 32 + k.aop * 2 ^ 56 + k.addr % 2 ^ 64 * 2 ^ 64
      + k.seq * 2 ^ 128 + k.srcSession * 2 ^ 192 + k.dstSession * 2 ^ 224 + k.launch * 2 ^ 256
      + k.bytes * 2 ^ 288 + k.tag * 2 ^ 304 + k.opv % 2 ^ 64 * 2 ^ 320 + k.opc % 2 ^ 64 * 2 ^ 384
      + k.aux % 2 ^ 64 * 2 ^ 448)

/-- The packet a header and its data granules make (R356). -/
def packetOf (h : Gran) (data : List (Gran × BitVec 16)) : Packet :=
  let w := h.toNat
  { op := bits w 0 8, flags := bits w 8 8, granules := bits w 16 16, srcEid := bits w 32 24, aop := bits w 56 8,
    addr := bits w 64 64, seq := bits w 128 64, srcSession := bits w 192 32, dstSession := bits w 224 32,
    launch := bits w 256 32, bytes := bits w 288 16, tag := bits w 304 16, opv := bits w 320 64, opc := bits w 384 64,
    aux := bits w 448 64, data := data }

/-- Whether an op is a response, on VC2 (R356). -/
def isResponse (op : Nat) : Bool := op == 5 || op == 6 || op == 7 || op == 8 || op == 11

/-- Pairs of granules for body frames. -/
def pairs : List (Gran × BitVec 16) → List (List (Gran × BitVec 16))
  | [] => []
  | [a] => [[a]]
  | a :: b :: t => [a, b] :: pairs t

/-- The frames of a packet toward an EID in a dateline class: a head with the header in position 0 and the first data
granule in position 1, then two data granules a frame (R356). -/
def packetFrames (vc dl dstEid : Nat) (h : Gran) (data : List (Gran × BitVec 16)) : List (BitVec 1152) :=
  let body := pairs (data.drop 1)
  let n := body.length
  let head := mkFrame vc dl (if n = 0 then 3 else 0) (dstEid * 2 ^ 33) ((h, granCheck h) :: data.take 1)
  head :: body.zipIdx.map fun b => mkFrame vc dl (if b.2 + 1 = n then 2 else 1) 0 b.1

/-! ### Routes (R346, R347) -/

def routeDefault : Nat → Nat := fun _ => 0

/-- The route entry of a PIX (R346). -/
def State.route (s : State) (p pix : Nat) : Nat := tabGet routeDefault (s.part p).routes pix

/-- The valid candidates of a route entry: port and whether the hop crosses a dateline (R346). -/
def validCands (e : Nat) : List (Nat × Bool) :=
  ((List.range 4).filter fun i => e.testBit (6 * i + 5)).map fun i => (bits e (6 * i) 5, e.testBit (24 + i))

/-- The hash of R347. -/
def routeHash (srcPix addr : Nat) : Nat :=
  let x := srcPix * 2 ^ 35 + bits addr 6 35
  bits x 0 16 ^^^ bits x 16 16 ^^^ bits x 32 16 ^^^ (bits x 48 1 * 2 ^ 15)

/-- The logical port a free packet takes, and whether the hop crosses a dateline (R347). -/
def State.routePort (s : State) (p pix srcPix addr : Nat) : Option (Nat × Bool) :=
  let cs := validCands (s.route p pix)
  if cs.isEmpty then none else cs[routeHash srcPix addr % cs.length]?

/-- The physical port of a partition that carries a logical port (R355). -/
def State.physOf (s : State) (p lp : Nat) : Nat :=
  match (List.range 32).find? fun q => s.partOfPort q == p && s.rd F.PORT_STS_logical 0 q == lp with
  | some q => q
  | none => lp

/-- The logical port that a physical port carries. -/
def State.logicalOf (s : State) (q : Nat) : Nat := s.rd F.PORT_STS_logical 0 q

/-- Queue a free packet of this package on the port its route gives, in the class its first hop takes (R342, R347). -/
def State.queuePacket (s : State) (p dstEid srcPix : Nat) (k : Packet) : State :=
  match s.routePort p (dstEid / 1024) srcPix k.addr with
  | none => s
  | some (lp, dl) =>
    let fs := packetFrames (if isResponse k.op then 2 else 1) (b2n dl) dstEid k.header k.data
    s.updPort (s.physOf p lp) fun q => { q with freeq := q.freeq ++ fs.map fun f => { bits := f, src := none } }

end Sys2Proof.Machine
end

