-- ==== Sys2Proof/Machine/Ecc.lean ====
section
/-! DEFINITION. The HBM outer code (07 R266): the systematic Reed–Solomon code over GF(2^8) with field polynomial 0x11D,
α = 2, generator roots α^0 … α^7, and the decoder of up to four symbol errors. -/

namespace Sys2Proof.Machine

/-- Multiplication in GF(2^8) modulo 0x11D. -/
def gfMul (a b : Nat) : Nat :=
  (List.range 8).foldl (fun acc i =>
    let acc := if acc.testBit 7 then ((acc * 2) ^^^ 0x11D) % 256 else acc * 2
    if b.testBit (7 - i) then acc ^^^ a else acc) 0

/-- A power in the field. -/
def gfPow (a : Nat) : Nat → Nat
  | 0 => 1
  | n + 1 => gfMul a (gfPow a n)

/-- The inverse: a to the 254th. -/
def gfInv (a : Nat) : Nat :=
  let a2 := gfMul a a
  let a4 := gfMul a2 a2
  let a8 := gfMul a4 a4
  let a16 := gfMul a8 a8
  let a32 := gfMul a16 a16
  let a64 := gfMul a32 a32
  let a128 := gfMul a64 a64
  gfMul a128 (gfMul a64 (gfMul a32 (gfMul a16 (gfMul a8 (gfMul a4 a2)))))

/-- A polynomial with its lowest coefficient first, at x. -/
def polyEval : List Nat → Nat → Nat
  | [], _ => 0
  | c :: t, x => c ^^^ gfMul x (polyEval t x)

/-- Sum of two polynomials. -/
def polyAdd : List Nat → List Nat → List Nat
  | [], b => b
  | a, [] => a
  | a :: s, b :: t => (a ^^^ b) :: polyAdd s t

/-- A polynomial times a constant. -/
def polyScale (c : Nat) (a : List Nat) : List Nat := a.map (gfMul c)

/-- Product of two polynomials. -/
def polyMul : List Nat → List Nat → List Nat
  | [], _ => []
  | a :: s, b => polyAdd (polyScale a b) (0 :: polyMul s b)

/-- g(x) = (x − α^0) … (x − α^7), lowest coefficient first (R266). -/
def rsGen : List Nat := (List.range 8).foldl (fun g j => polyMul g [gfPow 2 j, 1]) [1]

/-- The eight check symbols 64–71 of 64 data symbols: the remainder of their polynomial times x^8, highest first. -/
def rsEncode (data : List Nat) : List Nat :=
  let low := (rsGen.take 8).reverse
  data.foldl (fun r d =>
    let f := d ^^^ r.headD 0
    List.zipWith (· ^^^ ·) (r.drop 1 ++ [0]) (polyScale f low)) (List.replicate 8 0)

/-- The syndromes of 72 received symbols. -/
def rsSyndromes (cw : List Nat) : List Nat :=
  (List.range 8).map fun j =>
    let a := gfPow 2 j
    cw.foldl (fun acc c => gfMul acc a ^^^ c) 0

/-- The state of the Berlekamp–Massey recursion. -/
structure BmState where
  c : List Nat
  b : List Nat
  len : Nat
  m : Nat
  last : Nat

/-- One step, at syndrome n. -/
def bmStep (syn : List Nat) (s : BmState) (n : Nat) : BmState :=
  let d := (List.range (s.len + 1)).foldl (fun a i => a ^^^ gfMul (s.c.getD i 0) (syn.getD (n - i) 0)) 0
  if d = 0 then { s with m := s.m + 1 }
  else
    let c' := polyAdd s.c (List.replicate s.m 0 ++ polyScale (gfMul d (gfInv s.last)) s.b)
    if 2 * s.len ≤ n then { c := c', b := s.c, len := n + 1 - s.len, m := 1, last := d }
    else { s with c := c', m := s.m + 1 }

/-- The locator X of symbol i: α^(71 − i). -/
def rsLocator (i : Nat) : Nat := gfPow 2 (71 - i)

/-- The formal derivative at x, in characteristic 2. -/
def polyDeriv (a : List Nat) : List Nat :=
  (a.zipIdx.drop 1).map fun x => if x.2 % 2 = 1 then x.1 else 0

/-- Decode 72 symbols: the corrected symbols and how many were corrected, or none when no codeword lies within four
symbols (R266). -/
def rsDecode (cw : List Nat) : Option (List Nat × Nat) :=
  let syn := rsSyndromes cw
  if syn.all (· == 0) then some (cw, 0)
  else
    let s := (List.range 8).foldl (bmStep syn) { c := [1], b := [1], len := 0, m := 1, last := 1 }
    if 4 < s.len then none
    else
      let bad := (List.range 72).filter fun i => polyEval s.c (gfInv (rsLocator i)) == 0
      if bad.length ≠ s.len then none
      else
        let omega := (polyMul syn s.c).take 8
        let fixed := cw.zipIdx.map fun x =>
          if bad.contains x.2 then
            let X := rsLocator x.2
            let xi := gfInv X
            x.1 ^^^ gfMul X (gfMul (polyEval omega xi) (gfInv (polyEval (polyDeriv s.c) xi)))
          else x.1
        if (rsSyndromes fixed).all (· == 0) then some (fixed, s.len) else none

end Sys2Proof.Machine
end

