-- ==== Sys2Proof/Machine/Memory.lean ====
section
/-! DEFINITION. Memory: address maps and the interleave hash (07 R245–R250), granules in SRAM and HBM with their codes,
checks and poison (07 R264–R269; 13 R461–R465), reads and writes at the home (06 R211–R213, R230). -/

namespace Sys2Proof.Machine

/-! ### Address maps -/

def sramBase : Nat := 0x18000000000
def tileBytes : Nat := 0x06000000
def regsBase : Nat := 0x1F000000000
def hbmWhole : Nat := 0x16800000000
def hbmHalf : Nat := 0x0B400000000
def chanLocs : Nat := 9437184

/-- rotl16 of R249. -/
def rotl16 (v k : Nat) : Nat := (v * 2 ^ k) % 65536 + v / 2 ^ (16 - k)

/-- F(v) of R249: the first fold value of base v. -/
def foldBase (c v : Nat) : Nat := cdiv (65536 * v) c

/-- The interleave hash of R249 over C channels: channel index and location of a local HBM address. -/
def hbmHash (c addr : Nat) : Nat × Nat :=
  let x := bits addr 8 33
  let fold := bits x 0 16 ^^^ rotl16 (bits x 16 16) 5 ^^^ (bits x 32 1 * 2 ^ 11)
  let blk := bits addr 24 17
  let rot := blk % c
  let cyc := blk / c
  let base := (fold * c) / 65536
  let ci := (base + rot) % c
  let p := if rot ≤ ci + 1 then foldBase c (ci + 1) - foldBase c (ci + 1 - rot)
           else foldBase c (ci + 1) + 65536 - foldBase c (ci + 1 + c - rot)
  (ci, 65536 * cyc + p + (fold - foldBase c base))

/-- Where a local address lives. -/
inductive Home where
  | sram (addr : Nat)
  | hbm (chan loc gran off : Nat)
  | window (off : Nat)
  | nowhere
deriving DecidableEq, Repr

/-- The home of a local address in a partition's map (R245, R246). -/
def State.home (s : State) (p addr : Nat) : Home :=
  if addr < (if s.twoPart then hbmHalf else hbmWhole) then
    let h := hbmHash (if s.twoPart then 320 else 640) addr
    .hbm ((if s.twoPart then 320 * p else 0) + h.1) h.2 (bits addr 6 2) (addr % 64)
  else if sramBase ≤ addr ∧ addr < sramBase + 16 * tileBytes then
    if s.twoPart && (addr - sramBase) / tileBytes / 8 != p then .nowhere else .sram addr
  else if regsBase ≤ addr ∧ addr < regsBase + 0x4000000 then .window (addr - regsBase)
  else .nowhere

/-- The storage granule of an HBM location, in the model's own numbering of storage: channel, location, granule. -/
def hbmPhys (chan loc gran : Nat) : Nat := (chan * chanLocs + loc) * 4 + gran

/-- The channel of an HBM storage granule. -/
def physChan (ph : Nat) : Nat := ph / 4 / chanLocs
/-- Its location. -/
def physLoc (ph : Nat) : Nat := ph / 4 % chanLocs
/-- Its granule in the unit. -/
def physGran (ph : Nat) : Nat := ph % 4

/-- The tile of an SRAM address. -/
def sramTile (addr : Nat) : Nat := (addr - sramBase) / tileBytes

/-! ### Bytes -/

def byteDefault : Nat → Byte := fun _ => 0

/-- One stored byte; storage that nothing has written reads 0 (DESIGN CHOICE, notes/assumptions/15.md). -/
def State.byte (s : State) (a : Nat) : Byte := tabGet byteDefault s.mem a

def memPut (m : List Host.Cell) (a : Nat) : List Byte → List Host.Cell
  | [] => m
  | b :: bs => memPut (tabSet byteDefault m a b) (a + 1) bs

/-- The canonical form of memory. -/
abbrev Memory.wf (m : List Host.Cell) : Prop := tabWf byteDefault m = true

/-- The stored data of a 64-byte unit of storage. -/
def State.rawGran (s : State) (a : Nat) : Gran :=
  BitVec.ofNat 512 (ofLE ((List.range 64).map fun i => s.byte (a + i)))

/-- Store a granule's data. -/
def State.putRaw (s : State) (a : Nat) (g : Gran) : State := { s with mem := memPut s.mem a (toLE 64 g.toNat) }

/-! ### SRAM granules (13 R464, R465) -/

def sramDefault : Nat → SramSide := fun _ => { check := 0, poison := false, err := 0 }

/-- The side of an SRAM granule. -/
def State.sramSide (s : State) (a : Nat) : SramSide := tabGet sramDefault s.sram (a / 64)

def State.setSramSide (s : State) (a : Nat) (d : SramSide) : State :=
  { s with sram := tabSet sramDefault s.sram (a / 64) d }

/-- The number of stored bits in error in SRAM word w (0–7), or in the side word (8). -/
def errWeight (e : BitVec 600) (w : Nat) : Nat :=
  if w < 8 then popcount 72 (bits e.toNat (72 * w) 72) else popcount 24 (bits e.toNat 576 24)

/-- The words with one bit in error. -/
def ceWords (e : BitVec 600) : List Nat := (List.range 9).filter fun w => errWeight e w == 1
/-- The words that are uncorrectable (R464). -/
def ueWords (e : BitVec 600) : List Nat := (List.range 9).filter fun w => decide (1 < errWeight e w)

/-- What a read delivers: data, the check it carries, and whether it is poisoned (R267, R463, R465). -/
structure Delivered where
  data : Gran
  check : BitVec 16
  poisoned : Bool
deriving DecidableEq, Repr

/-- Whether a delivered granule passes its verification (R463): a poisoned one carries its check complemented. -/
def Delivered.ok (d : Delivered) : Bool := !d.poisoned && d.check == granCheck d.data

/-- The data of a granule with the errors of its uncorrectable words. -/
def errData (g : Gran) (e : BitVec 600) : Gran :=
  BitVec.ofNat 512 ((ueWords e).foldl (fun a w =>
    if w < 8 then a ^^^ (bits e.toNat (72 * w) 64 * 2 ^ (64 * w)) else a) g.toNat)

/-- A poisoned granule carries its check complemented (R267). -/
def poisonedOf (g : Gran) : Delivered := { data := g, check := ~~~ granCheck g, poisoned := true }

/-- Record the place of the last SRAM error (SRM_STS). -/
def State.srmLast (s : State) (a w : Nat) (ue : Bool) : State :=
  let t := sramTile a
  let s := s.wr F.SRM_STS_granule ((a - sramBase) % tileBytes / 64) 0 t
  let s := s.wr F.SRM_STS_word (if w < 8 then w else 0) 0 t
  s.wr F.SRM_STS_last_ue (b2n ue) 0 t

def listDefault : Nat → List Nat := fun _ => []

/-- Note an uncorrectable detection in a tile (unit 0–15) or stack (unit 16–35) for the limit of R482. -/
def State.noteUe (s : State) (p unit : Nat) : State :=
  { s with ueTicks := tabUpd listDefault s.ueTicks unit fun l => (s.part p).gtc :: l }

/-- SRAM read of a granule (R465): corrects, counts and queues a rewrite; poisons an uncorrectable granule once. -/
def State.sramRead (s : State) (a : Nat) : State × Delivered :=
  let t := sramTile a
  let p := s.partOfTile t
  let d := s.sramSide a
  let g := s.rawGran a
  let ue := ueWords d.err
  let ce := ceWords d.err
  let s :=
    if ce.isEmpty then s
    else
      let s := (s.count F.SRM_STS_ce_cnt ce.length 0 t).srmLast a (ce.getD 0 0) false
      let s := { s with sramFix := tabUpd listDefault s.sramFix t fun l => if l.contains a then l else l ++ [a] }
      s.record p 0 1 t (die := 16 + t) (addr := a) (info0 := ce.getD 0 0)
  if ue.isEmpty then
    if d.poison then (s, poisonedOf g) else (s, { data := g, check := d.check, poisoned := false })
  else if d.poison then (s, poisonedOf (errData g d.err))
  else
    let s := s.setSramSide a { d with poison := true }
    let s := (s.count F.SRM_STS_ue_cnt 1 0 t).srmLast a (ue.getD 0 0) true
    let s := s.noteUe p t
    let s := s.record p 1 1 t (die := 16 + t) (addr := a) (info0 := ue.foldl (fun m w => m + 2 ^ w) 0)
    (s, poisonedOf (errData g d.err))

/-- Whole-granule write in SRAM, stored with the check it carries; it clears poison and replaces every word
(R463, R465). -/
def State.sramWrite (s : State) (a : Nat) (g : Gran) (check : BitVec 16) : State :=
  (s.putRaw a g).setSramSide a { check := check, poison := false, err := 0 }

/-! ### HBM granules (07 R265–R269, R276, R277) -/

def hbmSideDefault : Nat → BitVec 128 := fun _ => 0

/-- The side field of an HBM storage granule: side byte 2p + h is check pin p, beats 8h to 8h + 7 (R265). -/
def State.hbmSideOf (s : State) (ph : Nat) : BitVec 128 := tabGet hbmSideDefault s.hbmSide ph

def State.setHbmSide (s : State) (ph : Nat) (v : BitVec 128) : State :=
  { s with hbmSide := tabSet hbmSideDefault s.hbmSide ph v }

/-- The two keys of a partition's inline encryption (R277, R278). -/
def State.memKeys (s : State) (p : Nat) : List Byte × List Byte :=
  (toLE 32 (s.part p).memKey, toLE 32 ((s.part p).memKey / 2 ^ 256))

/-- Whether inline encryption is in effect (R276). -/
def State.encOn (s : State) (p : Nat) : Bool := s.rdB F.MEM_STS_enc_active p

def usedDefault : Nat → Bool := fun _ => false

/-- Whether a storage granule holds ciphertext: inline encryption is in effect and the granule has been written since the
zero-fill, whose zeros the model keeps in clear (R271, R276; DEDUCED, notes/assumptions/21.md). -/
def State.cipher (s : State) (p ph : Nat) : Bool := s.encOn p && tabGet usedDefault s.hbmUsed ph

/-- The tweak of a local granule address (R277). -/
def xtsTweakOf (p addr : Nat) : Nat := bits addr 6 35 + p * 2 ^ 35

/-- The mask XORed onto both stored check copies under encryption: bytes 0–1 of the encrypted tweak (R277). -/
def State.checkMask (s : State) (p addr : Nat) (on : Bool) : Nat :=
  if on then xtsTweak (s.memKeys p).2 (xtsTweakOf p addr) % 65536 else 0

/-- The side field of stored data, check and flags (R265). -/
def sideField (stored : Gran) (check flags : Nat) : BitVec 128 :=
  let sym := ofLE (toBytes (rsEncode (ofBytes (toLE 64 stored.toNat))))
  let half := bits check 0 8 + flags * 2 ^ 8 + bits check 8 8 * 2 ^ 16
  BitVec.ofNat 128 (sym + half * 2 ^ 64 + half * 2 ^ 96)

/-- The copies of the carried check in a side field. -/
def sideCheckA (v : BitVec 128) : Nat := bits v.toNat 64 8 + bits v.toNat 80 8 * 256
def sideCheckB (v : BitVec 128) : Nat := bits v.toNat 96 8 + bits v.toNat 112 8 * 256

/-- Whether either copy of the flags has poison set (R267). -/
def sidePoison (v : BitVec 128) : Bool := v.toNat.testBit 72 || v.toNat.testBit 104

/-- The outcome of decoding a storage granule: corrected stored data and symbols corrected, or none (R266). -/
def State.hbmDecode (s : State) (ph : Nat) : Option (Gran × Nat) :=
  let side := s.hbmSideOf ph
  let cw := ofBytes (toLE 64 (s.rawGran (ph * 64)).toNat ++ toLE 8 side.toNat)
  (rsDecode cw).map fun r => (BitVec.ofNat 512 (ofLE (toBytes (r.1.take 64))), r.2)

/-- MCH_ERR_LOC of a storage granule. -/
def errLoc (ph symbols : Nat) : Nat :=
  physLoc ph + (physLoc ph % 2) * 2 ^ 24 + physGran ph * 2 ^ 25 + symbols * 2 ^ 27

/-- A correction of 1–4 symbols (R267): ce and sym_cnt, and for 3–4 heavy_ce, MCH_ERR_LOC and a queued rewrite (R269). -/
def State.hbmCe (s : State) (p ph n : Nat) : State :=
  let c := physChan ph
  let s := s.flag F.MCH_EVT_ce F.MCH_EVT_CNT_ce_cnt 0 c
  let s := s.flag F.MEM_EVT_ce F.MEM_EVT_CNT_ce_cnt p
  let s := s.count F.MCH_CE_CNT_sym_cnt n 0 c
  let s := s.record p 0 2 c (addr := 0) (info0 := errLoc ph n)
  if n < 3 then s
  else
    let s := s.flag F.MCH_EVT_heavy_ce F.MCH_EVT_CNT_heavy_cnt 0 c
    let s := s.setReg .MCH_ERR_LOC (BitVec.ofNat 64 (errLoc ph n)) 0 c
    let s := s.ageLog (c / 320) 20 1 c (physLoc ph) (physGran ph)
    s.updChan c fun d => { d with rewrites := if d.rewrites.contains ph then d.rewrites else d.rewrites ++ [ph] }

/-- An uncorrectable granule (R267, R269): ue, MCH_ERR_LOC, a UE record and the count of R482. -/
def State.hbmUe (s : State) (p ph addr : Nat) : State :=
  let c := physChan ph
  let s := s.flag F.MCH_EVT_ue F.MCH_EVT_CNT_ue_cnt 0 c
  let s := s.flag F.MEM_EVT_ue F.MEM_EVT_CNT_ue_cnt p
  let s := s.setReg .MCH_ERR_LOC (BitVec.ofNat 64 (errLoc ph 7)) 0 c
  let s := s.noteUe p (16 + c / 32)
  s.record p 1 2 c (addr := addr) (info0 := errLoc ph 7)

/-- HBM read of a granule of local address `addr` at storage granule `ph` (R267). A granule already poisoned is a poison_read and
no new uncorrectable detection (R482). -/
def State.hbmRead (s : State) (p addr ph : Nat) : State × Delivered :=
  let c := physChan ph
  let side := s.hbmSideOf ph
  match s.hbmDecode ph with
  | none =>
    let g := s.rawGran (ph * 64)
    if sidePoison side then (s.flag F.MCH_EVT_poison_read F.MCH_EVT_poison_cnt 0 c, poisonedOf g)
    else (s.hbmUe p ph addr, poisonedOf g)
  | some (stored, n) =>
    let s := if n = 0 then s else s.hbmCe p ph n
    let keys := s.memKeys p
    let g := if s.cipher p ph then xtsDecrypt keys.1 keys.2 (xtsTweakOf p addr) stored else stored
    if sidePoison side then
      (s.flag F.MCH_EVT_poison_read F.MCH_EVT_poison_cnt 0 c, poisonedOf g)
    else
      let m := s.checkMask p addr (s.cipher p ph)
      let a := sideCheckA side ^^^ m
      let b := sideCheckB side ^^^ m
      let want := (granCheck g).toNat
      if a = want then (s, { data := g, check := BitVec.ofNat 16 a, poisoned := false })
      else if b = want then (s, { data := g, check := BitVec.ofNat 16 b, poisoned := false })
      else (s.flag F.MCH_EVT_check_mismatch F.MCH_EVT_mismatch_cnt 0 c,
            { data := g, check := BitVec.ofNat 16 a, poisoned := false })

/-- Every buffered copy of a granule follows a write to it, in the same tick (R233, R273). -/
def refreshLines (ph : Nat) (g : Gran) (check : BitVec 16) (l : List LineBuf) : List LineBuf :=
  l.map fun b => if b.phys = ph then { b with data := g, check := check } else b

/-- HBM write of a whole granule with the check it carries; it clears poison (R268). -/
def State.hbmWrite (s : State) (p addr ph : Nat) (g : Gran) (check : BitVec 16) : State :=
  let keys := s.memKeys p
  let stored := if s.encOn p then xtsEncrypt keys.1 keys.2 (xtsTweakOf p addr) g else g
  let side := sideField stored (check.toNat ^^^ s.checkMask p addr (s.encOn p)) 0
  let s := (s.putRaw (ph * 64) stored).setHbmSide ph side
  let s := { s with hbmUsed := tabSet usedDefault s.hbmUsed ph (s.encOn p) }
  s.updChan (physChan ph) fun d => { d with
    lines0 := refreshLines ph g check d.lines0, lines1 := refreshLines ph g check d.lines1 }

/-! ### Any granule of the local map -/

/-- Read the granule at a local address (of its first byte). None where the map holds no memory. -/
def State.readGran (s : State) (p addr : Nat) : Option (State × Delivered) :=
  match s.home p addr with
  | .sram a => some (s.sramRead (a / 64 * 64))
  | .hbm c l g _ => some (s.hbmRead p (addr / 64 * 64) (hbmPhys c l g))
  | .window _ => none
  | .nowhere => none

/-- The landing buffer that an SRAM address lies in (R178). -/
def State.landingAt (s : State) (p addr : Nat) : Option (Nat × Landing) :=
  match (s.part p).image with
  | none => none
  | some img => (img.landing.zipIdx.find? fun x =>
      decide (x.1.base ≤ addr) && decide (addr < x.1.base + 64 * x.1.size)).map fun x => (x.2, x.1)

/-- Count a granule write that lands in a landing buffer while RUNNING (R179). -/
def State.landed (s : State) (p addr : Nat) : State :=
  if ! s.running p then s
  else match s.landingAt p addr with
    | none => s
    | some (j, _) =>
      if (s.part p).landOpen.contains j then s.countSat F.LAND_STS_count 1 p j
      else (s.flag F.SCH_EVT_late_landing F.SCH_EVT_CNT_landing_cnt p).wr F.LAND_STS_late 1 p j

/-- Write a whole granule with the check it carries. -/
def State.writeGran (s : State) (p addr : Nat) (g : Gran) (check : BitVec 16) : Option State :=
  match s.home p addr with
  | .sram a => some ((s.sramWrite (a / 64 * 64) g check).landed p addr)
  | .hbm c l k _ => some (s.hbmWrite p (addr / 64 * 64) (hbmPhys c l k) g check)
  | .window _ => none
  | .nowhere => none

/-- A granule with some of its bytes replaced. -/
def spliceGran (g : Gran) (off : Nat) (bs : List Byte) : Gran :=
  BitVec.ofNat 512 (putBits g.toNat (8 * off) (8 * bs.length) (ofLE bs))

/-- Bytes of a granule. -/
def granBytes (g : Gran) (off n : Nat) : List Byte := toLE n (g.toNat / 2 ^ (8 * off))

/-- A write of part of one granule: one read-modify-write at the home with the check recomputed (R213). The flag is
false, and nothing is written, when the granule fails its check, is uncorrectable or poisoned (R156, R268, R465). -/
def State.writePart (s : State) (p addr : Nat) (bs : List Byte) : Option (State × Bool) :=
  match s.readGran p addr with
  | none => none
  | some (s, d) =>
    if ! d.ok then some (s, false)
    else
      let g := spliceGran d.data (addr % 64) bs
      (s.writeGran p (addr / 64 * 64) g (granCheck g)).map fun s => (s, true)

/-- The result of an atomic operation (R229): op 0 add, 1 min, 2 max (signed), 3 cas, on 4 or 8 bytes. -/
def atomicResult (op : Nat) (w8 : Bool) (old v c : Nat) : Nat :=
  let w := if w8 then 64 else 32
  let o := old % 2 ^ w
  let x := v % 2 ^ w
  if op = 0 then (o + x) % 2 ^ w
  else if op = 1 then (if sext w o ≤ sext w x then o else x)
  else if op = 2 then (if sext w x ≤ sext w o then o else x)
  else if o = c % 2 ^ w then x else o

/-- An atomic at its home (R230, R232): the old value and the new state, or none for the value when it is not
performed because the granule is bad. -/
def State.atomic (s : State) (p addr op : Nat) (w8 : Bool) (v c : Nat) : Option (State × Option Nat) :=
  match s.readGran p addr with
  | none => none
  | some (s, d) =>
    if ! d.ok then some (s, none)
    else
      let n := if w8 then 8 else 4
      let old := bits d.data.toNat (8 * (addr % 64)) (8 * n)
      let g := spliceGran d.data (addr % 64) (toLE n (atomicResult op w8 old v c))
      (s.writeGran p (addr / 64 * 64) g (granCheck g)).map fun s => (s, some old)

/-! ### Effective addresses beyond the local map (R247, R363) -/

/-- Where an effective address leads. -/
inductive Target where
  | here (addr : Nat)
  | package (pix addr : Nat)
  | far (entry addr : Nat)
  | bad
deriving DecidableEq, Repr

/-- Resolve the PIX of a global address (R247, R363): own package, a member of the placement, a valid far-device entry. -/
def State.pixTarget (s : State) (p pix addr : Nat) : Target :=
  let q := s.part p
  if 5119 < pix then .bad
  else if 1024 ≤ pix then
    if (tabGet (fun _ => (0 : BitVec 256)) q.far (pix - 1024)).toNat.testBit 156 then .far (pix - 1024) addr else .bad
  else match q.placement with
    | none => .bad
    | some pl =>
      if pix = pl.own then .here addr
      else if pl.members.any (·.pix == pix) then .package pix addr else .bad

/-- Resolve a 64-bit effective address; the set-up window of any package is out of reach (R247, R248). -/
def State.target (s : State) (p ea : Nat) : Target :=
  if ea.testBit 63 then
    if ea.testBit 62 ∨ bits ea 41 7 ≠ 0 then .bad
    else match s.pixTarget p (bits ea 48 14) (bits ea 0 41) with
      | .package px a => if regsBase ≤ a ∧ a < regsBase + 0x4000000 then .bad else .package px a
      | .here a => .here a
      | .far f a => .far f a
      | .bad => .bad
  else if bits ea 41 22 ≠ 0 then .bad
  else .here ea

end Sys2Proof.Machine
end

