-- ==== Sys2Proof/Machine/E2e.lean ====
section
/-! DEFINITION. Sending requests beyond the package: sequence numbers (06 R222, R224; 09 R357), tags, and the route entry
that says whether a destination can be reached (09 R346, R348). -/

namespace Sys2Proof.Machine

def e2eOutDefault : Nat → E2eOut := fun _ => {}
def e2eInDefault : Nat → E2eIn := fun _ => {}
def natDefault : Nat → Nat := fun _ => 0

/-- The sending side toward a destination package. -/
def State.e2eOut (s : State) (p pix : Nat) : E2eOut := tabGet e2eOutDefault (s.part p).e2eOut pix

def State.updE2eOut (s : State) (p pix : Nat) (f : E2eOut → E2eOut) : State :=
  s.updPart p fun q => { q with e2eOut := tabUpd e2eOutDefault q.e2eOut pix f }

/-- The receiving side from a source package. -/
def State.e2eIn (s : State) (p pix : Nat) : E2eIn := tabGet e2eInDefault (s.part p).e2eIn pix

def State.updE2eIn (s : State) (p pix : Nat) (f : E2eIn → E2eIn) : State :=
  s.updPart p fun q => { q with e2eIn := tabUpd e2eInDefault q.e2eIn pix f }

/-- Whether the route entry of a PIX has reach set (R346). -/
def State.reachable (s : State) (p pix : Nat) : Bool := (tabGet natDefault (s.part p).routes pix).testBit 31

/-- A packet with every field 0 (R356). -/
def emptyPacket : Packet :=
  { op := 0, flags := 0, granules := 0, srcEid := 0, aop := 0, addr := 0, seq := 0, srcSession := 0, dstSession := 0, launch := 0,
    bytes := 0, tag := 0, opv := 0, opc := 0, aux := 0, data := [] }

/-- The granules a request covers, at least one. -/
def Packet.granulesOf (k : Packet) : Nat := max k.data.length 1

/-- A fresh tag (16 bits, R356). -/
def State.takeTag (s : State) (p : Nat) : Nat × State :=
  ((s.part p).nextTag, s.updPart p fun q => { q with nextTag := (q.nextTag + 1) % 65536 })

/-- Fill the fields every request carries (R356): sessions, launch time, sync while the destination's session is not
known or a new state must be started (R358, R362). -/
def State.stamp (s : State) (p pix : Nat) (k : Packet) : Packet :=
  let o := s.e2eOut p pix
  { k with
    flags := k.flags / 2 * 2 + b2n o.sync
    srcSession := (s.part p).session
    dstSession := o.session
    launch := (s.part p).gtc % 2 ^ 32 }

/-- The UNIT a request names: the core of a SEMSIG, the lowest core of an SRAM address's tile, or the home of its stack
(R344). -/
def State.unitOf (s : State) (p : Nat) (k : Packet) : Nat :=
  if k.op = 4 then k.addr % 1024
  else match s.home p (bits k.addr 0 41) with
    | .sram a => 4 * sramTile a
    | .hbm c _ _ _ => 128 + c / 32
    | .window _ => 255
    | .nowhere => 0

/-- Launch a request: its frames wait at the port its route gives (R344, R347, R356). -/
def State.launchPacket (s : State) (p pix : Nat) (k : Packet) : State :=
  (s.queuePacket p (pix * 1024 + s.unitOf p k) (s.ownPix p) k).emit (.packet p pix k)

/-- Send a sequenced request to another package: it takes the next sequence number and is kept until acknowledged
(R222, R357, R361). -/
def State.sendSeq (s : State) (p pix : Nat) (k : Packet) : State :=
  let o := s.e2eOut p pix
  let k := { s.stamp p pix k with seq := o.issued + 1 }
  let s := s.updE2eOut p pix fun o => { o with issued := o.issued + 1, unacked := o.unacked ++ [k], sync := false }
  s.launchPacket p pix k

/-- Send a request that takes no sequence number (a LOAD, R357) and await its response. -/
def State.sendLoad (s : State) (p pix : Nat) (k : Packet) (who : Waiter) : State :=
  let t := s.takeTag p
  let s := t.2
  let k := { s.stamp p pix k with tag := t.1 }
  let s := s.updPart p fun q => { q with awaits := q.awaits ++ [{ tag := t.1, pix := pix, who := who, packet := k }] }
  s.launchPacket p pix k

/-- Send a sequenced request whose answer is matched by its tag (ATOMIC, narrow STORE, a transfer's STORE). -/
def State.sendAwait (s : State) (p pix : Nat) (k : Packet) (who : Waiter) : State :=
  let t := s.takeTag p
  let s := t.2
  let k := { k with tag := t.1 }
  let s := s.sendSeq p pix k
  let aw : Await := { tag := t.1, pix := pix, who := who, packet := { k with seq := (s.e2eOut p pix).issued } }
  s.updPart p fun q => { q with awaits := q.awaits ++ [aw] }

/-- A destination that the routes cannot reach: nothing is sent and the event is set (R348). -/
def State.unreachable (s : State) (p : Nat) : State := s.flag F.NET_EVT_unreachable F.NET_EVT_CNT1_unreach_cnt p

def windowDefault : Nat → BitVec 256 := fun _ => 0
def connDefault : Nat → HostConn := fun _ => { up := false, sp := 0, hostQpn := 0 }

/-- The key under which requests through host control connection c are kept. -/
def hostKey (c : Nat) : Nat := 8192 + c

/-- A host window access of n bytes at an offset (R424, R150): its connection, R_Key and host address, where the entry is
valid, permits it, is long enough and its connection is up (R412). -/
def State.windowAddr (s : State) (p win off n : Nat) (write : Bool) : Option (Nat × Nat × Nat) :=
  let e := (tabGet windowDefault (s.part p).windows win).toNat
  let conn := bits e 160 2
  if e.testBit 162 && e.testBit (if write then 164 else 163) && decide (off + n ≤ bits e 64 48) &&
      (tabGet connDefault (s.part p).conns conn).up then
    some (conn, bits e 128 32, (bits e 0 64 + off) % 2 ^ 64)
  else none

/-- Read one granule of host memory for a waiter: an RDMA READ (R365). -/
def State.sendHostRead (s : State) (p conn rkey addr : Nat) (who : Waiter) : State :=
  let aw : Await := { tag := 0, pix := hostKey conn, who := who, packet := { emptyPacket with op := 1, addr := addr } }
  let s := s.updPart p fun q => { q with awaits := q.awaits ++ [aw] }
  s.emit (.hostRead p conn rkey addr 64)

/-- Write one granule of host memory for a waiter: an RDMA WRITE, numbered for its acknowledgement (R234). -/
def State.sendHostWrite (s : State) (p conn rkey addr : Nat) (g : Gran) (who : Waiter) : State :=
  let s := s.updE2eOut p (hostKey conn) fun o => { o with issued := o.issued + 1 }
  let k : Packet := { emptyPacket with op := 2, addr := addr, seq := (s.e2eOut p (hostKey conn)).issued }
  let s := s.updPart p fun q => { q with awaits := q.awaits ++ [{ tag := 0, pix := hostKey conn, who := who, packet := k }] }
  s.emit (.hostWrite p conn rkey addr (toLE 64 g.toNat))

/-- A request to a far device over its queue pair (R363–R365), awaiting its answer. -/
def State.sendFar (s : State) (p entry : Nat) (k : Packet) (who : Waiter) : State :=
  let t := s.takeTag p
  let s := t.2
  let k := { k with tag := t.1, seq := (s.e2eOut p (1024 + entry)).issued + 1 }
  let aw : Await := { tag := t.1, pix := 1024 + entry, who := who, packet := k }
  let s := s.updPart p fun q => { q with awaits := q.awaits ++ [aw] }
  let s := s.updE2eOut p (1024 + entry) fun o => { o with
    issued := o.issued + 1, unacked := if k.op = 1 then o.unacked else o.unacked ++ [k] }
  s.emit (.roce p entry k)

end Sys2Proof.Machine
end

