-- ==== Sys2Proof/Machine/Group.lean ====
section
/-! DEFINITION. The group: placement, ports and routes (09 R329–R332, R345, R346), collective groups' wiring (10 R371–R375),
control notices (05 R190), and what the loss of a port or of an arming condition causes (05 R183, 02 R529). -/

namespace Sys2Proof.Machine

/-! ### Placement -/

/-- A member's record. -/
def Placement.member (pl : Placement) (pix : Nat) : Option Member := pl.members.find? (·.pix == pix)

/-- This package's own record. -/
def Placement.self (pl : Placement) : Option Member := pl.member pl.own

/-- The entry of a logical port in this package's own record. -/
def State.portEntry (s : State) (p lp : Nat) : Option PortEntry :=
  match (s.part p).placement with
  | none => none
  | some pl => match pl.self with
    | none => none
    | some m => m.ports[lp]?

/-- The entry of a physical port. -/
def State.entryOf (s : State) (q : Nat) : Option PortEntry := s.portEntry (s.partOfPort q) (s.logicalOf q)

/-- The direction of a physical port; 0 with no placement. -/
def State.dirOf (s : State) (q : Nat) : Nat :=
  match s.entryOf q with
  | some e => e.dir
  | none => 0

/-- Port states (R329). -/
def ptDark : Nat := 0
def ptTraining : Nat := 1
def ptUnplaced : Nat := 2
def ptUp : Nat := 3
def ptMiswired : Nat := 4
def ptIncompatible : Nat := 5
def ptDown : Nat := 6

def State.portState (s : State) (q : Nat) : Nat := s.rd F.PORT_STS_state 0 q

def State.portUp (s : State) (q : Nat) : Bool := s.portState q == ptUp

/-- The physical ports of a partition. -/
def State.portsOf (s : State) (p : Nat) : List Nat := (List.range 32).filter fun q => s.partOfPort q == p

/-- The budget of a physical port: that of the logical port it carries (R63, R355). -/
def State.budgetOf (s : State) (q : Nat) : Nat :=
  match (s.part (s.partOfPort q)).image with
  | some img => img.budgets.getD (s.logicalOf q) 0
  | none => 0

/-- Whether a scheduled program uses the port. -/
def State.scheduledPort (s : State) (q : Nat) : Bool := s.budgetOf q != 0

/-- Whether this member is the timing master (R55). -/
def State.isMaster (s : State) (p : Nat) : Bool := s.rdB F.GTC_CTL_master p

/-- The physical upstream timing port (R55). -/
def State.upstreamPort (s : State) (p : Nat) : Nat := s.physOf p (s.rd F.GTC_CTL_upstream_port p)

/-- The guard ticks G (R64). -/
def State.guard (s : State) (p : Nat) : Nat := s.rd F.GTC_CTL_guard p

/-- The members whose upstream neighbour is this one (R55, R181). -/
def Placement.children (pl : Placement) (pix : Nat) : List Nat :=
  (pl.members.filter fun m => decide (m.upstream < 32) && (match m.ports[m.upstream]? with
    | some e => e.nbrPix == pix
    | none => false)).map (·.pix)

/-- The upstream neighbour of a member. -/
def Placement.parent (pl : Placement) (pix : Nat) : Option Nat :=
  match pl.member pix with
  | none => none
  | some m => if m.upstream < 32 then (m.ports[m.upstream]?).map (·.nbrPix) else none

/-! ### Routes (R345, R346) -/

/-- An axis of a coordinate. -/
def Member.coord (m : Member) (axis : Nat) : Nat := if axis = 0 then m.x else if axis = 1 then m.y else m.z
def Placement.dim (pl : Placement) (axis : Nat) : Nat := if axis = 0 then pl.dimX else if axis = 1 then pl.dimY else pl.dimZ

/-- The logical ports of this package with a direction, ascending. -/
def Member.groupOf (m : Member) (dir : Nat) : List Nat :=
  ((List.range 32).filter fun i => match m.ports[i]? with
    | some e => e.dir == dir
    | none => false)

/-- The logical ports of a member toward a neighbour, spares apart. -/
def Member.toward (m : Member) (pix : Nat) : List Nat :=
  (List.range 32).filter fun i => match m.ports[i]? with
    | some e => e.dir != 0 && e.dir != 7 && e.nbrPix == pix
    | none => false

/-- Climb from a member until the parent is `top`: the child of `top` on the way. -/
def Placement.childToward (pl : Placement) (top : Nat) : Nat → Nat → Option Nat
  | 0, _ => none
  | n + 1, pix =>
    match pl.parent pix with
    | none => none
    | some u => if u = top then some pix else pl.childToward top n u

/-- The direction of the first hop to a member on a torus, ring or chain, and whether it crosses a dateline (R342,
R345). -/
def Placement.hop (pl : Placement) (own dst : Member) : Option (Nat × Bool) :=
  let base (axis : Nat) : Nat := if pl.topology = 1 ∨ pl.topology = 0 then 8 else 1 + 2 * axis
  match (List.range 3).find? fun a => own.coord a != dst.coord a with
  | none => none
  | some a =>
    if pl.topology = 0 then some (if own.coord a < dst.coord a then 8 else 9, false)
    else
      let n := pl.dim a
      let d := (dst.coord a + n - own.coord a) % n
      let pos := decide (2 * d ≤ n)
      let cross := if pos then own.coord a + 1 == n else own.coord a == 0
      some (base a + b2n (!pos), cross)

/-- The route entry of a member: at most four candidates in the order of R345 among the ports that are UP, with the spares
that R327 adds; `pick` chooses the fixed candidate (DESIGN CHOICE, notes/assumptions/32.md). -/
def State.routeEntry (s : State) (p : Nat) (pl : Placement) (own dst : Member) (pick : Nat) : Nat :=
  if dst.pix = own.pix then 2 ^ 30 + 2 ^ 31
  else
    let r : List Nat × Bool :=
      if pl.topology ≤ 3 then match pl.hop own dst with
        | some (d, c) => (own.groupOf d, c)
        | none => ([], false)
      else match pl.childToward own.pix 1024 dst.pix with
        | some c => (own.toward c, false)
        | none => (match pl.parent own.pix with
          | some u => (own.toward u, false)
          | none => ([], false))
    let grp := r.1
    let k := if grp.isEmpty then 0 else dst.pix % grp.length
    let order := grp.drop k ++ grp.take k
    let up (lp : Nat) : Bool := s.portUp (s.physOf p lp)
    let nbr := match grp with
      | [] => 0x3FFF
      | g :: _ => match own.ports[g]? with
        | some e => e.nbrPix
        | none => 0x3FFF
    let spares := if grp.all up then [] else (own.groupOf 7).filter fun lp => up lp && (match own.ports[lp]? with
      | some e => e.nbrPix == nbr
      | none => false)
    let cands := (order.filter up ++ spares).take 4
    let body := cands.zipIdx.foldl (fun a c =>
      a + c.1 * 2 ^ (6 * c.2) + 2 ^ (6 * c.2 + 5) + b2n r.2 * 2 ^ (24 + c.2)) 0
    let sched := if cands.isEmpty then 0 else pick % cands.length
    body + sched * 2 ^ 28 + (if cands.isEmpty then 0 else 2 ^ 31)

/-- Compute every route entry (R345). Nothing is computed while ARMED or RUNNING, when fixed candidates do not change
(R346). -/
def State.computeRoutes (s : State) (p : Nat) : State :=
  match (s.part p).placement with
  | none => s.updPart p fun q => { q with routes := [] }
  | some pl => match pl.self with
    | none => s
    | some own =>
      let f := s.takeFree
      let t := pl.members.foldl (fun t m =>
        tabSet routeDefault t m.pix (s.routeEntry p pl own m (Config.freeNat f.1 / 4 ^ m.pix % 4))) []
      f.2.updPart p fun q => { q with routes := t }

/-- A route entry with the valid bits of a logical port cleared or set, and reach to match (R346). -/
def routeMark (lp : Nat) (valid : Bool) (e : Nat) : Nat :=
  let e := (List.range 4).foldl (fun a i =>
    if bits a (6 * i) 5 = lp ∧ (a.testBit (6 * i + 5) ∨ valid) ∧ bits a (6 * i) 6 ≠ 0 then putBits a (6 * i + 5) 1 (b2n valid)
    else a) e
  if e.testBit 30 then e else putBits e 31 1 (b2n !(validCands e).isEmpty)

/-- A port leaves or rejoins the route candidates (R332, R346). -/
def State.markRoutes (s : State) (p lp : Nat) (valid : Bool) : State :=
  s.updPart p fun q => { q with routes := (q.routes.map fun x => (x.1, routeMark lp valid x.2)).filter (·.2 != 0) }

/-- Routes after a change of the ports: recomputed outside ARMED and RUNNING, otherwise the port's valid bits alone. -/
def State.routesChanged (s : State) (q : Nat) : State :=
  let p := s.partOfPort q
  match (s.part p).state with
  | .armed | .running => s.markRoutes p (s.logicalOf q) (s.portUp q)
  | .cold | .booting | .idle | .loaded | .halted | .faulted | .quarantined => s.computeRoutes p

/-! ### Control notices (R190) -/

def kSlip : Nat := 0
def kHalt : Nat := 1
def kStop : Nat := 2
def kStart : Nat := 3
def kArmReady : Nat := 4
def kArmed : Nat := 5
def kArmFail : Nat := 6

/-- Whether the comet lane of a physical port is in use (R318, OE_FIB_STS comet_ok). -/
def State.cometOk (s : State) (q : Nat) : Bool := s.rdB F.OE_FIB_STS_comet_ok 0 (q / 8) (q % 8)

/-- The ports a notice floods to (R190). -/
def State.noticePorts (s : State) (p : Nat) : List Nat :=
  (s.portsOf p).filter fun q => s.dirOf q != 0 && s.portUp q && s.cometOk q

/-- The freeze horizon of the loaded image. -/
def State.horizon (s : State) (p : Nat) : Nat :=
  match (s.part p).image with
  | some img => img.horizon
  | none => 0

/-- Send a notice on every port it floods to and remember it. -/
def State.forward (s : State) (p : Nat) (n : Notice) : State :=
  let s := s.updPart p fun q => { q with seen := (n.kind, n.origin, n.a, q.gtc) :: q.seen }
  s.emit (.notice p (s.noticePorts p) n)

/-- Whether a flooded notice was accepted within the last H ticks (R190). -/
def State.knows (s : State) (p : Nat) (n : Notice) : Bool :=
  let h := s.horizon p
  (s.part p).seen.any fun x =>
    x.1 == n.kind && x.2.1 == n.origin && x.2.2.1 == n.a && decide ((s.part p).gtc ≤ x.2.2.2 + h)

/-- Flood a notice of this member. -/
def State.flood (s : State) (p kind code a b orbit : Nat) : State :=
  s.forward p { origin := s.ownPix p, kind := kind, code := code, a := a, b := b, orbit := orbit }

/-- Return from ARMED to LOADED (R183, R185). A START still open ends with the status the notice carries. -/
def State.disarm (s : State) (p status r0 : Nat) : State :=
  let s := s.updPart p fun q => { q with t0 := none, armed := false, ready := [], lateStart := false }
  let s := (s.enterEvent p .loaded).wr F.SCH_STS_plane 1 p
  if status = 0 then s else s.completeOp p 0x13 status 0 r0 0

/-- A condition of R181 ceases to hold on an ARMED member: it floods ARM_FAIL and returns to LOADED (R183). -/
def State.armBroken (s : State) (p status : Nat) : State :=
  if (s.part p).state = .armed then
    (s.flood p kArmFail status (s.ownPix p) 0 0).disarm p status (s.ownPix p)
  else s

/-! ### Alignment lost or restarted (R61, R529) -/

/-- Clear the aligned state (R51, R61): a slip of the cause named while RUNNING, ARM_FAIL while ARMED. -/
def State.loseAlign (s : State) (p cause : Nat) : State :=
  let s := s.wr F.GTC_ALIGN_STS_aligned 0 p
  let s := s.updPart p fun q => { q with goodMeans := 0 }
  let s := s.slipIfRunning p cause
  s.armBroken p 0x0B

/-- The upstream port left UP during the load or the coarse steer: the trim is held, what was gathered discarded, and the
member starts again from the load step (R529). -/
def State.alignRestart (s : State) (q : Nat) : State :=
  let p := s.partOfPort q
  let ph := s.rd F.GTC_ALIGN_STS_phase p
  if s.isMaster p || s.upstreamPort p != q || !(ph == 1 || ph == 2) then s
  else
    let s := s.updPart p fun x => { x with loadThetas := [], goodMeans := 0, exchanges := 0 }
    (s.wr F.GTC_ALIGN_STS_phase 1 p).wr F.GTC_ALIGN_STS_steer_ppb 0 p

/-! ### Port changes -/

/-- Whether a fibre pair is at 16 lanes in both directions (R290, R316). -/
def State.sixteen (s : State) (q : Nat) : Bool :=
  s.rd F.OE_FIB_LANEMAP_lanes 0 (q / 8) (q % 8) == 16 && (s.port q).txLanes != 15

/-- Whether VC0 may use a port: UP, placed and at 16 lanes (PORT_STS sched_ok). -/
def State.schedOk (s : State) (q : Nat) : Bool :=
  s.portUp q && s.dirOf q != 0 && s.dirOf q != 7 && s.sixteen q

/-- Show sched_ok of a port and spare_used of the partition's spares (R327). -/
def State.portFlags (s : State) (q : Nat) : State :=
  let s := s.wr F.PORT_STS_sched_ok (b2n (s.schedOk q)) 0 q
  let p := s.partOfPort q
  (s.portsOf p).foldl (fun a x =>
    if a.dirOf x ≠ 7 then a
    else
      let nbr := match a.entryOf x with
        | some e => e.nbrPix
        | none => 0
      let used := a.portUp x && (a.portsOf p).any fun y => (match a.entryOf y with
        | some e => e.dir != 0 && e.dir != 7 && e.nbrPix == nbr
        | none => false) && !a.portUp y
      a.wr F.PORT_STS_spare_used (b2n used) 0 x) s

/-- Enter a port state: routes, flags, alignment (R529) and arming (R183) follow. -/
def State.setPortState (s : State) (q st : Nat) : State :=
  let was := s.portUp q
  let s := s.wr F.PORT_STS_state st 0 q
  let s := s.wr F.PORT_STS_phase_ident 0 0 q
  let s := if was && st != ptUp then s.alignRestart q else s
  let s := if was && st != ptUp && s.scheduledPort q then s.armBroken (s.partOfPort q) 0x0D else s
  -- a retrain keeps the port among the candidates (R332 removes a port that goes DOWN)
  let s := if st == ptTraining then s else if was || st == ptUp then s.routesChanged q else s
  s.portFlags q

/-- Forget a port's delay mean (R331). -/
def State.clearDelay (s : State) (q : Nat) : State :=
  (s.updPort q fun t => { t with delays := [], thetas := [], heard := false }).wr F.LDLY_STS_valid 0 0 q

/-- The key of a ring: engine, fibre or bus, kind, wavelength (R288). -/
def ringKey (o i kind n : Nat) : Nat := ((o * 8 + i) * 4 + kind) * 18 + n

def State.ring (s : State) (k : Nat) : Ring := tabGet ringDefault s.rings k
def State.updRing (s : State) (k : Nat) (f : Ring → Ring) : State := { s with rings := tabUpd ringDefault s.rings k f }

/-- Ring state codes (R297). -/
def rgDark : Nat := 0
def rgSweep : Nat := 1
def rgLocked : Nat := 2
def rgHold : Nat := 3
def rgUnlocked : Nat := 4
def rgParked : Nat := 5
def rgFailed : Nat := 6

/-- The rings of a fibre: (kind, n) (R288). -/
def fibreRings : List (Nat × Nat) :=
  ((List.range 18).map fun n => (0, n)) ++ ((List.range 18).map fun n => (1, n)) ++ ((List.range 17).map fun n => (2, n))

/-- The rings of a fibre other than the comet tap and the two moon rings, which park until needed. -/
def laneRings : List (Nat × Nat) :=
  fibreRings.filter fun r => !(r == (0, 17)) && !(r == (0, 16)) && !(r == (1, 16))

/-- Change the rings of a fibre. -/
def State.ringsOf (s : State) (q : Nat) (rs : List (Nat × Nat)) (f : Ring → Ring) : State :=
  rs.foldl (fun a r => a.updRing (ringKey (q / 8) (q % 8) r.1 r.2) f) s

/-- A ring begins a sweep (R298). A FAILED ring begins none. -/
def Ring.sweep (r : Ring) (full : Bool) : Ring :=
  if r.state = rgFailed then r
  else { r with state := rgSweep, full := full, step := 0, best := 0, bestCode := 0, bad := 0 }

/-- A ring switched off (R297). -/
def Ring.off (r : Ring) : Ring := { r with state := rgDark, code := 0, trim := 0, bad := 0, step := 0 }

/-- Fibre states (OE_FIB_STS). -/
def fbDark : Nat := 0
def fbProbe : Nat := 1
def fbLocking : Nat := 2
def fbLit : Nat := 3
def fbLit15 : Nat := 4
def fbDropped : Nat := 5
def fbLos : Nat := 6

def State.setFibre (s : State) (q st : Nat) : State := s.wr F.OE_FIB_STS_state st 0 (q / 8) (q % 8)
def State.fibre (s : State) (q : Nat) : Nat := s.rd F.OE_FIB_STS_state 0 (q / 8) (q % 8)

/-- A fibre loses its comet lane. -/
def State.cometOff (s : State) (q : Nat) : State := s.wr F.OE_FIB_STS_comet_ok 0 0 (q / 8) (q % 8)

/-- What was under way on a fibre is given up; the lane map stays (R313, R321). -/
def Port.abandon (t : Port) : Port :=
  { t with hand := none, mirror := if t.txLane = 0x1F then none else t.mirror, txSwitch := none, rxStripe := none, txStripe := none }

/-- The lanes of a fibre may cross HANDOVER and LOSS anew. -/
def Port.freshWaves (t : Port) : Port :=
  { t with waves := (List.range 18).foldl (fun w n => tabUpd waveDefault w n fun x => { x with hand := false, loss := false }) t.waves }

/-- Start training a port (R330): TRAINING, its rings sweeping, its delay mean forgotten (R331) and frames counted anew. -/
def State.startTraining (s : State) (q : Nat) (full : Bool) : State :=
  let s := (s.setPortState q ptTraining).clearDelay q
  let s := s.setFibre q fbLocking
  let s := s.ringsOf q laneRings fun r => r.sweep full
  s.updPort q fun t => { t.abandon.freshWaves with
    lit := true, fullTrain := full, rxFrames := 0, txFrames := 0, badAt := [], badRun := 0, frags := [] }

/-- A port retrains (R331): only from UP, UNPLACED or MISWIRED, with narrow sweeps. On a scheduled port it is a slip of
cause OPTIC while RUNNING (R189). `tell` sends the retrain message (R337). -/
def State.retrainPort (s : State) (q cause : Nat) (tell : Bool) : State :=
  let st := s.portState q
  if st = ptUp ∨ st = ptUnplaced ∨ st = ptMiswired then
    let s := s.flag F.PORT_EVT_retrain F.PORT_EVT_CNT_retrain_cnt 0 q
    let s := if s.scheduledPort q then s.slipIfRunning (s.partOfPort q) 0x0A else s
    let s := if tell then s.emit (.frame q ((s.port q).mgmtFrame [BitVec.ofNat 128 (0x14 + cause * 256)])) else s
    s.startTraining q false
  else s

/-- A LINK record about a port, carrying PORT_STS (R471). -/
def State.portRecord (s : State) (q kind : Nat) : State :=
  s.record (s.partOfPort q) 4 kind q (die := 32 + q / 8) (info0 := (s.reg .PORT_STS 0 q).toNat)

/-- A port goes DOWN (R332): it leaves the route candidates. -/
def State.portDown (s : State) (q : Nat) : State :=
  let s := (s.setPortState q ptDown).clearDelay q
  let s := s.flag F.PORT_EVT_down F.PORT_EVT_CNT_down_cnt 0 q
  s.portRecord q 2

/-- A port goes dark: its transmitter and rings are off (R297, R423, R483). -/
def State.portDark (s : State) (q : Nat) : State :=
  let s := (s.setPortState q ptDark).clearDelay q
  let s := (s.setFibre q fbDark).cometOff q
  let s := s.ringsOf q fibreRings Ring.off
  s.updPort q fun t => { t with lit := false, hand := none, mirror := none, rxStripe := none, txStripe := none,
                                testing := false, moonOut := false, txSwitch := none, lastProbe := none }

/-! ### Collective groups (10 R371–R376) -/

/-- A group entry (R372): its bytes. -/
structure GroupEnt where
  gid : Nat
  flags : Nat
  origin : List Nat
  extent : List Nat
  root : List Nat
  credits : Nat
  seg : Nat
  cmsg : Nat
  reserved : Bool
deriving DecidableEq, Repr

def GroupEnt.valid (g : GroupEnt) : Bool := g.flags.testBit 0
def GroupEnt.sched (g : GroupEnt) : Bool := g.flags.testBit 1
def GroupEnt.comet (g : GroupEnt) : Bool := g.flags.testBit 2
def GroupEnt.arms (g : GroupEnt) : Bool := g.flags.testBit 3
def GroupEnt.masked (g : GroupEnt) (axis : Nat) : Bool := g.flags.testBit (4 + axis)

/-- Three 2-byte coordinates. -/
def coords (bs : List Byte) (o : Nat) : List Nat := [leAt bs o 2, leAt bs (o + 2) 2, leAt bs (o + 4) 2]

/-- A group entry from its 32 bytes (R372). -/
def groupEnt (b : List Byte) : GroupEnt :=
  { gid := leAt b 0 1, flags := leAt b 1 1, origin := coords b 2, extent := coords b 8, root := coords b 14,
    credits := leAt b 0x14 1, seg := leAt b 0x15 1, cmsg := leAt b 0x16 1,
    reserved := !allZero ((b.drop 0x17).take 9) || (leAt b 1 1).testBit 7 }

/-- The group entries of a GROUPS section. -/
def groupEnts (sec : List Byte) : List GroupEnt :=
  (List.range (leAt sec 0 2)).map fun i => groupEnt ((sec.drop (64 + 32 * i)).take 32)

/-- The scheduled operations of a GROUPS section: their 64-byte descriptors (R373). -/
def schedEnts (sec : List Byte) : List (BitVec 512) :=
  (List.range (leAt sec 2 2)).map fun i =>
    BitVec.ofNat 512 (leAt sec (64 + 32 * leAt sec 0 2 + 64 * i) 64)

/-- A member's position in a group on an axis; none outside its extent (R374). -/
def GroupEnt.pos (g : GroupEnt) (pl : Placement) (m : Member) (axis : Nat) : Option Nat :=
  let n := pl.dim axis
  let x := (m.coord axis + n - g.origin.getD axis 0 % n) % n
  if x < g.extent.getD axis 1 then some x else none

/-- Whether a member belongs to a group (R374). -/
def GroupEnt.has (g : GroupEnt) (pl : Placement) (m : Member) : Bool :=
  (List.range 3).all fun a => (g.pos pl m a).isSome

/-- Whether an axis of a group's sets is a ring (R374). -/
def GroupEnt.ring (g : GroupEnt) (pl : Placement) (axis : Nat) : Bool :=
  decide (1 ≤ pl.topology) && decide (pl.topology ≤ 3) && g.masked axis && g.extent.getD axis 1 == pl.dim axis

/-- The direction codes of an axis, positive and negative (R167). -/
def axisDirs (pl : Placement) (axis : Nat) : Nat × Nat := if pl.topology ≤ 1 then (8, 9) else (1 + 2 * axis, 2 + 2 * axis)

/-- The lowest-numbered port toward a direction whose comet lane is in use and whose tap is enabled (R393). -/
def State.cometPort (s : State) (p dir : Nat) : Option Nat :=
  ((s.portsOf p).filter fun q => s.dirOf q == dir && s.portUp q && s.cometOk q &&
    s.rdB F.OE_FIB_COMET_tap_en 0 (q / 8) (q % 8)).head?

/-- Whether the loaded image uses the comet lane of a port: a scheduled comet group that this package belongs to sends on
it (R318, R393). -/
def State.imageUsesComet (s : State) (q : Nat) : Bool :=
  let p := s.partOfPort q
  match (s.part p).image, (s.part p).placement with
  | some img, some pl => match pl.self with
    | some m => (groupEnts img.groups).any fun g =>
        g.valid && g.sched && g.comet && g.has pl m &&
          (List.range 3).any fun a => g.masked a &&
            (s.cometPort p (axisDirs pl a).1 == some q || s.cometPort p (axisDirs pl a).2 == some q)
    | none => false
  | _, _ => false

end Sys2Proof.Machine
end

