-- ==== Sys2Proof/Machine/NumFmt.lean ====
section
/-! DEFINITION. Number formats and arithmetic (03): encodings (R75–R79), exact values and the single rounding (R82, R88,
R91–R93), exception counts (R103), the generator (R96) and block scales (R95). -/

namespace Sys2Proof.Machine

/-! ### Formats (R73, R75) -/

/-- The element formats of R73. -/
inductive Fmt where
  | fp32 | bf16 | fp16 | e4m3 | e5m2 | e3m2 | e2m3 | e2m1 | int8 | int4 | int32
deriving DecidableEq, Repr

/-- The format of a 4-bit code; 0xB–0xF are reserved (R73). -/
def Fmt.ofCode (c : Nat) : Option Fmt :=
  [Fmt.fp32, .bf16, .fp16, .e4m3, .e5m2, .e3m2, .e2m3, .e2m1, .int8, .int4, .int32][c]?

/-- The width of an element in bits (R73). -/
def Fmt.width : Fmt → Nat
  | .fp32 => 32 | .bf16 => 16 | .fp16 => 16 | .e4m3 => 8 | .e5m2 => 8 | .e3m2 => 6 | .e2m3 => 6 | .e2m1 => 4
  | .int8 => 8 | .int4 => 4 | .int32 => 32

def Fmt.isInt : Fmt → Bool
  | .int8 | .int4 | .int32 => true
  | .fp32 | .bf16 | .fp16 | .e4m3 | .e5m2 | .e3m2 | .e2m3 | .e2m1 => false

/-- Mantissa width of a floating-point format (R75). -/
def Fmt.man : Fmt → Nat
  | .fp32 => 23 | .bf16 => 7 | .fp16 => 10 | .e4m3 => 3 | .e5m2 => 2 | .e3m2 => 2 | .e2m3 => 3 | .e2m1 => 1
  | .int8 => 0 | .int4 => 0 | .int32 => 0

/-- Exponent bias (R75). -/
def Fmt.bias : Fmt → Nat
  | .fp32 => 127 | .bf16 => 127 | .fp16 => 15 | .e4m3 => 7 | .e5m2 => 15 | .e3m2 => 3 | .e2m3 => 1 | .e2m1 => 1
  | .int8 => 0 | .int4 => 0 | .int32 => 0

/-- The code of the largest finite magnitude (R75). -/
def Fmt.maxCode : Fmt → Nat
  | .fp32 => 0x7F7FFFFF | .bf16 => 0x7F7F | .fp16 => 0x7BFF | .e4m3 => 0x7E | .e5m2 => 0x7B | .e3m2 => 0x1F
  | .e2m3 => 0x1F | .e2m1 => 0x7 | .int8 => 0x7F | .int4 => 0x7 | .int32 => 0x7FFFFFFF

/-- Whether the format has infinities (R75). -/
def Fmt.hasInf : Fmt → Bool
  | .fp32 | .bf16 | .fp16 | .e5m2 => true
  | .e4m3 | .e3m2 | .e2m3 | .e2m1 | .int8 | .int4 | .int32 => false

/-- The canonical NaN, where the format has one (R75). -/
def Fmt.nanCode : Fmt → Option Nat
  | .fp32 => some 0x7FC00000 | .bf16 => some 0x7FC0 | .fp16 => some 0x7E00 | .e4m3 => some 0x7F
  | .e5m2 => some 0x7E | .e2m1 => some 0x8
  | .e3m2 | .e2m3 | .int8 | .int4 | .int32 => none

/-- The code of infinity. -/
def Fmt.infCode : Fmt → Nat
  | .fp32 => 0x7F800000 | .bf16 => 0x7F80 | .fp16 => 0x7C00 | .e5m2 => 0x7C
  | .e4m3 | .e3m2 | .e2m3 | .e2m1 | .int8 | .int4 | .int32 => 0

/-! ### Values -/

/-- An exact value: NaN, an infinity, or (−1)^neg · m · 2^e. Zero keeps its sign. -/
inductive Num where
  | nan
  | inf (neg : Bool)
  | fin (neg : Bool) (m : Nat) (e : Int)
deriving DecidableEq, Repr

/-- The value of an element code (R75–R77). -/
def Fmt.value (f : Fmt) (code : Nat) : Num :=
  if f.isInt then
    let v := sext f.width code
    .fin (decide (v < 0)) v.natAbs 0
  else
    let neg := code.testBit (f.width - 1)
    let mag := code % 2 ^ (f.width - 1)
    if f = .e2m1 ∧ code % 16 = 8 then .nan
    else if f = .e4m3 ∧ mag = 0x7F then .nan
    else if f.hasInf ∧ f.infCode ≤ mag then (if mag = f.infCode then .inf neg else .nan)
    else
      let E := mag / 2 ^ f.man
      let M := mag % 2 ^ f.man
      if E = 0 then .fin neg M (1 - (f.bias : Int) - f.man)
      else .fin neg (M + 2 ^ f.man) ((E : Int) - f.bias - f.man)

def Num.isNan : Num → Bool
  | .nan => true
  | .inf _ => false
  | .fin _ _ _ => false

def Num.isInf : Num → Bool
  | .nan => false
  | .inf _ => true
  | .fin _ _ _ => false

def Num.isZero : Num → Bool
  | .fin _ m _ => m == 0
  | .nan => false
  | .inf _ => false

def Num.neg : Num → Bool
  | .nan => false
  | .inf n => n
  | .fin n _ _ => n

/-- The negated value. -/
def Num.negate : Num → Num
  | .nan => .nan
  | .inf n => .inf (!n)
  | .fin n m e => .fin (!n) m e

/-- The events of one result element (R103). -/
structure Exc where
  inv : Bool := false
  nanIn : Bool := false
  ovf : Bool := false
  flush : Bool := false
  sr : Bool := false
deriving DecidableEq, Repr

/-- Both elements' events together. -/
def Exc.or (a b : Exc) : Exc :=
  { inv := a.inv || b.inv, nanIn := a.nanIn || b.nanIn, ovf := a.ovf || b.ovf, flush := a.flush || b.flush,
    sr := a.sr || b.sr }

/-! ### Exact sums and products -/

/-- An exact dyadic number m · 2^e. -/
structure Dy where
  m : Int
  e : Int
deriving DecidableEq, Repr

/-- The integer of a dyadic number at exponent e ≤ its own. -/
def Dy.at (a : Dy) (e : Int) : Int := a.m * (2 ^ (a.e - e).toNat : Nat)

def Dy.add (a b : Dy) : Dy :=
  if a.m = 0 then b else if b.m = 0 then a
  else
    let e := min a.e b.e
    { m := a.at e + b.at e, e := e }

def Dy.mul (a b : Dy) : Dy := { m := a.m * b.m, e := a.e + b.e }

/-- Compare two dyadic numbers. -/
def Dy.le (a b : Dy) : Bool :=
  let e := min a.e b.e
  decide (a.at e ≤ b.at e)

/-- The dyadic number of a finite value (0 for the others). -/
def Num.dy : Num → Dy
  | .fin n m e => { m := if n then -(m : Int) else m, e := e }
  | .nan => { m := 0, e := 0 }
  | .inf _ => { m := 0, e := 0 }

/-- The value of an exact dyadic result; a zero takes the given sign. -/
def Dy.num (a : Dy) (zeroNeg : Bool) : Num :=
  if a.m = 0 then .fin zeroNeg 0 0 else .fin (decide (a.m < 0)) a.m.natAbs a.e

/-- Exact product; infinity times zero is NaN. -/
def Num.mul (a b : Num) : Num :=
  match a, b with
  | .fin n m e, .fin n' m' e' => .fin (n != n') (m * m') (e + e')
  | .inf n, .fin n' m' _ => if m' = 0 then .nan else .inf (n != n')
  | .fin n m _, .inf n' => if m = 0 then .nan else .inf (n != n')
  | .inf n, .inf n' => .inf (n != n')
  | .nan, _ => .nan
  | _, .nan => .nan

/-- Exact sum; opposite infinities give NaN; an exact zero sum is +0 unless both addends are −0. -/
def Num.add (a b : Num) : Num :=
  match a, b with
  | .fin n m e, .fin n' m' e' =>
    ((Num.fin n m e).dy.add (Num.fin n' m' e').dy).num (n && n' && m == 0 && m' == 0)
  | .inf n, .fin _ _ _ => .inf n
  | .fin _ _ _, .inf n => .inf n
  | .inf n, .inf n' => if n = n' then .inf n else .nan
  | .nan, _ => .nan
  | _, .nan => .nan

/-! ### Rounding (R91–R93) -/

/-- The rounding modes of R91. -/
inductive Rnd where
  | rne
  | rneSat
  | stoch (r : Nat)
deriving DecidableEq, Repr

/-- m · 2^e rounded to an integer by a mode (R91, R93). -/
def roundInt (rnd : Rnd) (m : Nat) (e : Int) : Nat :=
  if 0 ≤ e then m * 2 ^ e.toNat
  else
    let k := (-e).toNat
    let q := m / 2 ^ k
    let r := m % 2 ^ k
    match rnd with
    | .stoch d =>
      let f := r * 65536 / 2 ^ k
      if 65536 ≤ f + d then q + 1 else q
    | .rne | .rneSat =>
      let h := 2 ^ k
      if h < 2 * r then q + 1 else if 2 * r = h then (if q % 2 = 1 then q + 1 else q) else q

/-- Whether m · 2^e is exactly an integer. -/
def exactInt (m : Nat) (e : Int) : Bool := decide (0 ≤ e) || m % 2 ^ (-e).toNat == 0

/-- floor(log2(m · 2^e)) of a nonzero value. -/
def floorLog2 (m : Nat) (e : Int) : Int := (Nat.log2 m : Int) + e

/-- The sign bit of a code. -/
def Fmt.signBit (f : Fmt) (neg : Bool) : Nat := if neg then 2 ^ (f.width - 1) else 0

/-- Round a nonzero finite magnitude to a floating-point format (R91, R92). -/
def Fmt.roundFin (f : Fmt) (rnd : Rnd) (neg : Bool) (m : Nat) (e : Int) : Nat × Exc :=
  let lowest : Int := 1 - (f.bias : Int)
  let E := max (floorLog2 m e) lowest
  let q := E - f.man
  let n := roundInt rnd m (e - q)
  let code := ((E + f.bias - 1) * (2 ^ f.man : Nat)).toNat + n
  if f.maxCode < code then
    let sat : Bool := match rnd with
      | .rne => !f.hasInf
      | .rneSat => true
      | .stoch _ => true
    (f.signBit neg + (if sat then f.maxCode else f.infCode), { ovf := true })
  else
    let sr : Bool := match rnd with
      | .stoch _ => !(exactInt m (e - q))
      | .rne => false
      | .rneSat => false
    (if code = 0 ∧ f = .e2m1 then 0 else f.signBit neg + code, { sr := sr })

/-- Convert an exact value to a format (R92). -/
def Fmt.convert (f : Fmt) (rnd : Rnd) (x : Num) : Nat × Exc :=
  match x with
  | .nan =>
    match f.nanCode with
    | some c => (c, { nanIn := true })
    | none => (0, { nanIn := true, inv := true })
  | .inf n =>
    if f.isInt then (if n then 2 ^ (f.width - 1) else f.maxCode, { ovf := true })
    else if f.hasInf then (f.signBit n + f.infCode, {})
    else (f.signBit n + f.maxCode, { ovf := true })
  | .fin n m e =>
    if f.isInt then
      let k := roundInt rnd m e
      let v : Int := if n then -(k : Int) else k
      let c := clampS f.width v
      if c = v then
        let sr : Bool := match rnd with
          | .stoch _ => !(exactInt m e)
          | .rne => false
          | .rneSat => false
        (wrapNat f.width v, { sr := sr })
      else (wrapNat f.width c, { ovf := true })
    else if m = 0 then (if f = .e2m1 then 0 else f.signBit n, {})
    else f.roundFin rnd n m e

/-- A result rounded once to a lane format by round-to-nearest-even (R88); a NaN that no operand held counts as
invalid (R103). -/
def Fmt.result (f : Fmt) (x : Num) (nanOperand : Bool) : Nat × Exc :=
  match x with
  | .nan => (f.nanCode.getD 0, { nanIn := nanOperand, inv := !nanOperand })
  | .inf n => (f.signBit n + f.infCode, { nanIn := nanOperand })
  | .fin n m e =>
    let r := f.convert .rne (.fin n m e)
    (r.1, { r.2 with nanIn := nanOperand })

/-- Replace a subnormal FP32 code by zero of the same sign (R82 flush). -/
def flush32 (c : Nat) : Nat × Exc :=
  let mag := c % 2 ^ 31
  if mag ≠ 0 ∧ mag < 2 ^ 23 then (c - mag, { flush := true }) else (c, {})

/-- FP32 sum, rounded once, without flushing (R88). -/
def add32 (a b : Nat) : Nat × Exc :=
  let x := Fmt.fp32.value a
  let y := Fmt.fp32.value b
  Fmt.fp32.result (x.add y) (x.isNan || y.isNan)

/-- FP32 sum, rounded once and flushed (R82, R87). -/
def addFlush32 (a b : Nat) : Nat × Exc :=
  let r := add32 a b
  let f := flush32 r.1
  (f.1, r.2.or f.2)

/-- The fixed tree of R87 over partial results with a given addition. -/
def treeStep (add : Nat → Nat → Nat × Exc) : List Nat → List Nat × Exc
  | [] => ([], {})
  | [a] => ([a], {})
  | a :: b :: t =>
    let r := add a b
    let q := treeStep add t
    (r.1 :: q.1, r.2.or q.2)

/-- Repeat the tree's levels until one result is left. -/
def treeSum (add : Nat → Nat → Nat × Exc) : Nat → List Nat → Nat × Exc
  | 0, l => (l.headD 0, {})
  | n + 1, l =>
    match l with
    | [] => (0, {})
    | [a] => (a, {})
    | l =>
      let q := treeStep add l
      let r := treeSum add n q.1
      (r.1, q.2.or r.2)

/-- Order of R89: NaN apart, −0 below +0; negative when a is below b. -/
def num32Lt (a b : Num) : Bool :=
  match a, b with
  | .inf n, .inf n' => n && !n'
  | .inf n, .fin _ _ _ => n
  | .fin _ _ _, .inf n => !n
  | .fin n m e, .fin n' m' e' =>
    if m = 0 ∧ m' = 0 then n && !n'
    else
      let x := (Num.fin n m e).dy
      let y := (Num.fin n' m' e').dy
      x.le y && !(y.le x)
  | .nan, _ => false
  | _, .nan => false

/-! ### Generator (R96) -/

def m64 (x : Nat) : Nat := x % 2 ^ 64
def rotl64 (x k : Nat) : Nat := m64 (x * 2 ^ k) + x / 2 ^ (64 - k)

/-- One round of G. -/
def genRound (s : Nat × Nat × Nat) (i : Nat) : Nat × Nat × Nat :=
  let x := m64 (s.1 + s.2.1)
  let z := rotl64 (s.2.2 ^^^ x) 32
  let y := m64 (s.2.1 + z)
  let x := rotl64 (x ^^^ y) 24
  let x := m64 (x + (i + 1) * 0x9E3779B97F4A7C15)
  (x, y ^^^ rotl64 z 16, z)

/-- G(seed, step, pos). -/
def genG (seed step pos : Nat) : Nat :=
  let r := (List.range 8).foldl genRound (m64 seed, m64 step, m64 pos)
  r.1 ^^^ r.2.1 ^^^ r.2.2

/-! ### Block scales (R79, R95) -/

/-- The value of an E8M0 scale code. -/
def scaleValue (c : Nat) : Num := if c = 0xFF then .nan else .fin false 1 ((c : Int) - 127)

/-- The t of R95 for a target format. -/
def scaleT : Fmt → Int
  | .e2m1 => 2 | .e4m3 => 8 | .e5m2 => 15 | .e3m2 => 4 | .e2m3 => 2 | .int8 => 6 | .int4 => 2
  | .fp32 | .bf16 | .fp16 | .int32 => 0

/-- The larger of two magnitudes. -/
def maxMag (a b : Num) : Num := if num32Lt (.fin false a.dy.m.natAbs a.dy.e) (.fin false b.dy.m.natAbs b.dy.e) then b else a

/-- The scale code of a block (R95). -/
def blockScale (f : Fmt) (xs : List Num) : Nat :=
  if xs.any fun x => x.isNan || x.isInf then 0xFF
  else
    match xs.foldl maxMag (.fin false 0 0) with
    | .fin _ m e =>
      if m = 0 then 0x7F
      else (max 0 (min 254 (floorLog2 m e - scaleT f + 127))).toNat
    | .nan => 0xFF
    | .inf _ => 0xFF

end Sys2Proof.Machine
end

