-- ==== Sys2Proof/Machine/Operands.lean ====
section
/-! DEFINITION. Operand forms of engine instructions: instruction fields (04 R110), address operands with loop strides
(R115), SRAM reach and placement (R124, R129, R140), checked operand reads (R463), the fixed route between tiles and its
bounds (05 R187, R188), and packed elements (03 R78). -/

namespace Sys2Proof.Machine

/-- An instruction as it issues: core, partition, engine, plane, index in its stream, issue tick and word. -/
structure Ctx where
  n : Nat
  p : Nat
  e : Eng
  sched : Bool
  index : Nat
  tick : Nat
  w : Nat
deriving DecidableEq, Repr

/-- A field of the instruction. -/
def Ctx.f (c : Ctx) (lo w : Nat) : Nat := bits c.w lo w

/-- Clear the given fields of a word. -/
def clearFields (w : Nat) (fs : List (Nat × Nat)) : Nat := fs.foldl (fun a x => putBits a x.1 x.2 0) w

/-- Whether every operand bit outside the fields the opcode uses is 0 (R8, R110). -/
def Ctx.reservedOk (c : Ctx) (fs : List (Nat × Nat)) : Bool := clearFields (c.w % 2 ^ 100) fs == 0

/-! ### Registers of a core (R104, R105) -/

def sregDefault : Nat → BitVec 32 := fun _ => 0
def aregDefault : Nat → BitVec 64 := fun _ => 0
def vregDefault : Nat → VReg := fun _ => 0
def rowSumDefault : Nat → RowSum := fun _ => { sum := 0, valid := false }
def latchDefault : Nat → CkLatch := fun _ => { sum := 0, valid := false, bank := false, row := 0 }

def Core.S (k : Core) (d : Nat) : Nat := (tabGet sregDefault k.sregs d).toNat
def Core.A (k : Core) (d : Nat) : Nat := (tabGet aregDefault k.aregs d).toNat
def Core.V (k : Core) (d : Nat) : VReg := tabGet vregDefault k.vregs d
def Core.accRow (k : Core) (bank : Bool) (row : Nat) : VReg := tabGet vregDefault k.acc (b2n bank * 256 + row)
def Core.rowSum (k : Core) (bank : Bool) (row : Nat) : RowSum := tabGet rowSumDefault k.sums (b2n bank * 256 + row)
def Core.latch (k : Core) (l : Nat) : CkLatch := tabGet latchDefault k.cks l
def Core.sem (k : Core) (i : Nat) : Nat := tabGet natDefault k.sems i
def Core.accInt (k : Core) (bank : Bool) : Bool := if bank then k.accInt1 else k.accInt0

def Core.stream (k : Core) : Eng → Stream
  | .scu => k.scu
  | .mxe => k.mxe
  | .vxe => k.vxe
  | .dmx => k.dmx

def Core.updStream (k : Core) (e : Eng) (f : Stream → Stream) : Core :=
  match e with
  | .scu => { k with scu := f k.scu }
  | .mxe => { k with mxe := f k.mxe }
  | .vxe => { k with vxe := f k.vxe }
  | .dmx => { k with dmx := f k.dmx }

def State.stream (s : State) (n : Nat) (e : Eng) : Stream := (s.core n).stream e

def State.updStream (s : State) (n : Nat) (e : Eng) (f : Stream → Stream) : State :=
  s.updCore n fun k => k.updStream e f

/-- Whether a stream is held at a fence that timed out (R225). -/
def Stream.stalled (st : Stream) : Bool :=
  match st.status with
  | .waitFence f => f.timedOut
  | .idle | .running | .waitSem _ _ | .passDone | .faulted => false

/-- Count the streams of a core held by R225 that a reset or replay releases (R239 fence_released). -/
def State.releaseFences (s : State) (n : Nat) (es : List Eng) : State :=
  (es.filter fun e => (s.stream n e).stalled).foldl (fun a _ => a.flag F.ORD_EVT_fence_released F.ORD_EVT_CNT_rel_cnt (s.partOfCore n)) s

/-! ### Addresses -/

/-- The iteration index of the innermost LOOP, 0 outside any (R115). -/
def Stream.iter (st : Stream) : Nat :=
  match st.loops with
  | f :: _ => f.iter
  | [] => 0

/-- The effective address of R115: register value, iteration, signed stride in granules, signed offset in bytes. -/
def effAddr (a i : Nat) (st off : Int) : Except EngCause Nat :=
  let ok : Bool := if a.testBit 63 then !a.testBit 62 && bits a 41 7 == 0 else bits a 41 22 == 0
  let sum : Int := (a % 2 ^ 41 : Nat) + (i : Int) * st * 64 + off
  if ! ok then .error .addrRange
  else if sum < 0 ∨ (2 ^ 41 : Nat) ≤ sum then .error .addrRange
  else .ok (a / 2 ^ 41 * 2 ^ 41 + sum.toNat)

/-- An address operand of an instruction: A register `a`, signed 12-bit stride field, byte offset. -/
def State.operand (s : State) (c : Ctx) (a stField : Nat) (off : Int) : Except EngCause Nat :=
  effAddr ((s.core c.n).A a) (s.stream c.n c.e).iter (sext 12 stField) off

/-- A local SRAM address of the device, or of the caller's half in two-partition mode (R124, R140). -/
def State.sramReach (s : State) (p ea : Nat) : Except EngCause Nat :=
  match s.target p ea with
  | .here a =>
    match s.home p a with
    | .sram x => .ok x
    | .hbm _ _ _ _ => .error .addrRange
    | .window _ => .error .addrRange
    | .nowhere => .error .addrRange
  | .package _ _ => .error .addrRange
  | .far _ _ => .error .addrRange
  | .bad => .error .addrRange

/-- The tile of a core (R4). -/
def tileOf (n : Nat) : Nat := n / 4

/-- The base of a core's SRAM region (R106). -/
def regionBase (n : Nat) : Nat := sramBase + (n / 4) * tileBytes + (n % 4) * 0x01800000

/-- Whether n bytes from an SRAM address lie in the tile's SRAM. -/
def inTile (t a n : Nat) : Bool := decide (sramBase + t * tileBytes ≤ a) && decide (a + n ≤ sramBase + (t + 1) * tileBytes)

/-- Whether n bytes from an SRAM address lie in the core's own region. -/
def inRegion (core a n : Nat) : Bool :=
  decide (regionBase core ≤ a) && decide (a + n ≤ regionBase core + 0x01800000)

/-- An MXE operand address in SRAM (R129): another global address, or a place outside SRAM, is OPERAND_REGION. -/
def State.mxeAddr (s : State) (p ea : Nat) : Except EngCause Nat :=
  match s.target p ea with
  | .here a =>
    match s.home p a with
    | .sram x => .ok x
    | .hbm _ _ _ _ => .error .operandRegion
    | .window _ => .error .addrRange
    | .nowhere => .error .addrRange
  | .package _ _ => .error .operandRegion
  | .far _ _ => .error .operandRegion
  | .bad => .error .addrRange

/-! ### Reads with verification (R463) -/

/-- Read granules from an SRAM address; the flags say whether every granule passed its check and whether one was
poisoned. -/
def State.readGrans (s : State) (a : Nat) : Nat → State × List Gran × Bool × Bool
  | 0 => (s, [], true, false)
  | n + 1 =>
    let r := s.sramRead a
    let q := r.1.readGrans (a + 64) n
    (q.1, r.2.data :: q.2.1, r.2.ok && q.2.2.1, r.2.poisoned || q.2.2.2)

/-- The bytes of granules, in order. -/
def gransBytes (gs : List Gran) : List Byte := gs.flatMap fun g => toLE 64 g.toNat

/-- The number formed by granules, the first in the low bits. -/
def gransNat : List Gran → Nat
  | [] => 0
  | g :: t => g.toNat + 2 ^ 512 * gransNat t

/-- What an operand read found. -/
structure OpRead where
  s : State
  val : Nat
  ok : Bool
  poisoned : Bool

/-- Read n bytes from a granule-aligned SRAM address. -/
def State.readOp (s : State) (a n : Nat) : OpRead :=
  let r := s.readGrans a (cdiv n 64)
  { s := r.1, val := gransNat r.2.1 % 2 ^ (8 * n), ok := r.2.2.1, poisoned := r.2.2.2 }

/-! ### Packed elements (R78) -/

/-- Element e of a packed operand: FP6 sits four to three bytes, narrower and wider elements side by side. The packing of
R78 is bit e·w of the little-endian number for every width. -/
def elemAt (v w e : Nat) : Nat := bits v (w * e) w

/-- Elements packed from the first (R78). -/
def packElems (w : Nat) : List Nat → Nat
  | [] => 0
  | x :: t => x % 2 ^ w + 2 ^ w * packElems w t

/-! ### Routes between tiles (05 R187, R188) -/

/-- Row, column (0 outer, 1 inner) and half of a tile (R11). -/
def tileRow (t : Nat) : Nat := (t % 8) / 2
def tileInner (t : Nat) : Bool := if t < 8 then t % 2 == 1 else t % 2 == 0

def absDiff (a b : Nat) : Nat := (a - b) + (b - a)

/-- Tile bridges and seam bridges on the fixed route of R187. -/
def routeHops (a b : Nat) : Nat × Nat :=
  let rows := absDiff (tileRow a) (tileRow b)
  if a / 8 = b / 8 then (rows + b2n (tileInner a != tileInner b), 0)
  else (b2n (!tileInner a) + rows + b2n (!tileInner b), 1)

/-- The bound of an SRAM read from a tile to another (R188). -/
def readBound (a b : Nat) : Nat :=
  if a = b then 12
  else let h := routeHops a b
       12 + 2 * (13 * h.1 + 19 * h.2) + 4 * (h.1 + h.2 - 1)

/-- The bound of an SRAM write landing at another tile (R188). -/
def writeBound (a b : Nat) : Nat :=
  if a = b then 12
  else let h := routeHops a b
       12 + 13 * h.1 + 19 * h.2 + 2 * (h.1 + h.2 - 1)

end Sys2Proof.Machine
end

