-- ==== Sys2Proof/Machine/Engine.lean ====
section
/-! DEFINITION. How an engine issues an instruction: the stream's next instruction, issue ticks and occupancy (04 R111–R114,
R158), loops (R121), engine faults (R116), results under way and their delivery (R112, R151), semaphores (R118, R119). -/

namespace Sys2Proof.Machine

/-! ### Streams -/

/-- The next index of a stream after the instruction at pc, with LOOP bodies repeated (R121). -/
def nextPc (pc : Nat) : List LoopFrame → Nat × List LoopFrame
  | [] => (pc + 1, [])
  | f :: t =>
    if pc ≠ f.last then (pc + 1, f :: t)
    else if f.iter + 1 < f.count then (f.first, { f with iter := f.iter + 1 } :: t)
    else nextPc pc t

/-- A stream whose pc has moved: issuing its last instruction ends it, or its pass for the orbit (R117, R173). -/
def Stream.settle (st : Stream) : Stream :=
  if st.pc < st.instrs.length then { st with status := .running }
  else { st with status := (match st.plane with | .sched => Status.passDone | .free => Status.idle), loops := [] }

/-- The stream after an instruction that continues with the next one. -/
def Stream.advance (st : Stream) : Stream :=
  let r := nextPc st.pc st.loops
  { st with pc := r.1, loops := r.2 }.settle

/-- The stream with its issue recorded: the tick later deltas count from and the tick its engine is free again. -/
def Stream.issuedAt (st : Stream) (tick occ : Nat) : Stream :=
  { st with issuedOne := true, tick := tick, busy := tick + occ }

/-! ### Faults (R116) -/

/-- The UE record of a carried check that failed at a verification point (R463, R471 UE 3). -/
def State.checkRecord (s : State) (p point unit die eid addr : Nat) : State :=
  s.record p 1 3 unit (die := die) (eid := eid) (addr := addr) (info0 := point)

/-- An engine fault: the stream stops, ENG_FAULT records cause and index, a UE record is sent, and in the scheduled plane
a slip of cause ENGINE is raised (R116, R189). -/
def State.engFault (s : State) (n p : Nat) (e : Eng) (sched : Bool) (index : Nat) (cause : EngCause) : State :=
  let s := s.updStream n e fun st => { st with status := .faulted }
  let v := cause.code + (index % 2 ^ 32) * 2 ^ 4 + b2n sched * 2 ^ 36
  let s := s.setReg .ENG_FAULT (BitVec.ofNat 64 v) 0 n e.idx
  let s := s.flag F.CORE_EVT_eng_fault F.CORE_EVT_CNT_fault_cnt 0 n
  let s := s.record p 1 4 (n * 4 + e.idx) (die := tileOf n) (eid := s.eid p n) (info0 := v)
  if sched then s.slip p 0x01 else s

/-- The instruction faults. -/
def Ctx.fault (c : Ctx) (s : State) (cause : EngCause) : State := s.engFault c.n c.p c.e c.sched c.index cause

/-- An operand granule failed its check: DATA_CHECK, after a slip of cause DATA_UE when a scheduled instruction consumed
a poisoned granule (R465). -/
def Ctx.dataCheck (c : Ctx) (s : State) (poisoned : Bool) : State :=
  let s := s.checkRecord c.p 1 (c.n * 4 + c.e.idx) (tileOf c.n) (s.eid c.p c.n) 0
  let s := if c.sched && poisoned then s.slip c.p 0x0D else s
  c.fault s .dataCheck

/-! ### Issue (R111–R114) -/

/-- The issue tick: in the scheduled plane exactly delta after the previous one, the first of a pass at the
conjunction plus start (R111, R173); in the free plane the present tick. -/
def State.issueTick (s : State) (p : Nat) (st : Stream) (w : Nat) : Nat :=
  match st.plane with
  | .free => (s.part p).gtc
  | .sched => if st.issuedOne then st.tick + bits w 112 16 else (s.part p).conj + st.start

/-- Whether the instruction word is the stream's next and its engine may issue it in its plane. -/
def State.mayIssue (s : State) (n : Nat) (e : Eng) (w : InstrWord) : Bool :=
  let p := s.partOfCore n
  let st := s.stream n e
  let next : Bool := match st.instrs[st.pc]? with
    | some x => x == w
    | none => false
  let plane : Bool := match st.plane with
    | .sched => s.running p && !s.schedStopped p
    | .free => (s.core n).pends.all fun q => q.eng != e
  st.status == .running && next && plane && !s.held.contains (tileOf n)

/-- Class and opcode of an instruction word (R110). -/
def classOf (w : InstrWord) : Nat := bits w.toNat 108 4
def opcodeOf (w : InstrWord) : Nat := bits w.toNat 100 8

/-- The issue of an instruction whose class is its engine's and whose opcode is `op`, with meaning `body`. In the
scheduled plane a delta of 0 is a reserved encoding (R111) and a still occupied engine faults with ISSUE_CONFLICT (R114). -/
def State.issue (s : State) (n : Nat) (e : Eng) (w : InstrWord) (op : Nat) (body : Ctx → State → State) : Res :=
  if ! s.mayIssue n e w then notEnabled "not the next instruction of a stream that may issue (R111, R113)"
  else if classOf w ≠ e.idx ∨ opcodeOf w ≠ op then notEnabled "the word is another instruction (R110)"
  else
    let p := s.partOfCore n
    let st := s.stream n e
    let sched := st.plane == .sched
    let tick := s.issueTick p st w.toNat
    let c : Ctx := { n := n, p := p, e := e, sched := sched, index := st.pc, tick := tick, w := w.toNat }
    if sched && bits w.toNat 112 16 == 0 then .next (c.fault s .illegalInstr)
    else if sched && decide (tick < st.busy) then .next (c.fault s .issueConflict)
    else .next (body c s)

/-- The instruction is done issuing: the stream goes on after `occ` ticks of occupancy. -/
def Ctx.pass (c : Ctx) (s : State) (occ : Nat) : State :=
  s.updStream c.n c.e fun st => (st.issuedAt c.tick occ).advance

/-- The instruction goes on, and its result becomes visible at `lat` (R112, R158). -/
def Ctx.done (c : Ctx) (s : State) (occ lat : Nat) (effects : List Effect) : State :=
  let s := c.pass s occ
  let r : Pend := { eng := c.e, index := c.index, due := c.tick + lat, effects := effects }
  s.updCore c.n fun k => { k with pends := k.pends ++ [r] }

/-- An instruction's meaning when its encoding is sound; a reserved encoding is ILLEGAL_INSTR (R8, R116). -/
def Ctx.legal (c : Ctx) (ok : Bool) (s t : State) : State := if ok then t else c.fault s .illegalInstr

/-! ### Effects becoming visible -/

/-- Apply a result to its core (R112). A partial write whose home refuses it is not applied (HOME_REFUSAL raises that). -/
def State.applyEffect (s : State) (n p : Nat) (e : Effect) : State :=
  match e with
  | .sreg d v => s.updCore n fun k => { k with sregs := tabSet sregDefault k.sregs d v }
  | .areg d v => s.updCore n fun k => { k with aregs := tabSet aregDefault k.aregs d v }
  | .vreg d v => s.updCore n fun k => { k with vregs := tabSet vregDefault k.vregs d v }
  | .vhalf d hi v => s.updCore n fun k => { k with
      vregs := tabUpd vregDefault k.vregs d fun x => BitVec.ofNat 8192 (putBits x.toNat (4096 * b2n hi) 4096 v.toNat) }
  | .accRows bank row rows => s.updCore n fun k => { k with
      acc := (rows.zipIdx).foldl (fun t r => tabSet vregDefault t (b2n bank * 256 + row + r.2) r.1) k.acc }
  | .accTag bank int => s.updCore n fun k => if bank then { k with accInt1 := int } else { k with accInt0 := int }
  | .rowSums bank row sums => s.updCore n fun k => { k with
      sums := (sums.zipIdx).foldl (fun t r => tabSet rowSumDefault t (b2n bank * 256 + row + r.2) r.1) k.sums }
  | .latch l v => s.updCore n fun k => { k with cks := tabSet latchDefault k.cks l v }
  | .semAdd sem x => s.updCore n fun k => { k with arriving := k.arriving ++ [(sem, x)] }
  | .semSub sem x => s.updCore n fun k => { k with sems := tabUpd natDefault k.sems sem fun v => v - x }
  | .writeGran addr data check => (s.sramWrite addr data check).landed p addr
  | .writeBytes addr bytes => match s.writePart p addr bytes with
    | some r => r.1
    | none => s
  | .chkFail bank row ratio =>
    let s := s.flag F.CORE_EVT_chk_fail F.CORE_EVT_CNT_chk_cnt 0 n
    let s := s.setReg .CHK_STS (BitVec.ofNat 64 (row + b2n bank * 2 ^ 8 + min ratio (2 ^ 32 - 1) * 2 ^ 32)) 0 n
    if s.rdB F.CORE_CTL_chk_report 0 n then
      let phys := s.rd ⟨.TILE_LPMAP, 4 * (n % 4), 3⟩ 0 (tileOf n)
      let s := s.record p 2 1 n (die := tileOf n) (eid := s.eid p n) (info0 := (s.reg .CHK_STS 0 n).toNat)
        (info1 := phys + ((s.part p).gtc - (s.part p).conj) % 2 ^ 25 * 2 ^ 32)
      s.ageLog (n / 32) 21 4 (5 * tileOf n + phys) (s.reg .CHK_STS 0 n).toNat 0
    else s
  | .launch g script args nth sem semEn => s.updGather g fun x => { x with
      nextLaunch := x.nextLaunch + 1
      launches := x.launches ++ [{ id := x.nextLaunch, core := n, script := script, args := args, nth := nth,
                                   sem := sem, semEn := semEn, started := 0, ended := 0, failed := false }] }

/-- Whether the home refuses an effect: a partial write to a granule that fails its check (R151). -/
def State.refusesEffect (s : State) (p : Nat) (e : Effect) : Bool :=
  match e with
  | .writeBytes addr bytes => match s.writePart p addr bytes with
    | some r => !r.2
    | none => true
  | .sreg _ _ | .areg _ _ | .vreg _ _ | .vhalf _ _ _ | .accRows _ _ _ | .accTag _ _ | .rowSums _ _ _ | .latch _ _ | .semAdd _ _
  | .semSub _ _ | .writeGran _ _ _ | .chkFail _ _ _ | .launch _ _ _ _ _ _ => false

def State.applyEffects (s : State) (n p : Nat) (es : List Effect) : State :=
  es.foldl (fun a e => a.applyEffect n p e) s

/-- Whether an effect writes S[d]. -/
def Effect.writesS (d : Nat) : Effect → Bool
  | .sreg x _ => x == d
  | .areg _ _ | .vreg _ _ | .vhalf _ _ _ | .accRows _ _ _ | .accTag _ _ | .rowSums _ _ _ | .latch _ _ | .semAdd _ _
  | .semSub _ _ | .writeGran _ _ _ | .writeBytes _ _ | .chkFail _ _ _ | .launch _ _ _ _ _ _ => false

/-- Whether a VXE result waits for the SCU's: both write one S register at one tick, and the VXE write is the one that
remains (R105). -/
def Pend.after (r q : Pend) : Bool :=
  r.eng == .vxe && q.eng == .scu && r.due == q.due &&
    (List.range 32).any fun d => r.effects.any (Effect.writesS d) && q.effects.any (Effect.writesS d)

/-- RESULT_DELIVERY (R105, R112): the k-th result under way of a core becomes visible. -/
def execResultDelivery (n : Fin 64) (k : Nat) (s : State) : Res :=
  let p := s.partOfCore n
  match (s.core n).pends[k]? with
  | none => notEnabled "no such result is under way (R112)"
  | some r =>
    if (s.core n).pends.any r.after then notEnabled "the SCU's write of the same register and tick comes first (R105)"
    else if r.effects.any (s.refusesEffect p) then notEnabled "the home refuses the write: HOME_REFUSAL (R151)"
    else
      let s := s.updCore n fun c => { c with pends := removeAt c.pends k }
      .next (s.applyEffects n p r.effects)

/-- Whether an effect is a write of part of a granule. -/
def Effect.partial? : Effect → Bool
  | .writeBytes _ _ => true
  | .sreg _ _ | .areg _ _ | .vreg _ _ | .vhalf _ _ _ | .accRows _ _ _ | .accTag _ _ | .rowSums _ _ _ | .latch _ _
  | .semAdd _ _ | .semSub _ _ | .writeGran _ _ _ | .chkFail _ _ _ | .launch _ _ _ _ _ _ => false

/-- HOME_REFUSAL (R151): the home's refusal of a partial write reaches the engine, which faults with DATA_CHECK naming
the writing instruction; the instruction's whole-granule writes stand and its partial writes are not made. -/
def execHomeRefusal (n : Fin 64) (k : Nat) (s : State) : Res :=
  let p := s.partOfCore n
  match (s.core n).pends[k]? with
  | none => notEnabled "no such result is under way (R112)"
  | some r =>
    if ! r.effects.any (s.refusesEffect p) then notEnabled "the home performs the write: RESULT_DELIVERY (R112)"
    else
      let s := s.updCore n fun c => { c with pends := removeAt c.pends k }
      let s := s.applyEffects n p (r.effects.filter fun e => !e.partial?)
      let s := s.checkRecord p 3 (n * 4 + r.eng.idx) (tileOf n) (s.eid p n) 0
      .next (s.engFault n p r.eng ((s.stream n r.eng).plane == .sched) r.index .dataCheck)

/-! ### Semaphores (R118, R119) -/

/-- A semaphore takes a signal: its count saturates at 65,535 and the excess sets sem_ovf (R118). -/
def State.takeSignal (s : State) (n : Nat) (sig : Nat × Nat) : State :=
  let v := (s.core n).sem sig.1 + sig.2
  let s := s.updCore n fun k => { k with sems := tabSet natDefault k.sems sig.1 (min v 65535) }
  if 65535 < v then s.flag F.CORE_EVT_sem_ovf F.CORE_EVT_CNT_ovf_cnt 0 n else s

/-- Serve the wait of one engine when its count suffices (R119, R215). -/
def State.serveWait (s : State) (n : Nat) (e : Eng) : State :=
  match (s.stream n e).status with
  | .waitSem sem need =>
    if need ≤ (s.core n).sem sem then
      let s := s.updCore n fun k => { k with sems := tabSet natDefault k.sems sem (k.sem sem - need) }
      s.updStream n e fun st => st.advance
    else s
  | .idle | .running | .waitFence _ | .passDone | .faulted => s

/-- SEMAPHORE_SERVE (R119): a core's semaphores take every signal that has arrived, then serve waits in the order SCU,
MXE, VXE, DMX. -/
def execSemaphoreServe (n : Fin 64) (s : State) : Res :=
  let sigs := (s.core n).arriving
  let s := s.updCore n fun k => { k with arriving := [] }
  let s := sigs.foldl (fun a x => a.takeSignal n x) s
  .next ((((s.serveWait n .scu).serveWait n .mxe).serveWait n .vxe).serveWait n .dmx)

/-- A signal arrives at a core's semaphore (R118, R148, R153). -/
def State.signal (s : State) (n sem x : Nat) : State :=
  s.updCore n fun k => { k with arriving := k.arriving ++ [(sem, x)] }

/-! ### Opcodes common to every stream (R117) -/

/-- Every (class, opcode) the spec assigns (R117, R123, R130–R132, R139, R144); any other is a reserved encoding. -/
def assigned (cls op : Nat) : Bool :=
  [0x00, 0xF0, 0xF1, 0xF2, 0xF3, 0xF4].contains op ||
  (if cls = 0 then (decide (1 ≤ op) && decide (op ≤ 0x0B)) || (decide (0x10 ≤ op) && decide (op ≤ 0x14)) ||
      [0x18, 0x19, 0x1A, 0x1B, 0x28, 0x29, 0x30, 0x31, 0x38].contains op
   else if cls = 1 then decide (1 ≤ op) && decide (op ≤ 5)
   else if cls = 2 then decide (1 ≤ op) && decide (op ≤ 0x26)
   else cls == 3 && op == 1)

/-- NOP (R117): one tick of occupancy. A word of no assigned class and opcode is a reserved encoding; the table has no
row of its own for it, and its issue is taken here: ILLEGAL_INSTR (R8, R116; DEDUCED, notes/assumptions/17.md). -/
def streamNop (n : Nat) (e : Eng) (w : InstrWord) (s : State) : Res :=
  if classOf w = e.idx ∧ assigned e.idx (opcodeOf w) then
    s.issue n e w 0x00 fun c s => c.legal (c.reservedOk []) s (c.pass s 1)
  else if ! s.mayIssue n e w then notEnabled "not the next instruction of a stream that may issue (R111, R113)"
  else
    let p := s.partOfCore n
    let st := s.stream n e
    .next (s.engFault n p e (st.plane == .sched) st.pc .illegalInstr)

/-- SEMWAIT (R117, R119, R120): a free stream waits until SEMAPHORE_SERVE serves it; a scheduled one subtracts at its
issue tick or faults with SEM_SHORT. -/
def execSemwait (n : Fin 64) (e : Eng) (w : InstrWord) (s : State) : Res :=
  s.issue n e w 0xF0 fun c s =>
    let sem := c.f 94 6
    let need := c.f 78 16
    c.legal (c.reservedOk [(94, 6), (78, 16)] && need != 0) s
      (if c.sched then
        (if need ≤ (s.core n).sem sem then
          c.pass (s.updCore n fun k => { k with sems := tabSet natDefault k.sems sem (k.sem sem - need) }) 1
         else c.fault s .semShort)
       else s.updStream n e fun st => { st.issuedAt c.tick 1 with status := .waitSem sem need })

/-- A remote SEMSIG request (R118, R356): n to semaphore `sem` of a UNIT. -/
def semsigPacket (srcEid unit sem x : Nat) : Packet :=
  { emptyPacket with op := 4, srcEid := srcEid, addr := unit, opv := sem + x * 64 }

/-- SEMSIG (R117, R118): a local signal, or a signal to the core that eid names. -/
def execSemsig (n : Fin 64) (e : Eng) (w : InstrWord) (s : State) : Res :=
  s.issue n e w 0xF1 fun c s =>
    let sem := c.f 94 6
    let x := c.f 78 16
    let remote := c.f 77 1 == 1
    let unit := c.f 53 10
    let pix := c.f 63 14
    let used := if remote then [(94, 6), (78, 16), (77, 1), (53, 24)] else [(94, 6), (78, 16), (77, 1)]
    c.legal (c.reservedOk used && !(remote && c.sched)) s
      (if ! remote then c.pass (s.signal n sem x) 1
       else if 64 ≤ unit then c.fault s .addrRange
       else
         match s.pixTarget c.p pix 0 with
         | .here _ => if s.partOfCore unit ≠ c.p then c.fault s .addrRange else c.pass (s.signal unit sem x) 1
         | .package px _ =>
           if s.reachable c.p px then c.pass (s.sendSeq c.p px (semsigPacket (s.eid c.p n) (px * 1024 + unit) sem x)) 1
           else c.pass (s.unreachable c.p) 1
         | .far f _ => c.pass (s.sendFar c.p f (semsigPacket (s.eid c.p n) ((1024 + f) * 1024 + unit) sem x) .none) 1
         | .bad => c.fault s .addrRange)

/-- The scope of a FENCE code (R117); 3 is reserved. -/
def scopeOf (k : Nat) : Option Scope :=
  if k = 0 then some .core else if k = 1 then some .dev else if k = 2 then some .sys else none

/-- FENCE (R218, R219, R224): the stream stops; the fence covers the transfers its DMX stream started and, for SYS, the
sequence numbers issued to every destination. -/
def execFence (n : Fin 64) (e : Eng) (w : InstrWord) (s : State) : Res :=
  s.issue n e w 0xF2 fun c s =>
    match scopeOf (c.f 98 2) with
    | none => c.fault s .illegalInstr
    | some sc =>
      c.legal (c.reservedOk [(98, 2)] && !c.sched) s
        (let targets := match sc with
          | .sys => ((s.part c.p).e2eOut.filter fun x => decide (x.2.acked < x.2.issued)).map fun x => (x.1, x.2.issued)
          | .core => []
          | .dev => []
         let covered := match e with
          | .dmx => (s.core n).transfers.map (·.id)
          | .scu => []
          | .mxe => []
          | .vxe => []
         let f : Fence := { scope := sc, transfers := covered, targets := targets, issued := c.tick, timedOut := false }
         s.updStream n e fun st => { st.issuedAt c.tick 2 with status := .waitFence f })

/-- HALT (R117, R173): ends the stream, or in a scheduled stream its pass for the current orbit. -/
def execHalt (n : Fin 64) (e : Eng) (w : InstrWord) (s : State) : Res :=
  s.issue n e w 0xF3 fun c s =>
    c.legal (c.reservedOk []) s
      (s.updStream n e fun st => { st.issuedAt c.tick 1 with
        pc := st.pc + 1, loops := []
        status := match st.plane with | .sched => Status.passDone | .free => Status.idle })

/-- LOOP (R117, R121): opens a body of `length` instructions repeated `count` times; a fifth level faults. -/
def execLoop (n : Fin 64) (e : Eng) (w : InstrWord) (s : State) : Res :=
  s.issue n e w 0xF4 fun c s =>
    let count := c.f 84 16
    let len := c.f 72 12
    c.legal (c.reservedOk [(84, 16), (72, 12)] && count != 0 && len != 0) s
      (if 4 ≤ (s.stream n e).loops.length then c.fault s .loopDepth
       else s.updStream n e fun st => { st.issuedAt c.tick 1 with
         pc := st.pc + 1
         loops := { first := st.pc + 1, last := st.pc + len, count := count, iter := 0 } :: st.loops }.settle)

end Sys2Proof.Machine
end

