-- ==== Sys2Proof/Machine/Flags.lean ====
section
/-! DEFINITION. The exception counters of a logical core (03 R103, R532): what the result elements of an instruction add to
EXC_CNT_A, EXC_CNT_B and EXC_CNT_C, each element at most 1 to each counter, each counter wrapping at 32 bits. -/

namespace Sys2Proof.Machine

/-- How many elements had an event. -/
def countEv (es : List Exc) (g : Exc → Bool) : Nat := (es.filter g).length

/-- Add the events of an instruction's result elements to the core's counters (R103). -/
def State.countExc (s : State) (n : Nat) (es : List Exc) : State :=
  let s := s.count F.EXC_CNT_A_invalid_cnt (countEv es (·.inv)) 0 n
  let s := s.count F.EXC_CNT_A_nan_in_cnt (countEv es (·.nanIn)) 0 n
  let s := s.count F.EXC_CNT_B_overflow_cnt (countEv es (·.ovf)) 0 n
  let s := s.count F.EXC_CNT_B_flush_cnt (countEv es (·.flush)) 0 n
  s.count F.EXC_CNT_C_sr_cnt (countEv es (·.sr)) 0 n

/-- Clear the core's counters (R103: resets, engine resets and SWAP_CORE). -/
def State.clearExc (s : State) (n : Nat) : State :=
  ((s.setReg .EXC_CNT_A 0 0 n).setReg .EXC_CNT_B 0 0 n).setReg .EXC_CNT_C 0 0 n

end Sys2Proof.Machine
end

