-- ==== Sys2Proof/Machine/Transc.lean ====
section
/-! DEFINITION. The six transcendental functions (03 R98–R101, R531). The kernel coefficients are defined from the real
functions; here those are evaluated in fixed point with 200 fractional bits, and the coefficients rounded from that
(DEDUCED: the evaluation error is far below the distance to any rounding boundary; DEDUCED, notes/assumptions/16.md). -/

namespace Sys2Proof.Machine

/-- Fractional bits of the fixed-point evaluation. -/
def fxBits : Nat := 200

/-- 1 in fixed point. -/
def fxOne : Int := (2 ^ fxBits : Nat)

def fxMul (a b : Int) : Int := a * b / fxOne
def fxDiv (a b : Int) : Int := a * fxOne / b

/-- Integer square root by bits from the top. -/
def isqrt (x : Nat) : Nat → Nat → Nat
  | 0, r => r
  | n + 1, r => if (r + 2 ^ n) * (r + 2 ^ n) ≤ x then isqrt x n (r + 2 ^ n) else isqrt x n r

/-- Square root in fixed point. -/
def fxSqrt (a : Int) : Int := (isqrt (a.toNat * 2 ^ fxBits) 420 0 : Nat)

/-- The terms of the exponential series. -/
def expTerms (x : Int) : Nat → Nat → Int → Int
  | 0, _, _ => 0
  | n + 1, k, t => t + expTerms x n (k + 1) (fxMul t x / (k : Int))

def fxSquares : Nat → Int → Int
  | 0, x => x
  | n + 1, x => fxSquares n (fxMul x x)

/-- e^x. -/
def fxExp (x : Int) : Int := fxSquares 12 (expTerms (x / 4096) 40 1 fxOne)

/-- Σ z^(2k+1)/(2k+1), the inverse hyperbolic tangent of z. -/
def atanhTerms (z2 : Int) : Nat → Nat → Int → Int
  | 0, _, _ => 0
  | n + 1, k, t => t / (k : Int) + atanhTerms z2 n (k + 2) (fxMul t z2)

def fxAtanh (z : Int) : Int := atanhTerms (fxMul z z) 160 1 z

/-- ln 2 = 2 atanh(1/3). -/
def fxLn2 : Int := 2 * fxAtanh (fxOne / 3)

/-- ln u for u in [1, 2). -/
def fxLn (u : Int) : Int := 2 * fxAtanh (fxDiv (u - fxOne) (u + fxOne))

/-- Σ (−1)^k z^(2k+1)/(2k+1). -/
def atanTerms (z2 : Int) : Nat → Nat → Int → Int
  | 0, _, _ => 0
  | n + 1, k, t => t / (k : Int) + atanTerms z2 n (k + 2) (-(fxMul t z2))

def fxAtan (z : Int) : Int := atanTerms (fxMul z z) 120 1 z

/-- π by Machin's formula. -/
def fxPi : Int := 4 * (4 * fxAtan (fxOne / 5) - fxAtan (fxOne / 239))

/-- The terms of erf's series, (−1)^k x^(2k+1) / (k! (2k+1)). -/
def erfTerms (x2 : Int) : Nat → Nat → Int → Int
  | 0, _, _ => 0
  | n + 1, k, t => t / (2 * (k : Int) + 1) + erfTerms x2 n (k + 1) (-(fxMul t x2) / ((k : Int) + 1))

def fxErf (x : Int) : Int := fxDiv (2 * erfTerms (fxMul x x) 160 0 x) (fxSqrt fxPi)

/-- tanh x = (1 − w) / (1 + w), w = e^(−2x). -/
def fxTanh (x : Int) : Int :=
  let w := fxExp (-(2 * x))
  fxDiv (fxOne - w) (fxOne + w)

/-- The kernel functions of R99; tanh and erf have one table per binade. -/
inductive Kernel where
  | exp2 | log2 | rcp | rsqrtEven | rsqrtOdd | tanh (e : Int) | erf (e : Int)
deriving DecidableEq, Repr

/-- u · 2^e. -/
def fxScale (u e : Int) : Int := if 0 ≤ e then u * (2 ^ e.toNat : Nat) else u / ((2 ^ (-e).toNat : Nat) : Int)

/-- F, F′ and F″ at u. -/
def Kernel.derivs (k : Kernel) (u : Int) : Int × Int × Int :=
  match k with
  | .exp2 =>
    let f := fxExp (fxMul (u - fxOne) fxLn2)
    let f1 := fxMul f fxLn2
    (f, f1, fxMul f1 fxLn2)
  | .log2 =>
    let d := fxDiv (fxDiv fxOne u) fxLn2
    (fxDiv (fxLn u) fxLn2, d, -(fxDiv d u))
  | .rcp =>
    let f := fxDiv fxOne u
    (f, -(fxMul f f), 2 * fxMul f (fxMul f f))
  | .rsqrtEven =>
    let f := fxDiv fxOne (fxSqrt u)
    let f3 := fxDiv f u
    (f, -(f3 / 2), 3 * fxDiv f3 u / 4)
  | .rsqrtOdd =>
    let v := 2 * u
    let f := fxDiv fxOne (fxSqrt v)
    let f3 := fxDiv f v
    (f, -f3, 3 * fxDiv f3 v)
  | .tanh e =>
    let x := fxScale u e
    let t := fxTanh x
    let s := fxOne - fxMul t t
    (fxScale t (-e), s, -(2 * fxScale (fxMul t s) e))
  | .erf e =>
    let x := fxScale u e
    let d := fxDiv (2 * fxExp (-(fxMul x x))) (fxSqrt fxPi)
    (fxScale (fxErf x) (-e), d, -(2 * fxScale (fxMul x d) e))

/-- rne of a fixed-point number times 2^30. -/
def rne30 (x : Int) : Int :=
  let k := fxBits - 30
  let n := roundInt .rne x.natAbs (-(k : Int))
  if x < 0 then -(n : Int) else n

/-- The kernel value y of R98 for significand field m. -/
def Kernel.value (k : Kernel) (m : Nat) : Int :=
  let i := m / 65536
  let d : Int := (m % 65536 : Nat) - 32768
  let xi : Int := ((2 ^ 23 + i * 65536 + 32768 : Nat) : Int) * ((2 ^ (fxBits - 23) : Nat) : Int)
  let f := k.derivs xi
  let c0 := rne30 f.1
  let c1 := rne30 f.2.1
  let c2 := rne30 (f.2.2 / 2)
  let t1 := (c1 * d).fdiv (2 ^ 23)
  let t2 := (((c2 * d).fdiv (2 ^ 23)) * d).fdiv (2 ^ 23)
  c0 + t1 + t2

/-- Round an exact reconstruction to FP32 and return a subnormal result as zero (R99, R101). -/
def reconstruct (x : Dy) (zeroNeg : Bool) : Nat × Exc :=
  let r := Fmt.fp32.convert .rne (x.num zeroNeg)
  let f := flush32 r.1
  (f.1, r.2.or f.2)

def fp32One : Nat := 0x3F800000
def fp32Nan : Nat := 0x7FC00000
def fp32PosInf : Nat := 0x7F800000
def fp32NegInf : Nat := 0xFF800000

/-- The functions as VXE opcodes name them. -/
inductive TFun where
  | exp2 | log2 | rcp | rsqrt | tanh | erf
deriving DecidableEq, Repr

/-- exp2 of a finite nonzero normal value ±m·2^e (R99, R100, R531). -/
def exp2Fin (v : Dy) : Nat × Exc :=
  let big : Bool := Dy.le { m := 128, e := 0 } v
  let small : Bool := !(Dy.le { m := -126, e := 0 } v)
  if big then (fp32PosInf, { ovf := true })
  else if small then (0, { flush := true })
  else
    let X : Int := if 0 ≤ v.e + 23 then v.m * (2 ^ (v.e + 23).toNat : Nat) else v.m.fdiv ((2 ^ (-(v.e + 23)).toNat : Nat) : Int)
    let n := X.fdiv (2 ^ 23)
    let m := (X.fmod (2 ^ 23)).toNat
    let isInt : Bool := decide (0 ≤ v.e) || v.m.natAbs % 2 ^ (-v.e).toNat == 0
    if isInt then reconstruct { m := 1, e := n } false
    else reconstruct { m := Kernel.value .exp2 m, e := n - 30 } false

/-- A transcendental function of an FP32 code (R98–R101, R531). -/
def TFun.apply (f : TFun) (c : Nat) : Nat × Exc :=
  let neg := c.testBit 31
  let mag := c % 2 ^ 31
  let fl : Exc := if mag ≠ 0 ∧ mag < 2 ^ 23 then { flush := true } else {}
  let sgn := Fmt.fp32.signBit neg
  if fp32PosInf < mag then (fp32Nan, { nanIn := true })
  else
    let zero : Bool := decide (mag < 2 ^ 23)
    let isInf : Bool := mag == fp32PosInf
    let e : Int := (mag / 2 ^ 23 : Nat) - 127
    let m := mag % 2 ^ 23
    match f with
    | .exp2 =>
      if zero then (fp32One, fl)
      else if isInf then (if neg then (0, {}) else (fp32PosInf, {}))
      else exp2Fin (Fmt.fp32.value c).dy
    | .log2 =>
      if zero then (fp32NegInf, fl)
      else if neg then (fp32Nan, { inv := true })
      else if isInf then (fp32PosInf, {})
      else if m = 0 then reconstruct { m := e, e := 0 } false
      else reconstruct (Dy.add { m := e, e := 0 } { m := Kernel.value .log2 m, e := -30 }) false
    | .rcp =>
      if zero then (sgn + fp32PosInf, fl)
      else if isInf then (sgn, {})
      else
        let y : Int := if m = 0 then 2 ^ 30 else Kernel.value .rcp m
        reconstruct { m := if neg then -y else y, e := -e - 30 } neg
    | .rsqrt =>
      if zero then (sgn + fp32PosInf, fl)
      else if neg then (fp32Nan, { inv := true })
      else if isInf then (0, {})
      else if e % 2 = 0 then
        (if m = 0 then reconstruct { m := 1, e := -(e / 2) } false
         else reconstruct { m := Kernel.value .rsqrtEven m, e := -(e / 2) - 30 } false)
      else reconstruct { m := Kernel.value .rsqrtOdd m, e := -((e - 1) / 2) - 30 } false
    | .tanh =>
      if zero then (sgn, fl)
      else if isInf || decide (4 ≤ e) then (sgn + fp32One, {})
      else if e < -12 then (c, {})
      else
        let y := Kernel.value (.tanh e) m
        reconstruct { m := if neg then -y else y, e := e - 30 } neg
    | .erf =>
      if zero then (sgn, fl)
      else if isInf || decide (2 ≤ e) then (sgn + fp32One, {})
      else if e < -12 then reconstruct ((Fmt.fp32.value c).dy.mul (Fmt.fp32.value 0x3F906EBB).dy) neg
      else
        let y := Kernel.value (.erf e) m
        reconstruct { m := if neg then -y else y, e := e - 30 } neg

end Sys2Proof.Machine
end

