-- ==== Sys2Proof/Machine/Vxe.lean ====
section
/-! DEFINITION. The vector engine (04 R135–R143, R527): lane-wise arithmetic (03 R88, R89), conversions (R91–R95),
transcendental functions (R98–R101), loads and stores, reductions, top-k and sampling, and the checksum compare. -/

namespace Sys2Proof.Machine

/-! ### Fields and lanes -/

def Ctx.vd (c : Ctx) : Nat := c.f 94 6
def Ctx.va (c : Ctx) : Nat := c.f 88 6
def Ctx.vb (c : Ctx) : Nat := c.f 82 6
def Ctx.vc (c : Ctx) : Nat := c.f 76 6
def Ctx.vt (c : Ctx) : Nat := c.f 74 2
def Ctx.sa (c : Ctx) : Nat := c.f 69 5
def Ctx.sb (c : Ctx) : Nat := c.f 64 5

def fVd : Nat × Nat := (94, 6)
def fVa : Nat × Nat := (88, 6)
def fVb : Nat × Nat := (82, 6)
def fVc : Nat × Nat := (76, 6)
def fVt : Nat × Nat := (74, 2)
def fSa : Nat × Nat := (69, 5)
def fSb : Nat × Nat := (64, 5)

/-- The lane format of vt (R137). -/
def laneFmt (vt : Nat) : Fmt := if vt = 0 then .fp32 else if vt = 1 then .bf16 else .int32

/-- The lane count of vt (R137). -/
def laneCount (vt : Nat) : Nat := if vt = 1 then 512 else 256

/-- The lanes of a vector register (R137). -/
def lanesOf (vt : Nat) (v : VReg) : List Nat :=
  (List.range (laneCount vt)).map fun i => elemAt v.toNat (laneFmt vt).width i

/-- A vector register from its lanes. -/
def ofLanes (vt : Nat) (l : List Nat) : VReg := BitVec.ofNat 8192 (packElems (laneFmt vt).width l)

/-- A VXE instruction: reserved bits zero (R527), vt one of those the opcode takes (R137), and its own conditions. -/
def vxeOp (n : Nat) (w : InstrWord) (op : Nat) (used : List (Nat × Nat)) (vts : List Nat) (ok : Ctx → Bool)
    (body : Ctx → State → State) (s : State) : Res :=
  s.issue n .vxe w op fun c s => c.legal (c.reservedOk used && vts.contains c.vt && ok c) s (body c s)

/-- A result register with its events (R103). -/
def Ctx.lanesDone (c : Ctx) (s : State) (occ lat : Nat) (vt : Nat) (es : List (Nat × Exc)) : State :=
  (c.done s occ lat [.vreg c.vd (ofLanes vt (es.map (·.1)))]).countExc c.n (es.map (·.2))

/-! ### Arithmetic (R88, R89, R137, R138) -/

/-- The scalar operand S[x] as a lane value, with the events of its conversion (R138). -/
def Core.scalar (k : Core) (vt x : Nat) : Num × Exc :=
  let raw := k.S x
  if vt = 1 then
    let r := Fmt.bf16.convert .rne (Fmt.fp32.value raw)
    (Fmt.bf16.value r.1, r.2)
  else ((laneFmt vt).value raw, {})

/-- One lane's result rounded once (R88); INT32 saturates (R137). -/
def laneResult (vt : Nat) (r : Num) (ops : List Num) : Nat × Exc := (laneFmt vt).result r (ops.any Num.isNan)

/-- vd = va op vb, lane by lane. -/
def vBinary (n : Nat) (w : InstrWord) (op lat : Nat) (g : Nat → Nat → Nat → Nat × Exc) (vts : List Nat) (s : State) :
    Res :=
  vxeOp n w op [fVd, fVa, fVb, fVt] vts (fun _ => true) (fun c s =>
    let k := s.core n
    c.lanesDone s 1 lat c.vt (List.zipWith (g c.vt) (lanesOf c.vt (k.V c.va)) (lanesOf c.vt (k.V c.vb)))) s

/-- A lane-wise arithmetic operation on exact values. -/
def arith2 (g : Num → Num → Num) (vt a b : Nat) : Nat × Exc :=
  let x := (laneFmt vt).value a
  let y := (laneFmt vt).value b
  laneResult vt (g x y) [x, y]

/-- VADD (R139). -/
def execVadd (n : Fin 64) (w : InstrWord) (s : State) : Res := vBinary n w 0x01 4 (arith2 Num.add) [0, 1, 2] s
/-- VSUB (R139). -/
def execVsub (n : Fin 64) (w : InstrWord) (s : State) : Res :=
  vBinary n w 0x02 4 (arith2 fun x y => x.add y.negate) [0, 1, 2] s
/-- VMUL (R139). -/
def execVmul (n : Fin 64) (w : InstrWord) (s : State) : Res := vBinary n w 0x03 4 (arith2 Num.mul) [0, 1, 2] s

/-- VFMA (R139): va × vb + vc with one rounding. -/
def execVfma (n : Fin 64) (w : InstrWord) (s : State) : Res :=
  vxeOp n w 0x04 [fVd, fVa, fVb, fVc, fVt] [0, 1, 2] (fun _ => true) (fun c s =>
    let k := s.core n
    let f := laneFmt c.vt
    let as := lanesOf c.vt (k.V c.va)
    let bs := lanesOf c.vt (k.V c.vb)
    let cs := lanesOf c.vt (k.V c.vc)
    c.lanesDone s 1 4 c.vt ((as.zip (bs.zip cs)).map fun q =>
      let x := f.value q.1
      let y := f.value q.2.1
      let z := f.value q.2.2
      laneResult c.vt ((x.mul y).add z) [x, y, z])) s

/-- Minimum or maximum of two lanes by R89: −0 below +0, canonical NaN when either is NaN. -/
def minMax (max : Bool) (vt a b : Nat) : Nat × Exc :=
  let f := laneFmt vt
  let x := f.value a
  let y := f.value b
  if x.isNan || y.isNan then (f.nanCode.getD 0, { nanIn := true })
  else (if num32Lt x y = max then b else a, {})

/-- VMIN (R89, R139). -/
def execVmin (n : Fin 64) (w : InstrWord) (s : State) : Res := vBinary n w 0x05 2 (minMax false) [0, 1, 2] s
/-- VMAX (R89, R139). -/
def execVmax (n : Fin 64) (w : InstrWord) (s : State) : Res := vBinary n w 0x06 2 (minMax true) [0, 1, 2] s

/-- vd = va op S[sa] (R138, R139). -/
def vScalar (n : Nat) (w : InstrWord) (op : Nat) (g : Num → Num → Num) (s : State) : Res :=
  vxeOp n w op [fVd, fVa, fVt, fSa] [0, 1, 2] (fun _ => true) (fun c s =>
    let k := s.core n
    let y := k.scalar c.vt c.sa
    c.lanesDone s 1 4 c.vt ((lanesOf c.vt (k.V c.va)).map fun a =>
      let x := (laneFmt c.vt).value a
      let r := laneResult c.vt (g x y.1) [x, y.1]
      (r.1, r.2.or y.2))) s

/-- VSADD (R139). -/
def execVsadd (n : Fin 64) (w : InstrWord) (s : State) : Res := vScalar n w 0x07 Num.add s
/-- VSMUL (R139). -/
def execVsmul (n : Fin 64) (w : InstrWord) (s : State) : Res := vScalar n w 0x08 Num.mul s

/-- VSFMA (R139): va × S[sa] + S[sb]. -/
def execVsfma (n : Fin 64) (w : InstrWord) (s : State) : Res :=
  vxeOp n w 0x09 [fVd, fVa, fVt, fSa, fSb] [0, 1, 2] (fun _ => true) (fun c s =>
    let k := s.core n
    let y := k.scalar c.vt c.sa
    let z := k.scalar c.vt c.sb
    c.lanesDone s 1 4 c.vt ((lanesOf c.vt (k.V c.va)).map fun a =>
      let x := (laneFmt c.vt).value a
      let r := laneResult c.vt ((x.mul y.1).add z.1) [x, y.1, z.1]
      (r.1, (r.2.or y.2).or z.2))) s

/-! ### Selection, comparison, bitwise operations -/

/-- VSEL (R139): a bitwise lane test of vc. -/
def execVsel (n : Fin 64) (w : InstrWord) (s : State) : Res :=
  vxeOp n w 0x0A [fVd, fVa, fVb, fVc, fVt] [0, 1, 2] (fun _ => true) (fun c s =>
    let k := s.core n
    let as := lanesOf c.vt (k.V c.va)
    let bs := lanesOf c.vt (k.V c.vb)
    let cs := lanesOf c.vt (k.V c.vc)
    c.lanesDone s 1 2 c.vt ((as.zip (bs.zip cs)).map fun q => (if q.2.2 = 0 then q.2.1 else q.1, {}))) s

/-- A zero of either sign as +0, for comparisons (DEDUCED, notes/assumptions/18.md). -/
def Num.plusZero (x : Num) : Num := if x.isZero then .fin false 0 0 else x

/-- VCMP's condition on two lanes (R139): EQ, NE, LT, LE; a NaN lane compares false except for NE. -/
def cmpLane (cond : Nat) (vt a b : Nat) : Nat × Exc :=
  let f := laneFmt vt
  let x := (f.value a).plusZero
  let y := (f.value b).plusZero
  let nan := x.isNan || y.isNan
  let lt := num32Lt x y
  let gt := num32Lt y x
  let t : Bool :=
    if nan then cond == 1
    else if cond = 0 then !lt && !gt else if cond = 1 then lt || gt else if cond = 2 then lt else !gt
  (if t then 2 ^ f.width - 1 else 0, if nan then { nanIn := true } else {})

/-- VCMP (R139). -/
def execVcmp (n : Fin 64) (w : InstrWord) (s : State) : Res :=
  vxeOp n w 0x0B [fVd, fVa, fVb, fVt, (61, 3)] [0, 1, 2] (fun c => decide (c.f 61 3 < 4)) (fun c s =>
    let k := s.core n
    c.lanesDone s 1 2 c.vt
      (List.zipWith (cmpLane (c.f 61 3) c.vt) (lanesOf c.vt (k.V c.va)) (lanesOf c.vt (k.V c.vb)))) s

/-- A bitwise operation on 32-bit lanes. -/
def bit2 (g : BitVec 32 → BitVec 32 → BitVec 32) (_vt a b : Nat) : Nat × Exc :=
  ((g (BitVec.ofNat 32 a) (BitVec.ofNat 32 b)).toNat, {})

/-- VAND (R139). -/
def execVand (n : Fin 64) (w : InstrWord) (s : State) : Res := vBinary n w 0x0C 2 (bit2 fun x y => x &&& y) [2] s
/-- VOR (R139). -/
def execVor (n : Fin 64) (w : InstrWord) (s : State) : Res := vBinary n w 0x0D 2 (bit2 fun x y => x ||| y) [2] s
/-- VXOR (R139). -/
def execVxor (n : Fin 64) (w : InstrWord) (s : State) : Res := vBinary n w 0x0E 2 (bit2 fun x y => x ^^^ y) [2] s
/-- VSHL (R139): by the vb lane mod 32. -/
def execVshl (n : Fin 64) (w : InstrWord) (s : State) : Res :=
  vBinary n w 0x0F 2 (bit2 fun x y => x <<< (y.toNat % 32)) [2] s
/-- VSHR (R139): arithmetic, by the vb lane mod 32. -/
def execVshr (n : Fin 64) (w : InstrWord) (s : State) : Res :=
  vBinary n w 0x10 2 (bit2 fun x y => x.sshiftRight (y.toNat % 32)) [2] s

/-! ### Transcendental functions (R98–R101) -/

/-- A function on each FP32 lane. -/
def vFun (n : Nat) (w : InstrWord) (op : Nat) (f : TFun) (s : State) : Res :=
  vxeOp n w op [fVd, fVa, fVt] [0] (fun _ => true) (fun c s =>
    c.lanesDone s 1 12 0 ((lanesOf 0 ((s.core n).V c.va)).map f.apply)) s

/-- VEXP2 (R99). -/
def execVexp2 (n : Fin 64) (w : InstrWord) (s : State) : Res := vFun n w 0x11 .exp2 s
/-- VLOG2 (R99). -/
def execVlog2 (n : Fin 64) (w : InstrWord) (s : State) : Res := vFun n w 0x12 .log2 s
/-- VRCP (R99). -/
def execVrcp (n : Fin 64) (w : InstrWord) (s : State) : Res := vFun n w 0x13 .rcp s
/-- VRSQRT (R99). -/
def execVrsqrt (n : Fin 64) (w : InstrWord) (s : State) : Res := vFun n w 0x14 .rsqrt s
/-- VTANH (R99). -/
def execVtanh (n : Fin 64) (w : InstrWord) (s : State) : Res := vFun n w 0x15 .tanh s
/-- VERF (R99). -/
def execVerf (n : Fin 64) (w : InstrWord) (s : State) : Res := vFun n w 0x16 .erf s

/-- VFEXP2 (R139): exp2(fma(va, S[sa], −S[sb])), the multiply-add rounded once. -/
def execVfexp2 (n : Fin 64) (w : InstrWord) (s : State) : Res :=
  vxeOp n w 0x17 [fVd, fVa, fVt, fSa, fSb] [0] (fun _ => true) (fun c s =>
    let k := s.core n
    let y := (k.scalar 0 c.sa).1
    let z := (k.scalar 0 c.sb).1.negate
    c.lanesDone s 1 14 0 ((lanesOf 0 (k.V c.va)).map fun a =>
      let x := Fmt.fp32.value a
      let m := laneResult 0 ((x.mul y).add z) [x, y, z]
      let r := TFun.exp2.apply m.1
      (r.1, m.2.or { r.2 with nanIn := false }))) s

/-! ### Conversions (R91–R94) -/

/-- The rounding of element e by a mode: stochastic rounding draws from A[seed], A[step] and A[pos][62:0] + e (R94,
R139). Mode 11 is reserved and refused before. -/
def Core.rnd (k : Core) (mode seed step pos e : Nat) : Rnd :=
  if mode = 0 then .rne else if mode = 1 then .rneSat
  else .stoch (genG (k.A seed) (k.A step) ((k.A pos % 2 ^ 63 + e) % 2 ^ 63) % 65536)

/-- VCVT (R139). -/
def execVcvt (n : Fin 64) (w : InstrWord) (s : State) : Res :=
  vxeOp n w 0x18 [fVd, fVa, fVt, (47, 17)] [0, 1, 2]
    (fun c => c.f 62 2 != 3 && c.f 60 2 != 3 && !(c.f 47 1 == 1 && ((c.vt == 1) == (c.f 62 2 == 1)))) (fun c s =>
    let k := s.core n
    let dt := c.f 62 2
    let hi := c.f 47 1
    let src := lanesOf c.vt (k.V c.va)
    let narrowing : Bool := dt == 1 && c.vt != 1
    let src := if c.vt = 1 ∧ dt ≠ 1 then (src.drop (256 * hi)).take 256 else src
    let base := if narrowing then 256 * hi else 0
    let es := (src.zipIdx).map fun q =>
      (laneFmt dt).convert (k.rnd (c.f 60 2) (c.f 56 4) (c.f 52 4) (c.f 48 4) (base + q.2)) ((laneFmt c.vt).value q.1)
    if narrowing then
      (c.done s 1 4 [.vhalf c.vd (hi == 1) (BitVec.ofNat 4096 (packElems 16 (es.map (·.1))))]).countExc c.n (es.map (·.2))
    else c.lanesDone s 1 4 dt es) s

/-! ### Loads and stores (R140, R141) -/

/-- An SRAM range that a vector access or its scales may reach: first and last byte (R140). -/
def State.vxeRange (s : State) (p ea n : Nat) : Except EngCause Nat :=
  match s.sramReach p ea, s.sramReach p (ea + n - 1) with
  | .error x, _ => .error x
  | _, .error x => .error x
  | .ok a, .ok _ => .ok a

/-- The address of a VXE memory operand of n bytes: R115 plus off granules, 64-byte aligned. -/
def State.vxeAddr (s : State) (c : Ctx) (n : Nat) : Except EngCause Nat :=
  match s.operand c (c.f 60 4) (c.f 24 12) (sext 24 (c.f 36 24) * 64) with
  | .error x => .error x
  | .ok ea =>
    match s.vxeRange c.p ea n with
    | .error x => .error x
    | .ok a => if a % 64 = 0 then .ok a else .error .align

/-- The address of block scales at A[sreg], aligned to `al` bytes. -/
def State.scaleAddr (s : State) (c : Ctx) (sreg n al : Nat) : Except EngCause Nat :=
  match s.operand c sreg 0 0 with
  | .error x => .error x
  | .ok ea =>
    match s.vxeRange c.p ea n with
    | .error x => .error x
    | .ok a => if a % al = 0 then .ok a else .error .align

/-- Read n bytes at any SRAM address. -/
def State.readBytes (s : State) (a n : Nat) : OpRead :=
  let lo := a % 64
  let r := s.readOp (a - lo) (lo + n)
  { r with val := r.val / 2 ^ (8 * lo) }

/-- The read bound of an access of n bytes from a tile: that of the farther of its first and last bytes (R188). -/
def spanBound (bound : Nat → Nat → Nat) (t a n : Nat) : Nat := max (bound t (sramTile a)) (bound t (sramTile (a + n - 1)))

/-- The block length of a scale mode, 0 for mode 00 (R80). -/
def scaleBlock (smode : Nat) : Nat := if smode = 1 then 16 else if smode = 2 then 32 else 0

/-- The memory formats whose every value is exact in the lane type (R140). -/
def vldFmts (vt : Nat) : List Nat :=
  if vt = 0 then [0, 1, 2, 3, 4, 5, 6, 7, 8, 9] else if vt = 1 then [1, 3, 4, 5, 6, 7, 8, 9] else [8, 9, 10]

/-- VLD (R140): elements to lanes, scaled by block where smode says so. -/
def execVld (n : Fin 64) (w : InstrWord) (s : State) : Res :=
  vxeOp n w 0x19 [fVd, fVt, (14, 50)] [0, 1, 2]
    (fun c => (vldFmts c.vt).contains (c.f 20 4) && c.f 18 2 != 3 &&
      (c.f 18 2 == 0 || (decide (3 ≤ c.f 20 4) && decide (c.f 20 4 ≤ 9)))) (fun c s =>
    match Fmt.ofCode (c.f 20 4) with
    | none => c.fault s .illegalInstr
    | some f =>
      let L := laneCount c.vt
      let bytes := L * f.width / 8
      let blk := scaleBlock (c.f 18 2)
      let nsc := if blk = 0 then 0 else L / blk
      let ra := s.vxeAddr c bytes
      let rs := if blk = 0 then .ok 0 else s.scaleAddr c (c.f 14 4) nsc 1
      match ra, rs with
      | .error x, _ => c.fault s x
      | _, .error x => c.fault s x
      | .ok a, .ok sc =>
        let x := s.readOp a bytes
        let y := if blk = 0 then { x with val := 0 } else x.s.readBytes sc nsc
        if ! (x.ok && y.ok) then c.dataCheck y.s (x.poisoned || y.poisoned)
        else
          let lf := laneFmt c.vt
          let es := (List.range L).map fun i =>
            let e := elemAt x.val f.width i
            if blk = 0 then (if f = lf then (e, {}) else lf.convert .rne (f.value e))
            else
              let k := bits y.val (8 * (i / blk)) 8
              let v := f.value e
              let r := lf.convert .rne (v.mul (scaleValue k))
              (r.1, { r.2 with nanIn := v.isNan || k == 0xFF })
          let t := tileOf n
          let far := max (spanBound readBound t a bytes) (if blk = 0 then 12 else spanBound readBound t sc nsc)
          c.lanesDone y.s 1 (14 + (far - 12)) c.vt es) s

/-- The granules of packed elements at an address, each with a new carried check (R140, R462). -/
def storeGrans (a v bytes : Nat) : List Effect :=
  (List.range (bytes / 64)).map fun i =>
    let g : Gran := BitVec.ofNat 512 (bits v (512 * i) 512)
    .writeGran (a + 64 * i) g (granCheck g)

/-- VST (R140): each lane converted to fmt; a lane whose type is fmt is stored as it is (DEDUCED, notes/assumptions/19.md). -/
def execVst (n : Fin 64) (w : InstrWord) (s : State) : Res :=
  vxeOp n w 0x1A [fVa, fVt, (6, 58)] [0, 1, 2] (fun c => decide (c.f 20 4 ≤ 10) && c.f 18 2 != 3) (fun c s =>
    match Fmt.ofCode (c.f 20 4) with
    | none => c.fault s .illegalInstr
    | some f =>
      let k := s.core n
      let bytes := laneCount c.vt * f.width / 8
      match s.vxeAddr c bytes with
      | .error x => c.fault s x
      | .ok a =>
        let lf := laneFmt c.vt
        let es : List (Nat × Exc) := ((lanesOf c.vt (k.V c.va)).zipIdx).map fun q =>
          if f = lf then (q.1, {})
          else f.convert (k.rnd (c.f 18 2) (c.f 14 4) (c.f 10 4) (c.f 6 4) q.2) (lf.value q.1)
        let v := packElems f.width (es.map (·.1))
        (c.done s 1 (spanBound writeBound (tileOf n) a bytes) (storeGrans a v bytes)).countExc n (es.map (·.2))) s

/-- One block quantised (R95): its scale code and its elements with their events, the first at element index e0. -/
def quantBlock (k : Core) (c : Ctx) (f : Fmt) (e0 : Nat) (xs : List Num) : Nat × List (Nat × Exc) :=
  let sc := blockScale f xs
  let es := (xs.zipIdx).map fun q =>
    if sc = 0xFF then ((0 : Nat), if q.1.isNan then ({ nanIn := true } : Exc) else {})
    else f.convert (k.rnd (c.f 16 2) (c.f 8 4) (c.f 4 4) (c.f 0 4) (e0 + q.2)) (q.1.mul (.fin false 1 (127 - (sc : Int))))
  (sc, es)

/-- A write of bytes as partial writes of the granules it touches (R213). -/
def splitWrite (a : Nat) (bs : List Byte) : List Effect :=
  let room := 64 - a % 64
  if bs.length ≤ room then [.writeBytes a bs] else [.writeBytes a (bs.take room), .writeBytes (a + room) (bs.drop room)]

/-- VQST (R95, R141): 256 FP32 lanes quantised by block; elements at the operand, scale bytes at A[sreg]. -/
def execVqst (n : Fin 64) (w : InstrWord) (s : State) : Res :=
  vxeOp n w 0x1B [fVa, fVt, (0, 64)] [0]
    (fun c => decide (3 ≤ c.f 20 4) && decide (c.f 20 4 ≤ 9) && (c.f 18 2 == 1 || c.f 18 2 == 2) && c.f 16 2 != 3)
    (fun c s =>
    match Fmt.ofCode (c.f 20 4) with
    | none => c.fault s .illegalInstr
    | some f =>
      let k := s.core n
      let bytes := 256 * f.width / 8
      let blk := scaleBlock (c.f 18 2)
      let nb := 256 / blk
      match s.vxeAddr c bytes, s.scaleAddr c (c.f 12 4) nb 8 with
      | .error x, _ => c.fault s x
      | _, .error x => c.fault s x
      | .ok a, .ok sc =>
        let xs := (lanesOf 0 (k.V c.va)).map Fmt.fp32.value
        let qs := (List.range nb).map fun b => quantBlock k c f (b * blk) ((xs.drop (b * blk)).take blk)
        let es := qs.flatMap (·.2)
        let far := max (spanBound writeBound (tileOf n) a bytes) (spanBound writeBound (tileOf n) sc nb)
        (c.done s 1 (16 + (far - 12))
          (storeGrans a (packElems f.width (es.map (·.1))) bytes ++
            splitWrite sc (qs.map fun q => BitVec.ofNat 8 q.1))).countExc n (es.map (·.2))) s

/-! ### Accumulator rows and their checksums (R135, R136) -/

/-- VACC (R139): a row as its bits; with ck, latch CK[l] takes the row's checksum, valid bit, bank and row. -/
def execVacc (n : Fin 64) (w : InstrWord) (s : State) : Res :=
  vxeOp n w 0x1C [fVd, (51, 13)] [0] (fun _ => true) (fun c s =>
    let k := s.core n
    let bank := c.f 63 1 == 1
    let row := c.f 55 8
    let rs := k.rowSum bank row
    let ck : List Effect :=
      if c.f 54 1 = 1 then [.latch (c.f 51 3) { sum := rs.sum, valid := rs.valid, bank := bank, row := row }] else []
    c.done s 1 4 ([.vreg c.vd (k.accRow bank row)] ++ ck)) s

/-- The comparison of R135: pass, or the ratio that R136 records. -/
def checkRow (lanes : List Nat) (chk tol : Nat) : Option Nat :=
  let all : Nat := 2 ^ 32 - 1
  let sm := (treeSum add32 9 lanes).1
  let S := (treeSum add32 9 (lanes.map (· % 2 ^ 31))).1
  let cv := Fmt.fp32.value chk
  let sv := Fmt.fp32.value sm
  match cv, sv with
  | .fin _ _ _, .fin _ _ _ =>
    let e : Int := match Fmt.fp32.value S with
      | .fin _ m x => if m = 0 then -126 else max (floorLog2 m x) (-126)
      | .inf _ => 128
      | .nan => 128
    match Fmt.fp32.value (laneResult 0 (cv.add sv.negate) [cv, sv]).1 with
    | .fin _ m x =>
      let d : Dy := { m := m, e := x }
      if d.le { m := tol, e := e - 23 } then none
      else
        let k := x - (e - 23)
        some (if 0 ≤ k then min (m * 2 ^ k.toNat) all else min (m / 2 ^ (-k).toNat) all)
    | .inf _ => some all
    | .nan => some all
  | .nan, .nan => none
  | .inf a, .inf b => if a = b then none else some all
  | .nan, .fin _ _ _ => some all
  | .nan, .inf _ => some all
  | .inf _, .nan => some all
  | .inf _, .fin _ _ _ => some all
  | .fin _ _ _, .nan => some all
  | .fin _ _ _, .inf _ => some all

/-- VCHK (R135, R136): a failed comparison is raised at latency 12 and never stops the engine. -/
def execVchk (n : Fin 64) (w : InstrWord) (s : State) : Res :=
  vxeOp n w 0x22 [fVa, fVt, (45, 19)] [0] (fun _ => true) (fun c s =>
    let k := s.core n
    let ck := k.latch (c.f 61 3)
    let es : List Effect :=
      if ck.valid then
        match checkRow (lanesOf 0 (k.V c.va)) ck.sum.toNat (c.f 45 16) with
        | none => []
        | some ratio => [.chkFail ck.bank ck.row ratio]
      else []
    c.done s 2 12 es) s

/-! ### Reductions (R89, R90, R532) -/

/-- The lanes of registers va … va + n − 1. -/
def Core.groupLanes (k : Core) (vt r n : Nat) : List (List Nat) := (List.range n).map fun i => lanesOf vt (k.V (r + i))

/-- A register group stays within V63 (R138). -/
def groupOk (r n1 : Nat) : Bool := decide (r + n1 ≤ 63)

/-- The sum of R90 over FP32 registers, and whether a step rounded to infinity. -/
def groupSum (regs : List (List Nat)) : Nat × Bool :=
  match regs.map (treeSum add32 10) with
  | [] => (0, false)
  | a :: t => t.foldl (fun acc x =>
      let r := add32 acc.1 x.1
      (r.1, acc.2 || x.2.ovf || r.2.ovf)) (a.1, a.2.ovf)

/-- VREDSUM (R90, R139). -/
def execVredsum (n : Fin 64) (w : InstrWord) (s : State) : Res :=
  vxeOp n w 0x1D [fVa, fVt, (53, 11)] [0, 1, 2] (fun c => groupOk c.va (c.f 53 6)) (fun c s =>
    let cnt := c.f 53 6 + 1
    let regs := (s.core n).groupLanes c.vt c.va cnt
    let res : Nat × Exc :=
      if c.vt = 2 then
        let t := (regs.flatMap id).foldl (fun a x => a + sext 32 x) 0
        let v := clampS 32 t
        (wrapNat 32 v, { ovf := v != t })
      else
        let regs := if c.vt = 1 then regs.map fun l => l.map (· * 65536) else regs
        let r := groupSum regs
        let nan := regs.any fun l => l.any fun x => (Fmt.fp32.value x).isNan
        (r.1, { nanIn := nan, inv := (Fmt.fp32.value r.1).isNan && !nan, ovf := r.2 })
    (c.done s cnt (cnt + 10) [.sreg (c.f 59 5) (BitVec.ofNat 32 res.1)]).countExc n [res.2]) s

/-- VREDMAX or VREDMIN: the extreme of every lane by R89, a BF16 result widened to FP32. -/
def vRedExt (n : Nat) (w : InstrWord) (op : Nat) (mx : Bool) (s : State) : Res :=
  vxeOp n w op [fVa, fVt, (53, 11)] [0, 1, 2] (fun c => groupOk c.va (c.f 53 6)) (fun c s =>
    let cnt := c.f 53 6 + 1
    let ls := ((s.core n).groupLanes c.vt c.va cnt).flatMap id
    let r := ls.foldl (fun a x => (minMax mx c.vt a x).1) (ls.headD 0)
    let nan := ls.any fun x => ((laneFmt c.vt).value x).isNan
    let v := if c.vt = 1 then r * 65536 else r
    (c.done s cnt (cnt + 6) [.sreg (c.f 59 5) (BitVec.ofNat 32 v)]).countExc n [{ nanIn := nan }]) s

/-- VREDMAX (R139). -/
def execVredmax (n : Fin 64) (w : InstrWord) (s : State) : Res := vRedExt n w 0x1E true s
/-- VREDMIN (R139). -/
def execVredmin (n : Fin 64) (w : InstrWord) (s : State) : Res := vRedExt n w 0x1F false s

/-! ### Top-k and sampling (R142, R143) -/

/-- The place of a candidate (value, index) in R142's ranking: lower is earlier. -/
def rankKey (x : Nat × Nat) : Nat :=
  let mag := x.1 % 2 ^ 31
  let up :=
    if 0x7F800000 < mag then 0
    else if x.1.testBit 31 then 2 ^ 31 - mag else 2 ^ 31 + 1 + mag
  (2 ^ 33 - up) * 2 ^ 32 + x.2

/-- VTOPK (R142). -/
def execVtopk (n : Fin 64) (w : InstrWord) (s : State) : Res :=
  vxeOp n w 0x20 [fVd, fVa, fVt, fSa, (50, 14)] [0]
    (fun c => decide (1 ≤ c.f 55 9) && decide (c.f 55 9 ≤ 256) && c.vd % 2 == 0 && groupOk c.va (c.f 51 4) &&
      !(decide (c.va ≤ c.vd + 1) && decide (c.vd ≤ c.va + c.f 51 4))) (fun c s =>
    let k := s.core n
    let cnt := c.f 51 4 + 1
    let kk := c.f 55 9
    let ls := (k.groupLanes 0 c.va cnt).flatMap id
    let cand := (ls.zipIdx).map fun q => (q.1, (k.S c.sa + q.2) % 2 ^ 32)
    let old := if c.f 50 1 = 1 then ((lanesOf 0 (k.V c.vd)).zip (lanesOf 2 (k.V (c.vd + 1)))).take kk else []
    let all := cand ++ old
    let top := (all.mergeSort fun a b => decide (rankKey a ≤ rankKey b)).take kk
    let fill := 256 - top.length
    let nan := all.any fun q => (Fmt.fp32.value q.1).isNan
    (c.done s (2 * cnt) (2 * cnt + 16)
      [.vreg c.vd (ofLanes 0 (top.map (·.1) ++ List.replicate fill fp32NegInf)),
       .vreg (c.vd + 1) (ofLanes 2 (top.map (·.2) ++ List.replicate fill 0xFFFFFFFF))]).countExc n [{ nanIn := nan }]) s

/-- The running sums P of R143 up to the first invalid weight: sums in order with weight and index, the last sum,
whether a weight was invalid, and the events met. -/
def sampleSums : List (Nat × Nat) → Nat → List (Nat × Nat × Nat) → List (Nat × Nat × Nat) × Nat × Bool × Exc
  | [], T, acc => (acc.reverse, T, false, {})
  | (x, i) :: t, T, acc =>
    match Fmt.fp32.value x with
    | .nan => (acc.reverse, T, true, { nanIn := true })
    | .inf _ => (acc.reverse, T, true, {})
    | .fin neg m _ =>
      if neg ∧ m ≠ 0 then (acc.reverse, T, true, {})
      else
        let r := add32 T x
        let q := sampleSums t r.1 ((r.1, x, i) :: acc)
        (q.1, q.2.1, q.2.2.1, q.2.2.2.or { ovf := r.2.ovf })

/-- VSAMPLE (R143). -/
def execVsample (n : Fin 64) (w : InstrWord) (s : State) : Res :=
  vxeOp n w 0x21 [fVa, fVb, fVt, (43, 21)] [0] (fun c => groupOk c.va (c.f 60 4) && groupOk c.vb (c.f 60 4)) (fun c s =>
    let k := s.core n
    let cnt := c.f 60 4 + 1
    let ws := (k.groupLanes 0 c.va cnt).flatMap id
    let is := (k.groupLanes 2 c.vb cnt).flatMap id
    let q := sampleSums (ws.zip is) 0 []
    let T := Fmt.fp32.value q.2.1
    let res : Nat × Exc :=
      if q.2.2.1 || T.isZero then (0xFFFFFFFF, { q.2.2.2 with inv := true })
      else
        let u := genG (k.A (c.f 56 4)) (k.A (c.f 52 4)) (k.A (c.f 48 4) % 2 ^ 63 + 2 ^ 63) / 2 ^ 40
        let t := Fmt.fp32.value (laneResult 0 ((Num.fin false u (-24)).mul T) [T]).1
        match q.1.find? fun e => num32Lt t (Fmt.fp32.value e.1) with
        | some e => (e.2.2, q.2.2.2)
        | none => (((q.1.filter fun e => !(Fmt.fp32.value e.2.1).isZero).getLast?.map (·.2.2)).getD 0xFFFFFFFF, q.2.2.2)
    (c.done s (4 * cnt) (4 * cnt + 24) [.sreg (c.f 43 5) (BitVec.ofNat 32 res.1)]).countExc n [res.2]) s

/-! ### Lane moves -/

/-- VBCAST (R138, R139): every lane of vd is S[sa]. -/
def execVbcast (n : Fin 64) (w : InstrWord) (s : State) : Res :=
  vxeOp n w 0x23 [fVd, fVt, fSa] [0, 1, 2] (fun _ => true) (fun c s =>
    let raw := (s.core n).S c.sa
    let r : Nat × Exc := if c.vt = 1 then Fmt.bf16.convert .rne (Fmt.fp32.value raw) else (raw, {})
    c.lanesDone s 1 2 c.vt (List.replicate (laneCount c.vt) r)) s

/-- VLANE (R139): vd lane i = va lane (i + S[sa]) mod L. -/
def execVlane (n : Fin 64) (w : InstrWord) (s : State) : Res :=
  vxeOp n w 0x24 [fVd, fVa, fVt, fSa] [0, 1, 2] (fun _ => true) (fun c s =>
    let k := s.core n
    let L := laneCount c.vt
    let v := k.V c.va
    let es := (List.range L).map fun i => (elemAt v.toNat (laneFmt c.vt).width ((i + k.S c.sa) % L), ({} : Exc))
    c.lanesDone s 1 3 c.vt es) s

/-- VMOVS (R139): S[sd] = va lane S[sa] mod L; a BF16 lane goes to the upper half. -/
def execVmovs (n : Fin 64) (w : InstrWord) (s : State) : Res :=
  vxeOp n w 0x25 [fVa, fVt, fSa, (59, 5)] [0, 1, 2] (fun _ => true) (fun c s =>
    let k := s.core n
    let x := elemAt (k.V c.va).toNat (laneFmt c.vt).width (k.S c.sa % laneCount c.vt)
    c.done s 1 3 [.sreg (c.f 59 5) (BitVec.ofNat 32 (if c.vt = 1 then x * 65536 else x))]) s

/-- VIDX (R139): vd lane i = S[sa] + i. -/
def execVidx (n : Fin 64) (w : InstrWord) (s : State) : Res :=
  vxeOp n w 0x26 [fVd, fVt, fSa] [2] (fun _ => true) (fun c s =>
    let b := (s.core n).S c.sa
    c.lanesDone s 1 2 2 ((List.range 256).map fun i => ((b + i) % 2 ^ 32, {}))) s

end Sys2Proof.Machine
end

