-- ==== Sys2Proof/Machine/Coll.lean ====
section
/-! DEFINITION. Collective engines (10): groups, triggers, the reduction and broadcast of segments, comet messages,
completion and abort. -/

namespace Sys2Proof.Machine

/-! ### Groups and positions -/

/-- The engine that handles a group on this member (R370). -/
def State.collEngine (s : State) (p gid : Nat) : Nat := if s.twoPart then 2 * p + gid % 2 else gid % 4

/-- The valid group entry of a number in the loaded image. -/
def State.groupEnt? (s : State) (p gid : Nat) : Option GroupEnt :=
  match (s.part p).image with
  | none => none
  | some img => (groupEnts img.groups).find? fun g => g.gid == gid && g.valid

/-- The masked axes, in the order X, Y, Z (R377). -/
def GroupEnt.axes (g : GroupEnt) : List Nat := (List.range 3).filter g.masked

/-- The member of a group that differs from this one only by its position on an axis. -/
def GroupEnt.at (g : GroupEnt) (pl : Placement) (m : Member) (axis pos : Nat) : Option Nat :=
  let c := (g.origin.getD axis 0 + pos) % max (pl.dim axis) 1
  (pl.members.find? fun x => (List.range 3).all fun a => x.coord a == (if a = axis then c else m.coord a)).map (·.pix)

/-- A hop on an axis: arm (0 lower, 1 upper) and position of the other member. -/
structure Hop where
  arm : Nat
  pos : Nat
deriving DecidableEq, Repr

/-- The arms of a line of n with root r (R378): members above and below the root. -/
def armLens (arms ring : Bool) (n r : Nat) : Nat × Nat :=
  if ! arms then (0, n - 1)
  else if ring then ((n - 1) / 2, n - 1 - (n - 1) / 2)
  else (n - 1 - r, r)

/-- Where a position lies: none at the root, otherwise its arm and distance (R378). In RANK order the chain is the lower
arm. -/
def armOf (arms ring : Bool) (n r pos : Nat) : Option (Nat × Nat) :=
  let l := armLens arms ring n r
  if pos = r then none
  else match ((List.range l.1).map (· + 1)).find? fun j => (r + j) % n == pos with
    | some j => some (1, j)
    | none => some (0, (r + n - pos) % n)

/-- The position of an arm's j-th member. -/
def armPos (n r arm j : Nat) : Nat := if arm = 1 then (r + j) % n else (r + n - j) % n

/-- The hops that bring partials to a position on an axis (R378). -/
def hopsIn (arms ring : Bool) (n r pos : Nat) : List Hop :=
  let l := armLens arms ring n r
  match armOf arms ring n r pos with
  | none => (if 1 ≤ l.2 then [⟨0, armPos n r 0 1⟩] else []) ++ (if 1 ≤ l.1 then [⟨1, armPos n r 1 1⟩] else [])
  | some (a, j) => if j < (if a = 1 then l.1 else l.2) then [⟨a, armPos n r a (j + 1)⟩] else []

/-- The hop that takes a position's partial toward the root; none at the root. -/
def hopOut (arms ring : Bool) (n r pos : Nat) : Option Hop :=
  (armOf arms ring n r pos).map fun a => ⟨a.1, armPos n r a.1 (a.2 - 1)⟩

/-- The phase byte of a hop (R388): phase, axis, arm. -/
def phaseByte (bcast : Bool) (axis arm : Nat) : Nat := b2n bcast + axis * 2 + arm * 8

/-- What an engine knows of an operation's group here: entry, placement and own record. -/
structure CollCtx where
  p : Nat
  e : Nat
  g : GroupEnt
  pl : Placement
  m : Member

def CollCtx.pos (c : CollCtx) (a : Nat) : Nat := (c.g.pos c.pl c.m a).getD 0
def CollCtx.root (c : CollCtx) (a : Nat) : Nat := c.g.root.getD a 0
def CollCtx.len (c : CollCtx) (a : Nat) : Nat := c.g.extent.getD a 1

/-- Whether this member takes part in the phase of an axis: it holds the root's coordinates on every earlier masked axis
(R377). -/
def CollCtx.takes (c : CollCtx) (a : Nat) : Bool := (c.g.axes.filter (· < a)).all fun b => c.pos b == c.root b

def CollCtx.ins (c : CollCtx) (a : Nat) : List Hop :=
  if c.takes a then hopsIn c.g.arms (c.g.ring c.pl a) (c.len a) (c.root a) (c.pos a) else []

def CollCtx.out (c : CollCtx) (a : Nat) : Option Hop :=
  if c.takes a then hopOut c.g.arms (c.g.ring c.pl a) (c.len a) (c.root a) (c.pos a) else none

/-- The member at a hop's other end. -/
def CollCtx.pix (c : CollCtx) (a pos : Nat) : Nat := (c.g.at c.pl c.m a pos).getD 0x3FFF

/-- Whether this member is the root of its set. -/
def CollCtx.isRoot (c : CollCtx) : Bool := c.g.axes.all fun a => c.pos a == c.root a

/-- The axis on which this member sends toward the root, with the hop. -/
def CollCtx.up (c : CollCtx) : Option (Nat × Hop) :=
  (c.g.axes.find? fun a => c.pos a != c.root a).bind fun a => (c.out a).map fun h => (a, h)

/-- The broadcast children: axis and hop (R380). -/
def CollCtx.children (c : CollCtx) : List (Nat × Hop) := c.g.axes.flatMap fun a => (c.ins a).map fun h => (a, h)

/-- Every neighbour an operation exchanges data with. -/
def CollCtx.neighbours (c : CollCtx) : List Nat :=
  (c.children.map fun x => c.pix x.1 x.2.pos) ++ (match c.up with
    | some x => [c.pix x.1 x.2.pos]
    | none => [])

/-- The context of a group on this member, when it belongs to it (R374). -/
def State.collCtx (s : State) (p gid : Nat) : Option CollCtx :=
  match s.groupEnt? p gid, (s.part p).placement with
  | some g, some pl => match pl.self with
    | some m => if g.has pl m then some { p := p, e := s.collEngine p gid, g := g, pl := pl, m := m } else none
    | none => none
  | _, _ => none

/-! ### Descriptors (R382) -/

def cdF (d : BitVec 512) (lo w : Nat) : Nat := bits d.toNat lo w
def cdGid (d : BitVec 512) : Nat := cdF d 0 8
def cdOp (d : BitVec 512) : Nat := cdF d 8 2
def cdRop (d : BitVec 512) : Nat := cdF d 10 2
def cdItype (d : BitVec 512) : Nat := cdF d 12 4
def cdOtype (d : BitVec 512) : Nat := cdF d 16 4
def cdCount (d : BitVec 512) : Nat := cdF d 32 32
def cdSrc (d : BitVec 512) : Nat := cdF d 64 64
def cdDst (d : BitVec 512) : Nat := cdF d 128 64
def cdTrig (d : BitVec 512) : Nat := cdF d 192 64
def cdDone (d : BitVec 512) : Nat := cdF d 320 64
def cdTag (d : BitVec 512) : Nat := cdF d 416 32

/-- Bytes of an element type. -/
def typeBytes (t : Nat) : Nat := if t = 1 then 2 else 4

/-- Whether [addr, addr + n) lies in the partition's SRAM. -/
def State.sramSpan (s : State) (p addr n : Nat) : Bool :=
  decide (n ≤ 16 * tileBytes) && (match s.home p addr, s.home p (addr + n - 1) with
    | .sram _, .sram _ => true
    | _, _ => false)

/-- Whether an aligned 8-byte word lies in the partition's SRAM. -/
def State.wordOk (s : State) (p addr : Nat) : Bool := addr % 8 == 0 && s.sramSpan p addr 8

/-- Whether a descriptor's encoding is sound (R379, R382). -/
def cdLegal (d : BitVec 512) : Bool :=
  let t := cdItype d
  cdOp d != 3 && cdRop d != 3 && (t == 0 || t == 1 || t == 0xA) &&
    (if t = 0xA then cdOtype d == 0xA else cdOtype d == 0 || cdOtype d == 1) &&
    cdF d 20 12 == 0 && cdF d 288 32 == 0 && cdF d 415 1 == 0 && cdF d 448 64 == 0

/-- Whether a descriptor's count fits its group (R382). -/
def GroupEnt.countOk (g : GroupEnt) (d : BitVec 512) : Bool :=
  cdCount d != 0 && (if g.comet then 4 * cdCount d == g.cmsg else cdCount d * typeBytes (cdItype d) % 64 == 0)

/-- Whether a descriptor's addresses are aligned and in the partition's SRAM (R382, R396). -/
def State.collAddrs (s : State) (p : Nat) (g : GroupEnt) (d : BitVec 512) : Bool :=
  let al := if g.comet then 8 else 64
  cdSrc d % al == 0 && cdDst d % al == 0 && s.sramSpan p (cdSrc d) (cdCount d * typeBytes (cdItype d)) &&
    s.sramSpan p (cdDst d) (cdCount d * typeBytes (cdOtype d)) && (cdDone d == 0 || s.wordOk p (cdDone d))

/-- Elements in a segment (R372, DEDUCED, notes/assumptions/37.md): seg granules of the source; a comet operation is one message. -/
def GroupEnt.segElems (g : GroupEnt) (d : BitVec 512) : Nat :=
  if g.comet then max (cdCount d) 1 else max (g.seg * 64 / typeBytes (cdItype d)) 1

def GroupEnt.segments (g : GroupEnt) (d : BitVec 512) : Nat := cdiv (cdCount d) (g.segElems d)

/-- Elements of one segment. -/
def GroupEnt.segLen (g : GroupEnt) (d : BitVec 512) (i : Nat) : Nat := min (g.segElems d) (cdCount d - i * g.segElems d)

/-! ### Arithmetic (R379) -/

/-- The addition of two partial elements. -/
def collAdd (d : BitVec 512) (a b : BitVec 32) : BitVec 32 :=
  let int := cdItype d == 0xA
  if cdRop d = 0 then
    if int then BitVec.ofNat 32 (wrapNat 32 (clampS 32 (sext 32 a.toNat + sext 32 b.toNat)))
    else BitVec.ofNat 32 (addFlush32 a.toNat b.toNat).1
  else BitVec.ofNat 32 (minMax (cdRop d == 2) (if int then 2 else 0) a.toNat b.toNat).1

/-- add(none, x) is x (R378). -/
def collJoin (d : BitVec 512) (a : Option (List (BitVec 32))) (v : List (BitVec 32)) : List (BitVec 32) :=
  match a with
  | none => v
  | some x => x.zipWith (collAdd d) v

/-- A result element in the output type, as the bits written (R379). -/
def collOut (d : BitVec 512) (x : BitVec 32) : Nat :=
  if cdOtype d = 1 then (Fmt.bf16.convert .rne (Fmt.fp32.value x.toNat)).1 else x.toNat

/-- A written element as a partial. -/
def collIn (t : Nat) (x : Nat) : BitVec 32 := BitVec.ofNat 32 (if t = 1 then x * 65536 else x)

/-- Elements of w bytes in a byte list. -/
def elemsOf (w : Nat) (bs : List Byte) : List Nat := (chunks w (bs.length / w) bs).map ofLE

/-- Fresh granules of a byte list, each with a new check (R462). -/
def freshGrans (bs : List Byte) : List (Gran × BitVec 16) := (granules bs).map fun g => (g, granCheck g)

def checkedBytes (gs : List (Gran × BitVec 16)) : List Byte := gs.flatMap fun g => toLE 64 g.1.toNat

/-! ### Memory -/

/-- Read bytes of SRAM, verified (R463): the bytes, and whether every granule passed. -/
def State.sramBytes (s : State) (addr n : Nat) : State × List Byte × Bool :=
  let a := addr / 64 * 64
  let k := cdiv (addr + n - a) 64
  let r := (List.range k).foldl (fun (x : State × List Byte × Bool) i =>
    let d := x.1.sramRead (a + 64 * i)
    (d.1, x.2.1 ++ toLE 64 d.2.data.toNat, x.2.2 && d.2.ok)) (s, [], true)
  (r.1, (r.2.1.drop (addr - a)).take n, r.2.2)

/-- Write bytes into SRAM: whole granules with a new check, parts as read-modify-writes (R213). -/
def State.putBytes (s : State) (p addr : Nat) : Nat → List Byte → State
  | 0, _ => s
  | n + 1, bs =>
    if bs.isEmpty then s
    else
      let room := 64 - addr % 64
      let now := bs.take room
      let s := if room = 64 ∧ now.length = 64 then
          let g : Gran := BitVec.ofNat 512 (ofLE now)
          (s.writeGran p addr g (granCheck g)).getD s
        else match s.writePart p addr now with
          | some r => r.1
          | none => s
      State.putBytes s p (addr + now.length) n (bs.drop room)

/-! ### Sending -/

/-- The 64-byte COLL header (R388). -/
def collHeader (kind src : Nat) (m : CollMsg) (credits cause : Nat) : Gran :=
  BitVec.ofNat 512 (0x0C + kind * 2 ^ 8 + m.data.length * 2 ^ 16 + src * 2 ^ 32 + m.gid * 2 ^ 56 + m.seq % 2 ^ 32 * 2 ^ 64
    + m.tag * 2 ^ 96 + m.segment * 2 ^ 128 + m.phase * 2 ^ 160 + m.wtype * 2 ^ 168 + credits * 2 ^ 176 + cause * 2 ^ 192)

/-- The message a COLL header and its data make. -/
def collMsgOf (pix : Nat) (h : Gran) (data : List (Gran × BitVec 16)) : CollMsg :=
  let w := h.toNat
  { pix := pix, gid := bits w 56 8, seq := bits w 64 32, tag := bits w 96 32, segment := bits w 128 32, phase := bits w 160 8,
    wtype := bits w 168 8, data := data }

/-- Queue a COLL packet toward a neighbour over any UP port of its direction group (R388). -/
def State.collPacket (s : State) (p e : Nat) (kind : Nat) (m : CollMsg) (credits cause : Nat) : State :=
  let h := collHeader kind (s.eid p (100 + e)) m credits cause
  match s.routePort p m.pix (s.ownPix p) 0 with
  | none => s
  | some (lp, dl) =>
    let fs := packetFrames 1 (b2n dl) (m.pix * 1024 + 100 + e) h m.data
    s.updPort (s.physOf p lp) fun q => { q with freeq := q.freeq ++ fs.map fun f => { bits := f, src := none } }

/-- The port toward a neighbour that carries comet messages (R393). -/
def State.cometToward (s : State) (p pix : Nat) : Option Nat :=
  ((s.portsOf p).filter fun q => (match s.entryOf q with
    | some x => x.dir != 0 && x.dir != 7 && x.nbrPix == pix
    | none => false) && s.portUp q && s.cometOk q && s.rdB F.OE_FIB_COMET_tap_en 0 (q / 8) (q % 8)).head?

def collOpDefault : Nat → Nat := fun _ => 0

/-- Change an operation of an engine. -/
def State.updOp (s : State) (e gid seq : Nat) (f : CollOp → CollOp) : State :=
  s.updColl e fun c => { c with ops := updFirst (fun o => o.gid == gid && o.seq == seq) f c.ops }

def State.opOf (s : State) (e gid seq : Nat) : Option CollOp := (s.coll e).ops.find? fun o => o.gid == gid && o.seq == seq

/-- The frames of a scheduled segment: pairs of granules at the places the layout gives (R390). The port 255 stands for
any port toward the neighbour. -/
def collFrames (e : Nat) (m : CollMsg) : List VcFrame :=
  (pairs m.data).zipIdx.map fun x =>
    { unit := 100 + e, port := 255, dstPix := m.pix, dstUnit := 100 + e,
      gidx := Config.collIndex m.gid m.phase m.segment (2 * x.2), data := x.1, owner := none }

/-- A broadcast message of a comet group as a COLL packet carries it, in the output type (R388, R394): BF16 values, which the
comet lane carries as FP32, take their upper halves. -/
def CollMsg.packed (m : CollMsg) : CollMsg :=
  if m.phase % 2 = 1 ∧ m.wtype = 1 then
    { m with data := freshGrans ((elemsOf 4 (checkedBytes m.data)).flatMap fun x => toLE 2 (x / 65536)) }
  else m

/-- Send a message of an operation: in frames, as a COLL packet while credits last, or on the comet lane, with the
fallback of R394. -/
def State.collSend (s : State) (c : CollCtx) (m : CollMsg) : State :=
  if c.g.comet then
    match s.cometToward c.p m.pix with
    | some _ => s.updColl c.e fun x => { x with comets := x.comets ++ [m] }
    | none =>
      if c.g.sched then s
      else (s.collPacket c.p c.e 0 m.packed 0 0).flag F.COL_EVT_comet_fallback F.COL_EVT_CNT_fallback_cnt 0 c.e
  else if c.g.sched then s.updPart c.p fun q => { q with sendq := q.sendq ++ collFrames c.e m }
  else match s.opOf c.e m.gid m.seq with
    | none => s
    | some o =>
      if tabGet collOpDefault o.spent m.phase < c.g.credits then
        (s.collPacket c.p c.e 0 m 0 0).updOp c.e m.gid m.seq fun o => { o with
          spent := tabUpd collOpDefault o.spent m.phase (· + 1) }
      else s.updOp c.e m.gid m.seq fun o => { o with outq := o.outq ++ [m] }

/-- Give back a credit for a consumed segment of a data-lane free group (R389). -/
def State.collCredit (s : State) (c : CollCtx) (m : CollMsg) : State :=
  if c.g.comet || c.g.sched then s else s.collPacket c.p c.e 1 { m with data := [], tag := 0, wtype := 0, segment := 0 } 1 0

/-! ### Abort (R396, R397) -/

def groupDefault10 : Nat → CollGroup := fun _ => {}

def State.collGroup (s : State) (e gid : Nat) : CollGroup := tabGet groupDefault10 (s.coll e).groups gid

def State.updGroup (s : State) (e gid : Nat) (f : CollGroup → CollGroup) : State :=
  s.updColl e fun c => { c with groups := tabUpd groupDefault10 c.groups gid f }

/-- Whether this member writes the destination (R385). -/
def CollCtx.writes (c : CollCtx) (d : BitVec 512) : Bool := cdOp d != 1 || c.isRoot

/-- Make an aborted destination undefined (R237, R397): each granule holds a free value. -/
def State.collUndefine (s : State) (c : CollCtx) (d : BitVec 512) : State :=
  if ! (c.writes d && s.collAddrs c.p c.g d) then s
  else
    let f := s.takeFree
    let n := cdCount d * typeBytes (cdOtype d)
    f.2.putBytes c.p (cdDst d) (n / 64 + 2) (toLE n (Config.freeNat f.1))

/-- Record an abort: group BROKEN, COL_ABORT, abort flag and a LINK record (R397). -/
def State.collBroken (s : State) (p e gid seq cause port : Nat) : State :=
  let s := s.updGroup e gid fun g => { g with state := 2, cause := cause, aborted := seq }
  let s := s.flag F.COL_EVT_abort F.COL_EVT_CNT_abort_cnt 0 e
  let s := s.setReg .COL_ABORT (BitVec.ofNat 64 (gid + cause * 2 ^ 8 + port * 2 ^ 12 + seq % 2 ^ 32 * 2 ^ 32)) 0 e
  s.record p 4 8 e (eid := s.eid p (100 + e)) (info0 := (s.reg .COL_ABORT 0 e).toNat)

/-- Tell every neighbour (R397). -/
def State.collTell (s : State) (c : CollCtx) (gid seq tag cause : Nat) : State :=
  c.neighbours.foldl (fun a x =>
    a.collPacket c.p c.e 2 { pix := x, gid := gid, seq := seq, tag := tag, segment := 0, phase := 0, wtype := 0, data := [] }
      0 cause) s

/-- Add to a completion word (R384); 0 names none. -/
def State.addDone (s : State) (p addr n : Nat) : State :=
  if addr = 0 ∨ ! s.wordOk p addr then s
  else match s.atomic p addr 0 true n 0 with
    | some r => r.1
    | none => s

/-- Discard what is held for an operation that will not run; its credits go back (R397). -/
def State.dropEarly (s : State) (c : CollCtx) (gid seq : Nat) : State :=
  let mine (m : CollMsg) : Bool := m.gid == gid && m.seq == seq
  let held := (s.coll c.e).early.filter mine
  let s := s.updColl c.e fun x => { x with early := x.early.filter fun m => !mine m }
  held.foldl (fun a m => a.collCredit c m) s

/-- Abort an operation (R397). -/
def State.collAbort (s : State) (c : CollCtx) (d : BitVec 512) (seq cause port : Nat) : State :=
  let gid := cdGid d
  let at0 := match s.opOf c.e gid seq with
    | some o => o.issued
    | none => (s.part c.p).gtc
  let lost : InFlight := {
    kind := 5, unit := 100 + c.e, pix := c.pl.own, granules := cdiv (cdCount d * typeBytes (cdOtype d)) 64, addr := cdDst d,
    issued := at0, seq := seq }
  let s := if c.writes d then s.updColl c.e fun x => { x with undone := x.undone ++ [lost] } else s
  let s := s.updColl c.e fun x => { x with
    ops := x.ops.filter fun o => !(o.gid == gid && o.seq == seq), comets := x.comets.filter fun m => !(m.gid == gid && m.seq == seq) }
  let s := s.dropEarly c gid seq
  let s := s.collTell c gid seq (cdTag d) cause
  let s := (s.addDone c.p (cdDone d) (2 ^ 32)).collUndefine c d
  s.collBroken c.p c.e gid seq cause port

/-! ### Segments -/

def segDefault : Nat → CollSeg := fun _ => {}
def armDefault : Nat → Option (List (BitVec 32)) := fun _ => none

def CollOp.seg (o : CollOp) (i : Nat) : CollSeg := tabGet segDefault o.segs i
def CollOp.setSeg (o : CollOp) (i : Nat) (g : CollSeg) : CollOp := { o with segs := tabSet segDefault o.segs i g }

/-- The bytes of a partial on the wire. -/
def partBytes (v : List (BitVec 32)) : List Byte := v.flatMap fun x => toLE 4 x.toNat

/-- The wire type of partials (R388). -/
def reduceType (d : BitVec 512) : Nat := if cdItype d = 0xA then 0xA else 0

/-- Write a segment of the result to dst (R385). -/
def State.collWrite (s : State) (c : CollCtx) (o : CollOp) (i : Nat) (gs : List (Gran × BitVec 16)) (bs : List Byte) : State :=
  if ! c.writes o.desc then s
  else
    let a := cdDst o.desc + i * c.g.segElems o.desc * typeBytes (cdOtype o.desc)
    if ¬ c.g.comet ∧ a % 64 = 0 ∧ bs.length % 64 = 0 then
      gs.zipIdx.foldl (fun x g => (x.writeGran c.p (a + 64 * g.2) g.1.1 g.1.2).getD x) s
    else s.putBytes c.p a (bs.length / 64 + 2) bs

/-- The result of a segment is here: it is written, and passed on to the broadcast children (R380, R384). -/
def State.collResult (s : State) (c : CollCtx) (o : CollOp) (i : Nat) (gs : List (Gran × BitVec 16)) (bs : List Byte) : State :=
  let s := s.collWrite c o i gs bs
  let s := s.updOp c.e o.gid o.seq fun o => o.setSeg i { o.seg i with written := true, sent := true }
  if cdOp o.desc = 1 then s
  else c.children.foldl (fun a x =>
    a.collSend c { pix := c.pix x.1 x.2.pos, gid := o.gid, seq := o.seq, tag := cdTag o.desc, segment := i,
                   phase := phaseByte true x.1 x.2.arm, wtype := cdOtype o.desc, data := gs }) s

/-- The root's result of a segment, converted once to the output type (R379). The comet lane carries it as FP32 or INT32
(R391). -/
def State.collRoot (s : State) (c : CollCtx) (o : CollOp) (i : Nat) (v : List (BitVec 32)) : State :=
  let t := cdOtype o.desc
  let bs := v.flatMap fun x => toLE (typeBytes t) (collOut o.desc x)
  let wire := if c.g.comet then partBytes (v.map fun x => collIn t (collOut o.desc x)) else bs
  s.collResult c o i (freshGrans wire) bs

/-- Carry a segment's reduction as far as what has arrived allows, axis by axis (R377, R378). -/
def State.collReduce (c : CollCtx) (gid seq i : Nat) : Nat → State → State
  | 0, s => s
  | n + 1, s =>
    match s.opOf c.e gid seq with
    | none => s
    | some o =>
      let g := o.seg i
      match g.value with
      | none => s
      | some v =>
        if g.sent then s
        else match c.g.axes[g.axis]? with
          | none => s.collRoot c o i v
          | some a =>
            let ins := c.ins a
            let got (arm : Nat) : Option (List (BitVec 32)) := tabGet armDefault g.arms (2 * a + arm)
            if ! ins.all fun h => (got h.arm).isSome then s
            else
              let v' := match armOf c.g.arms (c.g.ring c.pl a) (c.len a) (c.root a) (c.pos a) with
                | some (arm, _) => collJoin o.desc (got arm) v
                | none => match got 1 with
                  | some u => (collJoin o.desc (got 0) v).zipWith (collAdd o.desc) u
                  | none => collJoin o.desc (got 0) v
              let s := ins.foldl (fun x h => x.collCredit c
                ⟨c.pix a h.pos, gid, seq, 0, i, phaseByte false a h.arm, 0, []⟩) s
              match c.out a with
              | none =>
                State.collReduce c gid seq i n (s.updOp c.e gid seq fun o => o.setSeg i { o.seg i with
                  value := some v', axis := g.axis + 1 })
              | some h =>
                let s := s.updOp c.e gid seq fun o => o.setSeg i { o.seg i with sent := true, value := some v' }
                s.collSend c { pix := c.pix a h.pos, gid := gid, seq := seq, tag := cdTag o.desc, segment := i,
                               phase := phaseByte false a h.arm, wtype := reduceType o.desc, data := freshGrans (partBytes v') }

/-- The elements of a reduce message. -/
def CollMsg.elems (m : CollMsg) (n : Nat) : List (BitVec 32) :=
  ((elemsOf 4 (checkedBytes m.data)).take n).map (BitVec.ofNat 32)

/-- A message reaches a fired operation (R388, R389): its partial waits for its axis, or its result is written and passed
on. -/
def State.collDeliver (s : State) (c : CollCtx) (o : CollOp) (m : CollMsg) : State :=
  let s := s.updOp c.e o.gid o.seq fun o => { o with last := (s.part c.p).gtc }
  let i := m.segment
  if m.phase % 2 = 0 then
    let key := bits m.phase 1 2 * 2 + bits m.phase 3 1
    let s := s.updOp c.e o.gid o.seq fun o =>
      o.setSeg i { o.seg i with arms := tabSet armDefault (o.seg i).arms key (some (m.elems (c.g.segLen o.desc i))) }
    State.collReduce c o.gid o.seq i 4 s
  else if c.g.comet then
    -- a slot brings FP32 or INT32 elements, a fallback packet those of the output type
    let v := if m.wtype = 1 then (elemsOf 2 (checkedBytes m.data)).map (collIn 1) else (elemsOf 4 (checkedBytes m.data)).map (collIn 0)
    s.collRoot c o i (v.take (c.g.segLen o.desc i))
  else
    let n := c.g.segLen o.desc i * typeBytes (cdOtype o.desc)
    let s := s.collResult c o i m.data ((checkedBytes m.data).take n)
    s.collCredit c m

/-- A message arrives at its engine: held, discarded, a mismatch, a failed check, or delivered (R386, R387, R396, R397). -/
def State.collArrive (s : State) (c : CollCtx) (m : CollMsg) (checkTag : Bool) : State :=
  let g := s.collGroup c.e m.gid
  match s.opOf c.e m.gid m.seq with
  | some o =>
    if checkTag && m.tag != cdTag o.desc then
      (s.flag F.COL_EVT_mismatch F.COL_EVT_CNT_mismatch_cnt 0 c.e).collAbort c o.desc o.seq 3 0x3F
    else if m.data.any fun x => x.2 != granCheck x.1 then
      (s.checkRecord c.p 4 (100 + c.e) 0xFF (s.eid c.p (100 + c.e)) 0).collAbort c o.desc o.seq 4 0x3F
    else s.collDeliver c o m
  | none =>
    if g.state = 1 ∧ g.fired < m.seq then s.updColl c.e fun x => { x with early := x.early ++ [m] }
    else
      let s := s.collCredit c m
      if g.aborted ≠ 0 ∧ m.seq ≤ g.aborted ∨ g.state = 2 then
        s.flag F.COL_EVT_late_discard F.COL_EVT_CNT_discard_cnt 0 c.e
      else s

/-! ### Firing (R383–R386) -/

/-- The source elements of an operation, verified. -/
def State.collSource (s : State) (d : BitVec 512) : State × List (BitVec 32) × Bool :=
  let w := typeBytes (cdItype d)
  let r := s.sramBytes (cdSrc d) (cdCount d * w)
  (r.1, (elemsOf w r.2.1).map (collIn (cdItype d)), r.2.2)

/-- Fire a descriptor (R383, R386): it takes the group's next sequence number, aborts when it breaks R396, reads its
source (R385), and takes what was held for it (R387). -/
def State.collFire (s : State) (p e : Nat) (d : BitVec 512) (posted : Bool) : State :=
  let gid := cdGid d
  let gr := s.collGroup e gid
  let seq := gr.fired + 1
  let s := s.updGroup e gid fun g => { g with fired := seq }
  match s.collCtx p gid with
  | none => (s.addDone p (cdDone d) (2 ^ 32)).collBroken p e gid seq 8 0x3F
  | some c =>
    if gr.state ≠ 1 ∨ posted && c.g.sched ∨ ! cdLegal d ∨ ! c.g.countOk d then s.collAbort c d seq 8 0x3F
    else if ! s.collAddrs p c.g d then s.collAbort c d seq 7 0x3F
    else
      let reads := cdOp d != 0 || c.isRoot
      let r := if reads then s.collSource d else (s, [], true)
      if ! r.2.2 then (r.1.checkRecord p 4 (100 + e) 0xFF (s.eid p (100 + e)) (cdSrc d)).collAbort c d seq 4 0x3F
      else if ! c.neighbours.all fun x => (s.routePort p x (s.ownPix p) 0).isSome then r.1.collAbort c d seq 2 0x3F
      else
        let k := c.g.segElems d
        let o : CollOp := { desc := d, gid := gid, seq := seq, last := (s.part p).gtc, issued := (s.part p).gtc }
        let o := if reads then (List.range (c.g.segments d)).foldl (fun o i =>
          o.setSeg i { value := some ((r.2.1.drop (i * k)).take k) }) o else o
        let s := r.1.updColl e fun x => { x with ops := x.ops ++ [o] }
        let s := (List.range (c.g.segments d)).foldl (fun a i =>
          if cdOp d = 0 then
            (if c.isRoot then match a.opOf e gid seq with
              | some o => a.collRoot c o i ((o.seg i).value.getD [])
              | none => a
             else a)
          else State.collReduce c gid seq i 4 a) s
        let mine (m : CollMsg) : Bool := m.gid == gid && m.seq == seq
        let held := (s.coll e).early.filter mine
        let s := s.updColl e fun x => { x with early := x.early.filter fun m => !mine m }
        held.foldl (fun a m => a.collArrive c m (!c.g.comet)) s

/-- Whether a waiting descriptor's counter word reaches its threshold (R383). -/
def State.collReady (s : State) (p : Nat) (d : BitVec 512) : Bool :=
  s.wordOk p (cdTrig d) &&
    (match s.home p (cdTrig d) with
     | .sram a => decide (cdF d 256 32 ≤ ofLE ((List.range 4).map fun i => s.byte (a + i)))
     | _ => false)

/-- Whether the partition refuses collective fires (R483). -/
def State.collClosed (s : State) (p : Nat) : Bool :=
  match (s.part p).state with
  | .quarantined | .cold | .booting => true
  | .idle | .loaded | .armed | .running | .halted | .faulted => false

/-- The address of an engine's post ring (R371, R381). -/
def State.postBase (s : State) (p e : Nat) : Nat :=
  match (s.part p).image with
  | some img => leAt img.groups (8 + 8 * e) 8
  | none => 0

/-- COLLECTIVE_POST_TAKE (R381): the engine takes the next posted descriptor; one whose condition holds fires at once. -/
def execCollectivePostTake (e : Fin 4) (s : State) : Res :=
  let p := s.partOfOe e
  let base := s.postBase p e
  let x := s.coll e
  if base = 0 ∨ s.collClosed p then notEnabled "the engine takes no posts (R371, R483)"
  else
    let r := s.sramBytes (base + 256 * 64) 16
    let post := leAt r.2.1 0 4
    if x.consumed % 2 ^ 32 = post ∨ 2 ^ 31 ≤ (post + 2 ^ 32 - x.consumed % 2 ^ 32) % 2 ^ 32 then
      notEnabled "no descriptor is posted (R381)"
    else if 256 ≤ x.waiting.length + x.ops.length then notEnabled "the trigger table is full (R381)"
    else
      let d := r.1.sramBytes (base + 64 * (x.consumed % 256)) 64
      let desc := BitVec.ofNat 512 (ofLE d.2.1)
      let s := d.1.updColl e fun x => { x with consumed := x.consumed + 1 }
      let s := s.putBytes p (base + 256 * 64 + 8) 2 (toLE 8 (x.consumed + 1))
      let s := s.wr F.COL_STS_consumed (x.consumed + 1) 0 e
      .next (if ! d.2.2 then (match s.collCtx p (cdGid desc) with
               | some c => s.collAbort c desc ((s.collGroup e (cdGid desc)).fired + 1) 4 0x3F
               | none => s)
             else if ! s.wordOk p (cdTrig desc) then (match s.collCtx p (cdGid desc) with
               | some c => s.collAbort c desc ((s.collGroup e (cdGid desc)).fired + 1) 7 0x3F
               | none => s.collFire p e desc true)
             else if s.collReady p desc then s.collFire p e desc true
             else s.updColl e fun x => { x with waiting := x.waiting ++ [desc] })

/-- TRIGGER_FIRE (R383): the i-th waiting descriptor's counter reaches its threshold, or the i-th scheduled operation's
orbit tick has come. -/
def execTriggerFire (e : Fin 4) (sched : Bool) (i : Nat) (s : State) : Res :=
  let p := s.partOfOe e
  if s.collClosed p then notEnabled "no collective fires in this state (R483)"
  else if sched then
    match (s.part p).image with
    | none => notEnabled "no image is loaded"
    | some img => match (schedEnts img.groups)[i]? with
      | none => notEnabled "no such scheduled operation (R373)"
      | some d =>
        if s.collEngine p (cdGid d) ≠ e ∨ ! s.running p ∨ s.schedStopped p then
          notEnabled "the scheduled operation does not fire here (R370, R383)"
        else .next (s.collFire p e d false)
  else match (s.coll e).waiting[i]? with
    | none => notEnabled "no such descriptor waits (R383)"
    | some d =>
      if ! s.collReady p d then notEnabled "the counter is below its threshold (R383)"
      else .next ((s.updColl e fun x => { x with waiting := removeAt x.waiting i }).collFire p e d true)

/-- COLL_DATA (R388): a segment arrives in a COLL packet. The engine never refuses it (R389). -/
def execCollData (p : Fin 2) (h : BitVec 512) (data : List (BitVec 512 × BitVec 16)) (s : State) : Res :=
  if bits h.toNat 0 16 ≠ 0x0C then notEnabled "the packet is another one (R388)"
  else
    let m := collMsgOf (bits h.toNat 42 14) h data
    match s.collCtx p m.gid with
    | none => .next s
    | some c => .next (s.collArrive c m true)

/-- Send what waited for credits on a stream. -/
def State.collPump (s : State) (c : CollCtx) (gid seq : Nat) : State :=
  match s.opOf c.e gid seq with
  | none => s
  | some o =>
    let q := o.outq
    q.foldl (fun a m => a.collSend c m) (s.updOp c.e gid seq fun o => { o with outq := [] })

/-- COLL_CREDIT (R389): segments were consumed at the far end; the sender may go on. -/
def execCollCredit (p : Fin 2) (h : BitVec 512) (s : State) : Res :=
  if bits h.toNat 0 16 ≠ 0x10C then notEnabled "the packet is another one (R388)"
  else
    let m := collMsgOf (bits h.toNat 42 14) h []
    let n := bits h.toNat 176 16
    match s.collCtx p m.gid with
    | none => .next s
    | some c =>
      let s := s.updOp c.e m.gid m.seq fun o => { o with
        spent := tabUpd collOpDefault o.spent m.phase (· - n), accepted := tabUpd collOpDefault o.accepted m.phase (· + n) }
      .next (s.collPump c m.gid m.seq)

/-- COLL_ABORT (R397): a neighbour aborted an operation; this member aborts it too and forwards the ABORT, unless it has
already aborted it. -/
def execCollAbort (p : Fin 2) (h : BitVec 512) (s : State) : Res :=
  if bits h.toNat 0 16 ≠ 0x20C then notEnabled "the packet is another one (R388)"
  else
    let m := collMsgOf (bits h.toNat 42 14) h []
    match s.collCtx p m.gid with
    | none => .next s
    | some c => match s.opOf c.e m.gid m.seq with
      | some o => .next (s.collAbort c o.desc o.seq 6 0x3F)
      | none =>
        let g := s.collGroup c.e m.gid
        if g.fired < m.seq ∧ g.state = 1 then
          .next ((s.collTell c m.gid m.seq m.tag 6).collBroken p c.e m.gid m.seq 6 0x3F)
        else .next s

/-- COLL_TIMEOUT (R396): no segment or message of an operation for coll_tmo. -/
def execCollTimeout (e : Fin 4) (k : Nat) (s : State) : Res :=
  let p := s.partOfOe e
  match (s.coll e).ops[k]? with
  | none => notEnabled "no such operation runs (R396)"
  | some o => match s.collCtx p o.gid with
    | none => notEnabled "the group is not here"
    | some c => .next (s.collAbort c o.desc o.seq 1 0x3F)

/-- Whether an operation is complete on this member (R384). -/
def State.collDone (s : State) (c : CollCtx) (o : CollOp) : Bool :=
  let n := c.g.segments o.desc
  let all := (List.range n).all fun i =>
    if c.writes o.desc then (o.seg i).written else (o.seg i).sent
  let free := !c.g.comet && !c.g.sched
  let streams : List Nat :=
    (if cdOp o.desc = 1 then [] else c.children.map fun x => phaseByte true x.1 x.2.arm) ++
      (if cdOp o.desc = 1 then (match c.up with
        | some x => [phaseByte false x.1 x.2.arm]
        | none => []) else [])
  all && o.outq.isEmpty && (!free || streams.all fun k => tabGet collOpDefault o.accepted k == n) &&
    !(s.coll c.e).comets.any (fun m => m.gid == o.gid && m.seq == o.seq)

/-- COLLECTIVE_COMPLETE (R384): the completion word rises by 1 and the core is signalled. -/
def execCollectiveComplete (e : Fin 4) (k : Nat) (s : State) : Res :=
  let p := s.partOfOe e
  match (s.coll e).ops[k]? with
  | none => notEnabled "no such operation runs (R384)"
  | some o => match s.collCtx p o.gid with
    | none => notEnabled "the group is not here"
    | some c =>
      if ! s.collDone c o then notEnabled "the operation is not complete (R384)"
      else
        let s := s.updColl e fun x => { x with ops := removeAt x.ops k }
        let s := s.updGroup e o.gid fun g => { g with completed := o.seq }
        let s := s.addDone p (cdDone o.desc) 1
        let eid := cdF o.desc 384 24
        let sem := cdF o.desc 408 6
        .next (if cdF o.desc 414 1 = 0 ∨ 64 ≤ eid % 1024 then s
               else match s.pixTarget p (eid / 1024) 0 with
                 | .here _ => s.signal (eid % 1024) sem 1
                 | .package px _ => if s.reachable p px then s.sendSeq p px (semsigPacket (s.eid p (100 + e)) eid sem 1)
                                    else s.unreachable p
                 | .far f _ => s.sendFar p f (semsigPacket (s.eid p (100 + e)) eid sem 1) .none
                 | .bad => s)

/-! ### Comet lane (R391–R394) -/

/-- The 72 bytes of a comet slot (R391). -/
def cometSlot (hdr gid seq : Nat) (payload : List Byte) : BitVec 576 :=
  let b := toLE 1 hdr ++ toLE 1 gid ++ toLE 2 seq ++ padTo 64 payload
  BitVec.ofNat 576 (ofLE (b ++ toLE 4 (crc32C b)))

/-- The slot of a collective message: its header carries class 2 and the phase byte (R391). -/
def CollMsg.slot (m : CollMsg) (cmsg : Nat) : BitVec 576 :=
  cometSlot (2 + m.phase * 4) m.gid (m.seq % 65536) ((checkedBytes m.data).take cmsg)

/-- The ports fed by the bus that feeds a port, this one among them (R393). -/
def State.busPorts (s : State) (q : Nat) : List Nat :=
  let bus := s.rd F.OE_FIB_COMET_bus 0 (q / 8) (q % 8)
  ((List.range 8).map (· + q / 8 * 8)).filter fun x =>
    s.rd F.OE_FIB_COMET_bus 0 (x / 8) (x % 8) == bus && s.rdB F.OE_FIB_COMET_tap_en 0 (x / 8) (x % 8) && s.cometOk x

/-- COMET_LAUNCH (R392, R393): the next comet message leaves, scheduled ones first; every copy for a neighbour on the same
bus leaves with it. -/
def execCometLaunch (e : Fin 4) (s : State) : Res :=
  let p := s.partOfOe e
  let q := (s.coll e).comets
  let isSched (m : CollMsg) : Bool := match s.groupEnt? p m.gid with
    | some g => g.sched
    | none => false
  match (match q.find? isSched with
    | some m => some m
    | none => q.head?) with
  | none => notEnabled "no comet message waits (R392)"
  | some m => match s.collCtx p m.gid with
    | none => notEnabled "the group is not here"
    | some c => match s.cometToward p m.pix with
      | none =>
        let s := s.updColl e fun x => { x with comets := x.comets.filter fun y => y != m }
        .next (s.collSend c m)
      | some port =>
        let ports := s.busPorts port
        let same (y : CollMsg) : Bool := y.gid == m.gid && y.seq == m.seq && y.phase == m.phase && y.data == m.data &&
          (match s.cometToward p y.pix with
           | some z => ports.contains z
           | none => false)
        let s := s.updColl e fun x => { x with comets := x.comets.filter fun y => !same y }
        .next (s.emit (.comet ports (m.slot c.g.cmsg)))

/-- Whether this member is the addressee of a comet message from a neighbour (R393). -/
def CollCtx.expects (c : CollCtx) (phase pix : Nat) : Bool :=
  let a := bits phase 1 2
  let arm := bits phase 3 1
  if ! c.g.masked a then false
  else if phase % 2 = 0 then (c.ins a).any fun h => h.arm == arm && c.pix a h.pos == pix
  else match c.up with
    | some x => x.1 == a && x.2.arm == arm && c.pix a x.2.pos == pix
    | none => false

/-- The sequence number nearest a count whose low 16 bits are these (R391). -/
def nearSeq (count low : Nat) : Nat :=
  let base := count - count % 65536
  let gap (x : Nat) : Nat := max x count - min x count
  ((if base = 0 then [] else [base + low - 65536]) ++ [base + low + 65536]).foldl
    (fun best x => if gap x < gap best then x else best) (base + low)

/-- COMET_SLOT (R391, R393): a comet slot arrives. One that fails its crc is discarded; a control notice is handed on; a
collective message is taken once, by its addressee. -/
def execCometSlot (q : Fin 32) (w : BitVec 576) (s : State) : Res :=
  let p := s.partOfPort q
  let b := toLE 72 w.toNat
  let hdr := leAt b 0 1
  if ! (s.portUp q && s.cometOk q) then .next s
  else if leAt b 68 4 ≠ crc32C (b.take 68) then .next s
  else if hdr % 4 = 1 then .next (s.emit (.cometNotice q (BitVec.ofNat 256 (leAt b 4 32))))
  else if hdr % 4 ≠ 2 then .next s
  else
    let gid := leAt b 1 1
    let phase := bits hdr 2 4
    let pix := match s.entryOf q with
      | some x => x.nbrPix
      | none => 0x3FFF
    match s.collCtx p gid with
    | none => .next s
    | some c =>
      let seq16 := leAt b 2 2
      let key := (gid, seq16, phase, pix)
      if ! (c.g.comet && c.expects phase pix) || (s.coll c.e).taken.contains key then .next s
      else
        let g := s.collGroup c.e gid
        let n := c.g.cmsg / 4
        let m : CollMsg := { pix := pix, gid := gid, seq := nearSeq g.fired seq16, tag := 0, segment := 0, phase := phase,
                             wtype := 0, data := freshGrans ((b.drop 4).take (4 * n)) }
        let s := s.updColl c.e fun x => { x with taken := (key :: x.taken).take 4096 }
        .next (s.collArrive c m false)

/-- COMET_MESSAGE_MISSING (R392): a scheduled comet message did not come within h of its expected launch. -/
def execCometMessageMissing (e : Fin 4) (k : Nat) (s : State) : Res :=
  let p := s.partOfOe e
  match (s.coll e).ops[k]? with
  | none => notEnabled "no such operation runs (R392)"
  | some o => match s.groupEnt? p o.gid with
    | some g => guarded (g.sched && g.comet && s.running p) "the operation is not a scheduled comet operation (R392)" (s.slip p 0x04)
    | none => notEnabled "the group is not here"

/-! ### Scheduled frames, resets and state changes -/

/-- Granules of a scheduled frame for a collective engine enter its buffer at elastic-buffer exit; a segment whose
granules are all there is delivered (R390). -/
def State.collFrame (s : State) (p e : Nat) (gidx : Nat) (gs : List (Gran × BitVec 16)) : State :=
  let find (s : State) (idx : Nat) : Option (CollCtx × CollOp × Nat × Nat × Nat) :=
    (s.coll e).ops.findSome? fun o => match s.collCtx p o.gid with
      | none => none
      | some c =>
        if ! c.g.sched || c.g.comet then none
        else ((List.range 16).flatMap fun ph => (List.range (c.g.segments o.desc)).flatMap fun i =>
            (List.range 128).map fun k => (ph, i, k)).findSome? fun x =>
          if Config.collIndex o.gid x.1 x.2.1 (x.2.2 / 2 * 2) + x.2.2 % 2 = idx then some (c, o, x.1, x.2.1, x.2.2) else none
  (gs.zipIdx).foldl (fun s g =>
    match find s (gidx + g.2) with
    | none => s
    | some (c, o, ph, i, k) =>
      let s := s.updOp e o.gid o.seq fun o => o.setSeg i { o.seg i with
        parts := tabSet (fun _ => none) (o.seg i).parts (ph * 128 + k) (some g.1) }
      match s.opOf e o.gid o.seq with
      | none => s
      | some o =>
        let w := if ph % 2 = 0 then 4 else typeBytes (cdOtype o.desc)
        let n := cdiv (c.g.segLen o.desc i * w) 64
        let ps := (List.range n).map fun k => tabGet (fun _ => none) (o.seg i).parts (ph * 128 + k)
        if ps.all (·.isSome) then
          let m : CollMsg := { pix := 0, gid := o.gid, seq := o.seq, tag := 0, segment := i, phase := ph, wtype := 0,
                               data := ps.filterMap id }
          s.collArrive c m false
        else s) s

/-- Abort every scheduled operation in flight at a freeze (R396). -/
def State.collFreeze (s : State) (p : Nat) : State :=
  ((List.range 4).filter fun e => s.partOfOe e == p).foldl (fun s e =>
    (s.coll e).ops.foldl (fun a o => match a.collCtx p o.gid with
      | some c => if c.g.sched then a.collAbort c o.desc o.seq 5 0x3F else a
      | none => a) s) s

/-- The slices or comet buffers a group reserves (R375). -/
def GroupEnt.reserve (g : GroupEnt) : Nat := 3 * g.credits * g.axes.length

/-- Return every group of an engine to READY: sequence 0, full credits, empty buffers (R398). -/
def State.collReset (s : State) (p e : Nat) : State :=
  let gs : List GroupEnt := match (s.part p).image with
    | some img => (groupEnts img.groups).filter fun (g : GroupEnt) => g.valid && s.collEngine p g.gid == e
    | none => []
  let s := s.updColl e fun x => { x with
    groups := gs.foldl (fun t g => tabSet groupDefault10 t g.gid { state := 1 }) [],
    waiting := [], ops := [], early := [], comets := [], undone := [], taken := [] }
  let s := s.wr F.COL_STS_groups gs.length 0 e
  let s := s.wr F.COL_STS_slices (((gs.filter fun g => !g.comet).map (·.reserve)).foldl (· + ·) 0) 0 e
  s.wr F.COL_STS_comet_bufs (((gs.filter fun g => g.comet).map (·.reserve)).foldl (· + ·) 0) 0 e

/-- Apply the GROUPS section of a new image (R376, R381, R398): engines READY, posts taken from 0, the comet plan copied. -/
def State.applyGroups (s : State) (p : Nat) : State :=
  let s := ((List.range 4).filter fun e => s.partOfOe e == p).foldl (fun a e =>
    let a := (a.collReset p e).updColl e fun x => { x with consumed := 0 }
    let a := a.wr F.COL_STS_consumed 0 0 e
    let base := a.postBase p e
    if base = 0 then a else a.putBytes p (base + 256 * 64) 2 (List.replicate 16 0)) s
  match (s.part p).image with
  | none => s
  | some img =>
    let sec := img.groups
    if leAt sec 0x28 1 ≠ 1 then s
    else
      let at0 := 64 + 32 * leAt sec 0 2 + 64 * leAt sec 2 2
      (s.portsOf p).foldl (fun a q =>
        let v := leAt sec (at0 + 2 * q) 2
        let o := q / 8
        let i := q % 8
        let a := ((a.wr F.OE_FIB_COMET_bus (bits v 0 2) 0 o i).wr F.OE_FIB_COMET_tap_en (bits v 2 1) 0 o i).wr
          F.OE_FIB_COMET_weight (bits v 8 8) 0 o i
        a.updRing (ringKey o i 0 17) fun r =>
          if r.state = rgDark ∨ r.state = rgFailed then r
          else { r with state := if bits v 2 1 = 1 then rgLocked else rgParked }) s

end Sys2Proof.Machine
end

