-- ==== Sys2Proof/Machine/Dmx.lean ====
section
/-! DEFINITION. The data mover (04 R144–R150): transfers by descriptor between SRAM, HBM, other packages, far devices and
host windows, their granules in the order of R145, their completion (R148, R217) and their stop (R150). -/

namespace Sys2Proof.Machine

/-! ### Descriptors (R144, R149) -/

/-- A field of a transfer's descriptor. -/
def Transfer.f (t : Transfer) (lo w : Nat) : Nat := bits t.desc.toNat lo w

/-- What a descriptor breaks: ILLEGAL_INSTR or ALIGN (R149). -/
def descFault (d : Nat) : Option EngCause :=
  let rb := bits d 128 24
  if rb = 0 ∨ bits d 152 16 = 0 ∨ bits d 168 16 = 0 ∨ 1 < bits d 184 2 ∨ 1 < bits d 186 2 ∨ bits d 195 29 ≠ 0 ∨
      bits d 400 48 ≠ 0 then some .illegalInstr
  else if rb % 64 ≠ 0 ∨ bits d 0 6 ≠ 0 ∨ bits d 64 6 ≠ 0 ∨ bits d 224 6 ≠ 0 ∨ bits d 256 6 ≠ 0 ∨ bits d 288 6 ≠ 0 ∨
      bits d 336 6 ≠ 0 then some .align
  else none

/-- Granules of a transfer. -/
def Transfer.total (t : Transfer) : Nat := t.f 128 24 / 64 * t.f 152 16 * t.f 168 16

/-- The address of granule i: base, row and plane strides, in the order of R145. Sums are modulo 2^64, so one that leaves
a form names no address (DEDUCED, notes/assumptions/20.md). -/
def Transfer.addr (t : Transfer) (base rowStride planeStride : Int) (i : Nat) : Nat :=
  let per := t.f 128 24 / 64
  let col := i % per
  let row := i / per % t.f 152 16
  let plane := i / per / t.f 152 16
  wrapNat 64 (base + (plane : Int) * planeStride + (row : Int) * rowStride + (col : Int) * 64)

def Transfer.src (t : Transfer) (i : Nat) : Nat := t.addr (t.f 0 64) (sext 32 (t.f 224 32)) (sext 48 (t.f 288 48)) i
def Transfer.dst (t : Transfer) (i : Nat) : Nat := t.addr (t.f 64 64) (sext 32 (t.f 256 32)) (sext 48 (t.f 336 48)) i

/-- Where one end of a granule's move lies. -/
inductive End where
  | sram (addr : Nat)
  | hbm (addr phys : Nat)
  | package (pix addr : Nat)
  | far (entry addr : Nat)
  | host (conn rkey addr : Nat)
  | none
deriving DecidableEq, Repr

/-- Resolve one end (R144, R247, R248, R424). -/
def State.endOf (s : State) (p space win addr : Nat) (write : Bool) : End :=
  if space = 1 then
    match s.windowAddr p win addr 64 write with
    | some h => .host h.1 h.2.1 h.2.2
    | none => .none
  else
    match s.target p addr with
    | .here a =>
      match s.home p a with
      | .sram x => .sram x
      | .hbm c l g _ => .hbm a (hbmPhys c l g)
      | .window _ => .none
      | .nowhere => .none
    | .package px a => .package px a
    | .far f a => .far f a
    | .bad => .none

def State.srcEnd (s : State) (p : Nat) (t : Transfer) (i : Nat) : End :=
  s.endOf p (t.f 184 2) (t.f 384 8) (t.src i) false
def State.dstEnd (s : State) (p : Nat) (t : Transfer) (i : Nat) : End :=
  s.endOf p (t.f 186 2) (t.f 392 8) (t.dst i) true

/-! ### Moving granules -/

def heldDefault : Nat → Option (Gran × BitVec 16) := fun _ => .none

/-- A transfer's step: state and transfer together. -/
structure Mover where
  s : State
  t : Transfer
  stuck : Bool

/-- The granule fails at this index (R150). -/
def Mover.failed (m : Mover) (i : Nat) : Mover :=
  { m with t := { m.t with fail := some (match m.t.fail with | some j => min i j | none => i) }, stuck := true }

/-- The global address of a local address of a package (R247). -/
def globalAddr (pix addr : Nat) : Nat := 2 ^ 63 + pix * 2 ^ 48 + addr % 2 ^ 41

/-- The slot port of scheduled frames toward a PIX: the fixed candidate of its route entry (R339, R346). -/
def State.schedPort (s : State) (p pix : Nat) : Nat :=
  let e := tabGet natDefault (s.part p).routes pix
  bits e (6 * bits e 28 2) 5

/-- Queue a granule of a scheduled transfer for VC0, joining the frame before it when it is its second granule (R334). -/
def State.queueVc0 (s : State) (n p : Nat) (t : Transfer) (pix addr : Nat) (g : Gran) (chk : BitVec 16) : State :=
  let gidx := (addr - sramBase) / 64
  let join : Bool := match (s.part p).sendq.getLast? with
    | some f => f.owner == some (n, t.id) && f.dstPix == pix && f.gidx + 1 == gidx && f.data.length == 1
    | none => false
  let f : VcFrame := {
    unit := n, port := s.schedPort p pix, dstPix := pix, dstUnit := 4 * sramTile addr, gidx := gidx,
    data := [(g, chk)], owner := some (n, t.id) }
  s.updPart p fun q => { q with sendq :=
    if join then q.sendq.dropLast ++ ((q.sendq.getLast?).map fun l => { l with data := l.data ++ [(g, chk)] }).toList
    else q.sendq ++ [f] }

/-- Pass granule i, with the check it carries, to its destination. -/
def Mover.put (m : Mover) (n p i : Nat) (g : Gran) (chk : BitVec 16) : Mover :=
  let who : Waiter := .transfer n m.t.id i
  let fwd (s : State) : Mover := { m with s := s, t := { m.t with next := i + 1, held := tabDel m.t.held i } }
  match m.s.dstEnd p m.t i with
  | .sram a => fwd ((m.s.sramWrite a g chk).landed p a)
  | .hbm _ _ => { m with stuck := true }
  | .package px a =>
    if m.t.plane = .sched ∧ sramBase ≤ a ∧ a < sramBase + 16 * tileBytes then fwd (m.s.queueVc0 n p m.t px a g chk)
    else if m.s.reachable p px then
      fwd (m.s.sendAwait p px { emptyPacket with
        op := 2, srcEid := m.s.eid p n, addr := globalAddr px a, granules := 1, data := [(g, chk)] } who)
    else { m.failed i with s := m.s.unreachable p }
  | .far f a => fwd (m.s.sendFar p f { emptyPacket with
      op := 2, srcEid := m.s.eid p n, addr := a, granules := 1, data := [(g, chk)] } who)
  | .host c k a => fwd (m.s.sendHostWrite p c k a g who)
  | .none => m.failed i

/-- A carried check that fails as the DMX reads or the granule leaves for the host (R463 rows 2 and 5). -/
def State.dmxCheck (s : State) (n p : Nat) (sched poisoned : Bool) (exit : Bool) : State :=
  let s := s.checkRecord p (if exit then 5 else 2) (n * 4 + 3) (tileOf n) (s.eid p n) 0
  if sched && poisoned then s.slip p 0x0D else s

/-- Move the next granule if it can move: one held, or one in SRAM read and verified now (R146). `all` allows SRAM to
SRAM moves, which happen as late as the transfer's completion. -/
def Mover.move (n p : Nat) (all : Bool) (m : Mover) : Mover :=
  let i := m.t.next
  if m.stuck || m.t.fail == some i || decide (m.t.total ≤ i) then { m with stuck := true }
  else
    match tabGet heldDefault m.t.held i with
    | some g => m.put n p i g.1 g.2
    | none =>
      match m.s.srcEnd p m.t i with
      | .sram a =>
        let d := m.s.dstEnd p m.t i
        let wait : Bool := match d with
          | .sram _ => !all
          | .hbm _ _ => true
          | .package _ _ | .far _ _ | .host _ _ _ | .none => false
        if wait then { m with stuck := true }
        else
          let r := m.s.sramRead a
          if r.2.ok then { m with s := r.1 }.put n p i r.2.data r.2.check
          else
            let exit : Bool := match d with
              | .host _ _ _ => true
              | .sram _ | .hbm _ _ | .package _ _ | .far _ _ | .none => false
            { m.failed i with s := r.1.dmxCheck n p (m.t.plane == .sched) r.2.poisoned exit }
      | .none => m.failed i
      | .hbm _ _ | .package _ _ | .far _ _ | .host _ _ _ => { m with stuck := true }

/-- Move as many granules as can move, at most `k`. -/
def Mover.pump (n p : Nat) (all : Bool) : Nat → Mover → Mover
  | 0, m => m
  | k + 1, m => if m.stuck then m else Mover.pump n p all k (m.move n p all)

/-- Ask for the granules that lie on other packages, far devices or in host memory (R145, R365). -/
def Mover.ask (n p : Nat) (m : Mover) (i : Nat) : Mover :=
  let who : Waiter := .transfer n m.t.id i
  if m.t.fail.isSome then m
  else
    match m.s.srcEnd p m.t i with
    | .package px a =>
      if m.s.reachable p px then
        { m with s := m.s.sendLoad p px { emptyPacket with
            op := 1, srcEid := m.s.eid p n, addr := globalAddr px a, granules := 1 } who }
      else { m with s := m.s.unreachable p, t := { m.t with fail := some i } }
    | .far f a => { m with s := m.s.sendFar p f { emptyPacket with
        op := 1, srcEid := m.s.eid p n, addr := a, granules := 1 } who }
    | .host c k a => { m with s := m.s.sendHostRead p c k a who }
    | .sram _ | .hbm _ _ => m
    | .none => { m with t := { m.t with fail := some i } }

/-- Start a transfer: ask for its remote sources and pass on what SRAM sources it can. -/
def startTransfer (s : State) (n p : Nat) (t : Transfer) : Mover :=
  let m := (List.range t.total).foldl (Mover.ask n p) { s := s, t := t, stuck := false }
  m.pump n p false t.total

/-- Put a transfer back. -/
def State.setTransfer (s : State) (n : Nat) (t : Transfer) : State :=
  s.updCore n fun k => { k with transfers := updFirst (fun x => x.id == t.id) (fun _ => t) k.transfers }

/-- A transfer of a core. -/
def Core.transfer? (k : Core) (id : Nat) : Option Transfer := k.transfers.find? (·.id == id)

/-- A granule read for a transfer arrives in the DMX: it is held, and what can move moves in order (R145); a read that
failed stops the transfer there (R150). -/
def State.transferData (s : State) (n p id i : Nat) (d : Option (Gran × BitVec 16)) : State :=
  match (if s.contained p then none else (s.core n).transfer? id) with
  | none => s
  | some t =>
    match d with
    | none => s.setTransfer n (({ s := s, t := t, stuck := false } : Mover).failed i).t
    | some g =>
      let t := { t with held := tabSet heldDefault t.held i (some g) }
      let m := ({ s := s, t := t, stuck := false } : Mover).pump n p false t.total
      m.s.setTransfer n m.t

/-! ### Commands -/

/-- The descriptor's address: in the SRAM of the issuing core's tile, 64-byte aligned (R144). -/
def State.descAddr (s : State) (c : Ctx) : Except EngCause Nat :=
  match s.operand c (c.f 96 4) (c.f 60 12) (sext 24 (c.f 72 24) * 64) with
  | .error x => .error x
  | .ok ea =>
    match s.sramReach c.p ea with
    | .error x => .error x
    | .ok a => if ! inTile (tileOf c.n) a 1 then .error .addrRange else if a % 64 = 0 then .ok a else .error .align

/-- DXFER (R144, R147, R149): takes an entry and starts the transfer. In the free plane it waits for an entry; in the
scheduled plane it faults with QUEUE_FULL. -/
def execDxfer (n : Fin 64) (w : InstrWord) (s : State) : Res :=
  let full := decide (64 ≤ (s.core n).transfers.length)
  if full && (s.stream n .dmx).plane == .free then notEnabled "a free-plane DXFER waits for a free entry (R147)"
  else
    s.issue n .dmx w 0x01 fun c s =>
      c.legal (c.reservedOk [(96, 4), (72, 24), (60, 12)]) s
        (match s.descAddr c with
         | .error x => c.fault s x
         | .ok a =>
           if full then c.fault s .queueFull
           else
             let r := s.readOp a 64
             if ! r.ok then c.dataCheck r.s r.poisoned
             else
               match descFault r.val with
               | some x => c.fault r.s x
               | none =>
                 let st := r.s.stream n .dmx
                 let t : Transfer := {
                   id := (r.s.core n).nextTransfer, desc := BitVec.ofNat 512 r.val, plane := st.plane,
                   index := c.index, issued := c.tick }
                 let s := c.pass r.s 1
                 let m := startTransfer s n c.p t
                 m.s.updCore n fun k => { k with
                   transfers := k.transfers ++ [m.t], nextTransfer := k.nextTransfer + 1 })

/-- Whether a request of the transfer is not yet answered. -/
def State.transferAwaits (s : State) (n p id : Nat) : Bool :=
  (s.part p).awaits.any fun a => match a.who with
    | .transfer c t _ => c == n && t == id
    | .thread _ _ _ => false
    | .none => false

/-- Whether a scheduled frame of the transfer has not yet launched. -/
def State.transferQueued (s : State) (n p id : Nat) : Bool := (s.part p).sendq.any fun f => f.owner == some (n, id)

/-- Remove a transfer from its DMX. -/
def State.dropTransfer (s : State) (n id : Nat) : State :=
  s.updCore n fun k => { k with transfers := k.transfers.filter fun t => t.id != id }

/-- DMX_TRANSFER_COMPLETE (R148, R217): every granule written and acknowledged and every read returned; the transfer
frees its entry and signals its semaphore. SRAM to SRAM granules are moved here. -/
def execDmxTransferComplete (n : Fin 64) (id : Nat) (s : State) : Res :=
  let p := s.partOfCore n
  match (s.core n).transfer? id with
  | none => notEnabled "the DMX holds no such transfer (R147)"
  | some t =>
    if s.contained p then notEnabled "quarantine has stopped the transfer (R483)" else
    let m := ({ s := s, t := t, stuck := false } : Mover).pump n p true t.total
    if m.t.next ≠ t.total ∨ m.t.out ≠ 0 ∨ m.t.fail.isSome then notEnabled "granules are not yet written, or one failed (R148)"
    else if m.s.transferAwaits n p id || m.s.transferQueued n p id then notEnabled "writes are not yet acknowledged (R217)"
    else
      let s := m.s.dropTransfer n id
      .next (if t.f 194 1 = 1 then s.signal n (t.f 188 6) 1 else s)

/-- TRANSFER_STOP (R150): the transfer stops at the granule that failed; those before it stay written, none is signalled,
dmx_err is set and the tag recorded. -/
def execTransferStop (n : Fin 64) (id : Nat) (s : State) : Res :=
  let p := s.partOfCore n
  match (s.core n).transfer? id with
  | none => notEnabled "the DMX holds no such transfer (R147)"
  | some t =>
    if s.contained p then notEnabled "quarantine has stopped the transfer (R483)" else
    let m := ({ s := s, t := t, stuck := false } : Mover).pump n p true t.total
    if m.t.fail ≠ some m.t.next then notEnabled "the transfer has met no granule that failed (R150)"
    else
      let s := m.s.dropTransfer n id
      let s := s.updPart p fun q => { q with awaits := q.awaits.filter fun a => match a.who with
        | .transfer c x _ => !(c == n.val && x == id)
        | .thread _ _ _ => true
        | .none => true }
      let s := s.flag F.CORE_EVT_dmx_err F.CORE_EVT_CNT_dmx_cnt 0 n
      let s := s.setReg .DMX_ERR_TAG (BitVec.ofNat 64 (t.f 448 64)) 0 n
      .next (s.record p 1 5 (n * 4 + 3) (die := tileOf n) (eid := s.eid p n) (info0 := t.f 448 64))

/-! ### Fences (06 R218–R224) -/

/-- Whether a covered transfer meets a scope (R219): its reads have returned and its writes have left the engine; for DEV those to
this package are performed; for SYS every write is performed and acknowledged. A transfer that has left its DMX meets every one. -/
def State.coveredMet (s : State) (n p : Nat) (scope : Scope) (id : Nat) : Bool :=
  match (s.core n).transfer? id with
  | none => true
  | some t => t.next == t.total && t.fail.isNone && (match scope with
    | .core => true
    | .dev => t.out == 0
    | .sys => t.out == 0 && !s.transferAwaits n p id && !s.transferQueued n p id)

/-- Whether a fence's condition holds (R219, R224). Only SYS waits for other packages, and requests that were lost are never
acknowledged (R362, R366). -/
def State.fenceMet (s : State) (n p : Nat) (f : Fence) : Bool :=
  (match f.scope with | .core => true | .dev => true | .sys => !f.lost) && f.transfers.all (s.coveredMet n p f.scope) &&
    f.targets.all fun t => decide (t.2 ≤ (s.e2eOut p t.1).acked)

/-- The covered transfers move what they can move without another agent; SRAM to SRAM granules have no command of their own
(DESIGN CHOICE, notes/assumptions/23.md). -/
def State.fenceMoved (s : State) (n p : Nat) (f : Fence) : State :=
  f.transfers.foldl (fun a id =>
    match (a.core n).transfer? id with
    | none => a
    | some t =>
      let m := ({ s := a, t := t, stuck := false } : Mover).pump n p true t.total
      m.s.setTransfer n m.t) s

/-- FENCE_COMPLETE (R219): the condition of the fence's scope holds and its stream goes on. -/
def execFenceComplete (n : Fin 64) (e : Eng) (s : State) : Res :=
  let p := s.partOfCore n
  match (s.stream n e).status with
  | .waitFence f =>
    let t := s.fenceMoved n p f
    guarded (!f.timedOut && !s.contained p && t.fenceMet n p f) "the fence's condition does not hold (R219, R225)"
      (t.updStream n e fun st => st.advance)
  | .idle | .running | .waitSem _ _ | .passDone | .faulted => notEnabled "the stream waits at no fence (R219)"

end Sys2Proof.Machine
end

