-- ==== Sys2Proof/Machine/Scu.lean ====
section
/-! DEFINITION. The scalar sequencer's instructions (04 R122–R124, R152, R534). -/

namespace Sys2Proof.Machine

/-- The d, a and b fields and immediates of an SCU instruction (R122). -/
def Ctx.d (c : Ctx) : Nat := c.f 95 5
def Ctx.a (c : Ctx) : Nat := c.f 90 5
def Ctx.b (c : Ctx) : Nat := c.f 85 5
def Ctx.imm32 (c : Ctx) : Nat := c.f 53 32
def Ctx.imm64 (c : Ctx) : Nat := c.f 21 64

def fD : Nat × Nat := (95, 5)
def fA : Nat × Nat := (90, 5)
def fB : Nat × Nat := (85, 5)
def fImm32 : Nat × Nat := (53, 32)

/-- S[d] = S[a] op S[b], modulo 2^32 (R122, R123). -/
def scuBinary (n : Nat) (w : InstrWord) (op lat : Nat) (g : BitVec 32 → BitVec 32 → BitVec 32) (s : State) : Res :=
  s.issue n .scu w op fun c s =>
    let k := s.core n
    c.legal (c.reservedOk [fD, fA, fB]) s
      (c.done s 1 lat [.sreg c.d (g (BitVec.ofNat 32 (k.S c.a)) (BitVec.ofNat 32 (k.S c.b)))])

/-- SLI (R123): S[d] = imm32. -/
def execSli (n : Fin 64) (w : InstrWord) (s : State) : Res :=
  s.issue n .scu w 0x01 fun c s =>
    c.legal (c.reservedOk [fD, fImm32]) s (c.done s 1 1 [.sreg c.d (BitVec.ofNat 32 c.imm32)])

/-- SADD (R123). -/
def execSadd (n : Fin 64) (w : InstrWord) (s : State) : Res := scuBinary n w 0x02 1 (fun x y => x + y) s
/-- SSUB (R123). -/
def execSsub (n : Fin 64) (w : InstrWord) (s : State) : Res := scuBinary n w 0x03 1 (fun x y => x - y) s
/-- SMUL (R123): the low 32 bits of the product; latency 3. -/
def execSmul (n : Fin 64) (w : InstrWord) (s : State) : Res := scuBinary n w 0x04 3 (fun x y => x * y) s
/-- SAND (R123). -/
def execSand (n : Fin 64) (w : InstrWord) (s : State) : Res := scuBinary n w 0x05 1 (fun x y => x &&& y) s
/-- SOR (R123). -/
def execSor (n : Fin 64) (w : InstrWord) (s : State) : Res := scuBinary n w 0x06 1 (fun x y => x ||| y) s
/-- SXOR (R123). -/
def execSxor (n : Fin 64) (w : InstrWord) (s : State) : Res := scuBinary n w 0x07 1 (fun x y => x ^^^ y) s
/-- SSHL (R123): by S[b] mod 32. -/
def execSshl (n : Fin 64) (w : InstrWord) (s : State) : Res :=
  scuBinary n w 0x08 1 (fun x y => x <<< (y.toNat % 32)) s
/-- SSHR (R123): logical, by S[b] mod 32. -/
def execSshr (n : Fin 64) (w : InstrWord) (s : State) : Res :=
  scuBinary n w 0x09 1 (fun x y => x >>> (y.toNat % 32)) s
/-- SSRA (R123): arithmetic, by S[b] mod 32. -/
def execSsra (n : Fin 64) (w : InstrWord) (s : State) : Res :=
  scuBinary n w 0x0A 1 (fun x y => x.sshiftRight (y.toNat % 32)) s

/-- SADDI (R123): S[d] = S[a] + imm32. -/
def execSaddi (n : Fin 64) (w : InstrWord) (s : State) : Res :=
  s.issue n .scu w 0x0B fun c s =>
    c.legal (c.reservedOk [fD, fA, fImm32]) s
      (c.done s 1 1 [.sreg c.d (BitVec.ofNat 32 ((s.core n).S c.a + c.imm32))])

/-- ALI (R123): A[d] = imm64. -/
def execAli (n : Fin 64) (w : InstrWord) (s : State) : Res :=
  s.issue n .scu w 0x10 fun c s =>
    c.legal (c.reservedOk [fD, (21, 64)] && decide (c.d < 16)) s
      (c.done s 1 1 [.areg c.d (BitVec.ofNat 64 c.imm64)])

/-- AADD (R123): A[d] = A[a] + sign-extended S[b], modulo 2^64. -/
def execAadd (n : Fin 64) (w : InstrWord) (s : State) : Res :=
  s.issue n .scu w 0x11 fun c s =>
    let k := s.core n
    c.legal (c.reservedOk [fD, fA, fB] && decide (c.d < 16) && decide (c.a < 16)) s
      (c.done s 1 1 [.areg c.d (BitVec.ofNat 64 (k.A c.a) + BitVec.signExtend 64 (BitVec.ofNat 32 (k.S c.b)))])

/-- AADDI (R123): A[d] = A[a] + sign-extended imm32, modulo 2^64. -/
def execAaddi (n : Fin 64) (w : InstrWord) (s : State) : Res :=
  s.issue n .scu w 0x12 fun c s =>
    c.legal (c.reservedOk [fD, fA, fImm32] && decide (c.d < 16) && decide (c.a < 16)) s
      (c.done s 1 1 [.areg c.d
        (BitVec.ofNat 64 ((s.core n).A c.a) + BitVec.signExtend 64 (BitVec.ofNat 32 c.imm32))])

/-- AFROMS (R123): A[d] = S[a] + S[b] × 2^32. -/
def execAfroms (n : Fin 64) (w : InstrWord) (s : State) : Res :=
  s.issue n .scu w 0x13 fun c s =>
    let k := s.core n
    c.legal (c.reservedOk [fD, fA, fB] && decide (c.d < 16)) s
      (c.done s 1 1 [.areg c.d (BitVec.ofNat 64 (k.S c.a + k.S c.b * 2 ^ 32))])

/-- STOA (R123): S[d] and S[d + 1] take the halves of A[a]; d ≤ 30. -/
def execStoa (n : Fin 64) (w : InstrWord) (s : State) : Res :=
  s.issue n .scu w 0x14 fun c s =>
    let v := (s.core n).A c.a
    c.legal (c.reservedOk [fD, fA] && decide (c.d ≤ 30) && decide (c.a < 16)) s
      (c.done s 1 1 [.sreg c.d (BitVec.ofNat 32 v), .sreg (c.d + 1) (BitVec.ofNat 32 (v / 2 ^ 32))])

/-- The SRAM address of a scalar access (R115, R124, R534): reach before alignment, in the order of R116's table. -/
def State.scalarAddr (s : State) (c : Ctx) (size : Nat) : Except EngCause Nat :=
  match effAddr ((s.core c.n).A c.a) (s.stream c.n c.e).iter 0 (sext 32 c.imm32) with
  | .error x => .error x
  | .ok ea =>
    match s.sramReach c.p ea with
    | .error x => .error x
    | .ok a => if a % size = 0 then .ok a else .error .align

/-- A scalar load of `size` bytes; latency 12, or the bound of the other tile (R158, R188). -/
def scuLoad (n : Nat) (w : InstrWord) (op size : Nat) (mk : Nat → Nat → Effect) (s : State) : Res :=
  s.issue n .scu w op fun c s =>
    c.legal (c.reservedOk [fD, fA, fImm32] && decide (c.a < 16) && (size == 4 || decide (c.d < 16))) s
      (match s.scalarAddr c size with
       | .error x => c.fault s x
       | .ok a =>
         let r := s.sramRead (a / 64 * 64)
         if r.2.ok then
           c.done r.1 1 (readBound (tileOf n) (sramTile a)) [mk c.d (bits r.2.data.toNat (8 * (a % 64)) (8 * size))]
         else c.dataCheck r.1 r.2.poisoned)

/-- A scalar store of `size` bytes of a value: a partial-granule write at the home (R124, R213). -/
def scuStore (n : Nat) (w : InstrWord) (op size : Nat) (val : Core → Nat → Nat) (s : State) : Res :=
  s.issue n .scu w op fun c s =>
    c.legal (c.reservedOk [fB, fA, fImm32] && decide (c.a < 16) && (size == 4 || decide (c.b < 16))) s
      (match s.scalarAddr c size with
       | .error x => c.fault s x
       | .ok a => c.done s 1 (writeBound (tileOf n) (sramTile a)) [.writeBytes a (toLE size (val (s.core n) c.b))])

/-- SLD (R123, R124): S[d] = 4 bytes. -/
def execSld (n : Fin 64) (w : InstrWord) (s : State) : Res :=
  scuLoad n w 0x18 4 (fun d v => .sreg d (BitVec.ofNat 32 v)) s
/-- SST (R123, R124): 4 bytes = S[b]. -/
def execSst (n : Fin 64) (w : InstrWord) (s : State) : Res := scuStore n w 0x19 4 (fun k b => k.S b) s
/-- ALD (R123, R124): A[d] = 8 bytes. -/
def execAld (n : Fin 64) (w : InstrWord) (s : State) : Res :=
  scuLoad n w 0x1A 8 (fun d v => .areg d (BitVec.ofNat 64 v)) s
/-- AST (R123, R124): 8 bytes = A[b]. -/
def execAst (n : Fin 64) (w : InstrWord) (s : State) : Res := scuStore n w 0x1B 8 (fun k b => k.A b) s

/-- Continue at the instruction `imm` away from this one; the next issue is no earlier than 2 ticks after (R158, R534). -/
def Ctx.jump (c : Ctx) (s : State) (imm : Int) : State :=
  s.updStream c.n c.e fun st =>
    { st.issuedAt c.tick 2 with pc := ((st.pc : Int) + imm).toNat }.settle

/-- A branch condition (R123): EQ, NE, LT, GE, LTU, GEU; 6 and 7 are reserved. -/
def branchTaken (cond w a b : Nat) : Option Bool :=
  if cond = 0 then some (a == b) else if cond = 1 then some (a != b)
  else if cond = 2 then some (decide (sext w a < sext w b))
  else if cond = 3 then some (decide (sext w b ≤ sext w a))
  else if cond = 4 then some (decide (a < b))
  else if cond = 5 then some (decide (b ≤ a))
  else none

/-- BR (R123, R534). A conditional branch has no place in a scheduled stream (R120). -/
def execBr (n : Fin 64) (w : InstrWord) (s : State) : Res :=
  s.issue n .scu w 0x28 fun c s =>
    let k := s.core n
    match branchTaken (c.f 50 3) 32 (k.S c.a) (k.S c.b) with
    | none => c.fault s .illegalInstr
    | some taken =>
      c.legal (c.reservedOk [fA, fB, (53, 16), (50, 3)] && !c.sched) s
        (if taken then c.jump s (sext 16 (c.f 53 16)) else c.pass s 1)

/-- JMP (R123, R534). -/
def execJmp (n : Fin 64) (w : InstrWord) (s : State) : Res :=
  s.issue n .scu w 0x29 fun c s =>
    c.legal (c.reservedOk [(53, 16)]) s (c.jump s (sext 16 (c.f 53 16)))

/-- GTCRD (R123): A[d] = GTC at the issue tick. -/
def execGtcrd (n : Fin 64) (w : InstrWord) (s : State) : Res :=
  s.issue n .scu w 0x30 fun c s =>
    c.legal (c.reservedOk [fD] && decide (c.d < 16)) s (c.done s 1 1 [.areg c.d (BitVec.ofNat 64 c.tick)])

/-- LOOPIDX (R123): S[d] = iteration index of loop level a (0 innermost), 0 when there is none. -/
def execLoopidx (n : Fin 64) (w : InstrWord) (s : State) : Res :=
  s.issue n .scu w 0x31 fun c s =>
    let i := match (s.stream n .scu).loops[c.a]? with
      | some f => f.iter
      | none => 0
    c.legal (c.reservedOk [fD, fA]) s (c.done s 1 1 [.sreg c.d (BitVec.ofNat 32 i)])

/-- The four instructions of a granule. -/
def granWords (g : Gran) : List InstrWord := (List.range 4).map fun i => BitVec.ofNat 128 (bits g.toNat (128 * i) 128)

/-- Where a script instruction at index i can go on (R155, R157): a GEND or a word of another class nowhere, a GBR also past what it
skips. -/
def scriptNext (w : InstrWord) (i : Nat) : List Nat :=
  if classOf w ≠ 4 ∨ opcodeOf w = 0x0F then []
  else if opcodeOf w = 0x0A then [i + 1, i + 1 + bits w.toNat 87 4]
  else [i + 1]

/-- The indices a thread can come to, from index 0, by the instructions read so far. -/
def scriptReach (ws : List InstrWord) : List Nat :=
  (ws.zipIdx).foldl (fun acc q => if acc.contains q.2 then acc ++ scriptNext q.1 q.2 else acc) [0]

/-- Copy a script from SRAM (R152): granule after granule while a thread can come to an instruction beyond those read, at most 16
instructions; the script has no length field (DEDUCED, notes/assumptions/24.md). The flags are those of the operand reads (R463). -/
def State.readScript (s : State) (p a : Nat) : Nat → List InstrWord → State × List InstrWord × Bool × Bool
  | 0, ws => (s, ws, true, false)
  | n + 1, ws =>
    if (scriptReach ws).all fun i => decide (i < ws.length) then (s, ws, true, false)
    else
      match s.sramReach p a with
      | .error _ => (s, ws, true, false)
      | .ok x =>
        let r := s.sramRead x
        if r.2.ok then r.1.readScript p (a + 64) n (ws ++ granWords r.2.data) else (r.1, ws, false, r.2.poisoned)

/-- The launches a gather engine holds pending: those with threads not yet started (R152). -/
def Gather.pendingCount (g : Gather) : Nat := (g.launches.filter fun l => decide (l.started < l.nth)).length

/-- Whether an effect queues a launch on gather engine g. -/
def Effect.launches (g : Nat) : Effect → Bool
  | .launch x _ _ _ _ _ => x == g
  | .sreg _ _ | .areg _ _ | .vreg _ _ | .vhalf _ _ _ | .accRows _ _ _ | .accTag _ _ | .rowSums _ _ _ | .latch _ _
  | .semAdd _ _ | .semSub _ _ | .writeGran _ _ _ | .writeBytes _ _ | .chkFail _ _ _ => false

/-- The entries of a gather engine that are taken: pending launches, and those its tile's cores have issued and that are queued 2
ticks later (R152, R158). -/
def State.launchesTaken (s : State) (g : Nat) : Nat :=
  (s.gather g).pendingCount +
    ((List.range 4).flatMap fun i => (s.core (4 * (g / 2) + i)).pends.flatMap (·.effects)).countP (Effect.launches g)

/-- GLAUNCH (R152): queues a launch on a gather engine of the tile; the script is copied from SRAM now. -/
def execGlaunch (n : Fin 64) (w : InstrWord) (s : State) : Res :=
  let g := 2 * tileOf n + bits w.toNat 99 1
  let full := decide (16 ≤ s.launchesTaken g)
  if full && (s.stream n .scu).plane == .free then notEnabled "a free-plane GLAUNCH waits for a free entry (R152)"
  else
    s.issue n .scu w 0x38 fun c s =>
      let k := s.core n
      let script := k.A (c.f 95 4)
      let nth := k.S (c.f 86 5)
      c.legal (c.reservedOk [(99, 1), (95, 4), (91, 4), (86, 5), (80, 6), (79, 1)] &&
               decide (1 ≤ nth) && decide (nth ≤ 1280)) s
        (match s.sramReach c.p script with
         | .error x => c.fault s x
         | .ok a =>
           if a % 64 ≠ 0 then c.fault s .align
           else if full then c.fault s .queueFull
           else
             let r := s.readScript c.p a 4 []
             if ! r.2.2.1 then c.dataCheck r.1 r.2.2.2
             else
               let e : Effect := .launch g r.2.1 (k.A (c.f 91 4)) nth (c.f 80 6) (c.f 79 1 == 1)
               c.done r.1 1 2 [e])

end Sys2Proof.Machine
end

