-- ==== Sys2Proof/Machine/Hbm.lean ====
section
/-! DEFINITION. HBM channel controllers (07): queues (R253–R257), narrow requests and line buffers (R272, R273), refresh
(R259–R263), rewrites and scrubbing (R269), and the traffic generator (R279–R282). -/

namespace Sys2Proof.Machine

/-! ### Channels -/

/-- A channel's mode: 0 failed, 1 free, 2 scheduled, 3 test (R252). -/
def State.chanMode (s : State) (c : Nat) : Nat := s.rd F.MCH_STS_mode 0 c

/-- The pseudo-channel of a storage granule (R250). -/
def physPc (ph : Nat) : Nat := physLoc ph % 2

def Chan.wideq (d : Chan) (sched : Bool) (pc : Nat) : List WideReq :=
  if sched then (if pc = 0 then d.sched0 else d.sched1) else (if pc = 0 then d.wide0 else d.wide1)

def Chan.setWideq (d : Chan) (sched : Bool) (pc : Nat) (l : List WideReq) : Chan :=
  if sched then (if pc = 0 then { d with sched0 := l } else { d with sched1 := l })
  else (if pc = 0 then { d with wide0 := l } else { d with wide1 := l })

def Chan.narrowq (d : Chan) (pc : Nat) : List NarrowReq := if pc = 0 then d.narrow0 else d.narrow1

def Chan.setNarrowq (d : Chan) (pc : Nat) (l : List NarrowReq) : Chan :=
  if pc = 0 then { d with narrow0 := l } else { d with narrow1 := l }

def Chan.lines (d : Chan) (pc : Nat) : List LineBuf := if pc = 0 then d.lines0 else d.lines1

def Chan.setLines (d : Chan) (pc : Nat) (l : List LineBuf) : Chan :=
  if pc = 0 then { d with lines0 := l } else { d with lines1 := l }

/-- Whether an earlier request to a granule waits in any queue of its pseudo-channel (R257). -/
def Chan.earlier (d : Chan) (pc ph arr : Nat) : Bool :=
  let w (l : List WideReq) : Bool := l.any fun r => r.phys == ph && decide (r.arr < arr)
  w (d.wideq true pc) || w (d.wideq false pc) ||
    ((d.narrowq pc).any fun r => r.phys == ph && decide (r.arr < arr))

/-- Errors that a granule's storage has taken on: 512 data bits, then 128 side bits (DESIGN CHOICE, notes/assumptions/26.md). -/
def State.upset (s : State) (ph : Nat) (flip : BitVec 640) : State :=
  if flip = 0 then s
  else (s.putRaw (ph * 64) (s.rawGran (ph * 64) ^^^ BitVec.ofNat 512 flip.toNat)).setHbmSide ph
    (s.hbmSideOf ph ^^^ BitVec.ofNat 128 (flip.toNat / 2 ^ 512))

/-! ### Wide and scheduled requests -/

/-- The queue request for granule i of a transfer, when there is one to make: a read of an HBM source not yet asked for,
or the write of the next granule to an HBM destination once it has been read (R145). -/
def wideReqOf (s : State) (n p : Nat) (t : Transfer) (i : Nat) : Option (State × Transfer × WideReq) :=
  let mk (a ph : Nat) (w : Option (Gran × BitVec 16)) : WideReq :=
    { arr := 0, core := n, id := t.id, gran := i, part := p, addr := a / 64 * 64, phys := ph, write := w }
  match s.srcEnd p t i, tabGet heldDefault t.held i with
  | .hbm a ph, none =>
    if t.asked.contains i || decide (i < t.next) || t.fail.isSome || decide (t.total ≤ i) then none
    else some (s, { t with asked := t.asked ++ [i] }, mk a ph none)
  | _, some g =>
    if i ≠ t.next ∨ t.fail = some i then none
    else match s.dstEnd p t i with
      | .hbm a ph => some (s, { t with next := i + 1, held := tabDel t.held i, out := t.out + 1 }, mk a ph (some g))
      | .sram _ | .package _ _ | .far _ _ | .host _ _ _ | .none => none
  | .sram a, none =>
    if i ≠ t.next ∨ t.fail.isSome ∨ t.total ≤ i then none
    else match s.dstEnd p t i with
      | .hbm d ph =>
        let r := s.sramRead a
        if r.2.ok then
          some (r.1, { t with next := i + 1, out := t.out + 1 }, mk d ph (some (r.2.data, r.2.check)))
        else none
      | .sram _ | .package _ _ | .far _ _ | .host _ _ _ | .none => none
  | .package _ _, none => none
  | .far _ _, none => none
  | .host _ _ _, none => none
  | .none, none => none

/-- HBM_REQUEST (R253, R254, R256): granule i of a transfer reaches its channel controller. A scheduled request in a
free-mode channel raises HBM_BOUND and is queued as a wide one. -/
def execHbmRequest (n : Fin 64) (id i : Nat) (s : State) : Res :=
  let p := s.partOfCore n
  match (s.core n).transfer? id with
  | none => notEnabled "the DMX holds no such transfer (R147)"
  | some t0 =>
    if s.contained p then notEnabled "quarantine has stopped the transfer (R483)" else
    let m := ({ s := s, t := t0, stuck := false } : Mover).pump n p true t0.total
    match wideReqOf m.s n p m.t i with
    | none => notEnabled "granule i has no request to make now (R145)"
    | some (s, t, r) =>
      let c := physChan r.phys
      let pc := physPc r.phys
      let mode := s.chanMode c
      let isSched := t.plane == .sched
      let own : Bool := match (s.part p).freeze with
        | some f => f.isLocal
        | none => false
      let toSched := isSched && mode == 2
      if mode = 0 then notEnabled "the channel is not in service (R252)"
      else if isSched && own then notEnabled "the originator of a freeze sends no scheduled HBM request (R193)"
      else if !toSched && decide (64 ≤ ((s.chan c).wideq false pc).length) then
        notEnabled "the wide queue is full; the request waits (R253)"
      else
        let s := if isSched && mode == 1 then s.slipIfRunning p 0x06 else s
        let s := s.setTransfer n t
        .next (s.updChan c fun d =>
          let r := { r with arr := d.nextArr }
          { d.setWideq toSched pc (d.wideq toSched pc ++ [r]) with nextArr := d.nextArr + 1 })

/-- A wide or scheduled request is performed (R267, R268). -/
def State.wideDone (s : State) (r : WideReq) (isSched : Bool) : State :=
  match r.write with
  | some g =>
    let s := s.hbmWrite r.part r.addr r.phys g.1 g.2
    s.updCore r.core fun k => { k with
      transfers := updFirst (fun t => t.id == r.id) (fun t => { t with out := t.out - 1 }) k.transfers }
  | none =>
    let q := s.hbmRead r.part r.addr r.phys
    if q.2.ok then q.1.transferData r.core r.part r.id r.gran (some (q.2.data, q.2.check))
    else (q.1.dmxCheck r.core r.part isSched q.2.poisoned false).transferData r.core r.part r.id r.gran none

/-! ### Narrow requests (R272, R273) -/

/-- The bytes of an access within a granule, as a number. -/
def granPart (g : Gran) (addr size : Nat) : Nat := bits g.toNat (8 * (addr % 64)) (8 * size)

/-- Keep a granule in the line buffers of its pseudo-channel, the least recently used leaving (R273). -/
def State.bufferLine (s : State) (ph : Nat) (d : Delivered) : State :=
  let pc := physPc ph
  s.updChan (physChan ph) fun c =>
    c.setLines pc (({ phys := ph, data := d.data, check := d.check } :: (c.lines pc).filter fun b => b.phys != ph).take 16)

/-- The line buffer that holds a granule. -/
def State.lineOf (s : State) (ph : Nat) : Option LineBuf :=
  ((s.chan (physChan ph)).lines (physPc ph)).find? fun b => b.phys == ph

/-- A narrow read at the home (R272, R273): from a line buffer, or of the granule, which is then buffered. The flag says
whether the carried check held. -/
def State.narrowRead (s : State) (p addr size : Nat) : Option (State × Option Nat) :=
  match s.home p addr with
  | .sram a =>
    let r := s.sramRead (a / 64 * 64)
    some (r.1, if r.2.ok then some (granPart r.2.data a size) else none)
  | .hbm c l g _ =>
    let ph := hbmPhys c l g
    match s.lineOf ph with
    | some b =>
      let d : Delivered := { data := b.data, check := b.check, poisoned := false }
      some (s.bufferLine ph d, if d.ok then some (granPart b.data addr size) else none)
    | none =>
      let r := s.hbmRead p (addr / 64 * 64) ph
      let s := if r.2.poisoned then r.1 else r.1.bufferLine ph r.2
      some (s, if r.2.ok then some (granPart r.2.data addr size) else none)
  | .window _ => none
  | .nowhere => none

/-- A narrow store at the home (R156, R213): a whole granule with a new check, or one read-modify-write. -/
def State.narrowWrite (s : State) (p addr : Nat) (bs : List Byte) : Option (State × Bool) :=
  if bs.length = 64 then
    let g : Gran := BitVec.ofNat 512 (ofLE bs)
    (s.writeGran p addr g (granCheck g)).map fun s => (s, true)
  else s.writePart p addr bs

/-- Perform a narrow operation at its home and say what came of it (R155, R229, R230). -/
def State.narrowOp (s : State) (p addr size : Nat) (op : NarrowOp) : State × Answer :=
  let bad : State × Answer := (s, .failed .addrRange)
  match op with
  | .load _ _ | .loadReg _ =>
    match s.narrowRead p addr size with
    | none => bad
    | some (s, some v) => (s, .value v)
    | some (s, none) => (s, .failed .dataCheck)
  | .store bs =>
    match s.narrowWrite p addr bs with
    | none => bad
    | some (s, true) => (s, .value 0)
    | some (s, false) => (s, .failed .dataCheck)
  | .atomic op w8 v c _ =>
    match s.atomic p addr op w8 v c with
    | none => bad
    | some (s, some old) => (s, .value old)
    | some (s, none) => (s, .failed .dataCheck)

/-- Give a thread's outstanding access its answer. -/
def State.answerThread (s : State) (g l t : Nat) (a : Answer) : State :=
  if s.contained (s.partOfTile (g / 2)) then s else s.updGather g fun x => { x with
    threads := updFirst (fun h => h.launch == l && h.index == t)
      (fun h => { h with access := h.access.map fun n => { n with answer := some a } }) x.threads }

/-- NARROW_REQUEST (R272, R273): a thread's access to HBM reaches its narrow queue; a read of a buffered granule is
answered at once. -/
def execNarrowRequest (g : Fin 32) (l t : Nat) (s : State) : Res :=
  let p := s.partOfTile (g / 2)
  match (s.gather g).threads.find? fun h => h.launch == l && h.index == t with
  | none => notEnabled "no such thread runs (R153)"
  | some h =>
    match h.access with
    | none => notEnabled "the thread has no access outstanding (R154)"
    | some a =>
      if a.away || s.contained p then notEnabled "the access is already on its way (R154), or quarantine has stopped it (R483)"
      else
        match s.target p a.addr with
        | .here ad =>
          match s.home p ad with
          | .hbm c loc k _ =>
            let ph := hbmPhys c loc k
            let pc := physPc ph
            let isLoad : Bool := match a.op with
              | .load _ _ => true
              | .loadReg _ => true
              | .store _ => false
              | .atomic _ _ _ _ _ => false
            let away (s : State) : State := s.updGather g fun x => { x with
              threads := updFirst (fun h => h.launch == l && h.index == t)
                (fun h => { h with access := some { a with away := true } }) x.threads }
            if isLoad && (s.lineOf ph).isSome && s.chanMode c != 3 && s.chanMode c != 0 &&
                !((s.chan c).earlier pc ph (s.chan c).nextArr) then
              let r := (away s).narrowOp p ad a.size a.op
              .next (r.1.answerThread g l t r.2)
            else if s.chanMode c = 0 then notEnabled "the channel is not in service (R252)"
            else if 64 ≤ ((s.chan c).narrowq pc).length then notEnabled "the narrow queue is full; the request waits (R275)"
            else
              .next ((away s).updChan c fun d =>
                let r : NarrowReq := { arr := d.nextArr, gx := g, launch := l, index := t, part := p, addr := ad, phys := ph,
                                       size := a.size, op := a.op }
                { d.setNarrowq pc (d.narrowq pc ++ [r]) with nextArr := d.nextArr + 1 })
          | .sram _ | .window _ | .nowhere => notEnabled "the access is not to HBM (R272)"
        | .package _ _ | .far _ _ | .bad => notEnabled "the access is not to this package (R272)"

/-- HBM_ACCESS_DONE (R267, R268, R272): the k-th request of a queue is performed; the scheduled queue is served in
arrival order (R254), requests to one granule in the order they arrived (R257). `flip` are the errors the storage has
taken on since it was last written. -/
def execHbmAccessDone (c : Fin 640) (pc : Fin 2) (q : HbmQueue) (k : Nat) (flip : BitVec 640) (s : State) : Res :=
  let d := s.chan c
  if s.chanMode c = 3 then notEnabled "the channel is under test; the request waits (R279)"
  else
    match q with
    | .sched | .wide =>
      let isSched := q == .sched
      match (d.wideq isSched pc)[k]? with
      | none => notEnabled "no such request is queued (R253)"
      | some r =>
        if (isSched && k != 0) || d.earlier pc r.phys r.arr then notEnabled "an earlier request goes first (R254, R257)"
        else
          let s := s.updChan c fun d => d.setWideq isSched pc (removeAt (d.wideq isSched pc) k)
          .next ((s.upset r.phys flip).wideDone r isSched)
    | .narrow =>
      match (d.narrowq pc)[k]? with
      | none => notEnabled "no such request is queued (R272)"
      | some r =>
        if d.earlier pc r.phys r.arr then notEnabled "an earlier request goes first (R257)"
        else
          let s := s.updChan c fun d => d.setNarrowq pc (removeAt (d.narrowq pc) k)
          let x := (s.upset r.phys flip).narrowOp r.part r.addr r.size r.op
          .next (x.1.answerThread r.gx r.launch r.index x.2)

/-- HBM_BOUND (R188, R255): a scheduled HBM result passes its bound. -/
def execHbmBound (c : Fin 640) (s : State) : Res :=
  let p := s.partOfChan c
  guarded (s.running p) "no scheduled request outside RUNNING (R188)"
    ((s.flag F.MCH_EVT_bound_miss F.MCH_EVT_CNT_miss_cnt 0 c).slip p 0x06)

/-! ### Rewrites and scrubbing (R269) -/

/-- Read, correct and write a granule in one step; carried checks and flags keep their stored copies. -/
def State.hbmRewrite (s : State) (ph : Nat) : State :=
  match s.hbmDecode ph with
  | none => s
  | some (g, _) =>
    let sym := ofLE (toBytes (rsEncode (ofBytes (toLE 64 g.toNat))))
    let side := (s.hbmSideOf ph).toNat
    (s.putRaw (ph * 64) g).setHbmSide ph (BitVec.ofNat 128 (putBits side 0 64 sym))

/-- HBM_REWRITE (R269): the oldest queued rewrite of a channel is performed. -/
def execHbmRewrite (c : Fin 640) (s : State) : Res :=
  match (s.chan c).rewrites with
  | [] => notEnabled "no rewrite is queued (R269)"
  | ph :: t =>
    if s.chanMode c = 3 then notEnabled "the channel is under test; the rewrite waits (R279)"
    else .next ((s.updChan c fun d => { d with rewrites := t }).hbmRewrite ph)

/-- SCRUB_READ (R269): the scrubber reads a granule, rewrites it when a symbol was corrected, and poisons it in place when
it is uncorrectable. `last` says that this read completes a pass over every channel. -/
def execScrubRead (c : Fin 640) (loc : Nat) (g : Fin 4) (flip : BitVec 640) (last : Bool) (s : State) : Res :=
  let p := s.partOfChan c
  if ! s.rdB F.MEM_CTL_scrub_en p then notEnabled "the scrubber is off (R269)"
  else if s.chanMode c = 0 ∨ s.chanMode c = 3 ∨ chanLocs ≤ loc then notEnabled "the channel is not in service, or is under test (R269)"
  else
    let ph := hbmPhys c loc g
    let s := s.upset ph flip
    let s := match s.hbmDecode ph with
      | some (_, k) => if k = 0 then s else (s.hbmCe p ph k).hbmRewrite ph
      | none =>
        let side := (s.hbmSideOf ph).toNat
        let s := s.updChan c fun x => { x with
          lines0 := x.lines0.filter fun b => b.phys != ph, lines1 := x.lines1.filter fun b => b.phys != ph }
        (s.setHbmSide ph (BitVec.ofNat 128 (side ||| 2 ^ 72 ||| 2 ^ 104))).hbmUe p ph 0
    .next (if last then s.flag F.MEM_EVT_scrub_pass F.MEM_EVT_CNT_scrub_cnt p else s)

/-- INNER_CE_READ (R264): Mafin reads a stack's inner-code correction counts, one for each channel. -/
def execInnerCeRead (k : Fin 20) (counts : List (BitVec 32)) (s : State) : Res :=
  guarded (counts.length = 32) "a stack reports 32 channels (R241, R264)"
    ((counts.zipIdx).foldl (fun a x => a.wr F.MCH_CE_CNT_inner_cnt x.1.toNat 0 (32 * k + x.2)) s)

/-! ### Refresh (R259–R263) -/

/-- MCLK cycles in a number of ticks (R260): an MCLK cycle is eight ROOT cycles, a tick four or five. -/
def State.mclkOf (s : State) (ticks : Nat) : Nat := if s.slow then ticks * 5 / 8 else ticks / 2

/-- A bank (16 × pc + 4 × bg + ba) is refreshed now; max_gap follows. -/
def State.refreshBank (s : State) (p c bank : Nat) : State :=
  let now := (s.part p).gtc
  let gap := s.mclkOf (now - tabGet (fun _ => (0 : Nat)) (s.chan c).lastRef bank)
  let s := s.wr F.MCH_STS_max_gap (max (s.rd F.MCH_STS_max_gap 0 c) (min gap 65535)) 0 c
  s.updChan c fun d => { d with lastRef := tabSet (fun _ => (0 : Nat)) d.lastRef bank now }

/-- The REFRESH section of a channel in the loaded image. -/
def State.refreshSec (s : State) (p c : Nat) : Option RefreshSec :=
  match (s.part p).image with
  | some img => img.refresh.find? fun r => r.chan == c
  | none => none

/-- Whether a scheduled channel keeps to its listed slots (R259, R262, R263). -/
def State.listedRefresh (s : State) (p c : Nat) : Bool :=
  let frozen : Bool := match (s.part p).freeze with
    | some f => f.frozen
    | none => false
  s.chanMode c == 2 && s.running p && !frozen && !(s.chan c).ceiling

/-- REFRESH_SLOT (R260, R262): a listed slot refreshes its bank. -/
def execRefreshSlot (c : Fin 640) (i : Nat) (s : State) : Res :=
  let p := s.partOfChan c
  match (s.refreshSec p c).bind fun r => r.slots[i]? with
  | none => notEnabled "the image lists no such refresh slot (R260)"
  | some (_, pc, bank) =>
    guarded (s.listedRefresh p c) "the channel does not keep to listed slots now (R259)" (s.refreshBank p c (16 * pc + bank))

/-- AUTONOMOUS_REFRESH (R259): the controller refreshes a bank by itself. -/
def execAutonomousRefresh (c : Fin 640) (bank : Fin 32) (s : State) : Res :=
  let p := s.partOfChan c
  guarded (s.chanMode c != 0 && !s.listedRefresh p c) "the channel refreshes only in listed slots now (R259)"
    (s.refreshBank p c bank)

/-- PRE_RUN_REFRESH (R262): before T(0) every bank of a scheduled channel is refreshed once. -/
def execPreRunRefresh (c : Fin 640) (s : State) : Res :=
  let p := s.partOfChan c
  guarded (s.chanMode c == 2 && (s.part p).state == .armed && (s.part p).t0.isSome)
    "no run is about to start on a scheduled channel (R262)"
    ((List.range 32).foldl (fun a b => a.refreshBank p c b) s)

/-- STACK_TEMP_SAMPLE (R263): a stack's temperature in °C. Above the ceiling of a scheduled channel of the stack while
RUNNING: ceiling, a THERMAL record and a slip of cause HBM_BOUND. -/
def execStackTempSample (k : Fin 20) (temp : BitVec 8) (s : State) : Res :=
  let p := s.partOfHalf (k / 10)
  let t := temp.toNat
  let s := s.wr F.MST_STS_temp t 0 k
  let s := s.wr F.MST_STS_temp_max (max t (s.rd F.MST_STS_temp_max 0 k)) 0 k
  let s := s.wr F.MST_STS_hot (b2n (decide (85 < t))) 0 k
  let passed := (List.range 32).filter fun c =>
    s.listedRefresh p (32 * k + c) &&
      (match s.refreshSec p (32 * k + c) with
       | some r => decide ((if r.hot then 95 else 85) < t)
       | none => false)
  if passed.isEmpty then .next s
  else
    let s := s.flag F.MEM_EVT_ceiling F.MEM_EVT_CNT_ceiling_cnt p
    let s := s.record p 6 2 k (info0 := (s.reg .MST_STS 0 k).toNat)
    let s := passed.foldl (fun a c => a.updChan (32 * k + c) fun d => { d with ceiling := true }) s
    .next (s.slip p 0x06)

/-! ### Traffic generator (R279–R282) -/

/-- Word i of granule g at a location for a pattern (R280). -/
def mtgWord (pat seed loc g i : Nat) : Nat :=
  let pc := loc % 2
  let one := 2 ^ ((loc + 8 * g + i) % 64)
  let all := 2 ^ 64 - 1
  if pat = 0 then genG seed (loc * 8 + pc * 4 + g) i
  else if pat = 1 then one
  else if pat = 2 then all - one
  else if pat = 3 then (if (loc + i) % 2 = 0 then 0x5555555555555555 else 0xAAAAAAAAAAAAAAAA)
  else if pat = 4 then (loc * 256 + pc * 128 + g * 32 + i) % 2 ^ 64
  else if pat = 5 then 0
  else all

/-- The 640 bits the generator holds for a granule: words w0–w9, complemented in the second half of a march. -/
def mtgImage (m : Mtg) (flipped : Bool) (loc g : Nat) : Nat :=
  let v := packElems 64 ((List.range 10).map fun i => mtgWord (bits m.ctl 2 3) m.seed loc g i)
  if flipped then 2 ^ 640 - 1 - v else v

/-- What a step does at a granule: verify against an image, write an image. -/
structure MtgStep where
  loc : Nat
  g : Nat
  check : Option Bool
  put : Option Bool

/-- The steps of an operation in order (R281). -/
def Mtg.steps (m : Mtg) : List MtgStep :=
  let first := bits m.limit 0 24
  let last := bits m.limit 24 24
  let locs := (span first (last + 1 - first)).filter fun l => (bits m.ctl 8 2).testBit (l % 2)
  let up := locs.flatMap fun l => (List.range 4).map fun g => (l, g)
  let go (l : List (Nat × Nat)) (check put : Option Bool) : List MtgStep :=
    l.map fun x => { loc := x.1, g := x.2, check := check, put := put }
  let op := bits m.ctl 5 2
  if op = 0 then go up none (some false)
  else if op = 1 then go up (some false) none
  else if op = 2 then go up none (some false) ++ go up (some false) none
  else go up none (some false) ++ go up (some false) (some true) ++ go up.reverse (some true) (some false) ++
    go up (some false) none

/-- Compare a granule with what the generator expects (R281, R282): each differing granule adds 1 to errors, the first
is latched. Without raw, the check symbols count as far as the code corrects them. -/
def State.mtgCheck (s : State) (c : Nat) (m : Mtg) (flipped : Bool) (loc g : Nat) : State :=
  let ph := hbmPhys c loc g
  let raw := bits m.ctl 7 1 == 1
  let want := mtgImage m flipped loc g
  let stored := (s.rawGran (ph * 64)).toNat + (s.hbmSideOf ph).toNat * 2 ^ 512
  let dec := s.hbmDecode ph
  let s := match dec with
    | some (_, k) => if raw then s else s.count F.MCH_CE_CNT_sym_cnt k 0 c
    | none => s
  let diff :=
    if raw then stored ^^^ want
    else
      let data := bits want 0 512
      let full := data + (sideField (BitVec.ofNat 512 data) (granCheck (BitVec.ofNat 512 data)).toNat 0).toNat * 2 ^ 512
      match dec with
      | some (x, _) => (x.toNat ^^^ data) + bits (stored ^^^ full) 576 64 * 2 ^ 576
      | none => stored ^^^ full
  if diff = 0 then s
  else
    let s := if s.rdB F.MTG_STS_fail 0 c then s
      else
        let bit := ((List.range 640).find? fun i => diff.testBit i).getD 0
        s.setReg .MTG_ERR (BitVec.ofNat 64 (loc + loc % 2 * 2 ^ 24 + g * 2 ^ 25 + bit * 2 ^ 27)) 0 c
    (s.wr F.MTG_STS_fail 1 0 c).countSat F.MTG_STS_errors 1 0 c

/-- Write the generator's image (R282). Tests write by raw location, without the hash and without inline encryption
(DESIGN CHOICE, notes/assumptions/28.md). -/
def State.mtgWrite (s : State) (c : Nat) (m : Mtg) (flipped : Bool) (loc g : Nat) : State :=
  let ph := hbmPhys c loc g
  let v := mtgImage m flipped loc g
  let d : Gran := BitVec.ofNat 512 v
  let side := if bits m.ctl 7 1 = 1 then BitVec.ofNat 128 (v / 2 ^ 512) else sideField d (granCheck d).toNat 0
  let s := (s.putRaw (ph * 64) d).setHbmSide ph side
  let s := { s with hbmUsed := tabSet usedDefault s.hbmUsed ph false }
  s.updChan c fun x => { x with
    lines0 := x.lines0.filter fun b => b.phys != ph, lines1 := x.lines1.filter fun b => b.phys != ph }

def State.mtgStep (c : Nat) (m : Mtg) (s : State) (x : MtgStep) : State :=
  let s := match x.check with
    | some f => s.mtgCheck c m f x.loc x.g
    | none => s
  match x.put with
  | some f => s.mtgWrite c m f x.loc x.g
  | none => s

/-- A write to MTG_CTL: its RW fields, then start and stop (R279, R281). A start while the generator runs is ignored
(DESIGN CHOICE, notes/assumptions/28.md). -/
def State.mtgCtl (s : State) (c : Nat) (v : Word) : State :=
  let p := s.partOfChan c
  let s := s.setReg .MTG_CTL (BitVec.ofNat 64 (bits v.toNat 2 9 * 4)) 0 c
  if bits v.toNat 0 1 = 0 ∨ (s.chan c).mtg.isSome then s
  else if ((s.part p).state != .booting && (s.part p).state != .idle) || bits v.toNat 2 3 == 7 then
    s.wr F.MTG_STS_refused 1 0 c
  else
    let m : Mtg := { ctl := bits v.toNat 2 9 * 4, limit := (s.reg .MTG_LIMIT 0 c).toNat, seed := (s.reg .MTG_SEED 0 c).toNat,
                     mode := s.chanMode c }
    let s := s.setReg .MTG_STS 1 0 c
    let s := s.wr F.MCH_STS_mode 3 0 c
    s.updChan c fun d => { d with mtg := some m }

/-- The test ends: the channel returns to its mode. -/
def State.mtgEnd (s : State) (c : Nat) (m : Mtg) : State :=
  let s := (s.wr F.MTG_STS_busy 0 0 c).wr F.MCH_STS_mode m.mode 0 c
  s.updChan c fun d => { d with mtg := none }

/-- MTG_START (R279): a write to MTG_CTL with start set. -/
def execMtgStart (c : Fin 640) (v : Word) (s : State) : Res :=
  guarded (bits v.toNat 0 1 == 1) "the write has no start bit (R279)" (s.mtgCtl c v)

/-- MTG_STOP (R281): a stop write takes effect at the end of the current granule, `steps` granules into the operation. -/
def execMtgStop (c : Fin 640) (steps : Nat) (s : State) : Res :=
  match (s.chan c).mtg with
  | none => .next s
  | some m => .next (((m.steps.take steps).foldl (State.mtgStep c m) s).mtgEnd c m)

/-- MTG_DONE (R281): the operation completes; with loop set the next pass begins. -/
def execMtgDone (c : Fin 640) (s : State) : Res :=
  match (s.chan c).mtg with
  | none => notEnabled "the generator is not running (R281)"
  | some m =>
    let s := m.steps.foldl (State.mtgStep c m) s
    let s := s.countSat F.MTG_STS_passes 1 0 c
    if bits m.ctl 10 1 = 1 then .next s else .next ((s.wr F.MTG_STS_done 1 0 c).mtgEnd c m)

end Sys2Proof.Machine
end

