-- ==== Sys2Proof/Machine/Gather.lean ====
section
/-! DEFINITION. Gather engines (04 R152–R157): starting threads, script instructions, narrow accesses and their answers,
and the end of threads and launches (R210, R217). -/

namespace Sys2Proof.Machine

/-- A thread of a gather engine. -/
def State.thread? (s : State) (g l t : Nat) : Option Thread :=
  (s.gather g).threads.find? fun h => h.launch == l && h.index == t

def State.updThread (s : State) (g l t : Nat) (f : Thread → Thread) : State :=
  s.updGather g fun x => { x with threads := updFirst (fun h => h.launch == l && h.index == t) f x.threads }

/-- The partition a gather engine belongs to. -/
def State.partOfGather (s : State) (g : Nat) : Nat := s.partOfTile (g / 2)

/-- A thread ends. When it is the last of its launch, the launch leaves and its semaphore is signalled, unless one of its
threads failed (R153, R157, R217). -/
def State.endThread (s : State) (g l t : Nat) (failed : Bool) : State :=
  let s := s.updGather g fun x => { x with
    threads := x.threads.filter fun h => !(h.launch == l && h.index == t)
    launches := updFirst (fun y => y.id == l) (fun y => { y with ended := y.ended + 1, failed := y.failed || failed }) x.launches }
  match (s.gather g).launches.find? fun y => y.id == l with
  | none => s
  | some y =>
    if y.ended < y.nth then s
    else
      let s := s.updGather g fun x => { x with launches := x.launches.filter fun z => z.id != l }
      if y.semEn && !y.failed then s.signal y.core y.sem 1 else s

/-- A thread's access fails (R157): the thread ends, thread_err is set and GXE_ERR records address, cause and index. -/
def State.threadErr (s : State) (g l t addr : Nat) (cause : EngCause) : State :=
  let p := s.partOfGather g
  let s := s.flag F.GXE_EVT_thread_err F.GXE_EVT_err_cnt 0 g
  let v := addr % 2 ^ 41 + cause.code * 2 ^ 41 + t * 2 ^ 45
  let s := s.setReg .GXE_ERR (BitVec.ofNat 64 v) 0 g
  let s := if cause = .dataCheck then s.checkRecord p 3 g (16 + g / 2) (s.eid p (64 + g)) addr else s
  let s := s.record p 1 6 g (die := 16 + g / 2) (eid := s.eid p (64 + g)) (addr := addr) (info0 := v)
  s.endThread g l t true

/-- A thread goes on at script index `pc`; past the last instruction it ends as by GEND (R155). -/
def State.threadAt (s : State) (g l t pc : Nat) : State :=
  let len := match (s.gather g).launches.find? fun y => y.id == l with
    | some y => y.script.length
    | none => 0
  let s := s.updThread g l t fun h => { h with pc := pc, access := none }
  if pc < len then s else s.endThread g l t false

def wordDefault : Nat → BitVec 64 := fun _ => 0

/-- A thread's register T[i] (R153). -/
def Thread.T (h : Thread) (i : Nat) : Nat := (tabGet wordDefault h.regs i).toNat

/-- Threads that run at once at most (R153). -/
def maxThreads : Nat := 1280

/-- GATHER_THREAD_START (R153): the next thread of the oldest launch with threads left starts; T0 is its index, T1 its
argument entry. -/
def execGatherThreadStart (g : Fin 32) (s : State) : Res :=
  let x := s.gather g
  let p := s.partOfGather g
  match x.launches.find? fun y => decide (y.started < y.nth) with
  | none => notEnabled "no launch has a thread to start (R153)"
  | some y =>
    if maxThreads ≤ x.threads.length then notEnabled "every thread is in use (R153)"
    else if s.contained p || (s.held.contains (g / 2) && y.started == 0) then
      notEnabled "the tile is held and starts no launch (R479), or quarantine has stopped it (R483)"
    else
      let t := y.started
      let h : Thread := { launch := y.id, index := t, regs := tabSet wordDefault [] 0 (BitVec.ofNat 64 t), buf := 0, pc := 0,
                          access := none }
      let s := s.updGather g fun x => { x with
        threads := x.threads ++ [h]
        launches := updFirst (fun z => z.id == y.id) (fun z => { z with started := z.started + 1 }) x.launches }
      let ea := y.args + 8 * t
      let fail (s : State) (c : EngCause) : Res := .next (s.threadErr g y.id t ea c)
      if ea % 8 ≠ 0 then fail s .align
      else
        match s.target p ea with
        | .here a =>
          match s.narrowRead p a 8 with
          | none => fail s .addrRange
          | some (s, none) => fail s .dataCheck
          | some (s, some v) =>
            let s := s.updThread g y.id t fun h => { h with regs := tabSet wordDefault h.regs 1 (BitVec.ofNat 64 v) }
            .next (s.threadAt g y.id t 0)
        | .package _ _ => fail s .addrRange
        | .far _ _ => fail s .addrRange
        | .bad => fail s .addrRange

/-! ### Script instructions (R155) -/

/-- A script instruction as it issues. -/
structure GCtx where
  g : Nat
  p : Nat
  l : Nat
  t : Nat
  h : Thread
  w : Nat

def GCtx.f (c : GCtx) (lo w : Nat) : Nat := bits c.w lo w
def GCtx.imm (c : GCtx) : Int := sext 32 (c.f 57 32)

/-- The thread's next instruction, when it may issue: it has no access outstanding (R154). -/
def State.script (s : State) (g l t : Nat) (w : InstrWord) (k : GCtx → Res) : Res :=
  match s.thread? g l t with
  | none => notEnabled "no such thread runs (R153)"
  | some h =>
    match ((s.gather g).launches.find? fun y => y.id == l).bind fun y => y.script[h.pc]? with
    | none => notEnabled "the script has no such instruction (R155)"
    | some x =>
      if x ≠ w ∨ h.access.isSome ∨ s.contained (s.partOfGather g) then notEnabled "not the thread's next instruction, or an access is outstanding (R154)"
      else k { g := g, p := s.partOfGather g, l := l, t := t, h := h, w := w.toNat }

/-- A script instruction of opcode `op` with its fields; reserved bits end the thread with ILLEGAL_INSTR (R8, R157). -/
def State.scriptOp (s : State) (g l t : Nat) (w : InstrWord) (op : Nat) (used : List (Nat × Nat)) (body : GCtx → State) : Res :=
  s.script g l t w fun c =>
    if classOf w ≠ 4 ∨ opcodeOf w ≠ op then notEnabled "the word is another instruction (R110)"
    else if clearFields (c.w % 2 ^ 100) used ≠ 0 then .next (s.threadErr g l t 0 .illegalInstr)
    else .next (body c)

/-- The thread goes on with T[d] set. -/
def GCtx.setT (c : GCtx) (s : State) (d v : Nat) : State :=
  (s.updThread c.g c.l c.t fun h => { h with regs := tabSet wordDefault h.regs d (BitVec.ofNat 64 v) }).threadAt c.g c.l c.t (c.h.pc + 1)

/-- The request that carries a narrow operation to another package (R356); data is the low bytes of one granule. -/
def narrowPacket (srcEid addr size : Nat) (op : NarrowOp) : Packet :=
  let k : Packet := { emptyPacket with srcEid := srcEid, addr := addr, bytes := size }
  match op with
  | .load _ _ | .loadReg _ => { k with op := 1 }
  | .store bs =>
    let g : Gran := BitVec.ofNat 512 (ofLE bs)
    { k with op := 2, granules := 1, data := [(g, granCheck g)] }
  | .atomic op w8 v c _ => { k with op := 3, bytes := 0, aop := op + 4 * b2n w8, opv := v, opc := c }

/-- A narrow access issues (R154, R155): it fails at once for its address or alignment, leaves for another package, or
waits for the memory of this package to answer. -/
def GCtx.issue (c : GCtx) (s : State) (ea size : Nat) (op : NarrowOp) : State :=
  if ea % size ≠ 0 then s.threadErr c.g c.l c.t ea .align
  else
    let hold (s : State) (away : Bool) : State := s.updThread c.g c.l c.t fun h => { h with
      access := some { addr := ea, size := size, op := op, away := away, answer := none, issued := (s.part c.p).gtc } }
    let who : Waiter := .thread c.g c.l c.t
    let isLoad : Bool := match op with
      | .load _ _ => true
      | .loadReg _ => true
      | .store _ => false
      | .atomic _ _ _ _ _ => false
    let src := s.eid c.p (64 + c.g)
    match s.target c.p ea with
    | .bad => s.threadErr c.g c.l c.t ea .addrRange
    | .here a =>
      match s.home c.p a with
      | .sram _ | .hbm _ _ _ _ => hold s false
      | .window _ | .nowhere => s.threadErr c.g c.l c.t ea .addrRange
    | .package px a =>
      if ! s.reachable c.p px then (s.unreachable c.p).threadErr c.g c.l c.t ea .addrRange
      else
        let k := narrowPacket src (globalAddr px a) size op
        if isLoad then (hold s true).sendLoad c.p px k who else (hold s true).sendAwait c.p px k who
    | .far f a => (hold s true).sendFar c.p f (narrowPacket src a size op) who

/-- The effective address T[ta] + imm32, modulo 2^64 (DEDUCED, notes/assumptions/24.md). -/
def GCtx.ea (c : GCtx) (ta : Nat) : Nat := wrapNat 64 (c.h.T ta + c.imm)

/-- GLD (R155): 8 to 64 bytes of memory into the buffer. -/
def execGld (g : Fin 32) (l t : Nat) (w : InstrWord) (s : State) : Res :=
  s.scriptOp g l t w 0x01 [(97, 3), (95, 2), (89, 6), (57, 32)] fun c =>
    let size := 8 * 2 ^ c.f 95 2
    let boff := c.f 89 6
    if boff % size ≠ 0 then s.threadErr g l t (c.ea (c.f 97 3)) .align
    else c.issue s (c.ea (c.f 97 3)) size (.load boff size)

/-- GLDR (R155): T[td] = 8 bytes of memory. -/
def execGldr (g : Fin 32) (l t : Nat) (w : InstrWord) (s : State) : Res :=
  s.scriptOp g l t w 0x02 [(97, 3), (94, 3), (57, 32)] fun c => c.issue s (c.ea (c.f 94 3)) 8 (.loadReg (c.f 97 3))

/-- GST (R155): memory = 8 to 64 bytes of the buffer. -/
def execGst (g : Fin 32) (l t : Nat) (w : InstrWord) (s : State) : Res :=
  s.scriptOp g l t w 0x03 [(97, 3), (95, 2), (89, 6), (57, 32)] fun c =>
    let size := 8 * 2 ^ c.f 95 2
    let boff := c.f 89 6
    if boff % size ≠ 0 then s.threadErr g l t (c.ea (c.f 97 3)) .align
    else c.issue s (c.ea (c.f 97 3)) size (.store (granBytes c.h.buf boff size))

/-- GADD (R155). -/
def execGadd (g : Fin 32) (l t : Nat) (w : InstrWord) (s : State) : Res :=
  s.scriptOp g l t w 0x04 [(97, 3), (94, 3), (91, 3)] fun c => c.setT s (c.f 97 3) (c.h.T (c.f 94 3) + c.h.T (c.f 91 3))

/-- GADDI (R155): T[ta] + sign-extended imm32. -/
def execGaddi (g : Fin 32) (l t : Nat) (w : InstrWord) (s : State) : Res :=
  s.scriptOp g l t w 0x05 [(97, 3), (94, 3), (57, 32)] fun c => c.setT s (c.f 97 3) (wrapNat 64 (c.h.T (c.f 94 3) + c.imm))

/-- GMULI (R155): the low 64 bits of T[ta] × sign-extended imm32. -/
def execGmuli (g : Fin 32) (l t : Nat) (w : InstrWord) (s : State) : Res :=
  s.scriptOp g l t w 0x06 [(97, 3), (94, 3), (57, 32)] fun c => c.setT s (c.f 97 3) (wrapNat 64 (c.h.T (c.f 94 3) * c.imm))

/-- GSHR (R155): logical right shift. -/
def execGshr (g : Fin 32) (l t : Nat) (w : InstrWord) (s : State) : Res :=
  s.scriptOp g l t w 0x07 [(97, 3), (94, 3), (88, 6)] fun c => c.setT s (c.f 97 3) (c.h.T (c.f 94 3) / 2 ^ c.f 88 6)

/-- GANDI (R155): T[ta] AND zero-extended imm32. -/
def execGandi (g : Fin 32) (l t : Nat) (w : InstrWord) (s : State) : Res :=
  s.scriptOp g l t w 0x08 [(97, 3), (94, 3), (57, 32)] fun c => c.setT s (c.f 97 3) (c.h.T (c.f 94 3) &&& c.f 57 32)

/-- GATOM (R155, R229): an atomic at the home of T[ta]; T[td] takes the old value. -/
def execGatom (g : Fin 32) (l t : Nat) (w : InstrWord) (s : State) : Res :=
  s.scriptOp g l t w 0x09 [(97, 3), (95, 2), (94, 1), (91, 3), (88, 3), (85, 3)] fun c =>
    let w8 := c.f 94 1 == 1
    c.issue s (c.h.T (c.f 97 3)) (if w8 then 8 else 4)
      (.atomic (c.f 95 2) w8 (c.h.T (c.f 91 3)) (c.h.T (c.f 88 3)) (c.f 85 3))

/-- GBR (R155): skip forward when T[ta] cond T[tb]. -/
def execGbr (g : Fin 32) (l t : Nat) (w : InstrWord) (s : State) : Res :=
  s.scriptOp g l t w 0x0A [(97, 3), (94, 3), (91, 3), (87, 4)] fun c =>
    match branchTaken (c.f 91 3) 64 (c.h.T (c.f 97 3)) (c.h.T (c.f 94 3)) with
    | none => s.threadErr g l t 0 .illegalInstr
    | some taken =>
      if c.f 87 4 = 0 then s.threadErr g l t 0 .illegalInstr
      else s.threadAt g l t (c.h.pc + 1 + (if taken then c.f 87 4 else 0))

/-- GEND (R155): the thread ends. -/
def execGend (g : Fin 32) (l t : Nat) (w : InstrWord) (s : State) : Res :=
  s.scriptOp g l t w 0x0F [] fun _ => s.endThread g l t false

/-- The opcodes of class 0x4 (R110, R155). -/
def gatherOps : List Nat := [0x00, 0x01, 0x02, 0x03, 0x04, 0x05, 0x06, 0x07, 0x08, 0x09, 0x0A, 0x0F]

/-- NOP (R110, R117), in a stream or in a script. In both, a word of no assigned class and opcode is taken here:
ILLEGAL_INSTR (R8, R116; DEDUCED, notes/assumptions/17.md). -/
def execNop (u : Issuer) (w : InstrWord) (s : State) : Res :=
  match u with
  | .stream n e => streamNop n e w s
  | .thread g l t =>
    s.script g l t w fun c =>
      if classOf w = 4 ∧ opcodeOf w = 0 ∧ c.w % 2 ^ 100 = 0 then .next (s.threadAt g l t (c.h.pc + 1))
      else if classOf w = 4 ∧ opcodeOf w ≠ 0 ∧ gatherOps.contains (opcodeOf w) then notEnabled "the word is another instruction (R110)"
      else .next (s.threadErr g l t 0 .illegalInstr)

/-- NARROW_ACCESS_ANSWER (R154, R157): the answer of an outstanding access arrives; one to SRAM is performed at its home
now. -/
def execNarrowAccessAnswer (g : Fin 32) (l t : Nat) (s : State) : Res :=
  let p := s.partOfGather g
  match s.thread? g l t with
  | none => notEnabled "no such thread runs (R153)"
  | some h =>
    match h.access with
    | none => notEnabled "the thread has no access outstanding (R154)"
    | some a =>
      let got : Option (State × Answer) :=
        match a.answer with
        | some x => some (s, x)
        | none =>
          if a.away then none
          else
            match s.target p a.addr with
            | .here ad =>
              match s.home p ad with
              | .sram _ => some (s.narrowOp p ad a.size a.op)
              | .hbm _ _ _ _ | .window _ | .nowhere => none
            | .package _ _ | .far _ _ | .bad => none
      match got with
      | none => notEnabled "the access has not been answered (R154)"
      | some (s, .failed cause) => .next (s.threadErr g l t a.addr cause)
      | some (s, .value v) =>
        let s := s.updThread g l t fun h =>
          match a.op with
          | .load boff size => { h with buf := spliceGran h.buf boff (toLE size v) }
          | .loadReg td => { h with regs := tabSet wordDefault h.regs td (BitVec.ofNat 64 v) }
          | .store _ => h
          | .atomic _ _ _ _ td => { h with regs := tabSet wordDefault h.regs td (BitVec.ofNat 64 v) }
        .next (s.threadAt g l t (h.pc + 1))

end Sys2Proof.Machine
end

