-- ==== Sys2Proof/Machine/Inflight.lean ====
section
/-! DEFINITION. The in-flight list (12 R457) and the recovery records formed from it (13 R475): fence timeouts (06 R225). -/

namespace Sys2Proof.Machine

/-- The GTC whose low 32 bits a packet carries as its launch time (R356). -/
def State.launchTime (s : State) (p launch : Nat) : Nat :=
  let g := (s.part p).gtc
  g - (g + 2 ^ 32 - launch % 2 ^ 32) % 2 ^ 32

/-- Kind 4: sequenced requests not acknowledged, those lost among them. -/
def State.unackedList (s : State) (p : Nat) : List InFlight :=
  (s.part p).e2eOut.flatMap fun x => (x.2.lost ++ x.2.unacked).map fun k =>
    { kind := 4, unit := k.srcEid % 1024, pix := x.1, granules := k.granulesOf, addr := if k.op = 4 then 0 else k.addr,
      issued := s.launchTime p k.launch, seq := k.seq }

/-- The PIX an address names; the package's own for a local one. -/
def State.pixOfAddr (s : State) (p addr : Nat) : Nat := if addr.testBit 63 then bits addr 48 14 else s.ownPix p

/-- Kinds 1, 2 and 6: a transfer that is not complete. Its entry starts at its first granule not known to be written. -/
def State.transferEntry (s : State) (p n : Nat) (t : Transfer) : InFlight :=
  let i := t.next - t.out
  let landsHere : Bool := match s.dstEnd p t i with
    | .sram _ => true
    | .hbm _ _ => true
    | .package _ _ | .far _ _ | .host _ _ _ | .none => false
  let read := t.plane == .sched && !landsHere
  { kind := if t.plane == .free then 6 else if read then 1 else 2
    unit := n, pix := s.pixOfAddr p (if t.f 186 2 = 1 then 0 else t.dst i), granules := t.total - i
    addr := if read then t.src i else t.dst i, issued := t.issued, seq := if t.plane == .free then t.f 448 64 else 0 }

/-- Kind 7: a gather thread's store or atomic outstanding. -/
def State.threadEntries (s : State) (p g : Nat) : List InFlight :=
  (s.gather g).threads.filterMap fun h =>
    match h.access with
    | none => none
    | some a =>
      let changes : Bool := match a.op with
        | .load _ _ => false
        | .loadReg _ => false
        | .store _ => true
        | .atomic _ _ _ _ _ => true
      if changes then some { kind := 7, unit := 64 + g, pix := s.pixOfAddr p a.addr, granules := 1, addr := a.addr,
                             issued := a.issued, seq := 0 }
      else none

/-- The operations whose outcome is uncertain (R457); `stopped` when quarantine has stopped the free plane's work. -/
def State.uncertain (s : State) (p : Nat) (stopped : Bool) : List InFlight :=
  let cores := (List.range 64).filter fun n => s.partOfCore n == p
  let moves (pl : Plane) := cores.flatMap fun n => ((s.core n).transfers.filter fun t => t.plane == pl).map (s.transferEntry p n)
  let engines := (List.range 4).filter fun e => s.partOfOe e == p
  moves .sched ++ (s.part p).missed ++ s.unackedList p ++ engines.flatMap (fun e => (s.coll e).undone) ++
    (if stopped then moves .free ++ ((List.range 32).filter fun g => s.partOfGather g == p).flatMap (s.threadEntries p) else [])

/-- Rebuild the in-flight list (R457): at most 65,536 entries, overflow beyond. -/
def State.rebuildInflight (s : State) (p : Nat) (stopped : Bool) : State :=
  let l := s.uncertain p stopped
  let s := s.updPart p fun q => { q with inflight := l.take 65536 }
  ((s.wr F.INFL_STS_entries (min l.length 65536) p).wr F.INFL_STS_overflow (b2n (decide (65536 < l.length))) p).wr
    F.INFL_STS_valid 1 p

/-- A list entry as it reads in debug space 6 (R457). -/
def InFlight.bytes (x : InFlight) : List Byte :=
  toLE 4 (x.kind + x.unit % 1024 * 2 ^ 4 + x.pix % 2 ^ 14 * 2 ^ 14) ++ toLE 4 x.granules ++ toLE 8 x.addr ++ toLE 8 x.issued ++
    toLE 8 x.seq

/-- Raise a recovery record (R475): never coalesced. -/
def State.recovery (s : State) (p cls kind unit die eid gtc addr info0 info1 : Nat) : State :=
  let q := s.part p
  let r : Raised := {
    cls := cls, kind := kind, unit := unit, die := die, eid := eid, gtc := gtc,
    orbit := if q.state = .running then q.orbit else 0,
    addr := addr, info0 := info0, info1 := info1, count := 1, recovery := true, changed := false }
  s.updPart p fun q => { q with raised := q.raised ++ [r] }

/-- The SLIP recovery record (R475). -/
def State.slipRecovery (s : State) (p : Nat) (f : Freeze) : State :=
  let l := (s.part p).inflight
  let low := ((l.filter fun x => x.kind == 2 || decide (4 ≤ x.kind)).map (·.addr)).min?.getD 0
  let info1 := bits (s.reg .SCH_SLIP p).toNat 0 24 + l.length % 2 ^ 17 * 2 ^ 24 + s.rd F.INFL_STS_overflow p * 2 ^ 41
  s.recovery p 3 1 0 0xFF 0 f.td low f.tf info1

/-- FENCE_TIMEOUT (R225): a DEV or SYS fence not complete within fence_tmo never completes; it is recorded and reported
in a LINK recovery record (R475), with the in-flight list rebuilt (R457). -/
def execFenceTimeout (n : Fin 64) (e : Eng) (s : State) : Res :=
  let p := s.partOfCore n
  match (s.stream n e).status with
  | .waitFence f =>
    if f.timedOut || f.scope == .core || s.fenceMet n p f then notEnabled "the fence does not time out (R225)"
    else
      let code := if f.scope == .sys then 2 else 1
      let worst := (f.targets.filter fun t => f.lost || decide ((s.e2eOut p t.1).acked < t.2)).headD (s.ownPix p, 0)
      let acked := (s.e2eOut p worst.1).acked
      let s := s.updStream n e fun st => { st with status := .waitFence { f with timedOut := true } }
      let s := s.flag F.ORD_EVT_fence_timeout F.ORD_EVT_CNT_tmo_cnt p
      let s := s.setReg .ORD_TMO (BitVec.ofNat 64 (n.val + e.idx * 2 ^ 6 + code * 2 ^ 8 + worst.1 * 2 ^ 10)) p
      let s := s.setReg .ORD_TMO_SEQ (BitVec.ofNat 64 (worst.2 % 2 ^ 32 + acked % 2 ^ 32 * 2 ^ 32)) p
      let s := s.rebuildInflight p false
      .next (s.recovery p 4 6 (n * 4 + e.idx) (tileOf n) (s.eid p n) (s.part p).gtc (worst.1 + code * 2 ^ 14) worst.2 acked)
  | .idle | .running | .waitSem _ _ | .passDone | .faulted => notEnabled "the stream waits at no fence (R225)"

end Sys2Proof.Machine
end

