-- ==== Sys2Proof/Machine/Ident.lean ====
section
/-! DEFINITION. Port Identity Records (09 R353–R355): this package's own record of a port, the check of a received one, and
the as-wired remap. -/

namespace Sys2Proof.Machine

/-- The FL of the device, or of a half's partition (R40, R41). -/
def State.flOf (s : State) (p : Nat) : Nat :=
  if ! s.twoPart then s.rd F.ID_FL_STS_dev_fl 0 else if p = 1 then s.rd F.ID_FL_STS_east_fl 0 else s.rd F.ID_FL_STS_west_fl 0

/-- The Mafin build that runs. -/
def State.fwBuild (s : State) (p : Nat) : Nat :=
  match (s.mgp (s.mgpOf p)).fw with
  | some f => f.build
  | none => 0

/-- Whether any port of the partition carries another logical port (R355). -/
def State.remapped (s : State) (p : Nat) : Bool := (s.portsOf p).any fun q => s.logicalOf q != q

/-- This package's Port Identity Record on a port (R353), without its crc. -/
def State.pirBody (s : State) (q : Nat) : List Byte :=
  let p := s.partOfPort q
  let flags := b2n (s.part p).placement.isSome + b2n s.twoPart * 2 + (if s.twoPart then p else 0) * 4
    + s.rd F.NET_CTL_aswired p * 8 + s.rd F.GTC_ALIGN_STS_aligned p * 16 + b2n (s.remapped p) * 32
  let plc := match (s.part p).placement with
    | some pl => pl.hash
    | none => List.replicate 16 0
  let img := match (s.part p).image with
    | some im => im.hash.take 8
    | none => List.replicate 8 0
  toLE 4 0x44495050 ++ toLE 1 1 ++ toLE 1 (s.rd F.NET_STS_lpl p) ++ toLE 1 (s.flOf p) ++ toLE 1 flags
    ++ toLE 8 s.fuses.serial.toNat ++ toLE 2 (s.ownPix p) ++ toLE 1 (s.logicalOf q) ++ toLE 1 q
    ++ toLE 4 (s.part p).session ++ toLE 8 (s.fwBuild p) ++ plc ++ img ++ toLE 4 0

/-- The whole record. -/
def State.pirOf (s : State) (q : Nat) : List Byte := let b := s.pirBody q; b ++ toLE 4 (crc32C b)

/-- The five identity fragments of a record (R337). -/
def pirFragments (pir : List Byte) : List (BitVec 128) :=
  (List.range 5).map fun i => BitVec.ofNat 128 (0x12 + i * 2 ^ 8 + leAt pir (14 * i) 14 * 2 ^ 16)

/-- Whether a port exchanges management frames: past ALIGN, and not down (R329, R330). -/
def State.manages (s : State) (q : Nat) : Bool :=
  let st := s.portState q
  st == ptUp || st == ptUnplaced || st == ptMiswired || st == ptIncompatible || (st == ptTraining && s.rdB F.PORT_STS_phase_ident 0 q)

/-- Send this package's record on a port (R353). -/
def State.sendPir (s : State) (q : Nat) : State :=
  if s.manages q then
    let r := s.pirOf q
    s.updPort q fun t => { t with sent := r, mgmt := t.mgmt ++ pirFragments r }
  else s

/-- Whether a record counts: good magic and crc (R354). -/
def pirGood (b : List Byte) : Bool :=
  b.length == 64 && leAt b 0 4 == 0x44495050 && leAt b 0x3C 4 == crc32C (b.take 60)

/-- Fields of a received record. -/
def pirLpl (b : List Byte) : Nat := leAt b 5 1
def pirFlags (b : List Byte) : Nat := leAt b 7 1
def pirSerial (b : List Byte) : Nat := leAt b 8 8
def pirPix (b : List Byte) : Nat := leAt b 0x10 2 % 2 ^ 14
def pirPort (b : List Byte) : Nat := leAt b 0x12 1
def pirBuild (b : List Byte) : Nat := leAt b 0x18 8
def pirPlc (b : List Byte) : List Byte := (b.drop 0x20).take 16
def pirImg (b : List Byte) : List Byte := (b.drop 0x30).take 8

/-- Whether a record matches the plan of a logical port (R354): PIX and port of its entry, and the expected serial of that
member when it is nonzero. -/
def State.pirMatches (s : State) (p lp : Nat) (b : List Byte) : Bool :=
  match s.portEntry p lp, (s.part p).placement with
  | some e, some pl =>
    let serial := match pl.member e.nbrPix with
      | some m => m.serial
      | none => 0
    pirPix b == e.nbrPix && pirPort b == e.nbrPort && (serial == 0 || pirSerial b == serial)
  | _, _ => false

/-- The logical port a MISWIRED port's record claims (R355). -/
def State.claim (s : State) (p lp : Nat) (b : List Byte) : Option Nat :=
  match s.portEntry p lp with
  | none => none
  | some e =>
    if pirPix b ≠ e.nbrPix then none
    else (List.range 32).find? fun x => match s.portEntry p x with
      | some y => y.dir == e.dir && y.nbrPix == e.nbrPix && y.nbrPort == pirPort b
      | none => false

/-- The remap of a port's direction group, when R355 allows it: physical port and the logical port it then carries. -/
def State.asWired (s : State) (q : Nat) : Option (List (Nat × Nat)) :=
  let p := s.partOfPort q
  match s.entryOf q with
  | none => none
  | some e =>
    let grp := (s.portsOf p).filter fun x => s.dirOf x == e.dir
    let recs := grp.map fun x => (x, (s.port x).pir)
    let ok := s.rdB F.NET_CTL_aswired p && decide (s.ownPix p < e.nbrPix) &&
      recs.all fun r => pirGood r.2 && (pirFlags r.2).testBit 3
    let claims := recs.map fun r => (r.1, s.claim p (s.logicalOf r.1) r.2)
    let names := claims.filterMap (·.2)
    let logical := grp.map s.logicalOf
    if ok && names.length == grp.length && logical.all fun l => (names.filter (· == l)).length == 1 then
      some (claims.map fun c => (c.1, c.2.getD 0))
    else none

/-- Once the port is UP: differing firmware and hashes (R354). -/
def State.compareNeighbour (s : State) (q : Nat) (b : List Byte) : State :=
  let p := s.partOfPort q
  let own := s.pirOf q
  let s := if pirBuild b = pirBuild own then s
    else (s.flag F.NET_EVT_fw_differs F.NET_EVT_CNT0_fw_cnt p).portRecord q 5
  if pirPlc b = pirPlc own ∧ pirImg b = pirImg own then s
  else s.flag F.NET_EVT_hash_differs F.NET_EVT_CNT0_hash_cnt p

/-- A port enters UP. -/
def State.portToUp (s : State) (q : Nat) (b : List Byte) : State :=
  let s := (s.setPortState q ptUp).setFibre q (if s.rd F.OE_FIB_LANEMAP_lanes 0 (q / 8) (q % 8) = 15 then fbLit15 else fbLit)
  s.compareNeighbour q b

/-- A port enters MISWIRED: miswire and a LINK record with both identities (R354). -/
def State.portMiswired (s : State) (q : Nat) : State :=
  let p := s.partOfPort q
  if s.portState q = ptMiswired then s
  else
    let s := (s.setPortState q ptMiswired).flag F.PORT_EVT_miswired F.PORT_EVT_CNT_miswired_cnt 0 q
    (s.flag F.NET_EVT_miswire F.NET_EVT_CNT0_miswire_cnt p).portRecord q 3

/-- Check the record held for a port, in the order of R354. -/
def State.identify (s : State) (q : Nat) : State :=
  let p := s.partOfPort q
  let b := (s.port q).pir
  let own := s.rd F.NET_STS_lpl p
  let far := pirLpl b
  if own + 2 ≤ far ∨ far + 2 ≤ own then
    if s.portState q = ptIncompatible then s
    else
      let s := (s.setPortState q ptIncompatible).flag F.PORT_EVT_incompatible F.PORT_EVT_incompat_cnt 0 q
      (s.flag F.NET_EVT_incompatible F.NET_EVT_CNT0_incompat_cnt p).portRecord q 4
  else
    let s := s.wr F.PORT_STS_lpl (min own far) 0 q
    if (s.part p).placement.isNone || s.dirOf q == 0 then s.setPortState q ptUnplaced
    else if s.pirMatches p (s.logicalOf q) b then s.portToUp q b
    else match s.asWired q with
      | none => s.portMiswired q
      | some m =>
        let s := m.foldl (fun a x => a.wr F.PORT_STS_logical x.2 0 x.1) s
        let s := m.foldl (fun a x => a.portToUp x.1 (a.port x.1).pir) s
        m.foldl (fun a x => a.sendPir x.1) s

/-- A whole record arrives on a port: it is kept in PORT_PIR and checked (R354); one with a bad magic or crc is ignored, and
one that changes nothing is not reported again. In IDENT the check is the event IDENT; an INCOMPATIBLE port takes none. -/
def State.takePir (s : State) (q : Nat) (b : List Byte) : State :=
  let st := s.portState q
  if ! (pirGood b && s.manages q && st != ptIncompatible) then s
  else
    let same := (s.port q).pir == b && st == ptUp && s.pirMatches (s.partOfPort q) (s.logicalOf q) b
    let s := s.updPort q fun t => { t with pir := b }
    let s := (List.range 8).foldl (fun a i => a.setReg .PORT_PIR (BitVec.ofNat 64 (leAt b (8 * i) 8)) 0 q i) s
    if same || st == ptTraining then s else s.identify q

/-- After a change of the placement every port that holds a record is checked again (R354). -/
def State.reidentify (s : State) (p : Nat) : State :=
  (s.portsOf p).foldl (fun a q =>
    let st := a.portState q
    if (st == ptUp || st == ptUnplaced || st == ptMiswired) && pirGood (a.port q).pir then a.identify q else a) s

end Sys2Proof.Machine
end

