-- ==== Sys2Proof/Machine/Clock.lean ====
section
/-! DEFINITION. Clocks and group time (02): the ROOT PLL and REFCLK (R46–R54), timing exchanges and delay means (R56–R58),
phase alignment (R59–R62, R529), and the checks of the delay budgets (R65, R66). -/

namespace Sys2Proof.Machine

/-! ### Rounding (DESIGN CHOICE, notes/assumptions/4.md) -/

/-- An exact quotient brought to an integer whose rounding the spec does not state: a free choice of floor or ceiling. -/
def State.roundQ (s : State) (n : Int) (d : Nat) : Int × State :=
  let q := n / (d : Int)
  if n % (d : Int) = 0 then (q, s)
  else
    let f := s.takeFree
    (if Config.freeBit f.1 then q + 1 else q, f.2)

/-! ### PLLs and REFCLK -/

/-- The service PLLs of a partition's own engines (R53, R71), one bit per engine: in two-partition mode those of its half. -/
def State.ownSplls (s : State) (p : Nat) : Nat := if s.twoPart then (if p = 1 then 12 else 3) else 15

/-- ROOT_PLL_LOCK (R47, R54): the ROOT PLL first locks; every divider starts and the GTC counts from 0. -/
def execRootPllLock (p : Fin 2) (s : State) : Res :=
  guarded ((s.part p).state == .booting && !s.rdB F.CLK_STS_root_lock p && s.parts.contains p.val)
    "the ROOT PLL of a booting partition locks once (R47)"
    (let s := ((s.wr F.CLK_STS_root_lock 1 p).wr F.CLK_STS_ref_present 1 p).wr F.CLK_STS_spll_lock (s.ownSplls p) p
     s.updPart p fun q => { q with gtc := 0 })

/-- ROOT_UNLOCK (R71): the ROOT PLL loses lock. -/
def execRootUnlock (p : Fin 2) (s : State) : Res :=
  guarded (s.rdB F.CLK_STS_root_lock p) "the ROOT PLL is not locked"
    ((s.wr F.CLK_STS_root_lock 0 p).flag F.CLK_EVT_root_unlock F.CLK_EVT_root_cnt p)

/-- SPLL_UNLOCK (R53): the service PLL of an optical engine loses lock. -/
def execSpllUnlock (o : Fin 4) (s : State) : Res :=
  let p := s.partOfOe o
  let v := s.rd F.CLK_STS_spll_lock p
  guarded (v.testBit o) "the service PLL is not locked (R53)"
    ((s.wr F.CLK_STS_spll_lock (putBits v o 1 0) p).flag F.CLK_EVT_spll_unlock F.CLK_EVT_spll_cnt p)

/-- REFCLK_LOSS (R51): ref_loss, holdover, the aligned state cleared, a slip while RUNNING and a POWER record. An ARMED
member fails its arming condition (R183). -/
def execRefclkLoss (p : Fin 2) (s : State) : Res :=
  guarded (s.rdB F.CLK_STS_ref_present p) "REFCLK is absent already (R51)"
    (let s := s.flag F.CLK_EVT_ref_loss F.CLK_EVT_CNT_ref_loss_cnt p
     let s := (s.wr F.CLK_STS_ref_present 0 p).wr F.CLK_STS_holdover 1 p
     let s := s.loseAlign p 0x09
     s.record p 7 1 0 (info0 := (s.reg .CLK_STS p).toNat))

/-- HOLDOVER_TIMEOUT (R51): 10 ms in holdover without REFCLK; every link is held in retrain. -/
def execHoldoverTimeout (p : Fin 2) (s : State) : Res :=
  guarded (s.rdB F.CLK_STS_holdover p && !s.rdB F.CLK_STS_ref_present p) "the ROOT PLL is not in holdover (R51)"
    (let s := (s.portsOf p).foldl (fun a q => a.retrainPort q 2 false) s
     s.updPart p fun q => { q with linksHeld := true })

/-- REFCLK_RETURN (R52): REFCLK within 100 ppm for 1 ms; holdover ends and alignment runs again. -/
def execRefclkReturn (p : Fin 2) (s : State) : Res :=
  guarded (s.rdB F.CLK_STS_holdover p) "the ROOT PLL is not in holdover (R52)"
    (let s := (s.wr F.CLK_STS_ref_present 1 p).wr F.CLK_STS_holdover 0 p
     let s := s.wr F.GTC_ALIGN_STS_phase (b2n !(s.isMaster p)) p
     s.updPart p fun q => { q with linksHeld := false, loadThetas := [], goodMeans := 0, exchanges := 0 })

/-- Whether a member counts as aligned: the timing master while its PLL is locked and not in holdover (R62). -/
def State.alignedNow (s : State) (p : Nat) : Bool :=
  if s.isMaster p then s.rdB F.CLK_STS_root_lock p && !s.rdB F.CLK_STS_holdover p else s.rdB F.GTC_ALIGN_STS_aligned p

/-! ### Delays (R56–R66) -/

/-- LDLY_ASYM in 1/256 tick, to the nearest (R57; DEDUCED, notes/assumptions/33.md). -/
def State.asym (s : State) (q : Nat) : Int :=
  let ps := sext 16 (s.rd F.LDLY_ASYM_asym_ps 0 q)
  let n : Int := ps * (if s.slow then 4608 else 5760)
  (n + 5000) / 10000

/-- The sum of a port's delays and how many, in 1/512 tick. -/
def Port.delaySum (t : Port) : Int × Nat := (t.delays.foldl (· + ·) 0, t.delays.length)

/-- The least whole number of ticks not below D (R65). -/
def Port.delayCeil (t : Port) : Int :=
  let d := t.delaySum
  let k : Nat := 512 * max d.2 1
  (d.1 + (k : Int) - 1) / (k : Int)

/-- Depth of the elastic buffer in ticks (R64). -/
def State.elasticTicks (s : State) : Nat := if s.slow then 460 else 576

/-- The check of R65 of a port: ceil(D) + G ≤ B ≤ D + capacity. -/
def State.budgetFits (s : State) (q : Nat) : Bool :=
  let t := s.port q
  let d := t.delaySum
  let b : Int := s.budgetOf q
  decide (t.delayCeil + (s.guard (s.partOfPort q) : Int) ≤ b) &&
    decide ((b - s.elasticTicks) * (512 * d.2 : Nat) ≤ d.1)

/-- The comet hop check of a port (R181): 90 + ceil(D) + G ≤ h, or 72 on the X grade. -/
def State.hopFits (s : State) (q : Nat) : Bool :=
  match (s.part (s.partOfPort q)).image with
  | none => false
  | some img => decide (((if s.slow then 72 else 90 : Nat) : Int) + (s.port q).delayCeil +
      (s.guard (s.partOfPort q) : Int) ≤ (img.hop : Int))

/-- Show a port's delay mean, budget and margin in LDLY_STS. -/
def State.showDelay (s : State) (q : Nat) : State :=
  let d := (s.port q).delaySum
  let n := max d.2 1
  let r := s.roundQ d.1 (2 * n)
  let m := r.2.roundQ ((s.budgetOf q : Int) * (512 * n : Nat) - d.1) (32 * n)
  let s := m.2.wr F.LDLY_STS_delay (wrapNat 24 r.1) 0 q
  let s := s.wr F.LDLY_STS_budget (s.budgetOf q) 0 q
  s.wr F.LDLY_STS_margin (wrapNat 16 (clampS 16 m.1)) 0 q

/-- The checks a new delay mean makes: buf_margin while RUNNING (R66), the arming conditions while ARMED (R183). -/
def State.checkDelay (s : State) (q : Nat) : State :=
  let p := s.partOfPort q
  let d := (s.port q).delaySum
  let low := decide (2 * ((s.budgetOf q : Int) * (512 * d.2 : Nat) - d.1) < (s.guard p * 512 * d.2 : Nat))
  let s :=
    if s.scheduledPort q && s.running p && low && !(s.port q).low then
      (s.flag F.CLK_EVT_buf_margin F.CLK_EVT_CNT_margin_cnt p).portRecord q 7
    else s
  let s := s.updPort q fun t => { t with low := low }
  if (s.part p).state = .armed ∧ (s.scheduledPort q && !s.budgetFits q || s.dirOf q != 0 && s.portUp q && !s.hopFits q) then
    s.armBroken p 0x0E
  else s

/-! ### Timing words (R56, R57, R337) -/

/-- The GTC with 8 fractional bits, low 40 bits. -/
def State.stampAt (s : State) (p frac : Nat) : Nat := ((s.part p).gtc * 256 + frac) % 2 ^ 40

/-- TIMING_EXCHANGE (R56, R337): a trained link launches a timing word: this frame's launch time, the last launch time
received and its arrival time. `frac` is the fraction of the launch tick. -/
def execTimingExchange (q : Fin 32) (frac : BitVec 8) (s : State) : Res :=
  let st := s.portState q
  guarded (st == ptUp || st == ptUnplaced || st == ptMiswired || st == ptIncompatible) "the link is not trained (R56)"
    (let t := s.port q
     let m := 0x10 + s.stampAt (s.partOfPort q) frac.toNat * 2 ^ 8 + t.lastRx * 2 ^ 48 + t.lastArr * 2 ^ 88
     s.emit (.frame q (t.mgmtFrame [BitVec.ofNat 128 m])))

/-- One exchange: delay into the port and offset, in 1/512 tick (R57). The far end is A and this side B. -/
def exchange (t1 t2 t3 t4 : Nat) (a : Int) : Int × Int :=
  let fwd := sext 40 (t2 + 2 ^ 40 - t1)
  let back := sext 40 (t4 + 2 ^ 40 - t3)
  (fwd + back + a, fwd - back - a)

/-- The sum of the last 16 offsets, when there are 16 (R56). -/
def Port.thetaSum (t : Port) : Option Int := if t.thetas.length = 16 then some (t.thetas.foldl (· + ·) 0) else none

/-- A steering rate toward θ = 0 within a limit in parts per 10^9: the loop that sets it is not given, so it is a free
value (R59, R60; DESIGN CHOICE, notes/assumptions/34.md). -/
def State.steer (s : State) (p : Nat) (theta : Int) (limit : Nat) : State :=
  let f := s.takeFree
  let r : Int := Config.freeNat f.1 % (limit + 1)
  let rate : Int := if theta = 0 then 0 else if 0 < theta then -r else r
  let s := f.2.wr F.GTC_ALIGN_STS_steer_ppb (wrapNat 24 rate) p
  s.updPart p fun q => { q with rootTrim := q.rootTrim + rate }

/-- The alignment step an offset mean makes (R59–R61). `sum` is 16 times θ in 1/512 tick. -/
def State.alignStep (s : State) (p : Nat) (sum : Int) : State :=
  let ph := s.rd F.GTC_ALIGN_STS_phase p
  let still := match (s.part p).state with
    | .armed | .running => true
    | .cold | .booting | .idle | .loaded | .halted | .faulted | .quarantined => false
  if ph = 2 then
    let good := decide (sum.natAbs ≤ 512)
    (s.steer p sum 100000).updPart p fun q => { q with goodMeans := if good then q.goodMeans + 1 else 0 }
  else if ph = 3 then
    if s.rdB F.GTC_ALIGN_STS_aligned p then
      let s := s.steer p sum 200
      if s.guard p * 4096 < sum.natAbs then
        let s := s.flag F.CLK_EVT_align_lost F.CLK_EVT_CNT_align_cnt p
        let s := s.loseAlign p 0x08
        match (s.part p).state with
        | .armed | .running => s
        | .cold | .booting | .idle | .loaded | .halted | .faulted | .quarantined => s.wr F.GTC_ALIGN_STS_phase 2 p
      else s
    else if still then s.steer p sum 200
    else (s.steer p sum 100000).wr F.GTC_ALIGN_STS_phase 2 p
  else s

/-- TIMING_WORD (R56, R57): a timing word arrives; its delay and offset enter the means. The first word of a link only
starts the exchange. -/
def execTimingWord (q : Fin 32) (m : BitVec 128) (frac : BitVec 8) (s : State) : Res :=
  let p := s.partOfPort q
  let st := s.portState q
  let t := s.port q
  let w := m.toNat
  let now := s.stampAt p frac.toNat
  if bits w 0 8 ≠ 0x10 then notEnabled "the message is another one (R337)"
  else if !(st == ptUp || st == ptUnplaced || st == ptMiswired || st == ptIncompatible) then .next s
  else
    let launch := bits w 8 40
    let s := s.updPort q fun t => { t with heard := true, lastRx := launch, lastArr := now }
    if ! t.heard then .next s
    else
      let x := exchange launch now (bits w 48 40) (bits w 88 40) (s.asym q)
      let s := s.updPort q fun t => { t with
        delays := (x.1 :: t.delays).take 4096, thetas := (x.2 :: t.thetas).take 16 }
      let s := if (s.port q).delays.length = 4096 then (s.showDelay q).checkDelay q else s
      if s.isMaster p || s.upstreamPort p != q.val || !s.portUp q then .next s
      else
        let s := if s.rd F.GTC_ALIGN_STS_phase p = 0 then s.wr F.GTC_ALIGN_STS_phase 1 p else s
        let s := s.updPart p fun y =>
          if y.loadThetas.length < 64 then { y with loadThetas := x.2 :: y.loadThetas, exchanges := y.exchanges + 1 } else y
        match (s.port q).thetaSum with
        | none => .next s
        | some sum =>
          let r := s.roundQ sum 32
          .next ((r.2.wr F.GTC_ALIGN_STS_theta (wrapNat 21 (clampS 21 r.1)) p).alignStep p sum)

/-- DELAY_VALID (R56): 4,096 exchanges averaged on a trained port. -/
def execDelayValid (q : Fin 32) (s : State) : Res :=
  guarded ((s.port q).delays.length == 4096 && s.portState q != ptTraining) "4,096 exchanges are not averaged (R56)"
    ((s.showDelay q).wr F.LDLY_STS_valid 1 0 q)

/-- GTC_LOAD (R59): after the first 64 exchanges the GTC takes the value closest to the upstream GTC that keeps GTC mod 72.
θ is estimated as the mean of the 64; a tie between two values is free (DEDUCED, notes/assumptions/35.md). -/
def execGtcLoad (p : Fin 2) (s : State) : Res :=
  let q := s.part p
  guarded (s.rd F.GTC_ALIGN_STS_phase p == 1 && q.loadThetas.length == 64 && !s.isMaster p)
    "64 exchanges have not been gathered in the load step (R59)"
    (let sum := q.loadThetas.foldl (· + ·) 0
     -- θ / 72 = sum / (64 · 512 · 72); the nearest whole number of clock blocks
     let d : Int := 64 * 512 * 72
     let lo := (2 * sum - d + 2 * d - 1) / (2 * d)
     let tie := decide ((2 * sum - d) % (2 * d) = 0)
     let f := s.takeFree
     let k : Int := if tie && Config.freeBit f.1 then lo + 1 else lo
     let s := if tie then f.2 else s
     let s := s.updPart p fun q => { q with gtc := wrapNat 64 ((q.gtc : Int) - 72 * k), goodMeans := 0 }
     let s := s.updPort (s.upstreamPort p) fun t => { t with thetas := [] }
     s.wr F.GTC_ALIGN_STS_phase 2 p)

/-- ALIGNED (R59): |θ| ≤ 1/16 tick for 100 consecutive offset means. -/
def execAligned (p : Fin 2) (s : State) : Res :=
  guarded (s.rd F.GTC_ALIGN_STS_phase p == 2 && decide (100 ≤ (s.part p).goodMeans))
    "100 consecutive offset means have not held (R59)"
    (((s.wr F.GTC_ALIGN_STS_aligned 1 p).wr F.GTC_ALIGN_STS_phase 3 p).updPart p fun q => { q with goodMeans := 0 })

/-- STEER_LIMIT (R60): fine steering has rested at its limit for 1 ms. -/
def execSteerLimit (p : Fin 2) (s : State) : Res :=
  guarded (s.rd F.GTC_ALIGN_STS_phase p == 3) "the member is not in fine steering (R60)"
    (s.flag F.CLK_EVT_steer_limit F.CLK_EVT_CNT_steer_cnt p)

end Sys2Proof.Machine
end

