-- ==== Sys2Proof/Machine/Conn.lean ====
section
/-! DEFINITION. Host control connections and service ports: what the loss of one causes (11 R412, 13 R474, 09 R364). -/

namespace Sys2Proof.Machine

/-- A host control connection. -/
def State.conn (s : State) (p c : Nat) : HostConn := tabGet connDefault (s.part p).conns c

def State.setConn (s : State) (p c : Nat) (h : HostConn) : State :=
  s.updPart p fun q => { q with conns := tabSet connDefault q.conns c h }

/-- The answers awaited under a key do not come: each waiter's access fails (R150, R157). -/
def State.failAwaits (s : State) (p key : Nat) : State :=
  let l := (s.part p).awaits.filter fun a => a.pix == key
  let s := s.updPart p fun q => { q with awaits := q.awaits.filter fun a => a.pix != key }
  l.foldl (fun b a => match a.who with
    | .transfer n id i => b.transferData n p id i none
    | .thread g k t => b.answerThread g k t (.failed .addrRange)
    | .none => b) s

/-- The command rings and completion rings bound to a connection (R407). -/
def State.boundRings (s : State) (p c : Nat) : List Nat := (List.range 64).filter fun r => s.rd F.HIF_CR_CFG_conn p r == c
def State.boundCqs (s : State) (p c : Nat) : List Nat := (List.range 64).filter fun r => s.rd F.HIF_CQ_CFG_conn p r == c

/-- A host control connection fails (R412): its rings are disabled, fetched entries that have not started are dropped, the
records of its started commands discarded, accesses through it fail (R150), its fault ring is disabled (R474) and
conn_lost is set. -/
def State.connFail (s : State) (p c : Nat) : State :=
  let h := s.conn p c
  if ! h.up then s
  else
    let rs := s.boundRings p c
    let cqs := s.boundCqs p c
    let s := rs.foldl (fun a r => a.wr F.HIF_CR_CFG_enable 0 p r) s
    let s := cqs.foldl (fun a r => a.wr F.HIF_CQ_CFG_enable 0 p r) s
    let s := s.updPart p fun q => { q with
      fetched := q.fetched.filter fun x => !rs.contains x.1
      opens := q.opens.map fun o => match o.src with
        | .ring r => if rs.contains r then { o with orphan := true } else o
        | .mailbox => o
      records := q.records.filter fun x => !rs.contains x.ring && !cqs.contains x.cq }
    let s := if s.rd F.FLT_RING_CFG_conn p = c then s.wr F.FLT_RING_CFG_enable 0 p else s
    let s := s.setConn p c { up := false, sp := h.sp, hostQpn := h.hostQpn }
    let s := s.failAwaits p (hostKey c)
    s.flag F.HIF_EVT_conn_lost F.HIF_EVT_CNT1_conn_cnt p

/-- Every connection on a service port fails (R412). -/
def State.portConnsFail (s : State) (sp : Nat) : State :=
  s.parts.foldl (fun a p => (List.range 4).foldl (fun b c =>
    if (b.conn p c).up && (b.conn p c).sp == sp then b.connFail p c else b) a) s

/-- Whether a service port has PCS lock: one of its ports is aligned (DEDUCED, notes/assumptions/45.md). -/
def State.spLocked (s : State) (sp : Nat) : Bool := s.rd F.OE_SP_STS_pcs_lock 0 sp != 0

/-- A service port goes dark: no signal, no lock, and its connections fail (R296, R412). -/
def State.spDark (s : State) (sp : Nat) : State :=
  let s := (s.wr F.OE_SP_STS_lane_sig 0 0 sp).wr F.OE_SP_STS_pcs_lock 0 0 sp
  s.portConnsFail sp

end Sys2Proof.Machine
end

