-- ==== Sys2Proof/Machine/Optics.lean ====
section
/-! DEFINITION. Optical engines (08): laser inputs, ring control, thermal feed-forward, recalibration, margins, and the
light of a fibre. The moon, restripe and drop sequences are in Moon.lean. -/

namespace Sys2Proof.Machine

/-! ### Engines and rings -/

/-- The physical ports of an engine (R286). -/
def enginePorts (o : Nat) : List Nat := span (8 * o) 8

/-- Every ring of an engine: fibre or bus, kind, n (R288). -/
def engineRings (o : Nat) : List Nat :=
  ((List.range 8).flatMap fun i => fibreRings.map fun r => ringKey o i r.1 r.2) ++ (List.range 4).map fun b => ringKey o b 3 17

/-- Whether R288 has such a ring. -/
def ringExists (i kind n : Nat) : Bool :=
  match kind with
  | 0 => decide (n < 18)
  | 1 => decide (n < 18)
  | 2 => decide (n < 17)
  | 3 => n == 17 && decide (i < 4)
  | _ => false

def State.lightEn (s : State) (o : Nat) : Bool := s.rdB F.OE_CTL_light_en 0 o

/-- Show whether a recalibration pass runs. -/
def State.showRecal (s : State) (o : Nat) : State := s.wr F.OE_STS_recal_busy (b2n !(s.oe o).recal.isEmpty) 0 o

/-- An OPTIC record about an engine, a fibre or a ring (R471). -/
def State.laserRecord (s : State) (o kind : Nat) : State :=
  s.record (s.partOfOe o) 5 kind o (die := 36 + o) (info0 := (s.reg .OE_LASER_STS 0 o).toNat)

def State.fibreRecord (s : State) (q kind : Nat) : State :=
  s.record (s.partOfPort q) 5 kind q (die := 32 + q / 8) (info0 := (s.reg .OE_FIB_STS 0 (q / 8) (q % 8)).toNat)

/-- OE_RING_STS of a ring. -/
def Ring.sts (r : Ring) : Nat :=
  r.state % 8 + r.code % 2 ^ 16 * 2 ^ 3 + wrapNat 13 r.trim * 2 ^ 19 + r.temp % 2 ^ 12 * 2 ^ 32 + r.failed % 4 * 2 ^ 44

/-- A handover or restripe of the fibre is abandoned; the lane map stays as it was (R313, R321). -/
def State.abandon (s : State) (q : Nat) : State := s.updPort q Port.abandon

/-- A ring that holds: it keeps table and trim. DARK, PARKED and FAILED rings stay as they are
(DEDUCED, notes/assumptions/46.md). -/
def Ring.hold (r : Ring) : Ring :=
  if r.state = rgSweep ∨ r.state = rgLocked ∨ r.state = rgUnlocked then { r with state := rgHold, bad := 0 } else r

/-- Light reaches a ring again: HOLD leaves through a narrow sweep (R297). -/
def Ring.relight (r : Ring) : Ring := if r.state = rgHold then r.sweep false else r

/-- A ring parked (R297). -/
def Ring.park (r : Ring) : Ring := if r.state = rgFailed then r else { r with state := rgParked, trim := 0, bad := 0 }

/-- A fibre lights from dark: its lane rings run full sweeps, moon rings and an unused comet tap park (R297, R330). -/
def State.lightFibre (s : State) (q : Nat) : State :=
  let s := s.startTraining q true
  let s := s.ringsOf q [(0, 16), (1, 16)] Ring.park
  let s := s.updPort q fun t => { t with txLane := 0x1F, txLanes := 0, txExcl0 := 0x1F, txExcl1 := 0x1F }
  let s := s.wr F.OE_FIB_LANEMAP_moon_lane 0x1F 0 (q / 8) (q % 8)
  s.ringsOf q [(0, 17)] fun r => if s.rdB F.OE_FIB_COMET_tap_en 0 (q / 8) (q % 8) then r.sweep true else r.park

/-- Light comes to an engine: held rings sweep again, dark comet modulators and the ports to be lit start (R297, R436). -/
def State.lightEngine (s : State) (o : Nat) : State :=
  let s := (engineRings o).foldl (fun a k => a.updRing k Ring.relight) s
  let s := (List.range 4).foldl (fun a b => a.updRing (ringKey o b 3 17) fun r =>
    if r.state = rgDark then r.sweep true else r) s
  (enginePorts o).foldl (fun a q => if a.portState q == ptDark && !(a.port q).dark then a.lightFibre q else a) s

/-- An engine goes dark: switch at the absorber, both laser enables off, ports and service port dark (R293, R296). -/
def State.darkEngine (s : State) (o : Nat) : State :=
  let s := s.wr F.OE_LASER_STS_absorber 1 0 o
  let s := (enginePorts o).foldl (fun a q =>
    let a := if a.scheduledPort q && a.portUp q then a.slipIfRunning (a.partOfPort q) 0x0A else a
    a.portDark q) s
  let s := (List.range 4).foldl (fun a b => a.updRing (ringKey o b 3 17) Ring.off) s
  let s := s.updOe o fun e => { e with recal := [], recalled := [] }
  (s.showRecal o).spDark o

/-- light_en becomes 0 (R293). -/
def State.lightOff (s : State) (o : Nat) : State :=
  (s.wr F.OE_CTL_light_en 0 0 o).darkEngine o |>.updOe o fun e => { e with priOn := false, sbyOn := false, ready := false }

/-- light_en becomes 1: the primary is enabled, and with standby_hot the standby too; inputs that failed may be used again
(R294, R296). -/
def State.lightOn (s : State) (o : Nat) : State :=
  let hot := s.rdB F.OE_CTL_standby_hot 0 o
  (s.wr F.OE_CTL_light_en 1 0 o).updOe o fun e => { e with
    priOn := true, sbyOn := e.sbyOn || hot, priFail := false, sbyFail := false }

/-- Whether an optical engine is out of reset (R293, R434, R436, R439, R448): after the memory step of its boot, or for a boot
from the service network; not while its partition is COLD or held by its straps, nor under a partial reset. -/
def State.opticsUp (s : State) (o : Nat) : Bool :=
  let p := s.partOfOe o
  let q := s.part p
  let st := s.rd F.BOOT_STS_stage p
  q.state != .cold && !q.stopped && !(q.resets.any fun r => (r.1 == 1 && r.2 == o / 2) || (r.1 == 2 && r.2 == o)) &&
    (q.state != .booting || st == 5 || st == 6 || (o % 2 == 0 && (s.mgp (o / 2)).slot == 2))

/-! ### Laser inputs (R293–R296) -/

/-- LASER_SOURCE_READY (R436, R294, R296): the enabled primary reports ready; the switch moves to it and its level becomes
the reference (DEDUCED, notes/assumptions/54.md). -/
def execLaserSourceReady (o : Fin 4) (pwr : BitVec 16) (s : State) : Res :=
  let e := s.oe o
  let dark := s.rdB F.OE_LASER_STS_absorber 0 o || s.rd F.OE_LASER_STS_in_sel 0 o == 1
  guarded (s.opticsUp o && s.lightEn o && e.priOn && !e.priFail && dark) "no enabled primary input waits to be used (R294)"
    (let s := ((s.wr F.OE_LASER_STS_pri_pwr pwr.toNat 0 o).wr F.OE_LASER_STS_pri_fault 0 0 o).wr F.OE_LASER_STS_in_sel 0 0 o
     let s := s.wr F.OE_LASER_STS_absorber 0 0 o
     let s := s.updOe o fun e => { e with ready := true, refPwr := sext 16 pwr.toNat }
     s.lightEngine o)

/-- LASER_FAIL (R295): the primary in use fails: laser_fail, every ring in HOLD, handovers and recalibration abandoned, links
retrain with their slip, and a record. -/
def execLaserFail (o : Fin 4) (fault : Bool) (s : State) : Res :=
  let e := s.oe o
  let p := s.partOfOe o
  guarded (s.lightEn o && e.priOn && !e.priFail && s.rd F.OE_LASER_STS_in_sel 0 o == 0) "the primary input is not in use (R295)"
    (let s := s.updOe o fun e => { e with priFail := true, ready := false, recal := [], recalled := [] }
     let s := if fault then s.wr F.OE_LASER_STS_pri_fault 1 0 o else s
     let s := (s.showRecal o).flag F.OE_EVT_laser_fail F.OE_EVT_CNT_laser_cnt 0 o
     let used := (enginePorts o).filter s.scheduledPort
     let retrains := used.any fun q => s.portState q == ptUp || s.portState q == ptUnplaced || s.portState q == ptMiswired
     let s := if !used.isEmpty && !retrains then s.slipIfRunning p 0x0A else s
     let s := (enginePorts o).foldl (fun a q => (a.abandon q).retrainPort q 3 false) s
     let s := (engineRings o).foldl (fun a k => a.updRing k Ring.hold) s
     s.laserRecord o 1)

/-- STANDBY_ENABLE (R295): 0.1 ms after the failure the standby is enabled. -/
def execStandbyEnable (o : Fin 4) (s : State) : Res :=
  let e := s.oe o
  guarded (s.lightEn o && e.priFail && !e.sbyOn) "no failed primary waits for its standby (R295)"
    (s.updOe o fun e => { e with sbyOn := true })

/-- STANDBY_READY (R295): the standby reports ready and the switch moves to it; rings leave HOLD through a narrow sweep. -/
def execStandbyReady (o : Fin 4) (pwr : BitVec 16) (s : State) : Res :=
  let e := s.oe o
  guarded (s.lightEn o && e.priFail && e.sbyOn && !e.sbyFail && s.rd F.OE_LASER_STS_in_sel 0 o == 0)
    "the engine waits for no standby input (R295)"
    (let s := ((s.wr F.OE_LASER_STS_sby_pwr pwr.toNat 0 o).wr F.OE_LASER_STS_in_sel 1 0 o).wr F.OE_LASER_STS_absorber 0 0 o
     (s.wr F.OE_LASER_STS_sby_fault 0 0 o).lightEngine o)

/-- LASER_LOSS (R296): both inputs have failed: absorber, laser_loss, a record, every port of the engine dark and down. -/
def execLaserLoss (o : Fin 4) (fault : Bool) (s : State) : Res :=
  let e := s.oe o
  guarded (s.lightEn o && e.priFail && e.sbyOn && !e.sbyFail) "the standby is not the input that is left (R296)"
    (let s := s.updOe o fun e => { e with sbyFail := true, ready := false }
     let s := if fault then s.wr F.OE_LASER_STS_sby_fault 1 0 o else s
     let s := (s.darkEngine o).flag F.OE_EVT_laser_loss F.OE_EVT_loss_cnt 0 o
     s.laserRecord o 2)

/-! ### Heater codes (R299, R300) -/

/-- A heater table entry. -/
def State.heater (s : State) (k j : Nat) : Nat := (tabGet heaterDefault s.heaters (k * 16 + j)).toNat

/-- The place of a reading in the table: j and r of R299, with r = 0 beyond either end. -/
def tabPlace (t : Int) : Nat × Nat :=
  let x := t - 320
  if x ≤ 0 then (0, 0) else if 1440 ≤ x then (15, 0) else (x.toNat / 96, x.toNat % 96)

/-- The table value h at a reading t (R299). -/
def State.tableAt (s : State) (k : Nat) (t : Int) : Int :=
  let jr := tabPlace t
  let a : Int := s.heater k jr.1
  if jr.2 = 0 then a else a + (((s.heater k (jr.1 + 1) : Int) - a) * jr.2).tdiv 96

/-- The reading a ring uses: its sensor plus the engine's lead, in 1/16 °C; the rounding of the lead is free
(DESIGN CHOICE, notes/assumptions/4.md). -/
def State.reading (s : State) (o temp : Nat) : Int × State :=
  let lead := ((Fmt.fp32.value (s.oe o).modelM).add (Fmt.fp32.value (s.oe o).modelS).negate).dy
  let r := s.roundQ (lead.at (min lead.e 0) * 16) (2 ^ (-(min lead.e 0)).toNat)
  ((temp : Int) + r.1, r.2)

/-- Clamp to a heater code. -/
def heaterCode (i : Int) : Nat := if i < 0 then 0 else if 65535 < i then 65535 else i.toNat

/-- The applied code of a ring at a reading (R299): a parked ring adds 3,000 codes, and an attenuator an offset that sets its
attenuation, which the spec does not give (DESIGN CHOICE, notes/assumptions/48.md). -/
def State.formCode (s : State) (k kind : Nat) (t : Int) (r : Ring) : Nat × State :=
  let h := s.tableAt k t
  if r.state = rgDark ∨ r.state = rgFailed then (0, s)
  else if r.state = rgParked then (heaterCode (h + 3000), s)
  else if r.state = rgLocked ∨ r.state = rgHold then
    if kind = 2 then
      let f := s.takeFree
      (heaterCode (h + r.trim + (Config.freeNat f.1 % 65536 : Nat)), f.2)
    else (heaterCode (h + r.trim), s)
  else (r.code, s)

/-- An FP32 quotient of a finite value by a positive integer, rounded once (R88): the quotient with a sticky bit, far below
FP32's last place. -/
def div32 (x : Num) (n : Nat) : Nat :=
  match x with
  | .fin neg m e =>
    let q := m * 2 ^ 64 / n
    let sticky := if m * 2 ^ 64 % n = 0 then 0 else 1
    (Fmt.fp32.result (.fin neg (2 * q + sticky) (e - 65)) false).1
  | .nan => 0x7FC00000
  | .inf neg => if neg then 0xFF800000 else 0x7F800000

def mul32 (a b : Nat) : Nat := (Fmt.fp32.result ((Fmt.fp32.value a).mul (Fmt.fp32.value b)) false).1
def sub32 (a b : Nat) : Nat := (Fmt.fp32.result ((Fmt.fp32.value a).add (Fmt.fp32.value b).negate) false).1
def int32 (n : Nat) : Nat := (Fmt.fp32.convert .rne (.fin false n 0)).1

/-- Whether the feed-forward is driven (R300). -/
def State.ffActive (s : State) (p : Nat) : Bool :=
  s.rdB F.SCH_CTL_fcast_en p && s.running p && (match (s.part p).freeze with
    | some f => decide ((s.part p).gtc < f.tf)
    | none => true)

/-- FF_UPDATE (R300): one step of the two-stage model in FP32, each operation rounded once in the order written, dt and the
time constants in µs (DEDUCED, notes/assumptions/49.md). The mean engine temperature shown lies between the lowest and the highest
sensor reading (DESIGN CHOICE, notes/assumptions/56.md). -/
def execFfUpdate (o : Fin 4) (s : State) : Res :=
  let p := s.partOfOe o
  let e := s.oe o
  let act := s.ffActive p
  let k := div32 (.fin false (s.rd F.OE_FF_COEF_k_mc 0 o) 0) 1000
  let t := if act then mul32 k (int32 e.watts) else e.modelM
  let step (x goal tau : Nat) : Nat :=
    (add32 x (div32 (Fmt.fp32.value (mul32 (sub32 goal x) (int32 5))) (max tau 1))).1
  let m := step e.modelM t (s.rd F.OE_FF_COEF_tau_th 0 o)
  let v := step e.modelS m (s.rd F.OE_FF_COEF_tau_s 0 o)
  let s := s.updOe o fun x => { x with modelM := m, modelS := v }
  let lead := (Fmt.fp32.value (sub32 m v)).dy
  let r := s.roundQ (lead.at (min lead.e 0) * 256) (2 ^ (-(min lead.e 0)).toNat)
  let temps := (engineRings o).map fun k => (r.2.ring k).temp
  let lo := temps.min?.getD 0
  let hi := temps.max?.getD 0
  let f := r.2.takeFree
  let s := f.2.wr F.OE_STS_lead (wrapNat 16 (clampS 16 r.1)) 0 o
  let s := s.wr F.OE_STS_temp (lo + Config.freeNat f.1 % (hi - lo + 1)) 0 o
  .next (s.wr F.OE_STS_ff_active (b2n act) 0 o)

/-- RING_UPDATE (R299, R301): the heater code is formed with the present trim, then a LOCKED ring's trim takes a quarter of its
detuning estimate. Three bad updates in a row unlock it. -/
def execRingUpdate (o : Fin 4) (i : Fin 8) (kind : Fin 4) (n : Fin 18) (temp : BitVec 12) (e : BitVec 8) (s : State) : Res :=
  let q := 8 * o.val + i.val
  let k := ringKey o i kind n
  let r := s.ring k
  if ! ringExists i kind n then notEnabled "there is no such ring (R288)"
  else
    let t := s.reading o temp.toNat
    let s := t.2
    let s := if t.1 < 320 ∨ 1760 < t.1 then s.flag F.OE_EVT_table_range F.OE_EVT_CNT_range_cnt 0 o else s
    let c := s.formCode k kind t.1 r
    let s := c.2
    let r := { r with temp := temp.toNat, code := c.1 }
    if r.state ≠ rgLocked then .next (s.updRing k fun _ => r)
    else
      let ev := sext 8 e.toNat
      let raw := r.trim + ev.tdiv 4
      let trim : Int := if 4095 < raw then 4095 else if raw < -4095 then -4095 else raw
      let bad := if 96 ≤ ev.natAbs ∨ trim = 4095 ∨ trim = -4095 then r.bad + 1 else 0
      let r := { r with trim := trim, bad := bad, driftSum := r.driftSum + trim.natAbs, driftN := r.driftN + 1 }
      if bad < 3 then .next (s.updRing k fun _ => r)
      else
        let s := s.updRing k fun _ => { r with state := rgUnlocked, bad := 0 }
        if kind.val = 3 then
          .next ((s.record (s.partOfOe o) 5 3 (64 + 4 * o.val + i.val) (die := 36 + o.val)).updRing k fun x => x.sweep false)
        else
          let s := s.flag F.OE_FIB_EVT_ring_unlock F.OE_FIB_EVT_CNT_unlock_cnt 0 o i
          let s := s.fibreRecord q 3
          let s := s.retrainPort q 1 true
          .next (s.updRing k fun x => if x.state = rgUnlocked then x.sweep false else x)

/-! ### Recalibration (R303–R305) -/

/-- Whether a recalibration pass may work on a fibre: lit, with no handover or restripe under way (R305). -/
def State.recalFree (s : State) (q : Nat) : Bool :=
  let t := s.port q
  (s.fibre q == fbLit || s.fibre q == fbLit15) && t.hand.isNone && t.rxStripe.isNone && t.txStripe.isNone

/-- RECAL_TIMER (R303): a pass starts on every lit fibre of the engine. -/
def execRecalTimer (o : Fin 4) (s : State) : Res :=
  let fs := (List.range 8).filter fun i => s.fibre (8 * o.val + i) == fbLit || s.fibre (8 * o.val + i) == fbLit15
  let s := s.updOe o fun e => { e with recal := e.recal ++ fs.filter fun i => !e.recal.contains i }
  .next (s.showRecal o)

/-- table_drift of an engine (R304). -/
def State.tableDrift (s : State) (o : Nat) (k : Nat) (v : Nat) : State :=
  (s.flag F.OE_EVT_table_drift F.OE_EVT_CNT_drift_cnt 0 o).record (s.partOfOe o) 0 3 k (die := 36 + o) (info0 := 4) (info1 := v)

/-- TABLE_DRIFT (R304): a ring's mean |c| over 1 s exceeds 256 codes; its fibre's recalibration starts at once. -/
def execTableDrift (o : Fin 4) (i : Fin 8) (kind : Fin 4) (n : Fin 18) (s : State) : Res :=
  let k := ringKey o i kind n
  let r := s.ring k
  guarded (ringExists i kind n && r.state == rgLocked && decide (256 * r.driftN < r.driftSum)) "the mean trim is within 256 codes (R304)"
    (let s := s.updRing k fun r => { r with driftSum := 0, driftN := 0 }
     let s := s.tableDrift o k (r.driftSum / r.driftN)
     let s := if kind.val = 3 then s
       else s.updOe o fun e => { e with recal := if e.recal.contains i.val then e.recal else e.recal ++ [i.val] }
     s.showRecal o)

/-- The index of a ring in the ageing log (R487): its place in the order of R288 over the whole package. -/
def ringUnit (k : Nat) : Nat := k

/-- The margin of a wavelength in 0.1 dB: the mean of its last ten samples, at a resolution of 0.1 dB (R292); the rounding is
free (DESIGN CHOICE, notes/assumptions/4.md). -/
def State.meanMargin (s : State) (w : Wave) : Option Int × State :=
  if w.samples.isEmpty then (none, s)
  else
    let r := s.roundQ (w.samples.foldl (· + ·) 0) w.samples.length
    (some r.1, r.2)

def Port.wave (t : Port) (n : Nat) : Wave := tabGet waveDefault t.waves n
def State.updWave (s : State) (q n : Nat) (f : Wave → Wave) : State :=
  s.updPort q fun t => { t with waves := tabUpd waveDefault t.waves n f }

/-- Whether the lane of a wavelength stands at 3.0 dB or more; a ring below it is not recalibrated (R303). -/
def Port.lowMargin (t : Port) (n : Nat) : Bool :=
  let w := t.wave n
  !w.samples.isEmpty && decide (w.samples.foldl (· + ·) 0 < 30 * (w.samples.length : Int))

/-- Whether a ring is on a lane whose margin is below 3.0 dB (R303): a drop filter by this side's margin, a modulator, tap or
attenuator by the one the far end last reported (R337). -/
def Port.lowLane (t : Port) (kind n : Nat) : Bool :=
  if kind = 1 then t.lowMargin n else (t.wave n).far != -128 && decide ((t.wave n).far < 30)

/-- The recalibration of one ring (R303): the table takes d by the weights of its place and the trim gives up what the table
takes, so that the applied code stays. -/
def State.recalRing (s : State) (o k kind : Nat) (t : Int) (lc : Nat) : State :=
  let h := s.tableAt k t
  let d := (lc : Int) - h
  let jr := tabPlace t
  let put (s : State) (j : Nat) (v : Int) : State :=
    { s with heaters := tabSet heaterDefault s.heaters (k * 16 + j) (BitVec.ofNat 16 (heaterCode ((s.heater k j : Int) + v))) }
  let s := put s jr.1 ((d * (96 - jr.2 : Nat)).tdiv 96)
  let s := if jr.2 = 0 then s else put s (jr.1 + 1) ((d * jr.2).tdiv 96)
  let h' := s.tableAt k t
  let s := s.updRing k fun r => { r with trim := r.trim - (h' - h), shift := some d }
  if 2048 < d.natAbs then
    (s.tableDrift o k (wrapNat 64 d)).ageLog (o / 2) 4 2 (ringUnit k % 65536) (wrapNat 64 d) kind
  else s

/-- RECAL_RING_DONE (R303, R304, R312): a ring's recalibration sweep ends with lock code lc. With the last ring of its fibre
the pass ends there: the moon of its transmit direction is tested unless it carries a lane, and the pass completes when
every fibre has ended. -/
def execRecalRingDone (o : Fin 4) (i : Fin 8) (kind : Fin 4) (n : Fin 18) (lc : BitVec 16) (last : Bool) (s : State) : Res :=
  let q := 8 * o.val + i.val
  let k := ringKey o i kind n
  let t := s.reading o (s.ring k).temp
  let busy := (s.oe o).recal.contains i.val && s.recalFree q
  guarded (ringExists i kind n && kind.val != 3 && busy && (s.ring k).state == rgLocked && !(s.port q).lowLane kind n)
    "the ring is not being recalibrated (R303, R305)"
    (let s := t.2.recalRing o k kind t.1 lc.toNat
     if ! last then s
     else
       let s := if (s.port q).txLane = 0x1F ∧ (s.port q).mirror = none then
           let s := s.queueMgmt q (opticMsg 4 0 0 0)
           (s.ringsOf q [(0, 16)] fun r => r.sweep false).updPort q fun t => { t with moonOut := true }
         else s
       let s := s.updOe o fun e => { e with recal := e.recal.filter (· != i.val), recalled := e.recalled ++ [i.val] }
       let s := if (s.oe o).recal.isEmpty then
           let s := s.flag F.OE_EVT_recal_pass F.OE_EVT_CNT_recal_cnt 0 o
           s.updOe o fun e => { e with refPwr := sext 16 (s.rd F.OE_LASER_STS_pri_pwr 0 o) }
         else s
       s.showRecal o)

/-- Write the heater tables of a half's engines to its flash (R303). -/
def State.flashHeaters (s : State) (half : Nat) : State :=
  let mine := s.heaters.filter fun x => x.1 / 16 / 18 / 4 / 8 / 2 == half
  if half = 1 then { s with flash1 := { s.flash1 with heaters := mine } } else { s with flash0 := { s.flash0 with heaters := mine } }

/-- TABLE_FLASH_WRITE (R303): once per hour Mafin writes the tables to flash. -/
def execTableFlashWrite (half : Fin 2) (s : State) : Res :=
  guarded ((s.part (s.partOfHalf half)).state != .cold) "Mafin does not run (R303)" (s.flashHeaters half)

/-! ### Equalising (R308) -/

/-- The attenuations of a fibre: each line stands, without its attenuation, u above sensitivity; it takes what brings it
within 0.5 dB of the lowest, the choice within that band free (DESIGN CHOICE, notes/assumptions/53.md). -/
def State.equaliseFibre (s : State) (q : Nat) : State :=
  let t := s.port q
  let us := (List.range 17).filterMap fun n =>
    let w := t.wave n
    if w.far = -128 then none else some (n, w.far + (w.atten : Int))
  match (us.map (·.2)).min? with
  | none => s
  | some low =>
    us.foldl (fun a x =>
      let f := a.takeFree
      let want := x.2 - low - ((Config.freeNat f.1 % 6 : Nat) : Int)
      let v : Int := if want < 0 then 0 else if 30 < want then 30 else want
      f.2.updWave q x.1 fun w => { w with atten := v.toNat, far := x.2 - v }) s

/-- EQUALISE (R308, R304): once a second the attenuators are set, and the trim statistics start a new second. -/
def execEqualise (o : Fin 4) (s : State) : Res :=
  let s := (enginePorts o).foldl (fun a q =>
    if a.fibre q == fbLit || a.fibre q == fbLit15 then a.equaliseFibre q else a) s
  .next ((engineRings o).foldl (fun a k => a.updRing k fun r => { r with driftSum := 0, driftN := 0 }) s)

end Sys2Proof.Machine
end

