-- ==== Sys2Proof/Machine/Moon.lean ====
section
/-! DEFINITION. The moon lane, restripe and drop of a fibre (08 R309–R318), sweeps (R298), and loss of signal and probing
(R321, R322). Optical management messages are those of R314. -/

namespace Sys2Proof.Machine

/-! ### Lane maps (R290) -/

def State.moonLane (s : State) (q : Nat) : Nat := s.rd F.OE_FIB_LANEMAP_moon_lane 0 (q / 8) (q % 8)
def State.lanes (s : State) (q : Nat) : Nat := s.rd F.OE_FIB_LANEMAP_lanes 0 (q / 8) (q % 8)
def State.moonAvail (s : State) (q : Nat) : Bool := s.rdB F.OE_FIB_STS_moon_avail 0 (q / 8) (q % 8)
def State.setMoonAvail (s : State) (q : Nat) (b : Bool) : State := s.wr F.OE_FIB_STS_moon_avail (b2n b) 0 (q / 8) (q % 8)

/-- The wavelengths of a lane map that carry traffic (R290). -/
def carriers (moon lanes e0 e1 : Nat) : List Nat :=
  if lanes = 16 then ((List.range 16).filter (· != moon)) ++ (if moon = 0x1F then [] else [16])
  else if lanes = 15 then (List.range 17).filter fun n => n != e0 && n != e1 && !(e1 == 0x1F && n == 16)
  else []

/-- The receive wavelengths of a fibre that carry traffic. -/
def State.traffic (s : State) (q : Nat) : List Nat :=
  if s.fibre q = fbLit ∨ s.fibre q = fbLit15 then
    carriers (s.moonLane q) (s.lanes q) (s.rd F.OE_FIB_LANEMAP_excl0 0 (q / 8) (q % 8)) (s.rd F.OE_FIB_LANEMAP_excl1 0 (q / 8) (q % 8))
  else []

/-- Set the lane map of a fibre's receive direction. -/
def State.setLanes (s : State) (q moon lanes e0 e1 : Nat) : State :=
  let o := q / 8
  let i := q % 8
  (((s.wr F.OE_FIB_LANEMAP_moon_lane moon 0 o i).wr F.OE_FIB_LANEMAP_lanes lanes 0 o i).wr F.OE_FIB_LANEMAP_excl0 e0 0 o i).wr
    F.OE_FIB_LANEMAP_excl1 e1 0 o i

/-- The exclusions of a fifteen-lane map made by leaving out wavelength w from a map with the given moon lane (R316). -/
def stripeExcl (moon w : Nat) : Nat × Nat :=
  if moon = 0x1F then (w, 0x1F) else if w = 16 then (moon, 0x1F) else (moon, w)

/-- A slip on a scheduled port while RUNNING. -/
def State.portSlip (s : State) (q cause : Nat) : State :=
  if s.scheduledPort q then s.slipIfRunning (s.partOfPort q) cause else s

/-- A frame at least 1,024 frames ahead (R311, R316); how far beyond is free (DESIGN CHOICE, notes/assumptions/52.md). -/
def State.frameAhead (s : State) (q : Nat) : Nat × State :=
  let f := s.takeFree
  ((s.port q).rxFrames + 1024 + Config.freeNat f.1, f.2)

/-! ### Drop, restripe, handover: where they begin -/

/-- The transmitter of a fibre goes dark: its modulators and attenuators are off (R315). -/
def State.txDark (s : State) (q : Nat) : State :=
  let s := s.ringsOf q (fibreRings.filter fun r => r.1 != 1) Ring.off
  s.updPort q fun t => { t with lit := false }

/-- A fibre is dropped (R315, R317): its traffic leaves it, the port is down until RESTORE (DEDUCED, notes/assumptions/57.md), its
comet tap parks; under eye-safety its transmitter goes dark. -/
def State.dropFibre (s : State) (q : Nat) (tell : Bool) : State :=
  if s.fibre q = fbDropped then s
  else
    let o := q / 8
    let i := q % 8
    let s := if tell then s.queueMgmt q (opticMsg 8 0 0 0) else s
    let s := s.portSlip q 0x0A
    let s := s.flag F.OE_FIB_EVT_drop F.OE_FIB_EVT_CNT1_drop_cnt 0 o i
    let s := ((s.abandon q).portDown q).setFibre q fbDropped
    let s := (s.setLanes q (s.moonLane q) 0 0x1F 0x1F).cometOff q
    let s := s.ringsOf q [(0, 17)] Ring.park
    if s.rdB F.OE_POLICY_policy 0 o then s.txDark q else s

/-- The failure policy applies to a traffic wavelength (R315): a restripe at 16 lanes, otherwise a drop. -/
def State.lanePolicy (s : State) (q w : Nat) : State :=
  if s.lanes q = 16 ∧ (s.port q).rxStripe = none then
    let f := s.frameAhead q
    (f.2.updPort q fun t => { t with rxStripe := some (w, f.1) }).queueMgmt q (opticMsg 7 w 0 f.1)
  else if (s.port q).rxStripe.map (·.1) = some w then s
  else s.dropFibre q true

/-- Side B asks for the moon for lane k and locks its λ16 drop filter (R311). -/
def State.startHandover (s : State) (q k : Nat) (retried : Bool) : State :=
  let s := s.updPort q fun t => { t with hand := some { lane := k, stage := 0, frame := 0, retried := retried, back := false } }
  (s.ringsOf q [(1, 16)] fun r => r.sweep false).queueMgmt q (opticMsg 1 k 0 0)

/-- A traffic wavelength has reached HANDOVER (R309, R311, R313, R315). -/
def State.laneFails (s : State) (q w : Nat) : State :=
  match (s.port q).hand with
  | some h => if h.lane = w ∧ !h.back then s else s.lanePolicy q w
  | none =>
    if s.lanes q = 16 ∧ s.moonAvail q ∧ s.moonLane q = 0x1F ∧ w < 16 ∧ (s.port q).rxStripe = none then s.startHandover q w false
    else s.lanePolicy q w

/-! ### Sweeps (R298) -/

/-- Codes a sweep may try around the table value. -/
def Ring.sweepCode (r : Ring) (h : Int) : Nat :=
  let coarse := if r.full then 256 else 64
  if r.step < coarse then (if r.full then 256 * r.step else heaterCode (h - 8192 + 256 * r.step))
  else heaterCode ((r.bestCode : Int) - 256 + 32 * (r.step - coarse : Nat))

def Ring.sweepSteps (r : Ring) : Nat := (if r.full then 256 else 64) + 16

/-- Lane k is copied onto λ16 from the present frame: A's modulator has locked (R311). -/
def State.mirrorReady (s : State) (q : Nat) : State :=
  match (s.port q).mirror with
  | none => s
  | some k =>
    let m := (s.port q).txFrames
    (s.updPort q fun t => { t with txLane := k, txMoon := false }).queueMgmt q (opticMsg 2 k 0 m)

/-- A ring has locked. -/
def State.ringLocked (s : State) (q kind n : Nat) : State :=
  if kind = 0 ∧ n = 16 ∧ (s.port q).txLane = 0x1F then s.mirrorReady q else s

/-- A ring is FAILED after three sweeps (R298): ageing log, record, and its wavelength is lost (R315). -/
def State.ringFailed (s : State) (o i kind n : Nat) : State :=
  let q := 8 * o + i
  let k := ringKey o i kind n
  let s := s.ageLog (o / 2) 19 2 (ringUnit k % 65536) (s.ring k).sts 0
  let s := s.record (s.partOfOe o) 5 6 k (die := 36 + o) (info0 := (s.ring k).sts)
  if kind = 3 then s
  else if n = 17 then s.cometOff q
  else if n = 16 then (if kind = 1 then s.setMoonAvail q false else s.updPort q fun t => { t with txMoon := false })
  else if kind = 1 ∧ (s.traffic q).contains n then s.laneFails q n
  else s

/-- SWEEP_STEP (R298): one step of a sweep with the response measured at its code. The resonance is the strictly greatest
response; none at all is no resonance (DEDUCED, notes/assumptions/47.md). -/
def execSweepStep (o : Fin 4) (i : Fin 8) (kind : Fin 4) (n : Fin 18) (resp : BitVec 16) (s : State) : Res :=
  let q := 8 * o.val + i.val
  let k := ringKey o i kind n
  let r := s.ring k
  if ! (ringExists i kind n && (r.state == rgSweep || r.state == rgUnlocked)) then notEnabled "the ring does not sweep (R297)"
  else
    let t := s.reading o r.temp
    let h := s.tableAt k t.1
    let s := t.2
    let code := r.sweepCode h
    let better := decide (r.best < resp.toNat)
    let r := { r with
      state := rgSweep, code := code, step := r.step + 1,
      best := if better then resp.toNat else r.best, bestCode := if better then code else r.bestCode }
    if r.step < r.sweepSteps then .next (s.updRing k fun _ => r)
    else if 0 < r.best ∧ ((r.bestCode : Int) - h).natAbs ≤ 2048 then
      let s := s.updRing k fun _ => { r with
        state := rgLocked, code := r.bestCode, trim := (r.bestCode : Int) - h, failed := 0, bad := 0, step := 0 }
      .next (if kind.val = 3 then s else s.ringLocked q kind n)
    else if r.failed < 2 then
      .next (s.updRing k fun _ => { r with failed := r.failed + 1, step := 0, best := 0, bestCode := 0 })
    else
      let s := s.updRing k fun _ => { r with state := rgFailed, failed := 3, code := 0, step := 0, bad := 0 }
      .next (s.ringFailed o i kind n)

/-! ### Margins (R292, R309, R310, R318) -/

/-- Show a wavelength's margin (OE_FIB_MARGIN). -/
def State.showMargin (s : State) (q n : Nat) (m : Int) : State :=
  let v := (s.reg .OE_FIB_MARGIN 0 (q / 8) (q % 8) (n / 8)).toNat
  s.setReg .OE_FIB_MARGIN (BitVec.ofNat 64 (putBits v (8 * (n % 8)) 8 (wrapNat 8 m))) 0 (q / 8) (q % 8) (n / 8)

/-- The traffic wavelength with the lowest margin shown, and that margin. -/
def State.worstOf (s : State) (q : Nat) : Option (Nat × Int) :=
  (s.traffic q).foldl (fun b n =>
    let m := sext 8 (bits (s.reg .OE_FIB_MARGIN 0 (q / 8) (q % 8) (n / 8)).toNat (8 * (n % 8)) 8)
    match b with
    | none => some (n, m)
    | some x => if m < x.2 then some (n, m) else some x) none

def State.showWorst (s : State) (q : Nat) : State :=
  match s.worstOf q with
  | none => s
  | some x => (s.wr F.OE_FIB_STS_worst x.1 0 (q / 8) (q % 8)).wr F.OE_FIB_STS_worst_margin (wrapNat 8 x.2) 0 (q / 8) (q % 8)

/-- The thresholds of R309 on a traffic wavelength with margin m; each condition clears 0.5 dB above. -/
def State.thresholds (s : State) (q n : Nat) (m : Int) : State :=
  let o := q / 8
  let i := q % 8
  let w := (s.port q).wave n
  let low (was : Bool) (t : Int) : Bool := decide (m < t) || (was && decide (m < t + 5))
  let warn := low w.warn 30
  let hand := low w.hand 20
  let loss := low w.loss 5
  let others := (s.traffic q).any fun x => x != n && ((s.port q).wave x).loss
  let s := s.updWave q n fun x => { x with warn := warn, hand := hand, loss := loss }
  let s := if warn && !w.warn then ((s.flag F.OE_FIB_EVT_warn F.OE_FIB_EVT_CNT_warn_cnt 0 o i).fibreRecord q 4).record
      (s.partOfPort q) 0 3 (q * 18 + n) (die := 32 + o) (info0 := 5) (info1 := wrapNat 64 m) else s
  let s := if hand && !w.hand then s.laneFails q n else s
  if loss && !w.loss then
    let s := s.flag F.OE_FIB_EVT_loss F.OE_FIB_EVT_CNT_loss_cnt 0 o i
    if others then s.dropFibre q true
    else match (s.port q).hand with
      | some h => if h.lane = n ∧ !h.back then s.portSlip q 0x0A else s
      | none => s
  else s

/-- The λ17 margin of a receive fibre (R318). -/
def State.cometMargin (s : State) (q : Nat) (m : Int) : State :=
  if decide (m < 20) && s.cometOk q then
    let used := s.imageUsesComet q
    let s := s.cometOff q
    let s := s.flag F.OE_FIB_EVT_comet_down F.OE_FIB_EVT_comet_cnt 0 (q / 8) (q % 8)
    let s := s.fibreRecord q 5
    if used then s.slipIfRunning (s.partOfPort q) 0x0A else s
  else s

/-- MARGIN_SAMPLE (R292, R309, R318): the margins of the 18 wavelengths, signed bytes of 0.1 dB with −12.8 dB for no light
(DEDUCED, notes/assumptions/50.md); thresholds compare the mean of the last ten samples. -/
def execMarginSample (q : Fin 32) (m : BitVec 144) (s : State) : Res :=
  guarded (s.portState q != ptDark) "the port is dark (R329)"
    (let s := (List.range 18).foldl (fun a n =>
      let v := sext 8 (bits m.toNat (8 * n) 8)
      let live := (a.traffic q).contains n
      let a := a.updWave q n fun w => { w with
        samples := (v :: w.samples).take 10, secSum := w.secSum + v, secN := w.secN + 1 }
      let w := (a.port q).wave n
      let r := a.meanMargin w
      let a := r.2.showMargin q n (if v = -128 then -128 else r.1.getD v)
      if w.samples.length < 10 then a
      else if n = 17 then a.cometMargin q (r.1.getD v)
      else if live then a.thresholds q n (r.1.getD v)
      else a) s
     s.showWorst q)

/-- COMET_RETURN (R318): λ17 has stayed at 3.0 dB or more for 10 s. -/
def execCometReturn (q : Fin 32) (s : State) : Res :=
  let lit := s.fibre q == fbLit || s.fibre q == fbLit15
  guarded (lit && !s.cometOk q && (s.ring (ringKey (q / 8) (q % 8) 1 17)).state == rgLocked && !(s.port q).lowMargin 17)
    "the comet lane is in use, or its margin is below 3.0 dB (R318)"
    (s.wr F.OE_FIB_STS_comet_ok 1 0 (q / 8) (q % 8))

/-- The least-squares slope of ten one-second means, oldest first: a numerator and denominator of 0.1 dB/s (R310). -/
def slopeOf (means : List (Int × Nat)) : Int × Nat :=
  let d := means.foldl (fun a x => a * max x.2 1) 1
  (means.zipIdx.foldl (fun (a : Int) x => a + (2 * (x.2 : Int) - 9) * x.1.1 * (d / max x.1.2 1 : Nat)) 0, 165 * d)

/-- A margin report: the margins of λn to λ(n + 13) as last shown (R337). -/
def State.marginReport (s : State) (q n : Nat) : Nat :=
  (List.range 14).foldl (fun a i =>
    let m := if 18 ≤ n + i then 0x80
      else bits (s.reg .OE_FIB_MARGIN 0 (q / 8) (q % 8) ((n + i) / 8)).toNat (8 * ((n + i) % 8)) 8
    a + m * 2 ^ (16 + 8 * i)) (0x13 + n * 2 ^ 8)

/-- SLOPE_FIT (R310): once a second; the margins of the second join the last ten, slopes are fitted, and a handover may start
early. The margins are reported to the far end (R337; how often: DESIGN CHOICE, notes/assumptions/59.md). -/
def execSlopeFit (q : Fin 32) (s : State) : Res :=
  let s := (List.range 18).foldl (fun a n => a.updWave q n fun w =>
    if w.secN = 0 then w else { w with means := ((w.secSum, w.secN) :: w.means).take 10, secSum := 0, secN := 0 }) s
  let lead := s.rd F.OE_CTL_early_lead 0 (q / 8)
  let s := if s.manages q then (s.queueMgmt q (s.marginReport q 0)).queueMgmt q (s.marginReport q 14) else s
  let s := (List.range 18).foldl (fun a n =>
    match ((a.port q).wave n).means with
    | [] => a
    | (sum, cnt) :: _ => a.updWave q n fun w => { w with dayLow := some (min (w.dayLow.getD (sum / cnt)) (sum / cnt)) }) s
  .next ((s.traffic q).foldl (fun a n =>
    let w := (a.port q).wave n
    if w.means.length < 10 then a
    else
      let f := slopeOf w.means.reverse
      let a := if a.rd F.OE_FIB_STS_worst 0 (q / 8) (q % 8) = n then
          let r := a.roundQ (100 * f.1) f.2
          r.2.wr F.OE_FIB_STS_worst_slope (wrapNat 16 (clampS 16 r.1)) 0 (q / 8) (q % 8)
        else a
      let m := a.meanMargin w
      let a := m.2
      let mm := m.1.getD 0
      let soon := decide (mm < 30) && decide (f.1 < 0) && lead != 0 && decide ((mm - 5) * (f.2 : Int) < (lead : Int) * (-f.1))
      let free := (a.port q).hand.isNone && (a.port q).rxStripe.isNone && a.moonAvail q && a.lanes q == 16 && a.moonLane q == 0x1F
      if soon && free && decide (n < 16) then a.startHandover q n false else a) s)

/-! ### Handover messages (R311–R314) -/

/-- The fields of an optical message (R314). -/
def omOp (m : BitVec 128) : Nat := bits m.toNat 0 8
def omLane (m : BitVec 128) : Nat := bits m.toNat 8 8
def omMargin (m : BitVec 128) : Int := sext 8 (bits m.toNat 16 8)
def omFrame (m : BitVec 128) : Nat := bits m.toNat 32 64

/-- A message of an op arrives on a port; on a port that carries no management frames it is not received. -/
def State.opticArrives (s : State) (q op : Nat) (m : BitVec 128) (f : State → State) : Res :=
  if omOp m ≠ op then notEnabled "the message is another one (R314)"
  else
    .next (if s.manages q then f s else s)

/-- MOON_REQ (R311): side A begins locking its λ16 modulator for lane k, with lane k's attenuation. A moon that carries another
lane is taken. -/
def execMoonReq (q : Fin 32) (m : BitVec 128) (s : State) : Res :=
  s.opticArrives q 1 m fun s =>
    let k := omLane m
    let t := s.port q
    if 16 ≤ k ∨ (t.txLane ≠ 0x1F ∧ t.txLane ≠ k) then s
    else
      let s := s.updPort q fun t => { t with mirror := some k }
      let s := s.updWave q 16 fun w => { w with atten := (t.wave k).atten }
      if (s.ring (ringKey (q / 8) (q % 8) 0 16)).state = rgLocked then s.mirrorReady q
      else s.ringsOf q [(0, 16)] fun r => r.sweep false

/-- MOON_READY (R311): side B checks frames with lane k from λ16 from frame M on. -/
def execMoonReady (q : Fin 32) (m : BitVec 128) (s : State) : Res :=
  s.opticArrives q 2 m fun s =>
    match (s.port q).hand with
    | some h =>
      if h.stage = 0 ∧ h.lane = omLane m ∧ !h.back then
        s.updPort q fun t => { t with hand := some { h with stage := 1, frame := omFrame m } }
      else s
    | none => s

/-- MOON_PASS_COUNT (R311): 4,096 consecutive frames have passed; B names the frame of the switch. In reverse the frames were
checked on λk (DEDUCED, notes/assumptions/51.md). -/
def execMoonPassCount (q : Fin 32) (s : State) : Res :=
  match (s.port q).hand with
  | none => notEnabled "no handover is under way (R311)"
  | some h =>
    let ring := ringKey (q / 8) (q % 8) 1 (if h.back then h.lane else 16)
    guarded (h.stage == 1 && (s.ring ring).state == rgLocked) "the mirrored frames are not being checked (R311)"
      (let f := s.frameAhead q
       let s := f.2.updPort q fun t => { t with hand := some { h with stage := 2, frame := f.1 } }
       if h.back then s else s.queueMgmt q (opticMsg 3 h.lane 0 f.1))

/-- MOON_SWITCH (R311): side A notes the switch frame. -/
def execMoonSwitch (q : Fin 32) (m : BitVec 128) (s : State) : Res :=
  s.opticArrives q 3 m fun s =>
    s.updPort q fun t => if t.txLane = omLane m then { t with txSwitch := some (omFrame m) } else t

/-- MOON_SWITCH_FRAME (R311, R313, R314): at frame S side B takes lane k from λ16; after LOSS with mirroring running it does so
at the next frame that passes. In reverse it takes lane k from λk again, parks the moon and tells A
(DEDUCED, notes/assumptions/51.md). -/
def execMoonSwitchFrame (q : Fin 32) (s : State) : Res :=
  match (s.port q).hand with
  | none => notEnabled "no handover is under way (R311)"
  | some h =>
    guarded (h.stage == 2 || (h.stage == 1 && !h.back && ((s.port q).wave h.lane).loss)) "no switch frame has been named (R311)"
      (let S := if h.stage = 2 then h.frame else (s.port q).rxFrames
       let s := s.updPort q fun t => { t with hand := none, rxFrames := max t.rxFrames S }
       let s := s.flag F.OE_FIB_EVT_handover F.OE_FIB_EVT_CNT_handover_cnt 0 (q / 8) (q % 8)
       if h.back then
         let s := s.wr F.OE_FIB_LANEMAP_moon_lane 0x1F 0 (q / 8) (q % 8)
         ((s.ringsOf q [(1, 16)] Ring.park).queueMgmt q (opticMsg 6 h.lane 0 S)).showWorst q
       else ((s.wr F.OE_FIB_LANEMAP_moon_lane h.lane 0 (q / 8) (q % 8)).setMoonAvail q false).showWorst q)

/-- MOON_FAIL (R313): the handover fails; it is retried once, then the moon is unavailable and the policy applies. -/
def execMoonFail (q : Fin 32) (s : State) : Res :=
  match (s.port q).hand with
  | none => notEnabled "no handover is under way (R313)"
  | some h =>
    let s := s.flag F.OE_FIB_EVT_moon_fail F.OE_FIB_EVT_CNT1_moon_fail_cnt 0 (q / 8) (q % 8)
    let s := s.updPort q fun t => { t with hand := none }
    if h.back then .next s
    else if ! h.retried then .next (s.startHandover q h.lane true)
    else .next (((s.setMoonAvail q false).ringsOf q [(1, 16)] Ring.park).lanePolicy q h.lane)

/-- MOON_TEST (R312): the far end tests the moon of the direction this side receives: the λ16 drop filter locks. A moon that
carries a lane, or is being asked for one, is not tested. -/
def execMoonTest (q : Fin 32) (m : BitVec 128) (s : State) : Res :=
  s.opticArrives q 4 m fun s =>
    if s.moonLane q ≠ 0x1F ∨ (s.port q).hand.isSome then s
    else (s.ringsOf q [(1, 16)] fun r => r.sweep false).updPort q fun t => { t with testing := true }

/-- MOON_TEST_END (R312): after 1 ms side B returns the moon margin and parks; the moon is available at 3.0 dB or more. -/
def execMoonTestEnd (q : Fin 32) (m : BitVec 8) (s : State) : Res :=
  guarded (s.port q).testing "no moon test is under way (R312)"
    (let ok := decide (30 ≤ sext 8 m.toNat) && (s.ring (ringKey (q / 8) (q % 8) 1 16)).state != rgFailed
     let s := s.updPort q fun t => { t with testing := false }
     ((s.setMoonAvail q ok).ringsOf q [(1, 16)] Ring.park).queueMgmt q (opticMsg 5 0 m.toNat 0))

/-- MOON_TEST_DONE (R312): side A receives the moon margin; its moon is available or not, and parks. -/
def execMoonTestDone (q : Fin 32) (m : BitVec 128) (s : State) : Res :=
  s.opticArrives q 5 m fun s =>
    if ! (s.port q).moonOut then s
    else
      let ok := decide (30 ≤ omMargin m) && (s.ring (ringKey (q / 8) (q % 8) 0 16)).state != rgFailed
      let s := if (s.port q).mirror = none then s.ringsOf q [(0, 16)] Ring.park else s
      s.updPort q fun t => { t with moonOut := false, txMoon := ok }

/-- Begin a handover in reverse (R314): λk must show 3.0 dB. -/
def State.startBack (s : State) (q k : Nat) : State :=
  if s.moonLane q = k ∧ k < 16 ∧ (s.port q).hand = none ∧ !(s.port q).lowMargin k then
    s.updPort q fun t => { t with hand := some { lane := k, stage := 1, frame := 0, retried := false, back := true } }
  else s

/-- MOON_RETURN (R314): with the frame of the switch, side A stops mirroring lane k and parks its moon; with none, side B begins
the handover in reverse (DEDUCED, notes/assumptions/51.md). -/
def execMoonReturn (q : Fin 32) (m : BitVec 128) (s : State) : Res :=
  s.opticArrives q 6 m fun s =>
    if omFrame m ≠ 0 then
      if (s.port q).txLane = omLane m then
        (s.ringsOf q [(0, 16)] Ring.park).updPort q fun t => { t with mirror := none, txLane := 0x1F, txSwitch := none }
      else s
    else s.startBack q (omLane m)

/-! ### Restripe and drop (R315–R317) -/

/-- RESTRIPE (R316): the far end names a wavelength of the direction this side sends, and a frame. -/
def execRestripe (q : Fin 32) (m : BitVec 128) (s : State) : Res :=
  s.opticArrives q 7 m fun s =>
    if 17 ≤ omLane m then s else s.updPort q fun t => { t with txStripe := some (omLane m, omFrame m) }

/-- RESTRIPE_FRAME (R316): at the named frame an end changes its lane map, that of its receive direction or that of its
transmit direction. -/
def execRestripeFrame (q : Fin 32) (rx : Bool) (s : State) : Res :=
  let t := s.port q
  match (if rx then t.rxStripe else t.txStripe) with
  | none => notEnabled "no restripe is named (R316)"
  | some (w, _) =>
    let p := s.partOfPort q
    let s := s.portSlip q 0x0B
    let s := s.flag F.OE_FIB_EVT_restripe F.OE_FIB_EVT_CNT1_restripe_cnt 0 (q / 8) (q % 8)
    let s :=
      if rx then
        let e := stripeExcl (s.moonLane q) w
        let s := s.updPort q fun t => { t with rxStripe := none, hand := none }
        let s := if e.2 = 0x1F then s.ringsOf q [(1, 16)] Ring.park else s
        ((s.setLanes q 0x1F 15 e.1 e.2).setMoonAvail q false).setFibre q fbLit15
      else
        let e := stripeExcl t.txLane w
        let s := if e.2 = 0x1F then s.ringsOf q [(0, 16)] Ring.park else s
        s.updPort q fun t => { t with
          txStripe := none, mirror := none, txLane := 0x1F, txSwitch := none, txLanes := 15, txExcl0 := e.1, txExcl1 := e.2 }
    let s := (s.portFlags q).showWorst q
    .next (if s.scheduledPort q then s.armBroken p 0x0D else s)

/-- DROP (R317): the far end has dropped the fibre. -/
def execDrop (q : Fin 32) (m : BitVec 128) (s : State) : Res := s.opticArrives q 8 m fun s => s.dropFibre q false

/-! ### Loss of signal and probing (R321, R322) -/

/-- The transmitter of a port enters PROBE: its rings are DARK, the λ0 modulator apart (R322). -/
def State.enterProbe (s : State) (q : Nat) : State :=
  let s := s.ringsOf q (fibreRings.filter fun r => r.1 != 1 && r != (0, 0)) Ring.off
  (s.updPort q fun t => { t with lit := false }).setFibre q fbProbe

/-- Whether some drop filter of a fibre still follows its light. -/
def State.receives (s : State) (q : Nat) : Bool := (List.range 18).any fun n =>
  let st := (s.ring (ringKey (q / 8) (q % 8) 1 n)).state
  st == rgSweep || st == rgLocked || st == rgUnlocked

/-- LOS (R321, R315, R332): every drop filter dark for 8 µs: los, receive rings HOLD, the port down, a record and the slip; under
eye-safety the transmitter goes dark and probes. A dropped fibre stays dropped (R317). -/
def execLos (q : Fin 32) (s : State) : Res :=
  let st := s.portState q
  let gone := s.fibre q == fbDropped
  guarded (st != ptDark && s.fibre q != fbLos && s.fibre q != fbProbe && (!gone || s.receives q)) "the fibre has no signal to lose (R321)"
    (let s := s.flag F.OE_FIB_EVT_los F.OE_FIB_EVT_CNT1_los_cnt 0 (q / 8) (q % 8)
     let s := s.ringsOf q ((List.range 18).map fun n => (1, n)) Ring.hold
     let s := s.abandon q
     let s := s.portSlip q 0x0E
     let s := if s.portState q = ptDown then s else s.portDown q
     let s := (s.portRecord q 1).cometOff q
     if gone then s
     else if s.rdB F.OE_POLICY_policy 0 (q / 8) then s.enterProbe q else s.setFibre q fbLos)

/-- Send a probe: 20 µs of idle frames on λ0 (R322). -/
def State.probe (s : State) (q : Nat) : State :=
  let s := s.updPort q fun t => { t with lastProbe := some (s.part (s.partOfPort q)).gtc }
  s.emit (.frame q ((s.port q).mgmtFrame []))

/-- PROBE_TIMER (R322): every 100 ms a port in PROBE sends a probe. -/
def execProbeTimer (q : Fin 32) (s : State) : Res :=
  guarded (s.fibre q == fbProbe) "the port is not in PROBE (R322)" (s.probe q)

/-- PROBE_LIGHT (R322): light for 10 µs: within 100 µs after a probe the fibre relights, otherwise a probe is sent at once. -/
def execProbeLight (q : Fin 32) (s : State) : Res :=
  let now := (s.part (s.partOfPort q)).gtc
  let near := match (s.port q).lastProbe with
    | some g => decide (now ≤ g + (if s.slow then 180000 else 225000))
    | none => false
  guarded (s.fibre q == fbProbe) "the port is not in PROBE (R322)" (if near then s.lightFibre q else s.probe q)

end Sys2Proof.Machine
end

