-- ==== Sys2Proof/Machine/Bridge.lean ====
section
/-! DEFINITION. Die bridges: beats, retry and replay, width training, width signatures (01 R13–R35). -/

namespace Sys2Proof.Machine

/-! ### Numbering (R12, R14) -/

/-- The mirror of a West tile in the East half (R12). -/
def mirrorTile (t : Nat) : Nat := if t % 2 = 0 then t + 9 else t + 7

/-- The tile (or, from 16, the optical engine + 16) at a side of a bridge (R14). -/
def sideAt (b x : Nat) : Nat :=
  if b < 4 then (if x = 0 then 2 * b + 1 else 8 + 2 * b)
  else if b < 8 then (if x = 0 then 2 * (b - 4) else 2 * (b - 4) + 1)
  else if b < 11 then (if x = 0 then 2 * (b - 8) else 2 * (b - 8) + 2)
  else if b < 14 then (if x = 0 then 2 * (b - 11) + 1 else 2 * (b - 11) + 3)
  else if b < 18 then mirrorTile (if x = 0 then 2 * (b - 14) else 2 * (b - 14) + 1)
  else if b < 21 then mirrorTile (if x = 0 then 2 * (b - 18) else 2 * (b - 18) + 2)
  else if b < 24 then mirrorTile (if x = 0 then 2 * (b - 21) + 1 else 2 * (b - 21) + 3)
  else
    let o := (b - 24) / 2
    if x = 1 then 16 + o
    else if o = 0 then 0 else if o = 1 then 6 else if o = 2 then 9 else 15

/-- The half a bridge's side lies in. -/
def sideHalf (b x : Nat) : Nat :=
  let u := sideAt b x
  if u < 16 then u / 8 else (u - 16) / 2

/-- The die index of a bridge's side (R43): the base die of its tile or the EIC of its engine. -/
def sideDie (b x : Nat) : Nat := 16 + sideAt b x

/-- Whether a bridge is a seam bridge. -/
def isSeam (b : Nat) : Bool := b < 4

/-! ### State of a side (R25) -/

def brOff : Nat := 0
def brReset : Nat := 1
def brCalibrate : Nat := 2
def brWireTest : Nat := 3
def brMap : Nat := 4
def brActive : Nat := 5
def brRetrain : Nat := 6
def brDegraded : Nat := 7
def brDown : Nat := 8

/-- The state code of a side. -/
def State.sideState (s : State) (b x : Nat) : Nat := s.rd F.BRG_WIDTH_STS_state 0 b x

/-- Whether a side carries traffic (R25). -/
def State.sideUp (s : State) (b x : Nat) : Bool :=
  s.sideState b x == brActive || s.sideState b x == brDegraded

/-- Whether a side is in RETRAIN or training (R28). -/
def State.sideTraining (s : State) (b x : Nat) : Bool :=
  let c := s.sideState b x
  c == brCalibrate || c == brWireTest || c == brMap || c == brRetrain

/-- The partition that sees a side's events. -/
def State.partOfSide (s : State) (b x : Nat) : Nat := s.partOfHalf (sideHalf b x)

/-- The signature of a pair of generation and width mask (R29). -/
def sigOf (gen mask : Nat) : Nat := crc16Ccitt (toLE 2 gen ++ toLE 8 mask)

/-- Nibble n of a signature. -/
def sigNibble (sig n : Nat) : Nat := bits sig (4 * n) 4

/-- Granules per beat at g enabled groups (R16). -/
def granPerBeat (g : Nat) : Nat := (64 * g - 256) / 528

/-- Store a side's pair of width mask and generation with what follows from it (R23, R24, R29). -/
def State.setPair (s : State) (b x mask gen : Nat) : State :=
  let g := popcount 64 mask
  let s := s.setReg .BRG_MASK (BitVec.ofNat 64 mask) 0 b x
  let s := s.wr F.BRG_WIDTH_STS_generation gen 0 b x
  let s := s.wr F.BRG_WIDTH_STS_width g 0 b x
  let s := s.wr F.BRG_WIDTH_STS_gran_per_beat (granPerBeat g) 0 b x
  s.wr F.BRG_WIDTH_STS_signature (sigOf gen mask) 0 b x

/-- Report a bridge event to the fault log (R471 LINK 11). -/
def State.bridgeRecord (s : State) (b x : Nat) : State :=
  s.record (s.partOfSide b x) 4 11 (2 * b + x) (die := sideDie b x)
    (info0 := (s.reg .BRG_WIDTH_STS 0 b x).toNat)

/-- A side enters RETRAIN: short training, retry buffer held, a slip of cause BRIDGE while the scheduled plane runs
unless slip_mask is set (R30, R31). Nothing happens while it already trains (R28). -/
def State.bridgeRetrain (s : State) (b x : Nat) (tell : Bool) : State :=
  if s.sideTraining b x then s
  else
    let s := s.wr F.BRG_WIDTH_STS_state brRetrain 0 b x
    let s := s.updSide b x fun d => { d with short := true, awaitReplay := false }
    let s := s.flag F.BRG_EVT_retrain F.BRG_EVT_CNT_retrain_cnt 0 b x
    let s := s.bridgeRecord b x
    let s := if s.rdB F.BRG_CTL_slip_mask 0 b x then s else s.slipIfRunning (s.partOfSide b x) 0x03
    if tell then s.emit (.bridgeRetrain b x) else s

/-! ### Beats (R15) -/

/-- The granule position n of a beat body. -/
def bodyGran (header : BitVec 256) (body : BitVec 3696) (n : Nat) : BeatGran :=
  { sched := header.toNat.testBit (28 + n)
    tag := BitVec.ofNat 24 (bits header.toNat (40 + 24 * n) 24)
    data := BitVec.ofNat 512 (bits body.toNat (528 * n) 512)
    check := BitVec.ofNat 16 (bits body.toNat (528 * n + 512) 16) }

/-- The bytes the bcrc covers: header bits [223:0] and every granule present (R15). -/
def bcrcBytes (header : BitVec 256) (body : BitVec 3696) : List Byte :=
  toLE 28 header.toNat ++
    ((List.range 7).filter fun n => header.toNat.testBit (21 + n)).flatMap fun n =>
      toLE 66 (bits body.toNat (528 * n) 528)

/-- The body bits of granules in positions 0, 1, …. -/
def beatBody : List BeatGran → Nat → Nat
  | [], _ => 0
  | g :: t, n => (g.data.toNat + g.check.toNat * 2 ^ 512) * 2 ^ (528 * n) + beatBody t (n + 1)

/-- The header of a beat (R15): the signature nibble of its seq, its acknowledgement, masks and route tags. -/
def beatHeader (sig seq : Nat) (ackVld : Bool) (ackSeq : Nat) (gs : List BeatGran) : Nat :=
  let idx := gs.zipIdx
  sigNibble sig (seq % 4) + (seq % 256) * 2 ^ 4 + b2n ackVld * 2 ^ 12 + (ackSeq % 256) * 2 ^ 13
    + idx.foldl (fun a x => a + 2 ^ (21 + x.2) + b2n x.1.sched * 2 ^ (28 + x.2)
        + x.1.tag.toNat * 2 ^ (40 + 24 * x.2)) 0

/-- A whole beat: header with its bcrc, and body. -/
def mkBeat (sig seq : Nat) (ackVld : Bool) (ackSeq : Nat) (gs : List BeatGran) : BitVec 256 × BitVec 3696 :=
  let body := BitVec.ofNat 3696 (beatBody gs 0)
  let h := beatHeader sig seq ackVld ackSeq gs
  let crc := crc32Ieee (bcrcBytes (BitVec.ofNat 256 h) body)
  (BitVec.ofNat 256 (h + crc * 2 ^ 224), body)

/-- Send a beat with the side's present signature and acknowledgement. -/
def State.sendBeat (s : State) (b x seq : Nat) (gs : List BeatGran) : State :=
  let d := s.side b x
  let m := mkBeat (s.rd F.BRG_WIDTH_STS_signature 0 b x) seq d.ackVld (d.expect + 255) gs
  s.emit (.beat b x m.1 m.2)

/-- Drop retry-buffer entries up to an acknowledged seq, which is itself one of them (R19). -/
def ackRetry (seq : Nat) (r : List SentBeat) : List SentBeat :=
  if r.any (·.seq == seq) then (r.dropWhile fun e => !(e.seq == seq)).drop 1 else r

/-- The prefix of the waiting granules that fits one beat: at most n, scheduled ones in positions 0–4 only (R17). -/
def beatFill : Nat → Nat → List BeatGran → List BeatGran × List BeatGran
  | 0, _, q => ([], q)
  | _ + 1, _, [] => ([], [])
  | n + 1, pos, g :: q =>
    if g.sched && decide (4 < pos) then ([], g :: q)
    else
      let r := beatFill n (pos + 1) q
      (g :: r.1, r.2)

/-- A replay is requested from the first missing seq (R19). -/
def State.requestReplay (s : State) (b x : Nat) : State :=
  let seq := (s.side b x).expect
  let s := s.updSide b x fun d => { d with awaitReplay := true }
  (s.flag F.BRG_EVT_replay F.BRG_EVT_CNT_replay_cnt 0 b x).emit (.bridgeReplay b x seq)

/-- A failing bcrc: the beat is discarded, counted, and a replay requested unless one is awaited (R19, R21). -/
def State.beatBad (s : State) (b x : Nat) : State :=
  let g := (s.part (s.partOfSide b x)).gtc
  let s := s.count F.BRG_EVT_CNT_bcrc_cnt 1 0 b x
  let s := s.updSide b x fun d => { d with failTicks := g :: d.failTicks.filter fun t => decide (g < t + 2 ^ 20) }
  if (s.side b x).awaitReplay then s else s.requestReplay b x

/-- A sound beat with a matching signature nibble: acknowledgements are released, and the beat is accepted when it is
the next one. With at most 255 beats unacknowledged every other seq was accepted already or follows a beat that failed: it is
discarded (R19, R33). -/
def State.beatGood (s : State) (b x : Nat) (header : BitVec 256) (body : BitVec 3696) : State :=
  let h := header.toNat
  let seq := bits h 4 8
  let s := if h.testBit 12 then s.updSide b x fun d => { d with retry := ackRetry (bits h 13 8) d.retry } else s
  let d := s.side b x
  if seq = d.expect % 256 then
    let gs := ((List.range 7).filter fun n => h.testBit (21 + n)).map (bodyGran header body)
    let s := s.updSide b x fun d =>
      { d with expect := (d.expect + 1) % 256, ackVld := true, awaitReplay := false }
    s.emits (gs.map (.bridgeDeliver b x))
  else s

/-- BEAT (R19): a side receives a beat whole. Beats arriving while the side does not carry traffic are discarded
(R30). -/
def execBeat (b : Fin 32) (x : Fin 2) (header : BitVec 256) (body : BitVec 3696) (s : State) : Res :=
  if ! s.sideUp b x then .next s
  else if crc32Ieee (bcrcBytes header body) ≠ bits header.toNat 224 32 then .next (s.beatBad b x)
  else
    let n := bits header.toNat 4 8 % 4
    let got := bits header.toNat 0 4
    let far := s.rd F.BRG_WIDTH_STS_far_signature 0 b x
    let s := s.wr F.BRG_WIDTH_STS_far_signature (putBits far (4 * n) 4 got) 0 b x
    if got ≠ sigNibble (s.rd F.BRG_WIDTH_STS_signature 0 b x) n then
      .next ((s.flag F.BRG_EVT_sig_mismatch F.BRG_EVT_CNT_sig_cnt 0 b x).bridgeRetrain b x true)
    else .next (s.beatGood b x header body)

/-- The granules a beat launch offers, from its operand of (scheduled, tag, data, check). -/
def offered (new : List (Bool × BitVec 24 × BitVec 512 × BitVec 16)) : List BeatGran :=
  new.map fun g => { sched := g.1, tag := g.2.1, data := g.2.2.1, check := g.2.2.2 }

/-- BEAT_LAUNCH (R29): a side in ACTIVE or DEGRADED sends a beat, empty when nothing waits, unless 255 beats are
unacknowledged (R19). A DEGRADED side carries free-plane granules only (R34). -/
def execBeatLaunch (b : Fin 32) (x : Fin 2) (new : List (Bool × BitVec 24 × BitVec 512 × BitVec 16)) (s : State) : Res :=
  let d := s.side b x
  let q := d.queue ++ offered new
  let deg := s.sideState b x == brDegraded
  if ! s.sideUp b x then notEnabled "the side carries no traffic (R25)"
  else if 255 ≤ d.retry.length then notEnabled "the retry window is full (R19)"
  else if deg && (offered new).any (·.sched) then notEnabled "a DEGRADED bridge carries no scheduled granule (R34)"
  else
    let r := beatFill (s.rd F.BRG_WIDTH_STS_gran_per_beat 0 b x) 0 q
    let s := s.sendBeat b x d.sendSeq r.1
    .next (s.updSide b x fun d => { d with
      queue := r.2, sendSeq := (d.sendSeq + 1) % 256,
      retry := d.retry ++ [{ seq := d.sendSeq, grans := r.1 }] })

/-- BEAT_REPLAY (R19): the sender resends its buffered beats from the first missing seq in their original order. -/
def execBeatReplay (b : Fin 32) (x : Fin 2) (seq : BitVec 8) (s : State) : Res :=
  if ! s.sideUp b x then .next s
  else
    let again := (s.side b x).retry.dropWhile fun e => !(e.seq == seq.toNat)
    let s := s.flag F.BRG_EVT_replay F.BRG_EVT_CNT_replay_cnt 0 b x
    .next (again.foldl (fun a e => a.sendBeat b x e.seq e.grans) s)

/-- BRIDGE_SILENCE_TIMEOUT (R19): 64 consecutive ticks without a beat in ACTIVE or DEGRADED. -/
def execBridgeSilenceTimeout (b : Fin 32) (x : Fin 2) (s : State) : Res :=
  guarded (s.sideUp b x) "the side carries no traffic (R19)" (s.bridgeRetrain b x true)

/-- BCRC_LIMIT (R21): 8 or more bcrc failures within a window of 2^20 ticks. -/
def execBcrcLimit (b : Fin 32) (x : Fin 2) (s : State) : Res :=
  guarded (s.sideUp b x && decide (8 ≤ (s.side b x).failTicks.length)) "fewer than 8 failures in the window (R21)"
    ((((s.wr F.BRG_EVT_bcrc_limit 1 0 b x).updSide b x fun d => { d with failTicks := [] })).bridgeRetrain b x true)

/-- BRIDGE_RETRAIN_SIGNAL (R30): the far side signalled RETRAIN; this side runs short training too. -/
def execBridgeRetrainSignal (b : Fin 32) (x : Fin 2) (s : State) : Res :=
  .next (if s.sideUp b x then s.bridgeRetrain b x false else s)

/-- A write of 1 to force_retrain (R28): RETRAIN, or training restarted at CALIBRATE; no effect in OFF or RESET. -/
def State.forceRetrain (s : State) (b x : Nat) : State :=
  if s.sideState b x = brOff ∨ s.sideState b x = brReset then s
  else if s.sideTraining b x then s.wr F.BRG_WIDTH_STS_state brCalibrate 0 b x
  else s.bridgeRetrain b x true

/-- FORCE_RETRAIN (R28). -/
def execForceRetrain (b : Fin 32) (x : Fin 2) (s : State) : Res := .next (s.forceRetrain b x)

/-- Whether a side is held by a reset: its partition is COLD, or its half, engine or tile is under a partial reset (R439, R442). -/
def State.underReset (s : State) (b x : Nat) : Bool :=
  let u := sideAt b x
  let q := s.part (s.partOfSide b x)
  q.state == .cold || q.resets.any fun r =>
    (r.1 == 1 && sideHalf b x == r.2) || (r.1 == 2 && u == 16 + r.2) || (r.1 == 3 && u == r.2)

/-- BRIDGE_RESET_RELEASE (R26): a side leaves RESET; R25 keeps a disabled side and, in two-partition mode, the seam
bridges in OFF. -/
def execBridgeResetRelease (b : Fin 32) (x : Fin 2) (s : State) : Res :=
  if s.sideState b x ≠ brReset ∨ s.underReset b x then notEnabled "the side has no reset that is released (R26)"
  else if ! s.rdB F.BRG_CTL_enable 0 b x || (isSeam b && s.twoPart) then
    .next (s.wr F.BRG_WIDTH_STS_state brOff 0 b x)
  else if s.sideState b (1 - x) = brActive then
    .next ((s.setPair b x (2 ^ 64 - 1) 0).wr F.BRG_WIDTH_STS_state brActive 0 b x)
  else
    let s := s.updSide b x fun d => { d with short := false }
    .next (s.wr F.BRG_WIDTH_STS_state brCalibrate 0 b x)

/-- CALIBRATE_DONE (R27): phase and deskew calibration ends, from CALIBRATE or from RETRAIN's short training. -/
def execCalibrateDone (b : Fin 32) (x : Fin 2) (s : State) : Res :=
  guarded (s.sideState b x == brCalibrate || s.sideState b x == brRetrain) "the side is not calibrating (R27)"
    (s.wr F.BRG_WIDTH_STS_state brWireTest 0 b x)

/-- What the wire test found of a group with these failing wire positions (R22). -/
def groupResult (bad : List Nat) : GroupSts :=
  { good := decide (bad.length ≤ 2)
    bad := min bad.length 3
    pos0 := bad.getD 0 0x7F
    pos1 := bad.getD 1 0x7F }

/-- The ageing-log entries of a group's spare mappings, or of its being disabled (R35). -/
def State.logGroup (s : State) (b x g : Nat) (bad : List Nat) : State :=
  if bad.isEmpty then s
  else if 2 < bad.length then s.ageLog (sideHalf b x) 17 0 b (x + g * 256 + 0x7F * 2 ^ 16) 1
  else bad.foldl (fun a w => a.ageLog (sideHalf b x) 17 0 b (x + g * 256 + w * 2 ^ 16) 0) s

def groupDefault : Nat → GroupSts := fun _ => { good := false, bad := 0, pos0 := 0x7F, pos1 := 0x7F }

/-- WIRE_TEST_DONE (R22, R35): each group's failing wires are mapped onto its spares, or the group is disabled when 3
or more fail. `bad` lists (group, position) of the failing wires on this side's receive direction. -/
def execWireTestDone (b : Fin 32) (x : Fin 2) (bad : List (Fin 64 × Fin 66)) (s : State) : Res :=
  if s.sideState b x ≠ brWireTest then notEnabled "the side is not testing its wires (R27)"
  else
    let badOf (g : Nat) : List Nat := (bad.filter fun w => w.1.val == g).map fun w => w.2.val
    let res := (List.range 64).map fun g => groupResult (badOf g)
    let mask := (res.zipIdx).foldl (fun a r => if r.1.good then a + 2 ^ r.2 else a) 0
    let s := s.updSide b x fun d => { d with
      groups := (res.zipIdx).foldl (fun t r => tabSet groupDefault t r.2 r.1) []
      goodMask := BitVec.ofNat 64 mask }
    let s := (List.range 64).foldl (fun a g => a.logGroup b x g (badOf g)) s
    .next (s.wr F.BRG_WIDTH_STS_state brMap 0 b x)

/-- The resend point of a side (R33): the oldest seq in its retry buffer, or its next send seq. -/
def Side.resendPoint (d : Side) : Nat :=
  match d.retry with
  | e :: _ => e.seq
  | [] => d.sendSeq

/-- A side after MAP (R32, R33): it accepts next the far side's resend point, and its buffered granules wait to be sent
again, in order, from its own resend point. -/
def Side.afterMap (d far : Side) : Side :=
  { d with
    expect := far.resendPoint
    awaitReplay := false
    queue := d.retry.flatMap (·.grans) ++ d.queue
    sendSeq := d.resendPoint
    retry := [] }

/-- The state a trained width gives (R32, R34). -/
def widthState (w : Nat) : Nat := if 48 ≤ w then brActive else if 13 ≤ w then brDegraded else brDown

/-- One side's part of MAP (R24, R33, R34). -/
def State.mapSide (s : State) (b x mask gen : Nat) (d : Side) : State :=
  let w := popcount 64 mask
  let s := (s.updSide b x fun _ => d).setPair b x mask gen
  let s := s.wr F.BRG_WIDTH_STS_state (widthState w) 0 b x
  if 48 ≤ w then s
  else
    let s := s.wr F.BRG_EVT_degraded 1 0 b x
    let s := s.updSide b x fun d => { d with degradedCnt := (d.degradedCnt + 1) % 2 ^ 16 }
    s.bridgeRecord b x

/-- MAP_DONE (R23, R24, R33): both sides are in MAP; the common mask and the next generation are set, resend points
exchanged, and each side enters ACTIVE, DEGRADED or DOWN by the width. -/
def execMapDone (b : Fin 32) (s : State) : Res :=
  if s.sideState b 0 ≠ brMap ∨ s.sideState b 1 ≠ brMap then notEnabled "both sides must be in MAP (R28)"
  else
    let d0 := s.side b 0
    let d1 := s.side b 1
    let mask := (d0.goodMask &&& d1.goodMask).toNat
    let gen := (max (s.rd F.BRG_WIDTH_STS_generation 0 b 0) (s.rd F.BRG_WIDTH_STS_generation 0 b 1) + 1) % 2 ^ 16
    let s := s.mapSide b 0 mask gen (d0.afterMap d1)
    .next (s.mapSide b 1 mask gen (d1.afterMap d0))

end Sys2Proof.Machine
end

