-- ==== Sys2Proof/Machine/Mxe.lean ====
section
/-! DEFINITION. The matrix engine (04 R125–R134): MMA and MWS with exact block accumulation (03 R82–R85), the checksum lane,
and the accumulator loads, stores and clears. -/

namespace Sys2Proof.Machine

/-! ### Block arithmetic -/

/-- An MXE element: BF16 and FP16 subnormals are flushed to zero of the same sign (R84). -/
def mxeElem (f : Fmt) (code : Nat) : Num × Bool :=
  match f.value code with
  | .fin neg m e =>
    if f.width = 16 ∧ m ≠ 0 ∧ m < 2 ^ f.man then (.fin neg 0 0, true) else (.fin neg m e, false)
  | .nan => (.nan, false)
  | .inf n => (.inf n, false)

/-- The value of a block or group from its products and scale codes, before it joins the running sum (R82–R84). -/
def blockValue (as bs : List Num) (sa sb : Nat) : Nat × Exc :=
  let ps := List.zipWith Num.mul as bs
  if as.any Num.isNan || bs.any Num.isNan || sa == 0xFF || sb == 0xFF then (fp32Nan', { nanIn := true })
  else if ps.any Num.isNan then (fp32Nan', { inv := true })
  else if ps.any Num.isInf then
    let infs := ps.filter Num.isInf
    if infs.any Num.neg && infs.any (fun x => !x.neg) then (fp32Nan', { inv := true })
    else (Fmt.fp32.signBit (infs.any Num.neg) + 0x7F800000, {})
  else
    let d := ps.foldl (fun (a : Dy) x => Dy.add a x.dy) (Dy.mk 0 0)
    if d.m = 0 then (0, {})
    else
      let r := Fmt.fp32.convert .rne (Dy.num { m := d.m, e := d.e + sa + sb - 254 } false)
      let f := flush32 r.1
      (f.1, r.2.or f.2)
where
  fp32Nan' : Nat := 0x7FC00000

/-- The running sum takes a block value (R82, R83). A NaN that is already in the running sum is no operand. -/
def runAdd (run blk : Nat) : Nat × Exc :=
  let r := addFlush32 run blk
  (r.1, { r.2 with nanIn := false, inv := r.2.inv })

/-- One FP32 output element over its blocks. -/
def runFp (start : Nat) (blocks : List (List Num × List Num × Nat × Nat)) : Nat × Exc :=
  let init : Exc := if (Fmt.fp32.value start).isNan then { nanIn := true } else {}
  blocks.foldl (fun acc b =>
    let v := blockValue b.1 b.2.1 b.2.2.1 b.2.2.2
    let r := runAdd acc.1 v.1
    (r.1, (acc.2.or v.2).or r.2)) (start, init)

/-- One INT32 output element over its blocks: each block sum is exact and the running value saturates (R85). -/
def runInt (start : Nat) (blocks : List (List Num × List Num × Nat × Nat)) : Nat × Exc :=
  blocks.foldl (fun acc b =>
    let d := (List.zipWith Num.mul b.1 b.2.1).foldl (fun (a : Dy) x => Dy.add a x.dy) (Dy.mk 0 0)
    let v := sext 32 acc.1 + d.at 0
    let c := clampS 32 v
    (wrapNat 32 c, if c = v then acc.2 else { acc.2 with ovf := true })) (start, {})

/-! ### Formats and operands (R74, R80, R81, R125–R129) -/

/-- Whether a format code is an MXE element (R73). -/
def mxeFmt (code : Nat) : Option Fmt := if 1 ≤ code ∧ code ≤ 9 then Fmt.ofCode code else none

/-- The block size of R80, none for a reserved pairing or scale mode (R74, R81). -/
def blockSize (fa fb : Fmt) (smode : Nat) : Option Nat :=
  let wide (f : Fmt) : Bool := f.width == 16
  if wide fa || wide fb then (if fa = fb ∧ smode = 0 then some 16 else none)
  else if smode = 0 then some 32 else if smode = 1 then some 16 else if smode = 2 then some 32 else none

/-- The rate divisor c (R125). -/
def rateDiv (fa fb : Fmt) : Nat :=
  if fa.width = 16 then 4 else if (fa.width = 4 ∧ fb.width ≤ 8) ∨ (fb.width = 4 ∧ fa.width ≤ 8) then 1 else 2

/-- Whether integer by integer in scale mode 00 gives INT32 (R85, R126). -/
def intResult (fa fb : Fmt) (smode : Nat) : Bool := fa.isInt && fb.isInt && smode == 0

/-- The state of a bank as the MXE's own instructions see it: results of every earlier MXE instruction of the stream,
delivered or not (R127). -/
structure Bank where
  rows : Tab VReg
  sums : Tab RowSum
  int : Bool

/-- One effect seen by the MXE. -/
def Bank.take (bank : Bool) (b : Bank) (e : Effect) : Bank :=
  match e with
  | .accRows k row rows =>
    if k = bank then { b with rows := (rows.zipIdx).foldl (fun t r => tabSet vregDefault t (row + r.2) r.1) b.rows } else b
  | .accTag k int => if k = bank then { b with int := int } else b
  | .rowSums k row sums =>
    if k = bank then { b with sums := (sums.zipIdx).foldl (fun t r => tabSet rowSumDefault t (row + r.2) r.1) b.sums }
    else b
  | .sreg _ _ | .areg _ _ | .vreg _ _ | .vhalf _ _ _ | .latch _ _ | .semAdd _ _ | .semSub _ _ | .writeGran _ _ _ | .writeBytes _ _
  | .chkFail _ _ _ | .launch _ _ _ _ _ _ => b

/-- A bank with the results under way applied in issue order. -/
def Core.bank (k : Core) (bank : Bool) : Bank :=
  let lo := b2n bank * 256
  let part {α : Type} (t : Tab α) : Tab α :=
    (t.filter fun x => decide (lo ≤ x.1) && decide (x.1 < lo + 256)).map fun x => (x.1 - lo, x.2)
  let b : Bank := { rows := part k.acc, sums := part k.sums, int := k.accInt bank }
  (k.pends.filter fun p => p.eng == .mxe).foldl (fun b p => p.effects.foldl (Bank.take bank) b) b

def Bank.row (b : Bank) (i : Nat) : VReg := tabGet vregDefault b.rows i
def Bank.sum (b : Bank) (i : Nat) : RowSum := tabGet rowSumDefault b.sums i

/-- An operand as decoded lines: entry (line, k) of a packed operand whose element offset is given by `off`. -/
def linesOf (f : Fmt) (v count len : Nat) (off : Nat → Nat → Nat) : List (List (Num × Bool)) :=
  (List.range count).map fun i => (List.range len).map fun k => mxeElem f (elemAt v f.width (off i k))

/-- Cut a line into blocks. -/
def cut (bs : Nat) (n : Nat) (l : List Num) : List (List Num) := (List.range n).map fun q => (l.drop (q * bs)).take bs

/-- A product's inputs: lines of A and of B with their scale codes by block, and the block size and count. -/
structure MxeJob where
  as : List (List (Num × Bool))
  bs : List (List (Num × Bool))
  sa : Nat → Nat → Nat
  sb : Nat → Nat → Nat
  blk : Nat
  nblk : Nat
  int : Bool

/-- One output element: line i of A against column j of B. -/
def MxeJob.elem (j : MxeJob) (start i n : Nat) : Nat × Exc :=
  let a := j.as.getD i []
  let b := j.bs.getD n []
  let ab := cut j.blk j.nblk (a.map (·.1))
  let bb := cut j.blk j.nblk (b.map (·.1))
  let blocks := (List.range j.nblk).map fun q => (ab.getD q [], bb.getD q [], j.sa i q, j.sb n q)
  let r := if j.int then runInt start blocks else runFp start blocks
  let fl := a.any (·.2) || b.any (·.2)
  (r.1, if fl then { r.2 with flush := true } else r.2)

/-- One output row of 256 elements, from its starting row. -/
def MxeJob.row (j : MxeJob) (start : VReg) (i : Nat) : VReg × List Exc :=
  let es := (List.range 256).map fun n => j.elem (elemAt start.toNat 32 n) i n
  (BitVec.ofNat 8192 (packElems 32 (es.map (·.1))), es.map (·.2))

/-- A flushed FP32 rounding of an exact value (R133). -/
def chkRound (x : Num) : Nat := (flush32 (Fmt.fp32.result x false).1).1

/-- The weights w[k] of the checksum column (R133): sequential over the 256 columns. -/
def MxeJob.chkWeights (j : MxeJob) : List Nat :=
  (List.range (j.blk * j.nblk)).map fun k =>
    (List.range 256).foldl (fun w n =>
      let u := (((j.bs.getD n []).getD k (.nan, false)).1).mul (scaleValue (j.sb n (k / j.blk)))
      chkRound ((Fmt.fp32.value w).add u)) 0

/-- The checksum of a row (R133, R134). -/
def MxeJob.chkRow (j : MxeJob) (ws : List Nat) (start i : Nat) : Nat :=
  (ws.zipIdx).foldl (fun c w =>
    let v := (((j.as.getD i []).getD w.2 (.nan, false)).1).mul (scaleValue (j.sa i (w.2 / j.blk)))
    chkRound ((Fmt.fp32.value c).add (Fmt.fp32.value (chkRound (v.mul (Fmt.fp32.value w.1)))))) start

/-- An MXE operand's SRAM address: ADDR_RANGE, then ALIGN, then OPERAND_REGION (R116, R129). -/
def State.mxeOperand (s : State) (c : Ctx) (a st bytes : Nat) (own : Bool) : Except EngCause Nat :=
  match s.operand c a st 0 with
  | .error x => .error x
  | .ok ea =>
    match s.mxeAddr c.p ea with
    | .error .addrRange => .error .addrRange
    | .error x => if ea % 64 ≠ 0 then .error .align else .error x
    | .ok x =>
      if x % 64 ≠ 0 then .error .align
      else if (if own then inRegion c.n x bytes else inTile (tileOf c.n) x bytes) then .ok x
      else .error .operandRegion

/-- The rows, sums, tag and events of a finished product, as its result. -/
def Ctx.product (c : Ctx) (s : State) (bank : Bool) (row rows : Nat) (init chk : Bool) (j : MxeJob) (occ : Nat) : State :=
  let b := (s.core c.n).bank bank
  let zero : VReg := 0
  let out := (List.range rows).map fun i => j.row (if init then zero else b.row (row + i)) i
  let ws := if chk then j.chkWeights else []
  let sums := (List.range rows).map fun i =>
    let old := b.sum (row + i)
    if chk then
      { sum := BitVec.ofNat 32 (j.chkRow ws (if init then 0 else old.sum.toNat) i), valid := init || old.valid : RowSum }
    else { old with valid := false }
  let s := s.countExc c.n (out.flatMap (·.2))
  c.done s occ (occ + 24) [.accTag bank j.int, .accRows bank row (out.map (·.1)), .rowSums bank row sums]

/-- MMA (R130): C(m, n) += Σ A(m, k)·B(k, n) over K = kb × BS. -/
def execMma (n : Fin 64) (w : InstrWord) (s : State) : Res :=
  s.issue n .mxe w 0x01 fun c s =>
    let smode := c.f 90 2
    let bank := c.f 89 1 == 1
    let init := c.f 88 1 == 1
    let kb := c.f 31 16
    match mxeFmt (c.f 96 4), mxeFmt (c.f 92 4) with
    | some fa, some fb =>
      match blockSize fa fb smode with
      | none => c.fault s .illegalInstr
      | some bs =>
        let K := kb * bs
        let int := intResult fa fb smode
        let la := K * 256 * fa.width / 8
        let lb := K * 256 * fb.width / 8
        let scaled := smode != 0
        let ra := s.mxeOperand c (c.f 83 4) (c.f 71 12) la false
        let rb := s.mxeOperand c (c.f 67 4) (c.f 55 12) lb true
        let rsa := if scaled then s.mxeOperand c (c.f 51 4) (c.f 19 12) (kb * 256) false else .ok 0
        let rsb := if scaled then s.mxeOperand c (c.f 47 4) (c.f 7 12) (kb * 256) true else .ok 0
        if c.f 0 7 ≠ 0 ∨ kb = 0 then c.fault s .illegalInstr
        else
          match ra, rb, rsa, rsb with
          | .error x, _, _, _ => c.fault s x
          | _, .error x, _, _ => c.fault s x
          | _, _, .error x, _ => c.fault s x
          | _, _, _, .error x => c.fault s x
          | .ok aa, .ok ab, .ok asa, .ok asb =>
            if !init && (((s.core n).bank bank).int != int) then c.fault s .accType
            else
              let xa := s.readOp aa la
              let xb := xa.s.readOp ab lb
              let ya := if scaled then xb.s.readOp asa (kb * 256) else { xb with val := 0 }
              let yb := if scaled then ya.s.readOp asb (kb * 256) else { ya with val := 0 }
              if ! (xa.ok && xb.ok && ya.ok && yb.ok) then
                c.dataCheck yb.s (xa.poisoned || xb.poisoned || ya.poisoned || yb.poisoned)
              else
                let j : MxeJob := {
                  as := linesOf fa xa.val 256 K fun m k => k * 256 + m
                  bs := linesOf fb xb.val 256 K fun n k => k * 256 + n
                  sa := fun m q => if scaled then bits ya.val (8 * (q * 256 + m)) 8 else 127
                  sb := fun n q => if scaled then bits yb.val (8 * (q * 256 + n)) 8 else 127
                  blk := bs, nblk := kb, int := int }
                c.product yb.s bank 0 256 init (c.f 87 1 == 1) j (K * rateDiv fa fb)
    | none, _ => c.fault s .illegalInstr
    | _, none => c.fault s .illegalInstr

/-- MWS (R131): streams kn weight panels against b activation columns into bank rows row … row + b − 1. -/
def execMws (n : Fin 64) (w : InstrWord) (s : State) : Res :=
  s.issue n .mxe w 0x02 fun c s =>
    let smode := c.f 90 2
    let bank := c.f 89 1 == 1
    let init := c.f 88 1 == 1
    let kn := c.f 23 16
    let b := c.f 20 3 + 1
    let row := c.f 12 8
    match mxeFmt (c.f 96 4), mxeFmt (c.f 92 4) with
    | some fa, some fw =>
      match blockSize fa fw smode with
      | none => c.fault s .illegalInstr
      | some bs =>
        let K := kn * 256
        let int := intResult fa fw smode
        let scaled := smode != 0
        let elemBytes := cdiv (b * K * fa.width / 8) 64 * 64
        let lx := if scaled then elemBytes + b * (K / bs) else b * K * fa.width / 8
        let lw := K * 256 * fw.width / 8
        let rx := s.mxeOperand c (c.f 83 4) (c.f 71 12) lx false
        let rw := s.mxeOperand c (c.f 67 4) (c.f 55 12) lw true
        let rs := if scaled then s.mxeOperand c (c.f 51 4) (c.f 39 12) (K / bs * 256) true else .ok 0
        if c.f 0 12 ≠ 0 ∨ kn = 0 ∨ 256 < row + b then c.fault s .illegalInstr
        else
          match rx, rw, rs with
          | .error x, _, _ => c.fault s x
          | _, .error x, _ => c.fault s x
          | _, _, .error x => c.fault s x
          | .ok ax, .ok aw, .ok as =>
            if !init && (((s.core n).bank bank).int != int) then c.fault s .accType
            else
              let xx := s.readOp ax lx
              let xw := xx.s.readOp aw lw
              let xs := if scaled then xw.s.readOp as (K / bs * 256) else { xw with val := 0 }
              if ! (xx.ok && xw.ok && xs.ok) then c.dataCheck xs.s (xx.poisoned || xw.poisoned || xs.poisoned)
              else
                let j : MxeJob := {
                  as := linesOf fa xx.val b K fun j k => j * K + k
                  bs := linesOf fw xw.val 256 K fun n k => k * 256 + n
                  sa := fun j q => if scaled then bits xx.val (8 * (elemBytes + j * (K / bs) + q)) 8 else 127
                  sb := fun n q => if scaled then bits xs.val (8 * (q * 256 + n)) 8 else 127
                  blk := bs, nblk := K / bs, int := int }
                c.product xs.s bank row b init (c.f 87 1 == 1) j (kn * max (b * rateDiv fa fw) (cdiv fw.width 4))
    | none, _ => c.fault s .illegalInstr
    | _, none => c.fault s .illegalInstr

/-- SRAM_QUEUE_TIMEOUT (R108, R528): a scheduled SRAM request not served within three ticks raises a slip. -/
def execSramQueueTimeout (n : Fin 64) (s : State) : Res :=
  let p := s.partOfCore n
  guarded (s.running p) "no scheduled request outside RUNNING (R108)" (s.slip p 0x02)

/-- The row sum that MLDACC with chk stores: the tree sum of R87 without flushing; an INT32 row is converted to FP32
first (R135). -/
def loadedSum (int : Bool) (v : VReg) : Nat :=
  let lanes := (List.range 256).map fun i =>
    let x := elemAt v.toNat 32 i
    if int then (Fmt.fp32.convert .rne (Fmt.int32.value x)).1 else x
  (treeSum add32 9 lanes).1

/-- MLDACC (R132): load rows, set the type tag and optionally each row's checksum. -/
def execMldacc (n : Fin 64) (w : InstrWord) (s : State) : Res :=
  s.issue n .mxe w 0x03 fun c s =>
    let bank := c.f 99 1 == 1
    let int := c.f 98 1 == 1
    let row := c.f 90 8
    let rows := c.f 82 8 + 1
    c.legal (c.reservedOk [(99, 1), (98, 1), (90, 8), (82, 8), (78, 4), (66, 12), (65, 1)] && decide (row + rows ≤ 256)) s
      (match s.mxeOperand c (c.f 78 4) (c.f 66 12) (rows * 1024) false with
       | .error x => c.fault s x
       | .ok a =>
         let r := s.readOp a (rows * 1024)
         if ! r.ok then c.dataCheck r.s r.poisoned
         else
           let vs := (List.range rows).map fun i => BitVec.ofNat 8192 (bits r.val (8192 * i) 8192)
           let chk := c.f 65 1 == 1
           let b := (s.core n).bank bank
           let sums := (vs.zipIdx).map fun v =>
             if chk then { sum := BitVec.ofNat 32 (loadedSum int v.1), valid := true : RowSum }
             else { b.sum (row + v.2) with valid := false }
           let occ := cdiv rows 16
           c.done r.s occ (occ + 14) [.accTag bank int, .accRows bank row vs, .rowSums bank row sums])

/-- The granules of a byte string at an address, each with a new carried check (R462). -/
def newGrans (a : Nat) (v n : Nat) : List Effect :=
  (List.range n).map fun i =>
    let g := BitVec.ofNat 512 (bits v (512 * i) 512)
    .writeGran (a + 64 * i) g (granCheck g)

/-- MSTACC (R132): store rows as FP32 or INT32 bits, each granule with a new carried check. -/
def execMstacc (n : Fin 64) (w : InstrWord) (s : State) : Res :=
  s.issue n .mxe w 0x04 fun c s =>
    let bank := c.f 99 1 == 1
    let row := c.f 90 8
    let rows := c.f 82 8 + 1
    c.legal (c.reservedOk [(99, 1), (90, 8), (82, 8), (78, 4), (66, 12)] && decide (row + rows ≤ 256)) s
      (match s.mxeOperand c (c.f 78 4) (c.f 66 12) (rows * 1024) false with
       | .error x => c.fault s x
       | .ok a =>
         let b := (s.core n).bank bank
         let occ := cdiv rows 16
         c.done s occ (occ + 12)
           ((List.range rows).flatMap fun i => newGrans (a + 1024 * i) (b.row (row + i)).toNat 16))

/-- MZERO (R132): every element and checksum zero, every checksum valid, and the type tag. -/
def execMzero (n : Fin 64) (w : InstrWord) (s : State) : Res :=
  s.issue n .mxe w 0x05 fun c s =>
    let bank := c.f 99 1 == 1
    let one : RowSum := { sum := 0, valid := true }
    c.legal (c.reservedOk [(99, 1), (98, 1)]) s
      (c.done s 1 2 [.accTag bank (c.f 98 1 == 1), .accRows bank 0 (List.replicate 256 0),
                     .rowSums bank 0 (List.replicate 256 one)])

end Sys2Proof.Machine
end

