-- ==== Sys2Proof/Machine/Image.lean ====
section
/-! DEFINITION. The orbit image (05 R170–R178, R197–R198; 07 R260–R261; 10 R371–R376) and the placement table
(05 R166–R169): their checks, and what LOAD_IMAGE and SET_PLACEMENT put in force. -/

namespace Sys2Proof.Machine

/-! ### Header and section table (R170, R171) -/

def dFormat : Nat := 0x01
def dFl : Nat := 0x02
def dSize : Nat := 0x03
def dForbidden : Nat := 0x04
def dOverrun : Nat := 0x05
def dSlots : Nat := 0x06
def dRefresh : Nat := 0x07
def dLanding : Nat := 0x08
def dForecast : Nat := 0x09
def dData : Nat := 0x0A

/-- A section-table entry (R171). -/
structure SecEnt where
  typ : Nat
  pix : Nat
  index : Nat
  off : Nat
  len : Nat
  clean : Bool
deriving DecidableEq, Repr

/-- The image's hash: SHA-384 with the image_hash field as zeros (R170). -/
def imageHash (f : List Byte) : List Byte :=
  sha384 (f.take 0x28 ++ (List.replicate 48 (0 : Byte)).take (f.length - 0x28) ++ f.drop 0x58)

/-- The entries of the section table. -/
def secEnts (f : List Byte) : List SecEnt :=
  (List.range (leAt f 0x12 2)).map fun i =>
    let b := (f.drop (0x100 + 32 * i)).take 32
    { typ := leAt b 0 2, pix := leAt b 2 2, index := leAt b 4 2, off := leAt b 8 8, len := leAt b 16 8,
      clean := leAt b 6 2 == 0 && leAt b 24 8 == 0 }

/-- A section's bytes. -/
def SecEnt.bytes (e : SecEnt) (f : List Byte) : List Byte := (f.drop e.off).take e.len

/-- Whether spans (start, length) overlap; empty ones do not. -/
def overlap (a b : Nat × Nat) : Bool := decide (0 < a.2 ∧ 0 < b.2 ∧ a.1 < b.1 + b.2 ∧ b.1 < a.1 + a.2)

/-- Whether any two spans of a list overlap. -/
def anyOverlap : List (Nat × Nat) → Bool
  | [] => false
  | x :: t => t.any (overlap x) || anyOverlap t

/-- Bits of a byte record. -/
def recF (b : List Byte) (lo w : Nat) : Nat := bits (ofLE b) lo w

/-- Records of k bytes. -/
def recordsOf (k : Nat) (b : List Byte) : List (List Byte) := (List.range (b.length / k)).map fun i => (b.drop (k * i)).take k

/-- The ticks of an orbit slot count: ceil(4L / 9) or ceil(5L / 9) by the image's divisor code (R165). -/
def slotCount (divisor L : Nat) : Nat := cdiv ((if divisor = 1 then 5 else 4) * L) 9

/-! ### Streams (R173, R174, R120, R124, R533) -/

/-- The instruction words of a STREAM section. -/
def streamWords (b : List Byte) : List InstrWord :=
  (List.range (leAt b 4 4)).map fun i => BitVec.ofNat 128 (leAt b (16 + 16 * i) 16)

/-- Whether a word is the opcode `op` of an engine's class. -/
def isOp (e : Eng) (op : Nat) (w : InstrWord) : Bool := classOf w == e.idx && opcodeOf w == op

def wF (w : InstrWord) (lo n : Nat) : Nat := bits w.toNat lo n

/-- The occupancy of a scheduled instruction (R158). -/
def occupancy (e : Eng) (w : InstrWord) : Nat :=
  if isOp .mxe 0x01 w && e == .mxe then
    match mxeFmt (wF w 96 4), mxeFmt (wF w 92 4) with
    | some fa, some fb => (match blockSize fa fb (wF w 90 2) with
      | some bs => wF w 31 16 * bs * rateDiv fa fb
      | none => 1)
    | _, _ => 1
  else if isOp .mxe 0x02 w && e == .mxe then
    match mxeFmt (wF w 96 4), mxeFmt (wF w 92 4) with
    | some fa, some fw => wF w 23 16 * max ((wF w 20 3 + 1) * rateDiv fa fw) (cdiv fw.width 4)
    | _, _ => 1
  else if (isOp .mxe 0x03 w || isOp .mxe 0x04 w) && e == .mxe then cdiv (wF w 82 8 + 1) 16
  else if e == .vxe && (isOp .vxe 0x1D w || isOp .vxe 0x1E w || isOp .vxe 0x1F w) then wF w 53 6 + 1
  else if e == .vxe && isOp .vxe 0x20 w then 2 * (wF w 51 4 + 1)
  else if e == .vxe && isOp .vxe 0x21 w then 4 * (wF w 60 4 + 1)
  else if e == .vxe && isOp .vxe 0x22 w then 2
  else 1

/-- LOOP bodies of a stream by index: the LOOP, first and last body instruction. -/
def loopBodies (e : Eng) (ws : List InstrWord) : List (Nat × Nat × Nat) :=
  (ws.zipIdx.filter fun x => isOp e 0xF4 x.1 && wF x.1 72 12 != 0).map fun x => (x.2, x.2 + 1, x.2 + wF x.1 72 12)

/-- Whether every LOOP body and jump of a stream is where R124 and R533 allow. -/
def nestingOk (e : Eng) (ws : List InstrWord) : Bool :=
  let bodies := loopBodies e ws
  let inside (i : Nat) (b : Nat × Nat × Nat) : Bool := decide (b.2.1 ≤ i ∧ i ≤ b.2.2)
  (bodies.all fun b => decide (b.2.2 < ws.length) && bodies.all fun o => !inside b.1 o || decide (b.2.2 ≤ o.2.2)) &&
  ws.zipIdx.all fun x =>
    if e == .scu && (isOp .scu 0x28 x.1 || isOp .scu 0x29 x.1) then
      let t := (x.2 : Int) + sext 16 (wF x.1 53 16)
      decide (0 ≤ t) && decide (t < ws.length) && bodies.all fun b => inside x.2 b == inside t.toNat b
    else true

/-- What a scheduled stream may not hold (R120). -/
def schedForbidden (e : Eng) (w : InstrWord) : Bool :=
  isOp e 0xF2 w || (e == .scu && isOp .scu 0x28 w) || (isOp e 0xF1 w && wF w 77 1 == 1)

/-- Walk a scheduled stream's issues, expanding every LOOP and JMP (R174): whether one overruns the orbit. A LOOP that would
fault when it issues ends the walk (DEDUCED, notes/assumptions/38.md). Each issue comes at least a tick after the one before, so
`fuel` = L + 2 steps suffice. -/
def overruns (e : Eng) (ws : List InstrWord) (L : Nat) : Nat → Nat → Nat → List LoopFrame → Bool
  | 0, _, _, _ => true
  | fuel + 1, pc, tick, loops =>
    match ws[pc]? with
    | none => false
    | some w =>
      if L < tick + occupancy e w then true
      else if isOp e 0xF3 w then false
      else
        let go (pc : Nat) (loops : List LoopFrame) : Bool :=
          let d := match ws[pc]? with
            | some x => wF x 112 16
            | none => 0
          overruns e ws L fuel pc (tick + d) loops
        if isOp e 0xF4 w then
          if 4 ≤ loops.length ∨ wF w 84 16 = 0 ∨ wF w 72 12 = 0 then false
          else go (pc + 1) ({ first := pc + 1, last := pc + wF w 72 12, count := wF w 84 16, iter := 0 } :: loops)
        else if e == .scu && isOp .scu 0x29 w then go ((pc : Int) + sext 16 (wF w 53 16)).toNat loops
        else
          let r := nextPc pc loops
          go r.1 r.2

/-- The details a STREAM section breaks. -/
def streamFaults (index L : Nat) (b : List Byte) : List Nat :=
  let hd := ofLE (b.take 16)
  let sched := bits hd 64 1 == 1
  let e := Eng.ofIdx (index % 4)
  if b.length < 16 ∨ b.length ≠ 16 + 16 * bits hd 32 32 then [dFormat]
  else
    let ws := streamWords b
    (if bits hd 66 62 ≠ 0 ∨ (sched && bits hd 65 1 == 1) then [dFormat] else []) ++
    (if ! nestingOk e ws || (sched && ws.any (schedForbidden e)) then [dForbidden] else []) ++
    (if sched && ws.any (fun w => wF w 112 16 == 0) then [dOverrun]
     else if sched && nestingOk e ws && overruns e ws L (L + 2) 0 (bits hd 0 32) [] then [dOverrun] else [])

/-! ### The other sections -/

/-- The slot entries of a LINK_SLOTS section (R175). -/
def slotEnts (port : Nat) (b : List Byte) : List LinkSlot :=
  (recordsOf 16 b).map fun r =>
    { port := port, first := recF r 0 32, count := recF r 32 24, recv := recF r 56 1 == 1, unit := recF r 64 10 }

def slotFaults (divisor L : Nat) (b : List Byte) : List Nat :=
  if b.length % 16 ≠ 0 then [dFormat]
  else
    let es := slotEnts 0 b
    let spans (recv : Bool) := (es.filter fun x => x.recv == recv).map fun x => (x.first, x.count)
    (if (recordsOf 16 b).any fun r => recF r 57 7 != 0 || recF r 74 54 != 0 then [dFormat] else []) ++
    (if es.any (fun x => x.count == 0 || decide (slotCount divisor L < x.first + x.count) || decide (31 - x.first % 32 < x.count))
        || anyOverlap (spans true) || anyOverlap (spans false) then [dSlots] else [])

/-- The slots of a REFRESH section: MCLK cycle, pseudo-channel, bank (R260). -/
def refreshSlots (b : List Byte) : List (Nat × Nat × Nat) :=
  (List.range (leAt b 0 4)).map fun i =>
    let v := leAt b (16 + 8 * i) 8
    (bits v 0 32, bits v 32 1, bits v 33 4)

/-- Consecutive pairs of a list. -/
def steps : List Nat → List (Nat × Nat)
  | a :: b :: t => (a, b) :: steps (b :: t)
  | _ => []

/-- Whether a bank's slots keep the limits of R261. -/
def bankOk (limit pm : Nat) (l : List Nat) : Bool :=
  match l.head?, l.getLast? with
  | some a, some z => decide (a ≤ limit - 1125) && decide (a + pm ≤ z + limit) && (steps l).all fun x => decide (x.2 ≤ x.1 + limit)
  | _, _ => false

def State.refreshFaults (s : State) (p divisor L chan : Nat) (b : List Byte) : List Nat :=
  if b.length < 16 ∨ b.length ≠ 16 + 8 * leAt b 0 4 then [dFormat]
  else
    let hd := leAt b 0 16
    let sl := refreshSlots b
    let limit := if bits hd 32 1 = 1 then 2025 else 4050
    let pm := (if divisor = 1 then 45 else 36) * cdiv L 72
    let tick (m : Nat) := if divisor = 1 then 8 * m / 5 else 2 * m
    (if bits hd 33 95 ≠ 0 ∨ ((List.range sl.length).any fun i => leAt b (16 + 8 * i) 8 / 2 ^ 37 != 0) then [dFormat] else []) ++
    (if decide (639 < chan) || (s.partOfChan chan != p)
        || !((List.range 32).all fun k => bankOk limit pm ((sl.filter fun x => x.2.1 == k / 16 && x.2.2 == k % 16).map (·.1)))
        || (List.range 2).any (fun pc => (steps ((sl.filter fun x => x.2.1 == pc).map (·.1))).any fun x => decide (x.2 < x.1 + 8))
        || (steps (sl.map (·.1))).any (fun x => decide (x.2 < x.1)) || sl.any (fun x => decide (L ≤ tick x.1)) then [dRefresh] else [])

/-- A landing entry (R178). -/
def landEnts (b : List Byte) : List Landing :=
  (recordsOf 32 b).map fun r =>
    { base := recF r 0 64, size := recF r 64 32, expected := recF r 96 32, opn := recF r 128 32, deadline := recF r 160 32 }

/-- Whether an address span lies wholly in one kind of memory of the partition. -/
def State.memSpan (s : State) (p addr n : Nat) : Bool :=
  if n = 0 then (match s.home p addr with | .sram _ => true | .hbm _ _ _ _ => true | .window _ => false | .nowhere => false)
  else decide (n ≤ 2 ^ 41) && (match s.home p addr, s.home p (addr + n - 1) with
    | .sram _, .sram _ => true
    | .hbm _ _ _ _, .hbm _ _ _ _ => true
    | _, _ => false)

def State.landFaults (s : State) (p L : Nat) (datas : List (Nat × Nat)) (b : List Byte) : List Nat :=
  if b.length % 32 ≠ 0 then [dFormat]
  else
    let es := landEnts b
    let spans := es.map fun x => (x.base, 64 * x.size)
    (if (recordsOf 32 b).any fun r => recF r 192 64 != 0 then [dFormat] else []) ++
    (if decide (256 < es.length) || anyOverlap spans || spans.any (fun x => datas.any (overlap x)) ||
        es.any (fun x => x.base % 64 != 0 || !s.sramSpan p x.base (64 * x.size) || decide (x.size < x.expected)
          || decide (x.deadline ≤ x.opn) || decide (L < x.deadline)) then [dLanding] else [])

/-- A forecast entry (R197). -/
def forecastEnts (b : List Byte) : List Forecast :=
  (recordsOf 32 b).map fun r =>
    { tileW := (r.take 16).map (·.toNat), oeW := ((r.drop 16).take 4).map (·.toNat), hbmW := leAt r 20 2, totalW := leAt r 22 2 }

/-- The package power limit of a divisor code, in W (R516). -/
def powerLimit (divisor : Nat) : Nat := if divisor = 1 then 1800 else 2400

/-- W of R197. -/
def forecastW (divisor : Nat) : Nat := if divisor = 1 then 18000 else 22500

def forecastFaults (divisor L : Nat) (b : List Byte) : List Nat :=
  (if (recordsOf 32 b).any fun r => leAt r 24 8 != 0 then [dFormat] else []) ++
  (if b.length ≠ 32 * cdiv L (forecastW divisor) ∨ (forecastEnts b).any (fun x => decide (powerLimit divisor < x.totalW)) then [dForecast]
   else [])

/-! ### GROUPS (R371–R376, R530) -/

/-- The length of a GROUPS section. -/
def groupsLen (b : List Byte) : Nat :=
  64 + 32 * leAt b 0 2 + 64 * leAt b 2 2 + (if leAt b 0x28 1 = 1 then 64 else 0)

/-- The axes a topology lacks. -/
def lacks (topology axis : Nat) : Bool := (decide (topology ≤ 1) && axis != 0) || (topology == 2 && axis == 2)

/-- Whether a valid group entry is sound, as far as it can be told without the placement (R372, R375). -/
def GroupEnt.ok (g : GroupEnt) : Bool :=
  !g.reserved && decide (1 ≤ g.credits ∧ g.credits ≤ 64) &&
  (if g.comet then g.seg == 0 && decide (8 ≤ g.cmsg ∧ g.cmsg ≤ 64) && g.cmsg % 4 == 0
   else decide (1 ≤ g.seg ∧ g.seg ≤ 64) && g.cmsg == 0) &&
  (List.range 3).all fun a =>
    let x := g.extent.getD a 0
    let r := g.root.getD a 0
    decide (r < x) && !(g.masked a && x == 1) && (g.arms || !g.masked a || r + 1 == x)

/-- Whether a valid group entry fits the placement (R375, R530). -/
def GroupEnt.fits (g : GroupEnt) (pl : Placement) : Bool :=
  (List.range 3).all fun a =>
    decide (g.extent.getD a 0 ≤ pl.dim a) && !(lacks pl.topology a && (g.masked a || decide (1 < g.extent.getD a 0)))

/-- Whether a scheduled operation of the section is sound (R373, R375). -/
def State.schedOpOk (s : State) (p L : Nat) (gs : List GroupEnt) (d : BitVec 512) : Bool :=
  match gs.find? fun g => g.valid && g.gid == cdGid d with
  | none => false
  | some g => g.sched && cdLegal d && g.countOk d && s.collAddrs p g d && decide (cdTrig d < L) && cdF d 256 32 == 0

/-- Whether a GROUPS section passes R375, with the placement when there is one (R530). -/
def State.groupsOk (s : State) (p L : Nat) (pl : Option Placement) (b : List Byte) : Bool :=
  let ng := leAt b 0 2
  let gs := groupEnts b
  let valid := gs.filter (·.valid)
  let gids := gs.map (·.gid)
  decide (64 ≤ b.length) && decide (ng ≤ 256) && decide (leAt b 2 2 ≤ 256) && leAt b 4 4 == 0 && decide (leAt b 0x28 1 ≤ 1) &&
  allZero ((b.drop 0x29).take 23) && b.length == groupsLen b &&
  (gids.all fun x => (gids.filter (· == x)).length == 1) && gs.all (fun g => !g.reserved) && valid.all GroupEnt.ok &&
  ((List.range 4).all fun e =>
    let own := valid.filter fun g => s.collEngine p g.gid == e
    let sum (c : Bool) : Nat := ((own.filter fun g => g.comet == c).map GroupEnt.reserve).foldl (· + ·) 0
    let base := leAt b (8 + 8 * e) 8
    decide (sum false ≤ 2048) && decide (sum true ≤ 2048) &&
    (base == 0 || (base % 64 == 0 && s.sramSpan p base (256 * 64 + 64)))) &&
  (schedEnts b).all (s.schedOpOk p L gs) &&
  (leAt b 0x28 1 == 0 || (List.range 32).all fun q => bits (leAt b (64 + 32 * ng + 64 * leAt b 2 2 + 2 * q) 2) 3 5 == 0) &&
  match pl with
  | none => true
  | some pl => (decide (pl.topology ≤ 3) || ng == 0) && valid.all (·.fits pl)

/-! ### The whole image (R177) -/

/-- Sections of a type that apply to this member. -/
def SecEnt.applies (e : SecEnt) (pix : Nat) : Bool := e.pix == pix || e.pix == 0xFFFF

/-- The DATA destinations of applying sections: address and length. -/
def dataSpans (f : List Byte) (es : List SecEnt) : List (Nat × Nat) :=
  (es.filter fun e => e.typ == 8).map fun e => (leAt (e.bytes f) 0 8, e.len - 8)

/-- The details that one applying section breaks. -/
def State.secFaults (s : State) (p : Nat) (f : List Byte) (es : List SecEnt) (e : SecEnt) : List Nat :=
  let b := e.bytes f
  let divisor := leAt f 7 1
  let L := leAt f 8 4
  if e.typ = 1 then (if 255 < e.index then [dFormat] else streamFaults e.index L b)
  else if e.typ = 2 then (if 31 < e.index then [dFormat] else slotFaults divisor L b)
  else if e.typ = 3 then (if e.index ≠ 0 ∨ e.len ≠ 64 then [dFormat] else [])
  else if e.typ = 4 then s.refreshFaults p divisor L e.index b
  else if e.typ = 5 then (if e.index ≠ 0 then [dFormat] else []) ++ s.landFaults p L (dataSpans f es) b
  else if e.typ = 6 then (if e.index ≠ 0 then [dFormat] else []) ++ forecastFaults divisor L b
  else if e.typ = 7 then
    (if e.index ≠ 0 || !s.groupsOk p L (s.part p).placement b then [dFormat] else [])
  else if e.typ = 8 then
    (if e.len < 8 then [dFormat] else if ! s.memSpan p (leAt b 0 8) (e.len - 8) then [dData] else [])
  else []

/-- Every detail an image breaks (R177). -/
def State.imageFaults (s : State) (p : Nat) (f : List Byte) : List Nat :=
  let ents := secEnts f
  let tabEnd := 0x100 + 32 * leAt f 0x12 2
  if f.length < tabEnd then [dFormat]
  else
    let L := leAt f 8 4
    let es := ents.filter fun e => e.applies (s.ownPix p)
    let once (e : SecEnt) : Bool := e.typ == 8 || e.typ == 9 ||
      (es.filter fun x => x.typ == e.typ && x.index == e.index).length == 1
    let other : Bool := match (s.part p).placement with
      | some pl => pl.members.length != leAt f 0x10 2
      | none => false
    let bad (e : SecEnt) : Bool :=
      !e.clean || e.typ == 0 || decide (9 < e.typ) || e.off % 64 != 0 || decide (f.length < e.off + e.len)
    (if leAt f 0 4 ≠ 0x5442524F ∨ leAt f 4 2 ≠ 1 ∨ 1 < leAt f 7 1 ∨ leAt f 0x1A 6 ≠ 0
        ∨ !allZero ((f.drop 0x68).take 152) ∨ ents.any bad ∨ anyOverlap ((0, tabEnd) :: ents.map fun e => (e.off, e.len))
        ∨ !es.all once then [dFormat] else []) ++
    (if s.flOf p < leAt f 6 1 then [dFl] else []) ++
    (if L = 0 ∨ 2 ^ 24 < L ∨ leAt f 0x10 2 = 0 ∨ 1024 < leAt f 0x10 2 ∨ leAt f 0x14 4 < 256 ∨ 2 ^ 20 < leAt f 0x14 4 ∨
        other then [dSize] else []) ++
    (if L = 0 ∨ 2 ^ 24 < L then [] else es.flatMap (s.secFaults p f es))

/-- The image that the sections applying to this member make. -/
def State.imageOf (s : State) (p : Nat) (f : List Byte) : Image :=
  let es := (secEnts f).filter fun e => e.applies (s.ownPix p)
  let sec (t : Nat) := es.filter fun e => e.typ == t
  let first (t : Nat) : List Byte := match (sec t).head? with
    | some e => e.bytes f
    | none => []
  { fl := leAt f 6 1, divisor := leAt f 7 1, length := leAt f 8 4, orbits := leAt f 0xC 4, members := leAt f 0x10 2,
    horizon := leAt f 0x14 4, hop := leAt f 0x18 2, build := leAt f 0x20 8, hash := imageHash f,
    plcHash := (f.drop 0x58).take 16
    streams := (sec 1).map fun e =>
      let b := e.bytes f
      { lc := e.index / 4, eng := Eng.ofIdx (e.index % 4), start := leAt b 0 4,
        plane := if leAt b 8 1 % 2 = 1 then .sched else .free, early := bits (leAt b 8 1) 1 1 == 1, instrs := streamWords b }
    slots := (sec 2).flatMap fun e => slotEnts e.index (e.bytes f)
    budgets := if (sec 3).isEmpty then [] else (List.range 32).map fun q => leAt (first 3) (2 * q) 2
    refresh := (sec 4).map fun e =>
      let b := e.bytes f
      { chan := e.index, hot := bits (leAt b 4 1) 0 1 == 1, slots := refreshSlots b }
    landing := landEnts (first 5), forecast := forecastEnts (first 6), groups := first 7
    data := (sec 8).map fun e => let b := e.bytes f; (leAt b 0 8, b.drop 8) }

/-! ### Applying an image -/

/-- Every core of a partition. -/
def State.coresOf (s : State) (p : Nat) : List Nat := (List.range 64).filter fun n => s.partOfCore n == p

/-- The stream a STREAM section gives; a free stream with early = 1 starts when the load completes (R173). -/
def ImgStream.stream (x : ImgStream) : Stream :=
  let st : Stream := { plane := x.plane, early := x.early, start := x.start, instrs := x.instrs }
  if x.early && x.plane == .free && !x.instrs.isEmpty then { st with status := .running } else st

/-- Stop the streams of some cores and load those that an image gives them (R173, R443). -/
def State.loadStreamsOf (s : State) (p : Nat) (img : Image) (ns : List Nat) : State :=
  ns.foldl (fun a n => [Eng.scu, .mxe, .vxe, .dmx].foldl (fun a e =>
    let st := match img.streams.find? fun x => x.lc == n && x.eng == e with
      | some x => { x.stream with busy := (s.part p).gtc + x.start }
      | none => {}
    if a.stream n e = st ∨ (st.instrs = [] ∧ a.stream n e = {}) then a else a.updStream n e fun _ => st)
    (a.releaseFences n [.scu, .mxe, .vxe, .dmx])) s

/-- Stop every stream of the previous image and load those of the new one (R173). -/
def State.loadStreams (s : State) (p : Nat) (img : Image) : State := s.loadStreamsOf p img (s.coresOf p)

/-- Set the mode of some channels in service by the image: scheduled where it has a refresh section (R252, R443). -/
def State.loadChannelsOf (s : State) (img : Image) (cs : List Nat) : State :=
  cs.foldl (fun a c =>
    if a.rd F.MCH_STS_mode 0 c = 0 ∨ a.rd F.MCH_STS_mode 0 c = 3 then a
    else
      let m := if img.refresh.any fun r => r.chan == c then 2 else 1
      let a := (a.wr F.MCH_STS_mode m 0 c).wr F.MCH_STS_max_gap 0 0 c
      if (a.chan c).ceiling then a.updChan c fun d => { d with ceiling := false } else a) s

/-- Set the mode of every channel in service by the image (R252). -/
def State.loadChannels (s : State) (p : Nat) (img : Image) : State :=
  let s := s.loadChannelsOf img ((List.range 640).filter fun c => s.partOfChan c == p)
  s.wr F.MEM_STS_sched_ch img.refresh.length p

/-- What LOAD_IMAGE puts in force (R173, R205, R252, R376, R381, R398, R460, R476). -/
def State.applyImage (s : State) (p : Nat) (img : Image) : State :=
  let s := s.loadStreams p img
  let s := s.updPart p fun q => { q with
    image := some img, t0 := none, stopAt := none, lateStart := false, freeze := none, ownFault := false, seen := [],
    ready := [], armed := false, landOpen := [], fcastNow := none, inflight := [], missed := [], sendq := []
    e2eOut := q.e2eOut.map fun x => (x.1, { x.2 with lost := [] }) }
  let s := (List.range 256).foldl (fun a j => a.setReg .LAND_STS 0 p j) s
  let s := ((s.setReg .SCH_CONJ 0 p).setReg .SCH_FREEZE 0 p).setReg .SCH_SLIP 0 p
  let s := (s.setReg .SCH_SLIP_GTC 0 p).setReg .SCH_STS 1 p
  let s := (List.range 6).foldl (fun a i => a.setReg .SCH_IMG_HASH (BitVec.ofNat 64 (leAt img.hash (8 * i) 8)) p i) s
  let s := (s.wr F.INFL_STS_valid 0 p).wr F.FLT_STS_replay_ready 0 p
  let s := img.data.foldl (fun a d => a.putBytes p d.1 (d.2.length / 64 + 2) d.2) s
  let s := s.loadChannels p img
  let s := (s.portsOf p).foldl (fun a q => a.showDelay q) s
  (s.applyGroups p)

/-! ### Placement tables (R166–R169) -/

/-- A member record. -/
def memberOf (r : List Byte) : Member :=
  { pix := leAt r 0 2 % 2 ^ 14, x := leAt r 2 2, y := leAt r 4 2, z := leAt r 6 2, upstream := leAt r 8 1, serial := leAt r 0x10 8
    ports := (List.range 32).map fun i =>
      let v := leAt r (0x18 + 4 * i) 4
      { nbrPix := bits v 0 14, nbrPort := bits v 14 5, dir := bits v 19 4 } }

/-- The records of a table. -/
def tableRecs (b : List Byte) : List (List Byte) := recordsOf 152 ((b.drop 64).take (152 * leAt b 6 2))

/-- Whether a chain of upstream ports reaches the master. -/
def Placement.reaches (pl : Placement) : Nat → Nat → Bool
  | 0, _ => false
  | n + 1, pix => if pix = pl.master then true else match pl.parent pix with
    | some u => pl.reaches n u
    | none => false

/-- The members joined to a set by one port with dir ≠ 0. -/
def Placement.grow (pl : Placement) (set : List Nat) : List Nat :=
  pl.members.foldl (fun acc m =>
    if set.contains m.pix then
      m.ports.foldl (fun acc e => if e.dir ≠ 0 ∧ !acc.contains e.nbrPix then acc ++ [e.nbrPix] else acc) acc
    else acc) set

/-- The fewest ports from a member to the farthest one it is joined to. -/
def Placement.depth (pl : Placement) : Nat → Nat → List Nat → Nat
  | 0, d, _ => d
  | n + 1, d, set => let g := pl.grow set; if g.length = set.length then d else pl.depth n (d + 1) g

/-- The group diameter (R169). -/
def Placement.span (pl : Placement) : Nat :=
  (pl.members.map fun m => pl.depth pl.members.length 0 [m.pix]).foldl max 0

/-- The placement a table makes for the PIX named. -/
def placementOf (b : List Byte) (own : Nat) : Placement :=
  let pl : Placement := {
    topology := leAt b 8 1, dimX := leAt b 0xA 2, dimY := leAt b 0xC 2, dimZ := leAt b 0xE 2, master := leAt b 0x10 2
    own := own, members := (tableRecs b).map memberOf, hash := (sha384 (b.take (64 + 152 * leAt b 6 2))).take 16, diameter := 0 }
  { pl with diameter := pl.span }

/-- Whether SET_PLACEMENT accepts a table for the PIX named (R168). -/
def State.placementOk (s : State) (b : List Byte) (own : Nat) : Bool :=
  let n := leAt b 6 2
  let recs := tableRecs b
  let pl : Placement := {
    topology := leAt b 8 1, dimX := 1, dimY := 1, dimZ := 1, master := leAt b 0x10 2, own := own, members := recs.map memberOf
    hash := [], diameter := 0 }
  leAt b 0 4 == 0x544C4350 && leAt b 4 2 == 1 && decide (leAt b 8 1 ≤ 5) && leAt b 9 1 == 0 && allZero ((b.drop 0x12).take 46) &&
  decide (1 ≤ n ∧ n ≤ 1024) && b.length == cdiv (64 + 152 * n) 64 * 64 && allZero (b.drop (64 + 152 * n)) &&
  (recs.all fun r => decide (leAt r 0 2 < 1024) && allZero ((r.drop 9).take 7) && (List.range 32).all fun i =>
    let v := leAt r (0x18 + 4 * i) 4
    decide (bits v 19 4 < 12) && bits v 23 9 == 0 && (bits v 19 4 == 0 || decide (bits v 0 14 < 1024))) &&
  (steps (pl.members.map (·.pix))).all (fun (x : Nat × Nat) => decide (x.1 < x.2)) && decide (pl.master < 1024) &&
  ((pl.members.filter fun m => m.upstream == 0xFF).map (·.pix)) == [pl.master] &&
  pl.members.all (fun m => m.upstream == 0xFF || decide (m.upstream < 32)) &&
  pl.members.all (fun m => pl.reaches (n + 1) m.pix) &&
  pl.members.all (fun m => m.upstream == 0xFF || (match m.ports[m.upstream]? with
    | some e => e.dir != 0
    | none => false)) &&
  pl.members.all (fun m => m.ports.zipIdx.all fun e => e.1.dir == 0 || (match pl.member e.1.nbrPix with
    | none => false
    | some o => (match o.ports[e.1.nbrPort]? with
      | some x => x.dir != 0 && x.nbrPix == m.pix && x.nbrPort == e.2
      | none => false))) &&
  (match pl.member own with
   | none => false
   | some m => m.serial == 0 || m.serial == s.fuses.serial.toNat)

/-- Put a placement in force: timing tree, own PIX, routes, and every received record checked again (R55, R345, R354). -/
def State.applyPlacement (s : State) (p : Nat) (pl : Placement) : State :=
  let old := (s.rd F.GTC_CTL_master p, s.rd F.GTC_CTL_upstream_port p)
  let s := s.updPart p fun q => { q with placement := some pl }
  let up := match pl.self with
    | some m => m.upstream
    | none => 0xFF
  let s := ((s.wr F.NET_STS_pix pl.own p).wr F.NET_STS_placed 1 p).wr F.NET_STS_topology pl.topology p
  let s := s.wr F.GTC_CTL_master (b2n (pl.master == pl.own)) p
  let s := s.wr F.GTC_CTL_upstream_port (up % 32) p
  -- another upstream neighbour: alignment begins anew (DEDUCED, notes/assumptions/39.md)
  let s := if old = (b2n (pl.master == pl.own), up % 32) then s
    else (s.setReg .GTC_ALIGN_STS 0 p).updPart p fun q => { q with loadThetas := [], goodMeans := 0, exchanges := 0 }
  let s := (List.range 2).foldl (fun a i => a.setReg .SCH_PLC_HASH (BitVec.ofNat 64 (leAt pl.hash (8 * i) 8)) p i) s
  let s := (s.portsOf p).foldl (fun a q => (a.wr F.PORT_STS_logical q 0 q)) s
  let s := (s.computeRoutes p).reidentify p
  let s := (s.portsOf p).foldl (fun a q => a.portFlags q) s
  (s.portsOf p).foldl (fun a q => a.sendPir q) s

end Sys2Proof.Machine
end

