-- ==== Sys2Proof/Machine/Sched.lean ====
section
/-! DEFINITION. Scheduled execution (05): loading, arming, starting and stopping, conjunctions, slots and landing buffers, the
freeze, and the forecast. -/

namespace Sys2Proof.Machine

/-! ### Reading host windows and memory for a command (R415 FETCH_ERROR, R422) -/

/-- Why a window access of n bytes fails (R415): 2 window not valid, 3 outside window, 4 no permission, 1 the connection is
down (R412); 0 when it does not. -/
def State.windowDetail (s : State) (p win off n : Nat) (write : Bool) : Nat :=
  let e := (tabGet windowDefault (s.part p).windows win).toNat
  if ! e.testBit 162 then 2
  else if bits e 64 48 < off + n then 3
  else if ! e.testBit (if write then 164 else 163) then 4
  else if ! (tabGet connDefault (s.part p).conns (bits e 160 2)).up then 1
  else 0

/-- Read n bytes of memory from a granule boundary, verifying each granule: the bytes, or the address that fails. -/
def State.readMem (s : State) (p addr : Nat) : Nat → List Byte → State × Except Nat (List Byte)
  | 0, acc => (s, .ok acc)
  | n + 1, acc =>
    match s.readGran p addr with
    | none => (s, .error addr)
    | some (s, d) => if d.ok then State.readMem s p (addr + 64) n (acc ++ toLE 64 d.data.toNat) else (s, .error addr)

/-! ### LOAD_IMAGE and SET_PLACEMENT -/

/-- The file a LOAD_IMAGE names (R422): the host's answer to the read of its window, or device HBM. The error holds status,
detail and result0. -/
def State.imageFile (s : State) (p : Nat) (o : OpenCmd) (data : Option (List Byte)) : State × Except (Nat × Nat × Nat) (List Byte) :=
  let len := bits o.arg1 0 48
  if o.arg2.testBit 8 then
    match s.home p o.arg0 with
    | .hbm _ _ _ _ =>
      if ! s.memSpan p o.arg0 len then (s, .error (0x16, 0, o.arg0))
      else
        let r := s.readMem p o.arg0 (cdiv len 64) []
        match r.2 with
        | .ok b => (r.1, .ok (b.take len))
        | .error a => (r.1, .error (0x17, 0, a))
    | .sram _ | .window _ | .nowhere => (s, .error (0x16, 0, o.arg0))
  else
    let d := s.windowDetail p (bits o.arg2 0 8) o.arg0 len false
    if d ≠ 0 then (s, .error (0x06, d, 0))
    else match data with
      | none => (s, .error (0x06, 1, 0))
      | some b => (s, .ok (padTo len b))

/-- LOAD_IMAGE (R170–R178, R422): the image is read, its hash compared with the extension, its sections checked; a good one
replaces the image in force. -/
def execLoadImage (p : Fin 2) (r : Fin 65) (data : Option (List (BitVec 8))) (s : State) : Res :=
  match s.running? p r 0x10 with
  | none => notEnabled "no LOAD_IMAGE is in progress there (R418)"
  | some o =>
    let x := s.imageFile p o data
    match x.2 with
    | .error e => .next (x.1.complete p o.src e.1 e.2.1 e.2.2 0)
    | .ok f =>
      let s := x.1
      if imageHash f ≠ o.ext.take 48 then .next (s.complete p o.src 0x09 1 0 0)
      else match (s.imageFaults p f).min? with
        | some d => .next (s.complete p o.src 0x07 d 0 0)
        | none =>
          let img := s.imageOf p f
          let s := (s.applyImage p img).enterEvent p .loaded
          .next (s.complete p o.src 0 0 (img.length + img.fl * 2 ^ 32) (leAt img.hash 0 8))

/-- SET_PLACEMENT (R166–R169, R422). -/
def execSetPlacement (p : Fin 2) (r : Fin 65) (s : State) : Res :=
  match s.running? p r 0x11 with
  | none => notEnabled "no SET_PLACEMENT is in progress there (R418)"
  | some o =>
    let own := bits o.arg0 0 14
    if ! s.placementOk o.ext own then .next (s.complete p o.src 0x08 0 0 0)
    else
      let pl := placementOf o.ext own
      .next ((s.applyPlacement p pl).complete p o.src 0 0 (leAt pl.hash 0 8) (leAt pl.hash 8 8))

/-! ### Arming (R181–R183) -/

/-- The first condition of R181 that fails: status, detail, result0, result1. Results a status does not name read 0
(DESIGN CHOICE, notes/assumptions/40.md). -/
def State.armFails (s : State) (p : Nat) : Option (Nat × Nat × Nat × Nat) :=
  let own := s.ownPix p
  match (s.part p).image, (s.part p).placement with
  | some img, some pl =>
    if img.plcHash ≠ pl.hash then some (0x09, 0, own, 0)
    else if !img.groups.isEmpty && !s.groupsOk p img.length (some pl) img.groups then some (0x07, 1, 0, 0)
    else if img.divisor ≠ bits s.straps.toNat 0 2 then some (0x0A, 0, 0, 0)
    else if ! s.alignedNow p || s.rdB F.CLK_STS_holdover p then some (0x0B, 0, own, 0)
    else
      let up := s.upstreamPort p
      let upPix := match s.entryOf up with
        | some e => e.nbrPix
        | none => 0x3FFF
      if !s.isMaster p && !(pirGood (s.port up).pir && (pirFlags (s.port up).pir).testBit 4) then some (0x0B, 0, upPix, 0)
      else match (List.range 32).find? fun b =>
          (!s.twoPart || (!isSeam b && sideHalf b 0 == p)) && !(s.sideState b 0 == brActive && s.sideState b 1 == brActive) with
        | some b => some (0x0C, 0, b, 0)
        | none =>
          let used := (List.range 32).filter fun lp => img.budgets.getD lp 0 != 0
          match used.find? fun lp => !(s.portUp (s.physOf p lp) && s.sixteen (s.physOf p lp)) with
          | some lp => some (0x0D, 0, lp, 0)
          | none =>
            let valid (q : Nat) : Bool := s.rdB F.LDLY_STS_valid 0 q
            let late (lp : Nat) : Option (Nat × Nat × Nat × Nat) :=
              some (0x0E, 0, lp, if valid (s.physOf p lp) then s.rd F.LDLY_STS_delay 0 (s.physOf p lp) else 2 ^ 64 - 1)
            match used.find? fun lp => let q := s.physOf p lp; !(valid q && s.budgetFits q) with
            | some lp => late lp
            | none =>
              match (List.range 32).find? fun lp =>
                  let q := s.physOf p lp
                  s.partOfPort q == p && s.dirOf q != 0 && s.portUp q && !(valid q && s.hopFits q) with
              | some lp => late lp
              | none =>
                if img.horizon < pl.diameter * img.hop + 64 then some (0x0F, 0, 0, 0)
                else if s.guard p < 2 ∨ 64 < s.guard p then some (0x0E, 0, 0, 0)
                else none
  | _, _ => some (0x09, 0, own, 0)

/-- The open commands of an opcode that have run and wait for an event. -/
def State.waitingOn (s : State) (p op : Nat) : List OpenCmd :=
  (s.part p).opens.filter fun o => o.checked && o.opcode == op && o.stage == 1

/-- A command that has run waits for an event. -/
def State.await (s : State) (p : Nat) (o : OpenCmd) : State := s.setOpen p { o with stage := 1 }

/-- A command whose checks have passed and which has not run yet. -/
def State.fresh? (s : State) (p r op : Nat) : Option OpenCmd :=
  match s.running? p r op with
  | some o => if o.stage = 0 then some o else none
  | none => none

/-- Enter ARMED (R182): ARM completes. -/
def State.enterArmed (s : State) (p : Nat) : State :=
  let s := s.updPart p fun q => { q with armed := false, ready := [] }
  let s := (s.enterEvent p .armed).wr F.SCH_STS_plane 2 p
  s.completeOp p 0x12 0 0 0 0

/-- A member that passes its conditions and whose every downstream neighbour is ready sends ARM_READY upstream; the master
floods ARMED and enters ARMED (R181, R182). -/
def State.armProgress (s : State) (p : Nat) : State :=
  let q := s.part p
  match q.placement, q.image with
  | some pl, some img =>
    if ! q.armed ∨ ¬ (pl.children pl.own).all q.ready.contains then s
    else if s.isMaster p then (s.flood p kArmed 0 0 0 0).enterArmed p
    else
      let n : Notice := {
        origin := pl.own, kind := kArmReady, code := 0, a := leAt img.hash 0 8, b := leAt img.plcHash 0 8, orbit := 0 }
      let s := s.updPart p fun q => { q with armed := false }
      s.emit (.notice p ((s.noticePorts p).filter (· == s.upstreamPort p)) n)
  | _, _ => s

/-- ARM (R181, R205). -/
def execArm (p : Fin 2) (r : Fin 65) (s : State) : Res :=
  match s.fresh? p r 0x12 with
  | none => notEnabled "no ARM is in progress there (R418)"
  | some o =>
    let s := (((s.setReg .SCH_CONJ 0 p).setReg .SCH_FREEZE 0 p).setReg .SCH_STS 1 p)
    match s.armFails p with
    | some f => .next (s.complete p o.src f.1 f.2.1 f.2.2.1 f.2.2.2)
    | none => .next (((s.await p o).updPart p fun q => { q with armed := true }).armProgress p)

/-- A control notice from its 32 bytes (R190). -/
def noticeOf (w : BitVec 256) : Notice :=
  let v := w.toNat
  { origin := bits v 0 14, kind := bits v 16 8, code := bits v 24 8, a := bits v 32 64, b := bits v 96 64, orbit := bits v 160 64 }

/-- ARM_FAIL reaches this member (R182, R183): an ARMED member returns to LOADED, an open ARM ends with its status. -/
def State.armFail (s : State) (p status pix : Nat) : State :=
  match (s.part p).state with
  | .armed => s.disarm p status pix
  | .loaded =>
    let s := s.updPart p fun q => { q with armed := false, ready := [] }
    s.completeOp p 0x12 status (b2n (status == 0x07)) pix 0
  | .cold | .booting | .idle | .running | .halted | .faulted | .quarantined => s

/-- ARM_READY (R182): hashes that differ make this member flood ARM_FAIL with the sender's PIX; equal ones count the sender
ready. -/
def execArmReady (q : Fin 32) (w : BitVec 256) (s : State) : Res :=
  let p := s.partOfPort q
  let n := noticeOf w
  if n.kind ≠ kArmReady then notEnabled "another kind of notice (R190)"
  else
    let own : Bool := match (s.part p).image with
      | some img => leAt img.hash 0 8 == n.a && leAt img.plcHash 0 8 == n.b
      | none => false
    if own then
      let s := s.updPart p fun x => { x with ready := if x.ready.contains n.origin then x.ready else n.origin :: x.ready }
      .next (s.armProgress p)
    else .next ((s.flood p kArmFail 0x09 n.origin 0 0).armFail p 0x09 n.origin)

/-- A flooded notice that arrives: discarded when known, otherwise accepted and forwarded (R190). -/
def State.flooded (s : State) (q : Nat) (kind : Nat) (w : BitVec 256) (f : State → Notice → State) : Res :=
  let p := s.partOfPort q
  let n := noticeOf w
  if n.kind ≠ kind then notEnabled "another kind of notice (R190)"
  else if s.knows p n then .next s
  else .next (f (s.forward p n) n)

/-- ARMED (R182): a member whose ARM waits enters ARMED. -/
def execArmed (q : Fin 32) (w : BitVec 256) (s : State) : Res :=
  let p := s.partOfPort q
  s.flooded q kArmed w fun s _ =>
    if (s.part p).state = .loaded ∧ s.waitingOn p 0x12 ≠ [] then s.enterArmed p else s

/-- ARM_FAIL (R182, R183). -/
def execArmFail (q : Fin 32) (w : BitVec 256) (s : State) : Res :=
  let p := s.partOfPort q
  s.flooded q kArmFail w fun s n => s.armFail p n.code n.a

/-- ARM_TIMEOUT (R182): arm_timeout has passed since the ARM. -/
def execArmTimeout (p : Fin 2) (s : State) : Res :=
  guarded (s.waitingOn p 0x12 != []) "no ARM waits (R182)"
    ((s.updPart p fun q => { q with armed := false, ready := [] }).completeOp p 0x12 0x10 0 0 0)

/-! ### Starting (R184) -/

/-- START (R184). -/
def execStart (p : Fin 2) (r : Fin 65) (s : State) : Res :=
  match s.fresh? p r 0x13 with
  | none => notEnabled "no START is in progress there (R418)"
  | some o =>
    let g := (s.part p).gtc
    let least (d : Nat) : Nat := cdiv (g + d) 72 * 72
    if ! s.isMaster p then .next (s.complete p o.src 0x11 0 0 0)
    else if o.arg0 % 72 ≠ 0 then .next (s.complete p o.src 0x02 0x08 0 0)
    else if o.arg0 ≠ 0 ∧ o.arg0 < g + 45000 then .next (s.complete p o.src 0x13 0 (least 45000) 0)
    else
      let t0 := if o.arg0 = 0 then least 225000 else o.arg0
      let s := s.updPart p fun q => { q with t0 := some t0, lateStart := false }
      .next ((s.flood p kStart 0 t0 0 0).await p o)

/-- START_NOTICE (R184): an ARMED member takes T(0); one that is late slips at T(0). -/
def execStartNotice (q : Fin 32) (w : BitVec 256) (s : State) : Res :=
  let p := s.partOfPort q
  s.flooded q kStart w fun s n =>
    if (s.part p).state = .armed then
      s.updPart p fun x => { x with t0 := some n.a, lateStart := decide (n.a < x.gtc + 72) }
    else s

/-- A scheduled stream begins its pass (R173). -/
def Stream.restart (st : Stream) : Stream :=
  if st.plane = .sched ∧ st.instrs ≠ [] then { st with pc := 0, loops := [], issuedOne := false, status := .running } else st

/-- Update every stream of a partition. -/
def State.allStreams (s : State) (p : Nat) (f : Stream → Stream) : State :=
  (s.coresOf p).foldl (fun a n => [Eng.scu, .mxe, .vxe, .dmx].foldl (fun a e =>
    if f (a.stream n e) = a.stream n e then a else a.updStream n e f) a) s

/-- An orbit begins at T (R68, R173): scheduled streams issue from their first instruction; late marks clear. An originator that
has stopped keeps the position it latched at t_d (R193). -/
def State.beginOrbit (s : State) (p k T : Nat) : State :=
  let s := s.updPart p fun q => { q with orbit := k, conj := T, landOpen := [] }
  let s := s.setReg .SCH_CONJ (BitVec.ofNat 64 T) p
  let s := if s.schedStopped p then s else s.setReg .SCH_STS (BitVec.ofNat 64 (3 + k % 2 ^ 35 * 2 ^ 29)) p
  let s := (List.range 256).foldl (fun a j => a.wr F.LAND_STS_late 0 p j) s
  let s := (s.coresOf p).foldl (fun a n => a.releaseFences n
    ([Eng.scu, .mxe, .vxe, .dmx].filter fun e => (s.stream n e).plane == .sched)) s
  if s.schedStopped p then s else s.allStreams p fun st => if st.status = .faulted ∧ k ≠ 0 then st else st.restart

/-- A free stream with early = 0 that has not yet started (R173). -/
def Stream.firstRun (st : Stream) : Stream :=
  if st.plane = .free ∧ !st.early ∧ !st.issuedOne ∧ st.status = .idle ∧ st.instrs ≠ [] then { st with status := .running } else st

/-- RUN_START (R184): T(0) comes on an ARMED member; the first orbit begins and START completes. -/
def execRunStart (p : Fin 2) (s : State) : Res :=
  let q := s.part p
  match q.t0 with
  | none => notEnabled "no START is under way (R184)"
  | some T =>
    if q.state ≠ .armed then notEnabled "the member is not ARMED (R184)"
    else
      let s := s.updPart p fun q => { q with t0 := none, stopAt := none, freeze := none, ownFault := false, lateStart := false }
      let s := s.enterEvent p .running
      let s := ((s.setReg .SCH_SLIP 0 p).setReg .SCH_SLIP_GTC 0 p)
      let s := (s.beginOrbit p 0 T).allStreams p Stream.firstRun
      let s := s.completeOp p 0x13 0 0 T 0
      .next (if q.lateStart then s.slip p 0x0F else s)

/-! ### Conjunctions and the end of a run (R68, R185) -/

/-- Ticks from one conjunction to the next (R68). -/
def Image.period (img : Image) : Nat := 72 * cdiv img.length 72

/-- The run ends at conjunction T (R185): scheduled streams stop, the member is ARMED again and STOP completes. A freeze
tick held beyond the end is dropped (DEDUCED, notes/assumptions/41.md). -/
def State.endRun (s : State) (p T : Nat) : State :=
  let s := s.allStreams p fun st => if st.plane = .sched ∧ st.status ≠ .faulted then { st with status := .idle, loops := [] } else st
  let s := s.updPart p fun q => { q with stopAt := none, freeze := none, ownFault := false, landOpen := [], fcastNow := none }
  let s := (s.enterEvent p .armed).wr F.SCH_STS_plane 2 p
  let s := s.setReg .SCH_FREEZE 0 p
  s.completeOp p 0x14 0 0 T 0

/-- CONJUNCTION (R68, R173, R185): the next conjunction comes while RUNNING. A freeze tick at or before it leaves the orbit to
the freeze. -/
def execConjunction (p : Fin 2) (s : State) : Res :=
  let q := s.part p
  match q.image with
  | none => notEnabled "no image is loaded (R68)"
  | some img =>
    if q.state ≠ .running then notEnabled "the scheduled plane does not run (R68)"
    else
      let T := q.conj + img.period
      let held : Bool := match q.freeze with
        | some f => f.frozen || decide (f.tf ≤ T)
        | none => false
      let stops : Bool := match q.stopAt with
        | some c => decide (c ≤ T)
        | none => false
      if held then .next s
      else if stops || (img.orbits != 0 && decide (img.orbits ≤ q.orbit + 1)) then .next (s.endRun p T)
      else .next (s.beginOrbit p (q.orbit + 1) T)

/-- STOP (R185). -/
def execStop (p : Fin 2) (r : Fin 65) (s : State) : Res :=
  match s.fresh? p r 0x14 with
  | none => notEnabled "no STOP is in progress there (R418)"
  | some o =>
    let q := s.part p
    if ! s.isMaster p then .next (s.complete p o.src 0x11 0 0 0)
    else match q.state, q.image with
      | .running, some img =>
        let c := q.conj + img.period * cdiv (q.gtc + img.horizon - q.conj) img.period
        let s := s.updPart p fun q => { q with stopAt := some c }
        .next (((s.flood p kStop 0 c 0 0).await p o).releaseSlot p o.src)
      | .armed, _ =>
        let s := (s.flood p kStop 0 0 0 0).disarm p 0 0
        .next (s.complete p o.src 0 0 0 0)
      | _, _ => .next (s.complete p o.src 0x01 0 0 0)

/-- STOP_NOTICE (R185). -/
def execStopNotice (q : Fin 32) (w : BitVec 256) (s : State) : Res :=
  let p := s.partOfPort q
  s.flooded q kStop w fun s n =>
    match (s.part p).state with
    | .armed => if n.a = 0 then s.disarm p 0 0 else s
    | .running => if n.a = 0 then s else s.updPart p fun x => { x with stopAt := some n.a }
    | .cold | .booting | .idle | .loaded | .halted | .faulted | .quarantined => s

/-! ### The freeze (R190–R196) -/

/-- t_f has come (R193, R396): scheduled issue and launch stop, scheduled collectives abort, SCH_STS is frozen. The
originator's position stays the one latched at t_d. -/
def State.freezeNow (s : State) (p : Nat) : State :=
  match (s.part p).freeze with
  | none => s
  | some f =>
    let q := s.part p
    let s := if f.isLocal then s else (s.wr F.SCH_STS_pos (q.gtc - q.conj) p).wr F.SCH_STS_orbit q.orbit p
    let s := s.wr F.SCH_STS_plane 4 p
    let s := s.updPart p fun q => { q with freeze := some { f with frozen := true }, missed := [] }
    let s := s.allStreams p fun st => if st.plane = .sched ∧ st.status ≠ .faulted then { st with status := .idle } else st
    s.collFreeze p

/-- Latch what caused the freeze (R193, R196). -/
def State.latchSlip (s : State) (p : Nat) (n : Notice) (mine : Bool) : State :=
  let s := ((s.wr F.SCH_SLIP_cause n.code p).wr F.SCH_SLIP_origin n.origin p).wr F.SCH_SLIP_local (b2n mine) p
  s.setReg .SCH_SLIP_GTC (BitVec.ofNat 64 n.a) p

/-- Adopt the freeze tick of a notice when none or a later one is held (R191); at or after t_f the member freezes at once
(R194). A member that has stopped its own issue stays so. -/
def State.adopt (s : State) (p : Nat) (n : Notice) (mine : Bool) : State :=
  let q := s.part p
  let was := match q.freeze with
    | some f => f.isLocal
    | none => false
  let late := decide (n.b ≤ q.gtc)
  let f : Freeze := { tf := n.b, td := n.a, cause := n.code, origin := n.origin, isLocal := was, late := late, launched := true,
                      frozen := false }
  let s := s.updPart p fun q => { q with freeze := some f, ownFault := false }
  let s := (s.flag F.SCH_EVT_slip F.SCH_EVT_CNT_slip_cnt p).setReg .SCH_FREEZE (BitVec.ofNat 64 n.b) p
  let s := s.latchSlip p n mine
  if late then ((s.wr F.SCH_SLIP_late 1 p).flag F.SCH_EVT_freeze_late F.SCH_EVT_CNT_late_cnt p).freezeNow p else s

/-- A SLIP or HALT notice arrives (R190, R191, R192, R196). -/
def State.freezeNotice (s : State) (q : Nat) (kind : Nat) (w : BitVec 256) : Res :=
  let p := s.partOfPort q
  let n := noticeOf w
  if n.kind ≠ kind then notEnabled "another kind of notice (R190)"
  else if s.knows p n then .next s
  else
    let s := s.countSat F.SCH_SLIP_notices 1 p
    let seen (s : State) : State := s.updPart p fun x => { x with seen := (n.kind, n.origin, n.a, x.gtc) :: x.seen }
    if ! s.running p then .next (seen s)
    else match (s.part p).freeze with
      | none => .next ((s.forward p n).adopt p n false)
      | some f =>
        if f.frozen then .next (seen s)
        else if n.b < f.tf then .next ((s.forward p n).adopt p n false)
        else if n.b = f.tf ∧ n.origin < f.origin then
          .next (((seen s).updPart p fun x => { x with
            freeze := some { f with origin := n.origin, cause := n.code, td := n.a } }).latchSlip p n false)
        else .next (seen s)

/-- SLIP (R191). -/
def execSlip (q : Fin 32) (w : BitVec 256) (s : State) : Res := s.freezeNotice q kSlip w

/-- HALT_NOTICE (R191). -/
def execHaltNotice (q : Fin 32) (w : BitVec 256) (s : State) : Res := s.freezeNotice q kHalt w

/-- HALT_AT (R186): the master freezes the group at GTC g with kind HALT; it issues until g (DEDUCED, notes/assumptions/43.md). -/
def execHaltAt (p : Fin 2) (r : Fin 65) (s : State) : Res :=
  match s.fresh? p r 0x15 with
  | none => notEnabled "no HALT_AT is in progress there (R418)"
  | some o =>
    let q := s.part p
    let least := q.gtc + s.horizon p
    if ! s.isMaster p then .next (s.complete p o.src 0x11 0 0 0)
    else if o.arg0 < least then .next (s.complete p o.src 0x13 0 least 0)
    else
      let n : Notice := { origin := s.ownPix p, kind := kHalt, code := 0x80, a := q.gtc, b := o.arg0, orbit := q.orbit }
      let earlier : Bool := match q.freeze with
        | none => true
        | some f => !f.frozen && decide (o.arg0 < f.tf)
      let s := if s.running p && earlier then (s.forward p n).adopt p n true else s
      .next ((s.await p o).releaseSlot p o.src)

/-- SLIP_NOTICE_LAUNCH (R193): at t_d + 2 the originator launches its SLIP notice. -/
def execSlipNoticeLaunch (p : Fin 2) (s : State) : Res :=
  match (s.part p).freeze with
  | none => notEnabled "no freeze tick is held (R193)"
  | some f =>
    if ! f.isLocal || f.launched then notEnabled "this member has no notice to launch (R193)"
    else
      let s := s.updPart p fun q => { q with freeze := some { f with launched := true } }
      .next (s.flood p kSlip f.cause f.td f.tf (s.part p).orbit)

/-- FREEZE (R193): t_f comes. -/
def execFreeze (p : Fin 2) (s : State) : Res :=
  match (s.part p).freeze with
  | none => notEnabled "no freeze tick is held (R193)"
  | some f => guarded (s.running p && !f.frozen) "the member is frozen already (R193)" (s.freezeNow p)

/-- FREEZE_DRAIN_END (R193, R457, R475, R476): the member enters FAULTED when its own fault was the cause, otherwise HALTED;
open ARM, START, STOP and HALT_AT end. -/
def execFreezeDrainEnd (p : Fin 2) (s : State) : Res :=
  match (s.part p).freeze with
  | none => notEnabled "no freeze is under way (R193)"
  | some f =>
    if ! (s.running p && f.frozen) then notEnabled "the freeze tick has not come (R193)"
    else
      let s := (s.rebuildInflight p false).slipRecovery p f
      let s := s.enterEvent p (if (s.part p).ownFault then .faulted else .halted)
      let s := s.wr F.FLT_STS_replay_ready 1 p
      let slip := (s.reg .SCH_SLIP p).toNat
      let s := s.completeOp p 0x12 0x12 0 slip 0
      let s := s.completeOp p 0x13 0x12 0 slip 0
      let s := s.completeOp p 0x14 0x12 0 slip 0
      let halted := f.cause == 0x80 && f.origin == s.ownPix p
      .next (if halted then s.completeOp p 0x15 0 0 f.tf 0 else s.completeOp p 0x15 0x12 0 slip 0)

/-! ### Slots (R176, R339; 02 R63, R66) -/

/-- The slot entry of a port that covers slot f. -/
def State.slotOf (s : State) (q f : Nat) (recv : Bool) : Option LinkSlot :=
  match (s.part (s.partOfPort q)).image with
  | none => none
  | some img => img.slots.find? fun x => x.recv == recv && x.port == s.logicalOf q && decide (x.first ≤ f) && decide (f < x.first + x.count)

/-- Whether a queued scheduled frame goes out on a logical port. -/
def State.frameFor (s : State) (q : Nat) (f : VcFrame) : Bool :=
  if f.port = 255 then (match s.entryOf q with
    | some e => e.dir != 0 && e.nbrPix == f.dstPix
    | none => false)
  else f.port == s.logicalOf q

/-- SEND_SLOT (R176): a send slot launches the oldest scheduled frame its UNIT has queued for the port, or raises
FRAME_MISSING. A member that has stopped launches none (R193). -/
def execSendSlot (q : Fin 32) (f : Nat) (s : State) : Res :=
  let p := s.partOfPort q
  match s.slotOf q f false with
  | none => notEnabled "the port has no such send slot (R175)"
  | some x =>
    if ! s.running p then notEnabled "the scheduled plane does not run (R176)"
    else if s.schedStopped p then .next s
    else
      let mine (v : VcFrame) : Bool := v.unit == x.unit && s.frameFor q v
      match (s.part p).sendq.find? mine with
      | none => .next (s.slip p 0x04)
      | some v =>
        let i := (s.part p).sendq.findIdx mine
        let s := s.updPart p fun y => { y with sendq := removeAt y.sendq i }
        let s := s.updPort q fun t => { t with txFrames := t.txFrames + 1 }
        .next (s.emit (.frame q v.bits))

/-- A frame that is not there at its exit tick: a slip while RUNNING before the freeze (R66), an uncertain operation in the
drain (R193, R457 kind 3). What the frame held is not known here: its address is a free value. -/
def State.frameMissing (s : State) (p : Nat) (x : LinkSlot) : State :=
  let frozen : Bool := match (s.part p).freeze with
    | some f => f.frozen
    | none => false
  if ! s.running p then s
  else if ! frozen then s.slip p 0x04
  else
    let f := s.takeFree
    let e : InFlight := { kind := 3, unit := x.unit, pix := s.ownPix p, granules := 2, addr := Config.freeNat f.1 % 2 ^ 64,
                          issued := (s.part p).gtc - s.budgetOf (s.physOf p x.port), seq := 0 }
    f.2.updPart p fun q => { q with missed := q.missed ++ [e] }

/-- Land the granules of a scheduled frame in SRAM, the first at granule index `gidx` (R334, R179). -/
def State.landFrame (s : State) (p gidx : Nat) (gs : List (Gran × BitVec 16)) : State :=
  gs.zipIdx.foldl (fun a g =>
    let addr := sramBase + 64 * (gidx + g.2)
    match a.home p addr with
    | .sram x => (a.sramWrite x g.1.1 g.1.2).landed p addr
    | .hbm _ _ _ _ | .window _ | .nowhere => a) s

/-- ELASTIC_EXIT (R63, R66, R338, R339): at a receive slot's exit tick its frame leaves the elastic buffer and lands, is
queued by the forwarder, or enters a collective engine; one that fails the check of R338 counts as missing. -/
def execElasticExit (q : Fin 32) (f : Nat) (s : State) : Res :=
  let p := s.partOfPort q
  match s.slotOf q f true with
  | none => notEnabled "the port has no such receive slot (R175)"
  | some x =>
    match (s.port q).elastic.find? fun e => e.1 == f with
    | none => .next (s.frameMissing p x)
    | some (_, w) =>
      let s := s.updPort q fun t => { t with elastic := t.elastic.filter fun e => e.1 != f }
      let dst := frameF w 8 14
      let unit := frameF w 22 10
      let gidx := frameF w 32 25 + b2n (!w.toNat.testBit 5)
      let gs := frameGrans w
      if dst = s.ownPix p then
        if unit ≠ x.unit then .next (s.frameMissing p x)
        else if 100 ≤ unit ∧ unit < 104 then .next (s.collFrame p (unit - 100) gidx gs)
        else .next (s.landFrame p gidx gs)
      else if x.unit ≠ 104 + q / 8 then .next (s.frameMissing p x)
      else
        let v : VcFrame := { unit := x.unit, port := s.schedPort p dst, dstPix := dst, dstUnit := unit, gidx := gidx, data := gs,
                             owner := none }
        .next (s.updPart p fun y => { y with sendq := y.sendq ++ [v] })

/-! ### Landing buffers (R179) -/

/-- The landing buffer j of the loaded image. -/
def State.landing? (s : State) (p j : Nat) : Option Landing :=
  match (s.part p).image with
  | some img => img.landing[j]?
  | none => none

/-- LANDING_OPEN (R179). -/
def execLandingOpen (p : Fin 2) (j : Nat) (s : State) : Res :=
  match s.landing? p j with
  | none => notEnabled "the image has no such landing buffer (R178)"
  | some _ =>
    guarded (s.running p) "the scheduled plane does not run (R179)"
      ((s.wr F.LAND_STS_count 0 p j).updPart p fun q => { q with landOpen := j :: q.landOpen.filter (· != j) })

/-- LANDING_DEADLINE (R179). -/
def execLandingDeadline (p : Fin 2) (j : Nat) (s : State) : Res :=
  match s.landing? p j with
  | none => notEnabled "the image has no such landing buffer (R178)"
  | some x =>
    if ! (s.running p && (s.part p).landOpen.contains j) then notEnabled "the buffer is not open (R179)"
    else
      let met := decide (x.expected ≤ s.rd F.LAND_STS_count p j)
      let s := (s.wr F.LAND_STS_met (b2n met) p j).updPart p fun q => { q with landOpen := q.landOpen.filter (· != j) }
      .next (if met then s else s.slip p 0x07)

/-! ### Forecast (R197–R203) -/

/-- The host tile of an optical engine (R14, R300). -/
def hostTile (o : Nat) : Nat := if o = 0 then 0 else if o = 1 then 6 else if o = 2 then 9 else 15

/-- FORECAST_BIN (R199, R201): entry j takes effect: it drives the rings' feed-forward, and a tile whose forecast rises gets
0.1 mV of pre-bias per watt, up to 20 mV. Before any entry the forecast counts as 0 W (DEDUCED, notes/assumptions/42.md). -/
def execForecastBin (p : Fin 2) (j : Nat) (s : State) : Res :=
  let q := s.part p
  let live : Bool := match q.state with
    | .running => !(match q.freeze with | some f => f.frozen | none => false)
    | .armed => q.t0.isSome
    | .cold | .booting | .idle | .loaded | .halted | .faulted | .quarantined => false
  match q.image with
  | none => notEnabled "no image is loaded (R197)"
  | some img =>
    match img.forecast[j]? with
    | none => notEnabled "the image has no such forecast entry (R197)"
    | some e =>
      if ! (live && s.rdB F.SCH_CTL_fcast_en p) then notEnabled "the forecast is not applied (R199)"
      else
        let old := q.fcastNow.bind fun i => img.forecast[i]?
        let was (t : Nat) : Nat := match old with
          | some x => x.tileW.getD t 0
          | none => 0
        let s := s.updPart p fun q => { q with fcastNow := some j }
        let s := ((List.range 4).filter fun o => s.partOfOe o == p).foldl (fun a o =>
          a.updOe o fun x => { x with watts := e.tileW.getD (hostTile o) 0 + e.oeW.getD o 0 }) s
        let bias := ((List.range 16).filter fun t => s.partOfTile t == p).foldl (fun t k =>
          let rise := e.tileW.getD k 0 - was k
          if rise = 0 then t else tabSet natDefault t k (min rise 200)) s.preBias
        .next { s with preBias := bias }

/-- PRE_BIAS_END (R201): a tile's pre-bias has been removed. -/
def execPreBiasEnd (t : Fin 16) (s : State) : Res :=
  guarded (tabGet natDefault s.preBias t != 0) "the tile's regulator applies no pre-bias (R201)"
    { s with preBias := tabSet natDefault s.preBias t 0 }

/-- AGE_STS of a die (R491). With no sample since the last re-plan s_min reads its largest value (DESIGN CHOICE, notes/assumptions/44.md). -/
def State.ageSts (s : State) (d : Nat) : Nat :=
  let x := s.die d
  x.off % 32 + tabGet natDefault s.fuses.thr d % 64 * 2 ^ 8 + (x.sMin.getD 63) % 64 * 2 ^ 16 + x.slack % 64 * 2 ^ 24
    + b2n x.limit * 2 ^ 30 + x.drift % 2 ^ 16 * 2 ^ 32

/-- MARGIN_ALARM (R202, R486): a margin monitor stays below threshold for 4 ticks. A compute die's alarm is a slip while
RUNNING. -/
def execMarginAlarm (d : Fin 36) (s : State) : Res :=
  let p := s.partOfDie d
  let s := s.record p 7 4 d (die := d) (info0 := s.ageSts d)
  .next (if d.val < 16 then s.slipIfRunning p 0x0C else s)

/-- FCAST_DEV (R203): the measured energy of bin j differs from its forecast by more than 20 %. -/
def execFcastDev (p : Fin 2) (j : Nat) (s : State) : Res :=
  let ok : Bool := match (s.part p).image with
    | some img => decide (j < img.forecast.length)
    | none => false
  guarded (s.running p && ok) "no forecast bin is measured (R203)"
    ((s.flag F.SCH_EVT_fcast_dev F.SCH_EVT_CNT_fcast_cnt p).record p 6 1 0 (info0 := j))

end Sys2Proof.Machine
end

