-- ==== Sys2Proof/Machine/Links.lean ====
section
/-! DEFINITION. Links (09): training (R330–R332), frames received and launched (R333–R343), management messages (R337), and
identity (R353, R354). -/

namespace Sys2Proof.Machine

/-! ### Training -/

/-- Whether every lane ring of a fibre has ended its sweeps. -/
def State.ringsReady (s : State) (q : Nat) : Bool :=
  laneRings.all fun r =>
    let st := (s.ring (ringKey (q / 8) (q % 8) r.1 r.2)).state
    st == rgLocked || st == rgFailed

/-- The receive wavelengths that cannot carry a lane: those whose drop filter has FAILED, and after RESTORE those below
3.0 dB (R298, R316). -/
def State.badWaves (s : State) (q : Nat) : List Nat :=
  (List.range 16).filter fun n =>
    (s.ring (ringKey (q / 8) (q % 8) 1 n)).state == rgFailed || ((s.port q).restore && (s.port q).lowMargin n)

/-- The lane map training ends with (R290, R315, R316): a fifteen-lane map stays, unless RESTORE asks for more; one wavelength
that cannot carry goes to the moon when the moon can take it, otherwise it is left out. -/
def State.trainedLanes (s : State) (q : Nat) : State :=
  let t := s.port q
  let bad := s.badWaves q
  let e0 := s.rd F.OE_FIB_LANEMAP_excl0 0 (q / 8) (q % 8)
  let e1 := s.rd F.OE_FIB_LANEMAP_excl1 0 (q / 8) (q % 8)
  let moon := s.moonLane q
  let moonOk := s.moonAvail q || (moon != 0x1F && !t.lowMargin 16)
  if s.lanes q = 15 ∧ !t.restore ∧ (bad.all fun n => n == e0 || n == e1) then s
  else match bad with
    | [] => s.setLanes q moon 16 0x1F 0x1F
    | [n] =>
      if moon = n ∨ (moonOk ∧ moon = 0x1F) then (s.setLanes q n 16 0x1F 0x1F).setMoonAvail q false
      else
        let e := stripeExcl moon n
        (s.setLanes q 0x1F 15 e.1 e.2).setMoonAvail q false
    | n :: k :: more =>
      if more.isEmpty ∧ moonOk then (s.setLanes q 0x1F 15 n k).setMoonAvail q false
      else s.dropFibre q true

/-- ALIGN_DONE (R330, R312): word lock, deskew, frame lock and, after a full sweep, the moon test complete; the port enters
IDENT, sends its record and resends what its retry buffer holds (R331). -/
def execAlignDone (q : Fin 32) (moon : BitVec 8) (s : State) : Res :=
  let p := s.partOfPort q
  let k := ringKey (q / 8) (q % 8)
  guarded (s.portState q == ptTraining && !s.rdB F.PORT_STS_phase_ident 0 q && s.ringsReady q && !(s.part p).linksHeld)
    "the port's rings have not locked, or it does not align (R330)"
    (let s := s.updPort q fun t => { t with pir := [], frags := [], resend := t.retry, lit := true }
     let s := if (s.port q).fullTrain && s.moonLane q == 0x1F then
         let ok := decide (30 ≤ sext 8 moon.toNat) && (s.ring (k 1 16)).state != rgFailed && (s.ring (k 0 16)).state != rgFailed
         (s.setMoonAvail q ok).updPort q fun t => { t with txMoon := ok }
       else s
     let s := s.trainedLanes q
     if s.portState q ≠ ptTraining then s
     else
       let s := s.updPort q fun t => { t with restore := false }
       let s := s.setFibre q (if s.lanes q = 15 then fbLit15 else fbLit)
       let s := s.wr F.OE_FIB_STS_comet_ok (b2n ((s.ring (k 1 17)).state == rgLocked)) 0 (q / 8) (q % 8)
       ((s.wr F.PORT_STS_phase_ident 1 0 q).sendPir q).showWorst q)

/-- IDENT (R354): the record received in IDENT is checked and decides the port's state. -/
def execIdent (q : Fin 32) (s : State) : Res :=
  guarded (s.portState q == ptTraining && s.rdB F.PORT_STS_phase_ident 0 q && pirGood (s.port q).pir)
    "no valid record has arrived in IDENT (R354)" (s.identify q)

/-- PIR_RESEND (R353): the record is sent again, once a second or after a change of a field. -/
def execPirResend (q : Fin 32) (s : State) : Res := guarded (s.manages q) "the port sends no records (R353)" (s.sendPir q)

/-- PIR_TIMEOUT (R354): no valid record within 1 ms. -/
def execPirTimeout (q : Fin 32) (s : State) : Res :=
  guarded (s.portState q == ptTraining && s.rdB F.PORT_STS_phase_ident 0 q && !pirGood (s.port q).pir)
    "the port does not wait for a record (R354)" (s.portDown q)

/-- FRAME_ERROR_LIMIT (R331): 32 uncorrectable frames within 2^20. -/
def execFrameErrorLimit (q : Fin 32) (s : State) : Res :=
  let st := s.portState q
  guarded (decide (32 ≤ (s.port q).badAt.length) && (st == ptUp || st == ptUnplaced || st == ptMiswired))
    "fewer than 32 frames of 2^20 were uncorrectable (R331)"
    ((s.flag F.PORT_EVT_err_limit F.PORT_EVT_CNT_limit_cnt 0 q).retrainPort q 2 true)

/-- PORT_DOWN (R332): 1,024 consecutive frames have failed. -/
def execPortDown (q : Fin 32) (s : State) : Res :=
  let st := s.portState q
  guarded (decide (1024 ≤ (s.port q).badRun) && st != ptDark && st != ptDown) "1,024 frames in a row have not failed (R332)"
    (s.portDown q)

/-- DOWN_RELIGHT (R332): a lit port that is DOWN has received light for 1 s; a dropped fibre stays dropped (R317). -/
def execDownRelight (q : Fin 32) (s : State) : Res :=
  guarded (s.portState q == ptDown && (s.port q).lit && s.fibre q != fbDropped) "the port is not DOWN with its transmitter lit (R332)"
    (s.startTraining q false)

/-! ### Management messages (R337) -/

def State.mgmtArrives (s : State) (q op : Nat) (m : BitVec 128) (f : State → State) : Res :=
  if bits m.toNat 0 8 ≠ op then notEnabled "the message is another one (R337)" else .next (if s.manages q then f s else s)

/-- CREDIT_RETURN (R341). -/
def execCreditReturn (q : Fin 32) (m : BitVec 128) (s : State) : Res :=
  s.mgmtArrives q 0x11 m fun s =>
    (List.range 4).foldl (fun a c => a.updPort q fun t => { t with
      outCls := tabUpd natDefault t.outCls c fun x => x - bits m.toNat (8 + 12 * c) 12 }) s

/-- IDENTITY_FRAGMENT (R337, R354): a fragment; the record that a fifth completes is checked. -/
def execIdentityFragment (q : Fin 32) (m : BitVec 128) (s : State) : Res :=
  s.mgmtArrives q 0x12 m fun s =>
    let i := bits m.toNat 8 8
    if 5 ≤ i then s
    else
      let t := (s.port q)
      let fr := tabSet (fun _ => ([] : List Byte)) t.frags i (toLE 14 (m.toNat / 2 ^ 16))
      if (List.range 5).all fun j => (tabGet (fun _ => ([] : List Byte)) fr j).length == 14 then
        let b := ((List.range 5).flatMap fun j => tabGet (fun _ => ([] : List Byte)) fr j).take 64
        (s.updPort q fun t => { t with frags := [] }).takePir q b
      else s.updPort q fun t => { t with frags := fr }

/-- MARGIN_REPORT (R337): margins the far end measures, for the equaliser. -/
def execMarginReport (q : Fin 32) (m : BitVec 128) (s : State) : Res :=
  s.mgmtArrives q 0x13 m fun s =>
    let n := bits m.toNat 8 8
    (List.range 14).foldl (fun a i =>
      if n + i < 18 then a.updWave q (n + i) fun w => { w with far := sext 8 (bits m.toNat (16 + 8 * i) 8) } else a) s

/-- RETRAIN (R331, R337): the far side retrains the link. -/
def execRetrain (q : Fin 32) (m : BitVec 128) (s : State) : Res :=
  s.mgmtArrives q 0x14 m fun s => s.retrainPort q (bits m.toNat 8 8) false

/-! ### Frames received (R335–R343) -/

/-- The class of a free-plane frame: 2 × (vc − 1) + dateline class (R341). -/
def frameClass (w : BitVec 1152) : Nat := 2 * (frameF w 0 2 - 1) + frameF w 2 1

/-- A buffer of a class has been freed: a credit is owed (R341). -/
def State.oweCredit (s : State) (q c : Nat) : State :=
  s.updPort q fun t => { t with owed := tabUpd natDefault t.owed c (· + 1) }

/-- lack releases frames of the retry buffer (R340). -/
def Port.release (t : Port) (w : BitVec 1152) : Port :=
  if frameF w 32 1 = 1 then
    let l := frameF w 20 12
    if t.retry.any fun x => x.1 == l then
      { t with retry := (t.retry.dropWhile fun x => x.1 != l).drop 1, resend := t.resend.filter fun x =>
          ((t.retry.dropWhile fun y => y.1 != l).drop 1).any fun y => y.1 == x.1 }
    else t
  else t

/-- The axis of a direction code (R342, R167). -/
def dirAxis (d : Nat) : Nat := if 8 ≤ d then 0 else (d - 1) / 2

/-- The axis a physical port runs along (R342); a spare runs along that of the direction group of its neighbour (R327). -/
def State.axisOf (s : State) (q : Nat) : Nat :=
  match s.entryOf q with
  | none => 0
  | some e =>
    if e.dir ≠ 7 then dirAxis e.dir
    else match ((List.range 32).filterMap fun lp => s.portEntry (s.partOfPort q) lp).find? fun y =>
        y.dir != 0 && y.dir != 7 && y.nbrPix == e.nbrPix with
      | some y => dirAxis y.dir
      | none => 0

/-- A response of this package to a request, from one of its UNITs (R356, R357). The responder's EID stands in src_eid
(DEDUCED, notes/assumptions/60.md). -/
def State.respond (s : State) (p unit : Nat) (req : Packet) (op : Nat) (f : Packet → Packet) : State :=
  let k := f { emptyPacket with
    op := op, srcEid := s.eid p unit, addr := req.addr, seq := req.seq, tag := req.tag, srcSession := (s.part p).session,
    dstSession := req.srcSession, launch := (s.part p).gtc % 2 ^ 32 }
  let k := { k with granules := k.data.length }
  (s.queuePacket p req.srcEid (s.ownPix p) k).emit (.packet p (req.srcEid / 1024) k)

/-- A NAK (R356): cause 1 STALE, 2 UNREACHABLE, 3 ADDR, 4 DATA; opv carries the present session. -/
def State.nak (s : State) (p unit : Nat) (req : Packet) (cause : Nat) : State :=
  s.respond p unit req 0x08 fun k => { k with aux := cause, opv := (s.part p).session }

/-- Where the frames of a packet go: 0 into the package, 1 nowhere, 2 + 2 × port + class to a port. -/
def State.headWay (s : State) (q : Nat) (w : BitVec 1152) : Nat × State :=
  let p := s.partOfPort q
  let pix := frameF w 33 24 / 1024
  if s.portState q = ptUnplaced ∨ pix = s.ownPix p then (0, s)
  else
    let k := packetOf (BitVec.ofNat 512 (frameF w 128 512)) []
    match s.routePort p pix (k.srcEid / 1024) k.addr with
    | some (lp, cross) =>
      let x := s.physOf p lp
      let same := s.axisOf q == s.axisOf x
      (2 + 2 * x + (if same && frameF w 2 1 == 1 then 1 else b2n cross), s)
    | none =>
      let s := s.unreachable p
      (1, if frameF w 0 2 = 1 then s.nak p 255 k 2 else s)

/-- A sequenced frame accepted (R340–R342): it goes on, or enters the package. A forwarded frame frees its buffer when it
launches. -/
def State.acceptFree (s : State) (q : Nat) (w : BitVec 1152) : State :=
  let c := frameClass w
  let kind := frameF w 3 2
  let h := if kind = 0 ∨ kind = 3 then s.headWay q w else (tabGet natDefault (s.port q).fwd c, s)
  let s := h.2.updPort q fun t => { t with fwd := tabSet natDefault t.fwd c (if kind = 0 ∨ kind = 1 then h.1 else 0) }
  if h.1 = 0 then (s.emit (.freeFrame q w)).oweCredit q c
  else if h.1 = 1 then s.oweCredit q c
  else
    let x := (h.1 - 2) / 2
    let w' := BitVec.ofNat 1152 (putBits w.toNat 2 1 ((h.1 - 2) % 2))
    s.updPort x fun t => { t with freeq := t.freeq ++ [{ bits := w', src := some (4 * q + c) }] }

/-- Ask the far side for a replay from the first missing lseq (R340). -/
def State.askReplay (s : State) (q : Nat) : State :=
  let s := s.updPort q fun t => { t with awaitReplay := true }
  s.emit (.linkReplay q (s.port q).lexp)

/-- A sound frame, by its VC (R334, R338, R340). -/
def State.takeFrame (s : State) (q f : Nat) (w : BitVec 1152) : State :=
  let st := s.portState q
  let vc := frameF w 0 2
  if vc = 0 then
    if st ≠ ptUp then s
    else if 256 ≤ (s.port q).elastic.length then s.slipIfRunning (s.partOfPort q) 0x05
    else s.updPort q fun t => { t with elastic := t.elastic ++ [(f, w)] }
  else
    let s := s.updPort q fun t => t.release w
    if vc = 3 then
      (List.range 8).foldl (fun a i =>
        let m := frameF w (128 + 128 * i) 128
        if m % 256 = 0 then a else a.emit (.message q (BitVec.ofNat 128 m))) s
    else if st ≠ ptUp ∧ st ≠ ptUnplaced then s
    else if frameF w 8 12 ≠ (s.port q).lexp then s.askReplay q
    else
      let s := s.updPort q fun t => { t with lexp := (t.lexp + 1) % 4096, lackVld := true, awaitReplay := false }
      s.acceptFree q w

/-- FRAME (R335): a frame arrives whole: its check, a single-bit correction, the error counts of R331 and R332, and its place by
VC. `f` is the frame slot it was launched in: an uncorrectable frame of a listed slot is one of VC0, which leaves its receive
slot empty and is not replayed. -/
def execFrame (q : Fin 32) (f : Nat) (w : BitVec 1152) (s : State) : Res :=
  if ! s.manages q then .next s
  else
    let s := s.updPort q fun t => { t with
      rxFrames := t.rxFrames + 1, badAt := t.badAt.filter fun x => decide (t.rxFrames + 1 < x + 2 ^ 20) }
    match checkFrame w with
    | none =>
      let s := s.count F.PORT_ERR_CNT_uncorrectable 1 0 q
      let s := s.updPort q fun t => { t with badRun := t.badRun + 1, badAt := t.rxFrames :: t.badAt }
      .next (if s.running (s.partOfPort q) && (s.slotOf q f true).isSome then s else s.askReplay q)
    | some (w', fixed) =>
      let s := if fixed then s.count F.PORT_ERR_CNT_corrected 1 0 q else s
      let s := s.updPort q fun t => { t with badRun := 0 }
      .next (s.takeFrame q f w')

/-- LINK_REPLAY_REQUEST (R340): the sender resends its VC1 and VC2 frames from an lseq in their order. -/
def execLinkReplayRequest (q : Fin 32) (first : BitVec 12) (s : State) : Res :=
  .next (if s.manages q then
    s.updPort q fun t => { t with resend := t.retry.dropWhile fun x => x.1 != first.toNat }
  else s)

/-! ### Frames launched (R336, R341) -/

/-- Whether a class has a credit: a reserved one, or a shared one (R341). -/
def Port.credit (t : Port) (c : Nat) : Bool :=
  let out (i : Nat) : Nat := tabGet natDefault t.outCls i
  decide (out c < 64) || decide ((List.range 4).foldl (fun a i => a + (out i - 64)) 0 < 1280)

/-- The credit-return message of what is owed, at most 4,095 of a class (R337). -/
def Port.creditMessage (t : Port) : Nat :=
  (List.range 4).foldl (fun a c => a + min (tabGet natDefault t.owed c) 4095 * 2 ^ (8 + 12 * c)) 0x11

/-- The first queued frame whose class has a credit (R341). -/
def Port.nextFree (t : Port) : Option Nat :=
  let i := t.freeq.findIdx fun x => t.credit (frameClass x.bits)
  if i < t.freeq.length then some i else none

/-- FREE_FRAME_LAUNCH (R336, R340, R341): a slot that no send entry lists carries a management frame in slots f mod 32 = 31, and
otherwise a replayed frame, a free-plane frame with a credit, or an idle frame. -/
def execFreeFrameLaunch (q : Fin 32) (f : Nat) (s : State) : Res :=
  let t := s.port q
  if ! s.manages q then notEnabled "the link is not up (R336)"
  else if s.running (s.partOfPort q) && (s.slotOf q f false).isSome then notEnabled "the slot is listed in a send table (R336)"
  else
    let s := s.updPort q fun t => { t with txFrames := t.txFrames + 1 }
    if f % 32 = 31 then
      let ms := BitVec.ofNat 128 t.creditMessage :: t.mgmt.take 7
      let s := s.updPort q fun t => { t with
        mgmt := t.mgmt.drop 7
        owed := (List.range 4).foldl (fun o c => tabUpd natDefault o c fun x => x - min x 4095) t.owed }
      .next (s.emit (.frame q (t.mgmtFrame ms)))
    else if s.portState q ≠ ptUp ∧ s.portState q ≠ ptUnplaced then .next (s.emit (.frame q (t.mgmtFrame [])))
    else match t.resend with
      | x :: rest =>
        let w := sealFrame (putBits x.2.toNat 20 13 (t.lackBits / 2 ^ 20))
        .next ((s.updPort q fun t => { t with resend := rest }).emit (.frame q w))
      | [] =>
        match t.nextFree, t.freeq[t.nextFree.getD 0]? with
        | some i, some x =>
          if 2048 ≤ t.retry.length then .next (s.emit (.frame q (t.mgmtFrame [])))
          else
            let w := sealFrame (putBits (putBits x.bits.toNat 8 12 t.lseq) 20 13 (t.lackBits / 2 ^ 20))
            let s := s.updPort q fun t => { t with
              freeq := removeAt t.freeq i, retry := t.retry ++ [(t.lseq, w)], lseq := (t.lseq + 1) % 4096
              outCls := tabUpd natDefault t.outCls (frameClass x.bits) (· + 1) }
            let s := match x.src with
              | some z => s.oweCredit (z / 4) (z % 4)
              | none => s
            .next (s.emit (.frame q w))
        | _, _ => .next (s.emit (.frame q (t.mgmtFrame [])))

end Sys2Proof.Machine
end

