-- ==== Sys2Proof/Machine/Net.lean ====
section
/-! DEFINITION. Requests between packages (09 R356–R362) and multicast (R349–R352), as packets arrive whole at the partition:
`dst` is the destination EID of their head frame, `h` the 64-byte header and `data` the granules with their checks. -/

namespace Sys2Proof.Machine

/-! ### Admission (R358, R359) -/

/-- A millisecond in ticks (R46). -/
def State.msTicks (s : State) : Nat := if s.slow then 1800000 else 2250000

/-- Whether a request is older than 1 ms, on an aligned member (R358). -/
def State.stalePacket (s : State) (p : Nat) (k : Packet) : Bool :=
  let age := (((s.part p).gtc % 2 ^ 32) + 2 ^ 32 - k.launch % 2 ^ 32) % 2 ^ 32
  s.rdB F.GTC_ALIGN_STS_aligned p && decide (s.msTicks < age) && decide (age < 2 ^ 31)

/-- What becomes of an arriving request (R358). -/
inductive Admit where
  | drop
  | nakStale
  | accept
deriving DecidableEq, Repr

/-- The session checks of R358, in their order. `fresh` says that the request starts a new state for its source: it has sync
set, names this session or none, and comes from a session other than the one held (DEDUCED, notes/assumptions/61.md). -/
def State.vet (s : State) (p : Nat) (k : Packet) : Admit × Bool :=
  let i := s.e2eIn p (k.srcEid / 1024)
  let own := (s.part p).session
  let sync := k.flags.testBit 0
  if k.dstSession ≠ 0 ∧ k.dstSession ≠ own then (.nakStale, false)
  else if i.session ≠ k.srcSession ∧ !sync then (.drop, false)
  else if s.stalePacket p k then (.drop, false)
  else (.accept, sync && i.session != k.srcSession)

/-- The guards every packet row shares: the header's op is the row's, and the packet is addressed to this package. -/
def State.packetRow (s : State) (p : Nat) (op : Nat) (dst : BitVec 24) (h : BitVec 512) (data : List (Gran × BitVec 16))
    (f : Packet → State) : Res :=
  let k := packetOf h data
  if k.op ≠ op then notEnabled "the packet is another one (R356)"
  else if s.portsOf p = [] ∨ (dst.toNat / 1024 ≠ s.ownPix p) then notEnabled "the packet is addressed to another package (R342)"
  else .next (f k)

/-! ### Performing requests at their homes (R356, R359, R360) -/

/-- What came of a request at its home: performed, with an atomic's old value, or answered with a NAK (3 ADDR, 4 DATA). -/
inductive Done where
  | ok (old : Nat)
  | nak (cause : Nat)
deriving DecidableEq, Repr

/-- The local address a packet names (R247). -/
def Packet.local (k : Packet) : Nat := bits k.addr 0 41

/-- Write the granules of a packet from a local address on (R212): none where the map holds no memory. -/
def State.putGrans (s : State) (p addr : Nat) : List (Gran × BitVec 16) → Option State
  | [] => some s
  | g :: rest => match s.writeGran p addr g.1 g.2 with
    | none => none
    | some s => s.putGrans p (addr + 64) rest

/-- Whether n granules from an address are memory of the partition. -/
def State.allMemory (s : State) (p addr n : Nat) : Bool :=
  (List.range (max n 1)).all fun i => match s.home p (addr + 64 * i) with
    | .sram _ => true
    | .hbm _ _ _ _ => true
    | .window _ => false
    | .nowhere => false

/-- Perform a STORE (R212, R213). -/
def State.doStore (s : State) (p : Nat) (k : Packet) : State × Done :=
  let a := k.local
  if ! s.allMemory p a k.data.length then (s, .nak 3)
  else if k.bytes = 0 then
    if a % 64 ≠ 0 then (s, .nak 3)
    else match s.putGrans p a k.data with
      | some t => (t, .ok 0)
      | none => (s, .nak 3)
  else if a % k.bytes ≠ 0 then (s, .nak 3)
  else
    let g := (k.data.headD (0, 0)).1
    match s.narrowWrite p a (granBytes g 0 k.bytes) with
    | some (t, true) => (t, .ok 0)
    | some (t, false) => (t, .nak 4)
    | none => (s, .nak 3)

/-- Perform an ATOMIC (R229, R230, R232). -/
def State.doAtomic (s : State) (p : Nat) (k : Packet) : State × Done :=
  let a := k.local
  let w8 := k.aop.testBit 2
  if a % (if w8 then 8 else 4) ≠ 0 ∨ ! s.allMemory p a 1 then (s, .nak 3)
  else match s.atomic p a (k.aop % 4) w8 k.opv k.opc with
    | some (t, some old) => (t, .ok old)
    | some (t, none) => (t, .nak 4)
    | none => (s, .nak 3)

/-- Perform a SEMSIG (R118): the core is the UNIT of the EID in addr (DEDUCED, notes/assumptions/66.md). -/
def State.doSemsig (s : State) (p : Nat) (k : Packet) : State × Done :=
  let n := k.addr % 1024
  if 64 ≤ n ∨ s.partOfCore n ≠ p then (s, .nak 3) else (s.signal n (bits k.opv 0 6) (bits k.opv 6 16), .ok 0)

/-- Perform a sequenced request. -/
def State.perform (s : State) (p : Nat) (k : Packet) : State × Done :=
  if k.op = 2 then s.doStore p k else if k.op = 3 then s.doAtomic p k else s.doSemsig p k

/-- Perform a request, answer it, and count it as performed (R359, R360). -/
def State.performSeq (s : State) (p src : Nat) (k : Packet) : State :=
  let unit := s.unitOf p { k with addr := k.local }
  let r := s.perform p k
  let s := r.1.updE2eIn p src fun i => { i with performed := k.seq, window := i.window.filter fun x => x.seq != k.seq }
  match r.2 with
  | .nak c => s.nak p unit k c
  | .ok old =>
    if k.op = 3 then
      (s.updE2eIn p src fun i => { i with atomics := ((k.seq, old) :: i.atomics).take 256 }).respond p unit k 0x06 fun x =>
        { x with opv := old }
    else s

/-- Perform what the window holds in ascending order (R359). -/
def State.drainWindow (s : State) (p src : Nat) : Nat → State
  | 0 => s
  | n + 1 =>
    let i := s.e2eIn p src
    match i.window.find? fun k => k.seq == i.performed + 1 with
    | none => s
    | some k => (s.performSeq p src k).drainWindow p src n

/-- A cumulative ACK of the present value to a source (R359). Its endpoints' UNITs are DESIGN CHOICE, notes/assumptions/65.md. -/
def State.sendAck (s : State) (p src : Nat) : State :=
  let i := s.e2eIn p src
  let req : Packet := { emptyPacket with srcEid := src * 1024 + 255, seq := i.performed, srcSession := i.session }
  (s.respond p 255 req 0x07 id).updE2eIn p src fun i => { i with ackSent := i.performed }

/-- The answer to a duplicate ATOMIC, or one with response only set (R360). -/
def State.repeatAtomic (s : State) (p src : Nat) (k : Packet) : State :=
  let unit := s.unitOf p { k with addr := k.local }
  match (s.e2eIn p src).atomics.find? fun x => x.1 == k.seq with
  | some (_, old) => s.respond p unit k 0x06 fun x => { x with opv := old }
  | none => s.nak p unit k 4

/-- A sequenced request arrives (R358, R359): refused by its session, a duplicate, beyond the window, or held and performed in
order. -/
def State.takeSeq (s : State) (p : Nat) (k : Packet) : State :=
  let src := k.srcEid / 1024
  match s.vet p k with
  | (.nakStale, _) => s.nak p 255 k 1
  | (.drop, _) => s
  | (.accept, fresh) =>
    let s := if fresh then
        s.updE2eIn p src fun _ => { session := k.srcSession, performed := k.seq - 1, ackSent := k.seq - 1 }
      else s
    let i := s.e2eIn p src
    if k.op = 3 ∧ k.flags.testBit 2 then s.repeatAtomic p src k
    else if k.seq ≤ i.performed then
      let s := if k.op = 3 then s.repeatAtomic p src k else s
      s.sendAck p src
    else if i.performed + 256 < k.seq then s
    else
      let s := s.updE2eIn p src fun i => if i.window.any fun x => x.seq == k.seq then i else { i with window := i.window ++ [k] }
      s.drainWindow p src 257

/-- STORE (R359). -/
def execStore (p : Fin 2) (dst : BitVec 24) (h : BitVec 512) (data : List (BitVec 512 × BitVec 16)) (s : State) : Res :=
  s.packetRow p 0x02 dst h data fun k => s.takeSeq p k

/-- ATOMIC (R360). -/
def execAtomic (p : Fin 2) (dst : BitVec 24) (h : BitVec 512) (s : State) : Res :=
  s.packetRow p 0x03 dst h [] fun k => s.takeSeq p k

/-- SEMSIG_PACKET (R356, R118). -/
def execSemsigPacket (p : Fin 2) (dst : BitVec 24) (h : BitVec 512) (s : State) : Res :=
  s.packetRow p 0x04 dst h [] fun k => s.takeSeq p k

/-- The granules of a LOAD, each with the check it carries; none where the map holds no memory. -/
def State.loadGrans (s : State) (p addr : Nat) : Nat → State × Option (List (Gran × BitVec 16))
  | 0 => (s, some [])
  | n + 1 =>
    match s.readGran p addr with
    | none => (s, none)
    | some (s, d) =>
      let r := s.loadGrans p (addr + 64) n
      (r.1, r.2.map fun l => (d.data, d.check) :: l)

/-- LOAD (R356, R211, R212): performed at its home and answered with LOAD_RSP. A narrow load answers with its bytes in the low
end of one granule (DESIGN CHOICE, notes/assumptions/25.md). -/
def execLoad (p : Fin 2) (dst : BitVec 24) (h : BitVec 512) (s : State) : Res :=
  s.packetRow p 0x01 dst h [] fun k =>
    match s.vet p k with
    | (.nakStale, _) => s.nak p 255 k 1
    | (.drop, _) => s
    | (.accept, _) =>
      let a := k.local
      let unit := s.unitOf p { k with addr := a }
      if k.bytes = 0 then
        if a % 64 ≠ 0 ∨ ! s.allMemory p a k.granules then s.nak p unit k 3
        else
          let r := s.loadGrans p a k.granules
          match r.2 with
          | some l => r.1.respond p unit k 0x05 fun x => { x with data := l }
          | none => s.nak p unit k 3
      else if a % k.bytes ≠ 0 ∨ ! s.allMemory p a 1 then s.nak p unit k 3
      else match s.narrowRead p a k.bytes with
        | some (t, some v) =>
          let g : Gran := BitVec.ofNat 512 v
          t.respond p unit k 0x05 fun x => { x with bytes := k.bytes, data := [(g, granCheck g)] }
        | some (t, none) => t.nak p unit k 4
        | none => s.nak p unit k 3

/-! ### Responses (R357, R361, R362) -/

/-- The request that waits under a tag (R357). -/
def State.waiting (s : State) (p tag op : Nat) : Option Await :=
  (s.part p).awaits.find? fun a => a.tag == tag && a.packet.op == op && decide (a.pix < 1024)

/-- Drop one awaited answer. -/
def State.unawait (s : State) (p : Nat) (a : Await) : State :=
  s.updPart p fun q => { q with awaits := removeAt q.awaits (q.awaits.findIdx (· == a)) }

/-- The destination's session becomes known from what it sends (R357). -/
def State.learn (s : State) (p : Nat) (k : Packet) : State :=
  s.updE2eOut p (k.srcEid / 1024) fun o => { o with session := k.srcSession }

/-- A response whose destination session is not this boot session belongs to requests of an earlier one. -/
def State.forUs (s : State) (p : Nat) (k : Packet) : Bool := k.dstSession == (s.part p).session

/-- A granule that answers a read reaches its waiter: the DMX verifies it as it reads (R146, R463), a thread its bytes (R156). -/
def State.deliverRead (s : State) (p : Nat) (a : Await) (g : Option (Gran × BitVec 16)) (v : Nat) : State :=
  match a.who with
  | .transfer n id i =>
    match g with
    | none => s.transferData n p id i none
    | some d =>
      if d.2 = granCheck d.1 then s.transferData n p id i (some d)
      else
        let sched := match (s.core n).transfer? id with
          | some t => t.plane == .sched
          | none => false
        (s.dmxCheck n p sched (d.2 == ~~~ granCheck d.1) false).transferData n p id i none
  | .thread x l t =>
    match g with
    | none => s.answerThread x l t (.failed .addrRange)
    | some d =>
      if d.2 = granCheck d.1 then s.answerThread x l t (.value v) else s.answerThread x l t (.failed .dataCheck)
  | .none => s

/-- LOAD_RSP (R357): matched to its request by its tag, or discarded. -/
def execLoadRsp (p : Fin 2) (dst : BitVec 24) (h : BitVec 512) (data : List (BitVec 512 × BitVec 16)) (s : State) : Res :=
  s.packetRow p 0x05 dst h data fun k =>
    if ! s.forUs p k then s
    else
      let s := s.learn p k
      match s.waiting p k.tag 1 with
      | none => s
      | some a =>
        let g := k.data.head?
        (s.unawait p a).deliverRead p a g (bits ((g.map fun x => x.1.toNat).getD 0) 0 (8 * max a.packet.bytes 8))

/-- ATOMIC_RSP (R356, R231): the old value returns to the requester. -/
def execAtomicRsp (p : Fin 2) (dst : BitVec 24) (h : BitVec 512) (s : State) : Res :=
  s.packetRow p 0x06 dst h [] fun k =>
    if ! s.forUs p k then s
    else
      let s := s.learn p k
      match s.waiting p k.tag 3 with
      | none => s
      | some a =>
        match a.who with
        | .thread x l t => (s.unawait p a).answerThread x l t (.value k.opv)
        | .transfer _ _ _ => s.unawait p a
        | .none => s.unawait p a

/-- A destination acknowledges sequence numbers up to v: requests are released, stores that waited for it complete (R222,
R361). -/
def State.acked (s : State) (p key v : Nat) : State :=
  let v := min v (s.e2eOut p key).issued
  let s := s.updE2eOut p key fun o => { o with acked := max o.acked v, unacked := o.unacked.filter fun k => decide (v < k.seq) }
  let mine (a : Await) : Bool :=
    a.pix == key && (a.packet.op == 2 || a.packet.op == 4) && decide (0 < a.packet.seq ∧ a.packet.seq ≤ v)
  let l := (s.part p).awaits.filter mine
  let s := s.updPart p fun q => { q with awaits := q.awaits.filter fun a => !mine a }
  l.foldl (fun b a => match a.who with
    | .thread x l t => b.answerThread x l t (.value 0)
    | .transfer _ _ _ => b
    | .none => b) s

/-- ACK (R222, R361): a cumulative acknowledgement. -/
def execAck (p : Fin 2) (dst : BitVec 24) (h : BitVec 512) (s : State) : Res :=
  s.packetRow p 0x07 dst h [] fun k => if ! s.forUs p k then s else (s.learn p k).acked p (k.srcEid / 1024) k.seq

/-- ACK_SEND (R359): the performed value has advanced since the last ACK. -/
def execAckSend (p : Fin 2) (pix : Nat) (s : State) : Res :=
  let i := s.e2eIn p pix
  guarded (decide (i.ackSent < i.performed)) "nothing new has been performed for the source (R359)" (s.sendAck p pix)

/-- Every unacknowledged request to a destination is lost: its state is unknown, and fences that wait on it end by R225
(R362, R366). -/
def State.loseRequests (s : State) (p key : Nat) : State :=
  let s := s.updE2eOut p key fun o => { o with lost := o.lost ++ o.unacked, unacked := [], sync := true }
  let mark (st : Stream) : Stream := match st.status with
    | .waitFence f =>
      if f.targets.any fun t => t.1 == key && decide ((s.e2eOut p key).acked < t.2) then
        { st with status := .waitFence { f with lost := true } }
      else st
    | .idle | .running | .waitSem _ _ | .passDone | .faulted => st
  (s.coresOf p).foldl (fun a n => a.updCore n fun c => { c with
    scu := mark c.scu, mxe := mark c.mxe, vxe := mark c.vxe, dmx := mark c.dmx }) s

/-- NAK (R362, R348, R359): STALE makes the unacknowledged requests lost; the others end the requester. -/
def execNak (p : Fin 2) (dst : BitVec 24) (h : BitVec 512) (s : State) : Res :=
  s.packetRow p 0x08 dst h [] fun k =>
    let pix := k.srcEid / 1024
    let cause := bits k.aux 0 8
    if ! s.forUs p k then s
    else if cause = 1 then
      let s := (s.loseRequests p pix).updE2eOut p pix fun o => { o with session := k.opv % 2 ^ 32 }
      let s := s.flag F.NET_EVT_stale F.NET_EVT_CNT1_stale_cnt p
      s.record p 4 9 pix
    else
      match (s.part p).awaits.find? fun a => a.tag == k.tag && a.packet.seq == k.seq && decide (a.pix < 1024) with
      | none => s
      | some a =>
        let s := s.unawait p a
        match a.who with
        | .transfer n id i => s.transferData n p id i none
        | .thread x l t => s.answerThread x l t (.failed (if cause = 4 then .dataCheck else .addrRange))
        | .none => s

/-! ### Retransmission (R357, R361) -/

/-- Launch a request again, with retransmission set and a new launch (R361). -/
def State.relaunch (s : State) (p pix : Nat) (k : Packet) (extra : Nat) : State :=
  let k := { k with flags := k.flags ||| 2 ||| extra, launch := (s.part p).gtc % 2 ^ 32 }
  s.launchPacket p pix k

/-- E2E_RETRANSMIT (R361, R352, R360): the unacknowledged requests to a destination go again in ascending order; so do loads not
answered, acknowledged atomics whose response is missing (response only), and multicasts it has not acknowledged. -/
def execE2eRetransmit (p : Fin 2) (pix : Nat) (s : State) : Res :=
  let o := s.e2eOut p pix
  let mine := (s.part p).awaits.filter fun a => a.pix == pix
  let loads := mine.filter fun a => a.packet.op == 1
  let atoms := mine.filter fun a => a.packet.op == 3 && decide (a.packet.seq ≤ o.acked)
  let mcs := ((s.part p).mcOut.filter fun m => m.2.contains pix).map (·.1)
  guarded (decide (pix < 1024) && !(o.unacked.isEmpty && loads.isEmpty && atoms.isEmpty && mcs.isEmpty))
    "nothing toward the package is unanswered (R361)"
    (let s := s.flag F.NET_EVT_retx F.NET_EVT_CNT1_retx_cnt p
     let s := o.unacked.foldl (fun a k => a.relaunch p pix k 0) s
     let s := loads.foldl (fun a w => a.relaunch p pix { s.stamp p pix w.packet with tag := w.tag } 0) s
     let s := atoms.foldl (fun a w => a.relaunch p pix { s.stamp p pix w.packet with tag := w.tag } 4) s
     mcs.foldl (fun a k => a.relaunch p pix k 0) s)

/-! ### Multicast (R349–R352) -/

/-- Write a multicast's granules once per (source, tag) and acknowledge (R349, R352). -/
def State.mcWrite (s : State) (p : Nat) (k : Packet) : State :=
  let src := k.srcEid / 1024
  let a := k.local
  let unit := s.unitOf p { k with addr := a }
  if (s.e2eIn p src).mcTags.contains k.tag then s.respond p unit k 0x0B id
  else if a % 64 ≠ 0 ∨ ! s.allMemory p a k.data.length then s.nak p unit k 3
  else match s.putGrans p a k.data with
    | none => s.nak p unit k 3
    | some t =>
      (t.updE2eIn p src fun i => { i with mcTags := (k.tag :: i.mcTags).take 256 }).respond p unit k 0x0B id

/-- Pass a multicast on to a neighbour. -/
def State.mcPass (s : State) (p nbr : Nat) (k : Packet) : State :=
  (s.queuePacket p (nbr * 1024 + s.unitOf p { k with addr := k.local }) (k.srcEid / 1024) k).emit (.packet p nbr k)

/-- The neighbour in a direction (R167). -/
def State.neighbour (s : State) (p dir : Nat) : Option Nat :=
  (((List.range 32).filterMap fun lp => s.portEntry p lp).find? fun e => e.dir == dir).map (·.nbrPix)

/-- MC_AXIS (R349): written here, acknowledged, and passed on while hops are left. A repeated one is not written again and goes
on (DEDUCED, notes/assumptions/62.md). -/
def execMcAxis (p : Fin 2) (dst : BitVec 24) (h : BitVec 512) (data : List (BitVec 512 × BitVec 16)) (s : State) : Res :=
  s.packetRow p 0x09 dst h data fun k =>
    let dir := bits k.opc 0 4
    let count := bits k.opc 4 10
    let s := s.mcWrite p k
    if count ≤ 1 then s
    else match s.neighbour p dir with
      | none => s
      | some nbr => s.mcPass p nbr { k with opc := dir + (count - 1) * 2 ^ 4 }

/-- The sizes of a mask's sub-block by topology (R350): none where the spec gives no sub-block. -/
def maskDims (topology : Nat) : Option (List Nat) :=
  if topology = 3 then some [4, 4, 4] else if topology = 2 then some [8, 8, 1] else if topology ≤ 1 then some [64, 1, 1] else none

/-- The bit of a place in the sub-block (R350). -/
def maskBit (d : List Nat) (x y z : Nat) : Nat := x + d.getD 0 1 * y + d.getD 0 1 * d.getD 1 1 * z

/-- Replicate a mask multicast: along X from the base, then along Y, then along Z, toward every marked package beyond
(DEDUCED, notes/assumptions/64.md). -/
def State.mcReplicate (s : State) (p : Nat) (pl : Placement) (own base : Member) (d : List Nat) (k : Packet) : State :=
  let at_ (a : Nat) : Nat := (own.coord a + pl.dim a - base.coord a % max (pl.dim a) 1) % max (pl.dim a) 1
  let lim (a : Nat) : Nat := min (d.getD a 1) (max (pl.dim a) 1)
  let places := [at_ 0, at_ 1, at_ 2]
  let inside := (List.range 3).all fun a => decide (at_ a < d.getD a 1)
  if ! inside then s
  else
    let s := if k.aux.testBit (maskBit d (at_ 0) (at_ 1) (at_ 2)) then s.mcWrite p k else s
    (List.range 3).foldl (fun s a =>
      -- this package passes along axis a only where the later axes are still at the base
      let starts := (List.range 3).all fun b => decide (b ≤ a) || places.getD b 0 == 0
      let next := at_ a + 1
      let marked := (List.range 64).any fun bit =>
        let x := bit % d.getD 0 1
        let y := bit / d.getD 0 1 % d.getD 1 1
        let z := bit / (d.getD 0 1 * d.getD 1 1)
        let c := [x, y, z]
        k.aux.testBit bit && decide (next ≤ c.getD a 0) && (List.range a).all fun b => c.getD b 0 == places.getD b 0
      if starts && marked && decide (next < lim a) then
        match s.neighbour p (axisDirs pl a).1 with
        | some nbr => s.mcPass p nbr k
        | none => s
      else s) s

/-- MC_MASK (R350, R351): replicated and written where marked. A member ARMED or RUNNING discards it. With no placement, or on a
topology with no sub-block, no place can be told and it is discarded (DESIGN CHOICE, notes/assumptions/63.md). -/
def execMcMask (p : Fin 2) (dst : BitVec 24) (h : BitVec 512) (data : List (BitVec 512 × BitVec 16)) (s : State) : Res :=
  s.packetRow p 0x0A dst h data fun k =>
    match (s.part p).state with
    | .armed | .running => s.flag F.NET_EVT_mcast_discard F.NET_EVT_CNT1_mcast_cnt p
    | .cold | .quarantined => s
    | .booting | .idle | .loaded | .halted | .faulted =>
      match (s.part p).placement with
      | none => s
      | some pl => match pl.self, pl.member (bits k.opc 0 14), maskDims pl.topology with
        | some own, some base, some d => s.mcReplicate p pl own base d k
        | _, _, _ => s

/-- MC_ACK (R352): a package has written a multicast of this source. -/
def execMcAck (p : Fin 2) (dst : BitVec 24) (h : BitVec 512) (s : State) : Res :=
  s.packetRow p 0x0B dst h [] fun k =>
    let pix := k.srcEid / 1024
    let left (m : Packet × List Nat) : Packet × List Nat := if m.1.tag = k.tag then (m.1, m.2.filter (· != pix)) else m
    s.updPart p fun q => { q with mcOut := (q.mcOut.map left).filter fun m => !m.2.isEmpty }

end Sys2Proof.Machine
end

