-- ==== Sys2Proof/Machine/Regs.lean ====
section
/-! DEFINITION. Reads and writes of the set-up registers (00 R8, R9; 11 R428–R431): which partition sees a register, the fields
that show other state, what a write does by access type, and the registers whose write is an action: doorbells, rings, the
mailbox, the fault ring, the light of an engine, the traffic generators. -/

namespace Sys2Proof.Machine

/-! ### Halves, stores and firmware -/

/-- The halves a partition covers (R5). -/
def State.halves (s : State) (p : Nat) : List Nat := if s.twoPart then [p] else [0, 1]

/-- A partition's command key (R500). -/
def State.cmdKey (s : State) (p : Nat) : Option (List Byte) := if p = 1 then s.vault.key1 else s.vault.key0

/-- A partition's last-accepted counter, MC1 or MC2 (R427, R504). -/
def State.lastCounter (s : State) (p : Nat) : Nat := if p = 1 then s.vault.mc2 else s.vault.mc1

/-- A partition's key generation, MC3 or MC4 (R504). -/
def State.keyGen (s : State) (p : Nat) : Nat := if p = 1 then s.vault.mc4 else s.vault.mc3

/-- MC0 as a partition's store holds it (R494, R504); in whole-device mode both stores hold the same. -/
def State.mc0 (s : State) (p : Nat) : Nat :=
  if s.twoPart then (if p = 1 then s.vault.mc0E else s.vault.mc0W) else max s.vault.mc0W s.vault.mc0E

/-- Header fields of a firmware slot in flash; an empty slot reads 0 (R496, R459). -/
def slotBuild (b : List Byte) : Nat := leAt b 0x10 8

/-! ### Which registers a partition sees (R44, R71, R160, R284, R324, R367, R399, R429, R491) -/

/-- Whether a partition's paths reach a register instance. -/
def State.seesReg (s : State) (p : Nat) (r : Reg) (i j : Nat) : Bool :=
  !s.twoPart || (match r with
    | .ID_DIE => s.partOfDie i == p
    | .BRG_CTL | .BRG_WIDTH_STS | .BRG_MASK | .BRG_EVT | .BRG_EVT_CNT | .BRG_GROUP_SEL | .BRG_GROUP_STS => s.partOfSide i j == p
    | .TILE_LPMAP | .SRM_STS => s.partOfTile i == p
    | .LDLY_STS | .LDLY_ASYM | .PORT_STS | .PORT_EVT | .PORT_EVT_CNT | .PORT_ERR_CNT | .PORT_PIR => s.partOfPort i == p
    | .CORE_CTL | .CORE_STS | .ENG_FAULT | .CORE_EVT | .CORE_EVT_CNT | .EXC_CNT_A | .EXC_CNT_B | .EXC_CNT_C | .DMX_STS
    | .DMX_ERR_TAG | .CHK_STS | .SEM_VAL => s.partOfCore i == p
    | .GXE_STS | .GXE_EVT | .GXE_ERR => s.partOfGather i == p
    | .MST_STS => s.partOfHalf (i / 10) == p
    | .MCH_STS | .MCH_EVT | .MCH_EVT_CNT | .MCH_ERR_LOC | .MCH_CE_CNT | .MTG_CTL | .MTG_LIMIT | .MTG_SEED | .MTG_STS
    | .MTG_ERR => s.partOfChan i == p
    | .OE_CTL | .OE_STS | .OE_EVT | .OE_EVT_CNT | .OE_POLICY | .OE_LASER_STS | .OE_FF_COEF | .OE_RINGTAB_CTL | .OE_RINGTAB_DATA
    | .OE_RING_STS | .OE_SP_STS | .OE_FIB_STS | .OE_FIB_LANEMAP | .OE_FIB_EVT | .OE_FIB_EVT_CNT | .OE_FIB_MARGIN | .OE_FIB_COMET
    | .OE_FIB_EVT_CNT1 | .COL_CTL | .COL_STS | .COL_EVT | .COL_EVT_CNT | .COL_GRP_SEL | .COL_GRP_STS | .COL_GRP_DONE
    | .COL_ABORT => s.partOfOe i == p
    | _ => true)

/-! ### Fields that show other state -/

/-- CORE_STS code of a stream (R159). -/
def Stream.code (st : Stream) : Nat :=
  match st.status with
  | .idle => 0
  | .faulted => 3
  | .running | .waitSem _ _ | .waitFence _ | .passDone => (match st.plane with | .free => 1 | .sched => 2)

/-- CORE_STS of a core (R159). -/
def State.coreSts (s : State) (n : Nat) : Nat :=
  let k := s.core n
  k.scu.code + k.mxe.code * 2 ^ 2 + k.vxe.code * 2 ^ 4 + k.dmx.code * 2 ^ 6 +
    s.rd ⟨.TILE_LPMAP, 4 * (n % 4), 3⟩ 0 (tileOf n) * 2 ^ 8 + b2n k.accInt0 * 2 ^ 11 + b2n k.accInt1 * 2 ^ 12

/-- ORD_STS (R239): fences that wait, and streams held at a timed-out fence. -/
def State.ordSts (s : State) (p : Nat) : Nat :=
  let fs : List Fence := (s.coresOf p).flatMap fun n => [Eng.scu, .mxe, .vxe, .dmx].filterMap fun e =>
    match (s.stream n e).status with
    | .waitFence f => some f
    | .idle | .running | .waitSem _ _ | .passDone | .faulted => none
  (fs.filter fun f => !f.timedOut).length + (fs.filter fun f => f.timedOut).length * 2 ^ 9

/-- MCH_STS of a channel (R283). -/
def State.mchSts (s : State) (c : Nat) : Nat :=
  let d := s.chan c
  let w (pc : Nat) := (d.wideq false pc).length
  putBits (s.reg .MCH_STS 0 c).toNat 2 29
    (b2n (s.chanMode c != 0 && !s.listedRefresh (s.partOfChan c) c) + d.narrow0.length * 2 + d.narrow1.length * 2 ^ 8
      + w 0 * 2 ^ 15 + w 1 * 2 ^ 22)

/-- The ring that OE_RINGTAB_CTL selects, if R288 has it. -/
def State.ringSel (s : State) (o : Nat) : Option Nat :=
  let i := s.rd F.OE_RINGTAB_CTL_fibre 0 o
  let k := s.rd F.OE_RINGTAB_CTL_kind 0 o
  let n := s.rd F.OE_RINGTAB_CTL_n 0 o
  if ringExists i k n then some (ringKey o i k n) else none

/-- BRG_GROUP_STS of a side (R43). -/
def State.groupSts (s : State) (b x : Nat) : Nat :=
  let d := s.side b x
  let g := tabGet groupDefault d.groups (s.rd F.BRG_GROUP_SEL_group 0 b x)
  b2n g.good + g.bad * 2 + g.pos0 * 2 ^ 3 + g.pos1 * 2 ^ 10 + d.degradedCnt % 2 ^ 16 * 2 ^ 48

/-- E2E_STS of the selected destination (R367). -/
def State.e2eSts (s : State) (p : Nat) : Nat :=
  let x := s.rd F.E2E_SEL_pix p
  let o := s.e2eOut p x
  min (o.issued - o.acked) 4095 + b2n (s.reachable p x) * 2 ^ 12 + o.session % 2 ^ 32 * 2 ^ 32

/-- COL_GRP_STS of the selected group (R399). -/
def State.grpSts (s : State) (e : Nat) : Nat :=
  let p := s.partOfOe e
  let gid := s.rd F.COL_GRP_SEL_gid 0 e
  let g := s.collGroup e gid
  let f : Nat := match s.groupEnt? p gid with
    | some (x : GroupEnt) => b2n x.sched * 4 + b2n x.comet * 8
    | none => 0
  if s.collEngine p gid = e then g.state + f + g.cause * 2 ^ 4 + g.fired % 2 ^ 32 * 2 ^ 32 else 0

/-- COL_GRP_DONE of the selected group. -/
def State.grpDone (s : State) (e : Nat) : Nat :=
  let gid := s.rd F.COL_GRP_SEL_gid 0 e
  let g := s.collGroup e gid
  if s.collEngine (s.partOfOe e) gid = e then g.completed % 2 ^ 32 + g.aborted % 2 ^ 32 * 2 ^ 32 else 0

/-- HIF_CONN_STS of a connection (R431). -/
def State.connSts (s : State) (p c : Nat) : Nat :=
  let h := s.conn p c
  b2n h.up + h.sp * 2 + h.hostQpn % 2 ^ 24 * 2 ^ 3

/-- FW_STS (R459): the boot record of the serving half's flash, and the firmware that runs. -/
def State.fwSts (s : State) (p : Nat) : Nat :=
  let h := s.mgpOf p
  let f := s.flash h
  let m := s.mgp h
  let sec : Nat := match m.fw with
    | some x => x.sec
    | none => 0
  let busy := (s.part p).opens.any fun o => o.opcode == 0x38 && o.stage == 1
  f.active + (if m.fw.isSome then m.slot % 2 else f.active) * 2 + b2n f.trial * 4 + b2n f.staged * 8 + b2n busy * 16
    + f.attempts % 256 * 2 ^ 5 + sec % 2 ^ 32 * 2 ^ 13

/-- The newest records first. -/
def State.logAt (s : State) (p i : Nat) : List Byte :=
  match (s.part p).log.reverse[i]? with
  | some r => r.bytes
  | none => []

/-- FLT_STS (R491). -/
def State.fltSts (s : State) (p : Nat) : Nat :=
  let l := (s.part p).log
  let last : Nat := match l.getLast? with
    | some r => r.seq
    | none => 0
  putBits (putBits (putBits (s.reg .FLT_STS p).toNat 1 1 (b2n ((s.part p).state == .quarantined))) 5 9 l.length) 16 32 last

/-- SEC_STS (R512). East's consent is its own; West sees it through the sideband (R508, R509). -/
def State.secSts (s : State) (p : Nat) : Nat :=
  let w := putBits (putBits (s.reg .SEC_STS p).toNat 0 1 (b2n (s.cmdKey p).isSome)) 8 4 s.fuses.revoked
  let w := putBits w 32 32 (s.keyGen p)
  if p = 1 then putBits w 2 1 (b2n s.vault.consent) else w

def railDefault : Nat → Rail := fun _ => {}
def tempDefault : Nat → Temp := fun _ => {}

/-- A rail (R515). -/
def State.rail (s : State) (k : Nat) : Rail := tabGet railDefault s.rails k

/-- A temperature sensor: die d, or 40 + k for stack k (R525). -/
def State.temp (s : State) (u : Nat) : Temp := tabGet tempDefault s.temps u

/-- Warning and shutdown temperatures in °C (R524): base and compute dies, EIC and PIC, stacks. -/
def warnTemp (u : Nat) : Nat := if u < 32 then 100 else 95
def shutTemp (u : Nat) : Nat := if u < 32 then 110 else 105

/-- The partition of a temperature unit. -/
def State.partOfSensor (s : State) (u : Nat) : Nat := if u < 40 then s.partOfDie u else s.partOfHalf ((u - 40) / 10)

/-- The package power limit in W (R516). -/
def State.powerLimitW (s : State) : Nat := if s.slow then 1800 else 2400

/-- PWR_RAIL_STS of the selected rail (R525). -/
def State.railSts (s : State) (p : Nat) : Nat :=
  let k := s.rd F.PWR_RAIL_SEL_rail p
  let r := s.rail k
  if 10 ≤ k then 0
  else r.mv % 2 ^ 16 + r.amps % 2 ^ 16 * 2 ^ 16 + r.minMv % 2 ^ 16 * 2 ^ 32 + b2n r.inWin * 2 ^ 48 + b2n r.faulted * 2 ^ 49

/-- PWR_TEMP_STS of the selected unit (R525). -/
def State.tempSts (s : State) (p : Nat) : Nat :=
  let u := s.rd F.PWR_TEMP_SEL_unit p
  let t := s.temp u
  if 60 ≤ u ∨ s.partOfSensor u ≠ p then 0
  else t.now % 2 ^ 12 + t.max % 2 ^ 12 * 2 ^ 12 + warnTemp u * 2 ^ 24 + shutTemp u * 2 ^ 32 + b2n t.warn * 2 ^ 40

/-- ID_DIE of a die (R43): kind from its index, the rest from its fuses. -/
def State.idDie (s : State) (d : Nat) : Nat :=
  (if d < 16 then 0 else if d < 32 then 1 else if d < 36 then 2 else 3) + tabGet natDefault s.fuses.stepping d % 256 * 2 ^ 2
    + tabGet natDefault s.fuses.fl d % 256 * 2 ^ 10 + (if d < 16 then tabGet natDefault s.fuses.fusedBad d % 32 * 2 ^ 18 else 0)

/-- What a register instance reads: its stored word, with the fields that show other state as that state is now. -/
def State.readReg (s : State) (p : Nat) (r : Reg) (i j k : Nat) : Nat :=
  let w := (s.reg r p i j k).toNat
  let q := s.part p
  match r with
  | .ID_DEVICE => 0x4820 + b2n s.fuses.gradeX * 2 ^ 16 + bits s.straps.toNat 0 2 * 2 ^ 17 + b2n s.twoPart * 2 ^ 19
  | .ID_SERIAL => s.fuses.serial.toNat
  | .ID_FL_STS => (s.reg .ID_FL_STS 0).toNat
  | .ID_DIE => s.idDie i
  | .BRG_WIDTH_STS => if s.twoPart && isSeam i then putBits w 0 4 brOff else w
  | .BRG_GROUP_STS => s.groupSts i j
  | .CLK_STS => putBits (putBits w 7 2 (bits s.straps.toNat 0 2)) 9 7 (q.gtc % 72)
  | .GTC_VALUE => q.gtc
  | .CORE_STS => s.coreSts i
  | .DMX_STS => (s.core i).transfers.length
  | .SEM_VAL => (s.core i).sem j
  | .GXE_STS => (s.gather i).threads.length + (s.gather i).pendingCount * 2 ^ 11
  | .SCH_STS => if s.running p && !s.schedStopped p then putBits w 4 25 (q.gtc - q.conj) else w
  | .ORD_STS => s.ordSts p
  | .MEM_STS =>
    putBits w 12 10 (((List.range 640).filter fun c => s.partOfChan c == p && s.chanMode c == 0).length)
  | .MCH_STS => s.mchSts i
  | .OE_RINGTAB_DATA => (match s.ringSel i with
      | some x => if s.rd F.OE_RINGTAB_CTL_kind 0 i < 4 then s.heater x (s.rd F.OE_RINGTAB_CTL_entry 0 i) else 0
      | none => 0)
  | .OE_RING_STS => (match s.ringSel i with
      | some x => (s.ring x).sts
      | none => 0)
  | .NET_STS => putBits w 32 32 q.session
  | .ROUTE_DATA => tabGet natDefault q.routes (s.rd F.ROUTE_SEL_pix p)
  | .E2E_STS => s.e2eSts p
  | .E2E_ISSUED => (s.e2eOut p (s.rd F.E2E_SEL_pix p)).issued
  | .E2E_ACKED => (s.e2eOut p (s.rd F.E2E_SEL_pix p)).acked
  | .FAR_DATA => bits (tabGet windowDefault q.far (s.rd F.FAR_SEL_index p)).toNat (64 * i) 64
  | .COL_STS => putBits w 33 9 ((s.coll i).waiting.length + (s.coll i).ops.length)
  | .COL_GRP_STS => s.grpSts i
  | .COL_GRP_DONE => s.grpDone i
  | .HIF_STS =>
    putBits (putBits w 5 4 ((List.range 4).foldl (fun a c => a + b2n (s.conn p c).up * 2 ^ c) 0)) 9 1 (b2n q.slotHolder.isSome)
  | .HIF_AUTH_STS => s.lastCounter p
  | .HIF_CONN_STS => s.connSts p i
  | .HIF_WIN_DATA => bits (tabGet windowDefault q.windows (s.rd F.HIF_WIN_SEL_window p)).toNat (64 * i) 64
  | .BOOT_STS => putBits (putBits w 0 8 s.straps.toNat) 8 2 (bits s.straps.toNat 4 2)
  | .FW_STS => s.fwSts p
  | .FW_BUILD_A => slotBuild (s.flash (s.mgpOf p)).slotA
  | .FW_BUILD_B => slotBuild (s.flash (s.mgpOf p)).slotB
  | .FLT_STS => s.fltSts p
  | .FLT_LOG_DATA => leAt (s.logAt p (s.rd F.FLT_LOG_SEL_index p)) (8 * i) 8
  | .AGE_STS =>
    let d := s.rd F.AGE_SEL_die p
    if d < 40 ∧ s.partOfDie d = p then s.ageSts d else 0
  | .SEC_STS => s.secSts p
  | .SEC_MC => s.mc0 p + s.vault.mc5 % 2 ^ 32 * 2 ^ 32
  | .SEC_FW_MEAS => (match (s.mgp (s.mgpOf p)).fw with
      | some f => leAt f.meas (8 * i) 8
      | none => 0)
  | .PWR_STS => putBits (s.reg .PWR_STS 0).toNat 32 16 s.powerLimitW
  | .PWR_RAIL_STS => s.railSts p
  | .PWR_TEMP_STS => s.tempSts p
  | _ => w

/-- The word at an offset of the set-up window below the debug window; an offset with no register reads 0 (R429). -/
def State.peek (s : State) (p off : Nat) : Word :=
  match decodeOffset off with
  | none => 0
  | some (r, i, j, k) => if s.hasPart p && s.seesReg p r i j then BitVec.ofNat 64 (s.readReg p r i j k) else 0

/-! ### Doorbells and rings (R408–R411) -/

/-- A ring error (R408): the ring stops. -/
def State.ringError (s : State) (p r : Nat) : State :=
  let s := (s.wr F.HIF_CR_CFG_ring_err 1 p r).wr F.HIF_CR_CFG_stopped 1 p r
  s.flag F.HIF_EVT_ring_err F.HIF_EVT_CNT0_ring_err_cnt p

/-- The host writes N to a command ring's doorbell word (R408). -/
def State.crDoorbell (s : State) (p r n : Nat) : State :=
  let P := s.rd F.HIF_CR_STS_producer p r
  let C := s.rd F.HIF_CR_STS_consumer p r
  let ahead := (n + 2 ^ 32 - P) % 2 ^ 32
  if ! s.rdB F.HIF_CR_CFG_enable p r then s
  else if 2 ^ 31 ≤ ahead then s.flag F.HIF_EVT_stale_db F.HIF_EVT_CNT0_stale_db_cnt p
  else if (n + 2 ^ 32 - C) % 2 ^ 32 ≤ 2 ^ s.rd F.HIF_CR_CFG_log_size p r then s.wr F.HIF_CR_STS_producer n p r
  else s.ringError p r

/-- The host writes its consumed count H to a completion ring's doorbell word (R410). -/
def State.cqDoorbell (s : State) (p q n : Nat) : State :=
  let H := s.rd F.HIF_CQ_STS_host_consumed p q
  let W := s.rd F.HIF_CQ_STS_written p q
  if ! s.rdB F.HIF_CQ_CFG_enable p q then s
  else if (n + 2 ^ 32 - H) % 2 ^ 32 ≤ (W + 2 ^ 32 - H) % 2 ^ 32 then s.wr F.HIF_CQ_STS_host_consumed n p q
  else s.flag F.HIF_EVT_stale_db F.HIF_EVT_CNT0_stale_db_cnt p

/-- Drop a ring's fetched entries (R411, R412). -/
def State.dropFetched (s : State) (p r : Nat) : State :=
  s.updPart p fun q => { q with fetched := q.fetched.filter fun x => x.1 != r }

/-- enable of a command ring is set (R431): P and C restart and the errors clear, or ring_err where the ring is not valid. -/
def State.crEnable (s : State) (p r : Nat) : State :=
  let s := s.wr F.HIF_CR_CFG_enable 0 p r
  if 16 < s.rd F.HIF_CR_CFG_log_size p r ∨ ! s.rdB F.HIF_CQ_CFG_enable p (s.rd F.HIF_CR_CFG_cq p r) then
    (s.wr F.HIF_CR_CFG_ring_err 1 p r).flag F.HIF_EVT_ring_err F.HIF_EVT_CNT0_ring_err_cnt p
  else
    let s := ((s.wr F.HIF_CR_CFG_enable 1 p r).wr F.HIF_CR_CFG_ring_err 0 p r).wr F.HIF_CR_CFG_stopped 0 p r
    (s.setReg .HIF_CR_STS 0 p r).dropFetched p r

/-- enable of a completion ring is set (R431). -/
def State.cqEnable (s : State) (p q : Nat) : State :=
  (s.wr F.HIF_CQ_CFG_enable 1 p q).setReg .HIF_CQ_STS 0 p q

/-- resume is written (R411): a stopped ring goes on; its fetched entries are fetched again. -/
def State.crResume (s : State) (p r : Nat) : State :=
  if s.rdB F.HIF_CR_CFG_stopped p r then (s.wr F.HIF_CR_CFG_stopped 0 p r).dropFetched p r else s

/-- go is written to the mailbox (R406): ignored while busy; otherwise the descriptor's command is ready to start. -/
def State.mboxGo (s : State) (p : Nat) (i3c : Bool) : State :=
  if s.rdB F.HIF_MBOX_CTL_busy p then s
  else
    let d := (List.range 8).flatMap fun i => toLE 8 (s.reg .HIF_MBOX_DESC p i).toNat
    let o : OpenCmd := { src := .mailbox, desc := d, ext := [], checked := false, stage := 0, note := 0, orphan := false, i3c := i3c }
    (s.wr F.HIF_MBOX_CTL_busy 1 p).updPart p fun q => { q with opens := q.opens ++ [o] }

/-- go is written to BOOT_CTL (R448): in hold mode the boot ROM turns to the image held in SRAM. -/
def State.bootGo (s : State) (p : Nat) : State :=
  if (s.part p).state = .booting ∧ s.rd F.BOOT_STS_stage p = 7 then
    (s.halves p).foldl (fun a h => a.updMgp h fun m =>
      if m.stage = 7 then { m with stage := 2, slot := 3, fw := none } else m) (s.wr F.BOOT_STS_stage 2 p)
  else s

/-- enable of the fault ring is set (R491, R474). -/
def State.frEnable (s : State) (p : Nat) : State :=
  if 16 < s.rd F.FLT_RING_CFG_log_size p then s.wr F.FLT_RING_CFG_enable 0 p
  else (s.wr F.FLT_RING_CFG_enable 1 p).setReg .FLT_RING_STS 0 p

/-- The host writes its consumed count of the fault ring (R474, R491). -/
def State.frConsumed (s : State) (p n : Nat) : State :=
  let H := s.rd F.FLT_RING_STS_host_consumed p
  if (n + 2 ^ 32 - H) % 2 ^ 32 ≤ (s.rd F.FLT_RING_STS_written p + 2 ^ 32 - H) % 2 ^ 32 then
    s.wr F.FLT_RING_STS_host_consumed n p
  else s

/-- A write of AGE_LOG_SEL (R492): ready clears and the entry is fetched. -/
def State.ageSelect (s : State) (p : Nat) (v : Word) : State :=
  (s.setReg .AGE_LOG_SEL (BitVec.ofNat 64 (bits v.toNat 0 19)) p).updPart p fun q => { q with ageSel := true }

/-- BRG_CTL enable (R25, R43): 0 holds the side in OFF; 1 lets a side in OFF leave it through RESET (R26). -/
def State.bridgeEnable (s : State) (b x : Nat) : State :=
  let off := s.sideState b x == brOff
  if ! s.rdB F.BRG_CTL_enable 0 b x then s.wr F.BRG_WIDTH_STS_state brOff 0 b x
  else if off && !(isSeam b && s.twoPart) then s.wr F.BRG_WIDTH_STS_state brReset 0 b x
  else s

/-! ### Writes (R8, R9, R429) -/

/-- A written word as its fields take it. -/
def mergeFields (locked : Bool) (old v : Nat) (fs : List FieldInfo) : Nat :=
  fs.foldl (fun a f =>
    let was := bits old f.lo f.width
    let new := bits v f.lo f.width
    match f.access with
    | .ro => a
    | .rw => putBits a f.lo f.width new
    | .rwl => if locked then a else putBits a f.lo f.width new
    | .w1c => putBits a f.lo f.width (was - (was &&& new))
    | .w1s => putBits a f.lo f.width (was ||| new)) old

/-- Whether the RWL fields of a register instance are locked (R8, R72). -/
def State.regLocked (s : State) (p : Nat) (r : Reg) (i j : Nat) : Bool :=
  match (regInfo r).lock with
  | none => false
  | some l => (if (regInfo l).perPartition then s.reg l p else s.reg l 0 i (if l = .BRG_CTL then j else 0)).toNat.testBit 31

/-- A register write by the fields' access types alone. -/
def State.mergeReg (s : State) (p : Nat) (r : Reg) (i j k : Nat) (v : Word) : State :=
  s.setReg r (BitVec.ofNat 64 (mergeFields (s.regLocked p r i j) (s.reg r p i j k).toNat v.toNat (regInfo r).fields)) p i j k

/-- A write to a register instance (R429), with what the write does beyond storing; `i3c` when it came over I3C. -/
def State.writeReg (s : State) (p : Nat) (r : Reg) (i j k : Nat) (v : Word) (i3c : Bool) : State :=
  let b (n : Nat) : Bool := v.toNat.testBit n
  let t := s.mergeReg p r i j k v
  match r with
  | .BRG_CTL =>
    let t := (t.wr F.BRG_CTL_force_retrain 0 0 i j).bridgeEnable i j
    if b 1 then t.forceRetrain i j else t
  | .MTG_CTL =>
    match (s.chan i).mtg with
    | some m => if b 1 then s.mtgEnd i m else s.mtgCtl i v
    | none => s.mtgCtl i v
  | .OE_CTL =>
    let was := s.lightEn i
    let now := t.lightEn i
    if was && !now then t.lightOff i else if !was && now then t.lightOn i else t
  | .OE_RINGTAB_DATA =>
    match s.ringSel i with
    | some x =>
      if s.regLocked p r i j then s
      else { s with heaters := tabSet heaterDefault s.heaters (x * 16 + s.rd F.OE_RINGTAB_CTL_entry 0 i) (BitVec.ofNat 16 v.toNat) }
    | none => s
  | .HIF_CR_ADDR => if s.rdB F.HIF_CR_CFG_enable p i then s else t
  | .HIF_CQ_ADDR => if s.rdB F.HIF_CQ_CFG_enable p i then s else t
  | .HIF_CR_CFG =>
    let was := s.rdB F.HIF_CR_CFG_enable p i
    let t := t.wr F.HIF_CR_CFG_resume 0 p i
    let t := if b 2 then t.crResume p i else t
    if b 0 && !was then t.crEnable p i else if !b 0 && was then t.dropFetched p i else t
  | .HIF_CQ_CFG => if b 0 && !s.rdB F.HIF_CQ_CFG_enable p i then t.cqEnable p i else t
  | .HIF_MBOX_DESC => if s.rdB F.HIF_MBOX_CTL_busy p then s else t
  | .HIF_MBOX_CTL =>
    let t := t.wr F.HIF_MBOX_CTL_go 0 p
    if b 0 then t.mboxGo p i3c else t
  | .BOOT_CTL =>
    let t := t.wr F.BOOT_CTL_go 0 p
    if b 0 then t.bootGo p else t
  | .DBG_APER_BASE => t.setReg .DBG_APER_BASE (BitVec.ofNat 64 (bits v.toNat 6 35 * 64)) p
  | .FLT_RING_ADDR => if s.rdB F.FLT_RING_CFG_enable p then s else t
  | .FLT_RING_CFG => if b 0 && !s.rdB F.FLT_RING_CFG_enable p then t.frEnable p else t
  | .FLT_RING_STS => s.frConsumed p (bits v.toNat 32 32)
  | .AGE_LOG_SEL => s.ageSelect p v
  | _ => t

/-- A write at an offset of the set-up window below the debug window. -/
def State.poke (s : State) (p off : Nat) (v : Word) (i3c : Bool) : State :=
  match decodeOffset off with
  | none => s
  | some (r, i, j, k) => if s.hasPart p && s.seesReg p r i j then s.writeReg p r i j k v i3c else s

/-- Whether a write at an offset clears a flag that it names (R430). -/
def clearsFlag (off : Nat) (v : Word) : Bool :=
  match decodeOffset off with
  | none => false
  | some (r, _, _, _) => (regInfo r).fields.any fun f => f.access == .w1c && bits v.toNat f.lo f.width != 0

/-- Whether a write at an offset sets a lock (R8). -/
def setsLock (off : Nat) (v : Word) : Bool :=
  match decodeOffset off with
  | none => false
  | some (r, _, _, _) => (regInfo r).fields.any (fun f => f.access == .w1s && f.lo == 31) && v.toNat.testBit 31

/-- REGISTER_WRITE (R429). -/
def execRegisterWrite (p : Fin 2) (off : BitVec 26) (v : Word) (i3c : Bool) (s : State) : Res :=
  guarded (off.toNat % 8 == 0) "registers are written whole (R429)" (s.poke p off.toNat v i3c)

/-- FLAG_CLEAR (R430, R9): a write of 1 to a W1C flag. -/
def execFlagClear (p : Fin 2) (off : BitVec 26) (v : Word) (s : State) : Res :=
  guarded (off.toNat % 8 == 0 && clearsFlag off.toNat v) "the write clears no flag (R430)" (s.poke p off.toNat v false)

/-- LOCK_SET (R8): a write of 1 to a lock bit. -/
def execLockSet (p : Fin 2) (off : BitVec 26) (v : Word) (s : State) : Res :=
  guarded (off.toNat % 8 == 0 && setsLock off.toNat v) "the write sets no lock (R8)" (s.poke p off.toNat v false)

/-- COMMAND_RING_ENABLE (R431). -/
def execCommandRingEnable (p : Fin 2) (r : Fin 64) (s : State) : Res :=
  .next (if s.rdB F.HIF_CR_CFG_enable p r then s else s.crEnable p r)

/-- COMPLETION_RING_ENABLE (R431). -/
def execCompletionRingEnable (p : Fin 2) (q : Fin 64) (s : State) : Res :=
  .next (if s.rdB F.HIF_CQ_CFG_enable p q then s else s.cqEnable p q)

/-- RING_RESUME (R411). -/
def execRingResume (p : Fin 2) (r : Fin 64) (s : State) : Res := .next (s.crResume p r)

/-- MAILBOX_GO (R406). -/
def execMailboxGo (p : Fin 2) (i3c : Bool) (s : State) : Res := .next (s.mboxGo p i3c)

/-- BOOT_GO (R448). -/
def execBootGo (p : Fin 2) (s : State) : Res := .next (s.bootGo p)

/-- COMMAND_DOORBELL (R408). -/
def execCommandDoorbell (p : Fin 2) (r : Fin 64) (n : BitVec 32) (s : State) : Res := .next (s.crDoorbell p r n.toNat)

/-- COMPLETION_DOORBELL (R410). -/
def execCompletionDoorbell (p : Fin 2) (q : Fin 64) (n : BitVec 32) (s : State) : Res := .next (s.cqDoorbell p q n.toNat)

/-- FAULT_RING_ENABLE (R474). -/
def execFaultRingEnable (p : Fin 2) (s : State) : Res :=
  .next (if s.rdB F.FLT_RING_CFG_enable p then s else s.frEnable p)

/-- FAULT_RING_CONSUMED (R474). -/
def execFaultRingConsumed (p : Fin 2) (n : BitVec 32) (s : State) : Res := .next (s.frConsumed p n.toNat)

/-- AGE_LOG_SELECT (R492). -/
def execAgeLogSelect (p : Fin 2) (v : Word) (s : State) : Res := .next (s.ageSelect p v)

end Sys2Proof.Machine
end

