-- ==== Sys2Proof/Machine/Debug.lean ====
section
/-! DEFINITION. The debug window (12 R453–R456): the aperture onto memory, accumulators, collective engines, transfer tables,
gather threads, link buffers and the in-flight list, and the engine-state area; and the set-up window as every path reaches
it (R428, R429). -/

namespace Sys2Proof.Machine

/-! ### Space 0: local memory -/

/-- A granule as a debug read finds it: its data as decoded, whether its carried check fails, whether it is uncorrectable.
Nothing changes (R455; DEDUCED, notes/assumptions/68.md). -/
def State.dbgGran (s : State) (p addr : Nat) : Option (Gran × Bool × Bool) :=
  match s.home p addr with
  | .sram a =>
    let d := (s.sramRead (a / 64 * 64)).2
    some (d.data, !d.ok, !(ueWords (s.sramSide (a / 64 * 64)).err).isEmpty)
  | .hbm c l g _ =>
    let d := (s.hbmRead p (addr / 64 * 64) (hbmPhys c l g)).2
    some (d.data, !d.ok, (s.hbmDecode (hbmPhys c l g)).isNone)
  | .window _ | .nowhere => none

/-- A word of local memory; DBG_STS tells what the read met (R455). -/
def State.dbgMem (s : State) (p addr : Nat) : State × Word :=
  match s.dbgGran p addr with
  | none => (s, 0)
  | some (g, bad, ue) =>
    (s.setReg .DBG_STS (BitVec.ofNat 64 (b2n bad + b2n ue * 2 + bits addr 6 35 * 2 ^ 6)) p,
     BitVec.ofNat 64 (bits g.toNat (8 * (addr % 64)) 64))

/-! ### Spaces 3 and 4 -/

/-- A transfer table entry (R454): descriptor, granules done, state, failing address. -/
def Transfer.word (t : Transfer) (o : Nat) : Nat :=
  if o < 64 then bits t.desc.toNat (8 * o) 64
  else if o = 64 then t.next + (if t.fail.isSome then 2 else 1) * 2 ^ 32
  else if o = 72 then (match t.fail with
    | some i => t.src i % 2 ^ 64
    | none => 0)
  else 0

/-- A gather thread (R454): registers, buffer, script index, state and launch, address of its access. -/
def Thread.word (h : Thread) (launch o : Nat) : Nat :=
  if o < 64 then h.T (o / 8)
  else if o < 128 then bits h.buf.toNat (8 * (o - 64)) 64
  else if o = 128 then h.pc % 16 + (if h.access.isSome then 2 else 1) * 2 ^ 4 + launch % 16 * 2 ^ 7
  else if o = 136 then (match h.access with
    | some a => a.addr % 2 ^ 64
    | none => 0)
  else 0

/-- The place of a launch among a gather engine's launches. -/
def Gather.slotOf (g : Gather) (id : Nat) : Nat := (g.launches.map (·.id)).findIdx (· == id)

/-! ### The aperture (R454) -/

/-- Whether the aperture's unit lies in the partition (R459). -/
def State.dbgUnitOk (s : State) (p space unit : Nat) : Bool :=
  if space = 1 ∨ space = 3 then decide (unit < 64) && s.partOfCore unit == p
  else if space = 2 then decide (unit < 4) && s.partOfOe unit == p
  else if space = 4 then decide (unit < 32) && s.partOfGather unit == p
  else if space = 5 then decide (unit < 32) && s.partOfPort unit == p
  else true

/-- A word of spaces 1 and 3–6. -/
def State.dbgUnit (s : State) (p space unit o : Nat) (bank : Bool) : Nat :=
  if space = 1 then
    (if o < 1024 * 256 then bits ((s.core unit).accRow bank (o / 1024)).toNat (8 * (o % 1024)) 64 else 0)
  else if space = 3 then
    (match (s.core unit).transfers[o / 128]? with
     | some t => t.word (o % 128)
     | none => 0)
  else if space = 4 then
    (match (s.gather unit).threads[o / 256]? with
     | some h => h.word ((s.gather unit).slotOf h.launch) (o % 256)
     | none => 0)
  else if space = 5 then
    let t := s.port unit
    let f : Option (Nat × BitVec 1152) := if o < 0x10000 then t.elastic[o / 256]? else t.retry[(o - 0x10000) / 256]?
    (match f with
     | some x => bits x.2.toNat (8 * (o % 256)) 64
     | none => 0)
  else if space = 6 then
    (match (s.part p).inflight[o / 32]? with
     | some x => leAt x.bytes (o % 32) 8
     | none => 0)
  else 0

/-- A word of the aperture. The buffers of a collective engine hold partial results whose places the spec does not give: what
they read is a free value (R454; DESIGN CHOICE, notes/assumptions/67.md). -/
def State.dbgAper (s : State) (p o : Nat) : State × Word :=
  let space := s.rd F.DBG_APER_SEL_space p
  let unit := s.rd F.DBG_APER_SEL_unit p
  if ! s.dbgUnitOk p space unit then (s, 0)
  else if space = 0 then s.dbgMem p (s.rd F.DBG_APER_BASE_base p + o)
  else if space = 2 then
    (if o < 0x800000 + 64 * 2048 then let f := s.takeFree; (f.2, BitVec.ofNat 64 (Config.freeNat f.1)) else (s, 0))
  else (s, BitVec.ofNat 64 (s.dbgUnit p space unit o (s.rdB F.DBG_APER_SEL_bank p)))

/-! ### The engine-state area (R453) -/

/-- A word of a stream's block. -/
def Stream.word (st : Stream) (o : Nat) : Nat :=
  if o = 0 then st.pc % 2 ^ 32 + (match st.plane with | .free => 0 | .sched => 1) * 2 ^ 32
  else if o = 8 then st.tick
  else if o < 0x10 ∨ 0x30 ≤ o then 0
  else match st.loops[(o - 0x10) / 8]? with
    | some f => f.count % 2 ^ 16 + f.iter % 2 ^ 16 * 2 ^ 16 + (f.last + 1 - f.first) % 2 ^ 12 * 2 ^ 32 + 2 ^ 44
    | none => 0

/-- A word of a core's engine state. -/
def Core.word (k : Core) (x : Nat) : Nat :=
  if x < 0x10000 then bits (k.V (x / 0x400)).toNat (8 * (x % 0x400)) 64
  else if x < 0x10100 then k.S ((x - 0x10000) / 8)
  else if x < 0x10180 then k.A ((x - 0x10100) / 8)
  else if x < 0x10200 then 0
  else if x < 0x10300 then (k.stream (Eng.ofIdx ((x - 0x10200) / 0x40))).word ((x - 0x10200) % 0x40)
  else if x < 0x10400 then 0
  else if x < 0x10480 then
    (let l := k.latch ((x - 0x10400) / 0x10)
     if x % 0x10 = 0 then l.sum.toNat + b2n l.valid * 2 ^ 32 + b2n l.bank * 2 ^ 33 + l.row % 256 * 2 ^ 34 else 0)
  else if x < 0x11000 then 0
  else if x < 0x12000 then
    (let y := x - 0x11000
     let r := k.rowSum (decide (0x800 ≤ y)) (y % 0x800 / 8)
     r.sum.toNat + b2n r.valid * 2 ^ 32)
  else 0

/-- A word of the debug window (R453). -/
def State.dbgRead (s : State) (p off : Nat) : State × Word :=
  if off < 0x3000000 then s.dbgAper p (off - 0x2000000)
  else
    let n := (off - 0x3000000) / 0x40000
    (s, if s.partOfCore n == p then BitVec.ofNat 64 ((s.core n).word ((off - 0x3000000) % 0x40000)) else 0)

/-! ### Debug writes (R456) -/

/-- A debug write that may not be performed. -/
def State.dbgRefused (s : State) (p : Nat) : State := s.flag F.BOOT_EVT_dbg_refused F.BOOT_EVT_CNT_refused_cnt p

/-- Whether engine state may be written: every engine of the core idle or faulted, the partition neither ARMED nor RUNNING. -/
def State.dbgEngineOk (s : State) (p n : Nat) : Bool :=
  [Eng.scu, .mxe, .vxe, .dmx].all (fun e => (s.stream n e).code == 0 || (s.stream n e).code == 3) &&
    (s.part p).state != .armed && (s.part p).state != .running

/-- A stream with a word of its block replaced; the body's first index stays as it was (R453). -/
def Stream.setWord (st : Stream) (o v : Nat) : Stream :=
  if o = 0 then { st with pc := bits v 0 32, plane := if v.testBit 32 then .sched else .free }
  else if o = 8 then { st with tick := v }
  else if o < 0x10 ∨ 0x30 ≤ o then st
  else
    let i := (o - 0x10) / 8
    let old := st.loops[i]?.getD { first := 0, last := 0, count := 0, iter := 0 }
    let f : LoopFrame := { first := old.first, last := old.first + bits v 32 12 - 1, count := bits v 0 16, iter := bits v 16 16 }
    if ! v.testBit 44 then { st with loops := st.loops.take i }
    else if i < st.loops.length then { st with loops := setAt st.loops i f }
    else { st with loops := st.loops ++ [f] }

/-- A core with a word of its engine state replaced. -/
def Core.setWord (k : Core) (x v : Nat) : Core :=
  if x < 0x10000 then
    { k with vregs := tabUpd vregDefault k.vregs (x / 0x400) fun w => BitVec.ofNat 8192 (putBits w.toNat (8 * (x % 0x400)) 64 v) }
  else if x < 0x10100 then { k with sregs := tabSet sregDefault k.sregs ((x - 0x10000) / 8) (BitVec.ofNat 32 v) }
  else if x < 0x10180 then { k with aregs := tabSet aregDefault k.aregs ((x - 0x10100) / 8) (BitVec.ofNat 64 v) }
  else if x < 0x10200 then k
  else if x < 0x10300 then k.updStream (Eng.ofIdx ((x - 0x10200) / 0x40)) fun st => st.setWord ((x - 0x10200) % 0x40) v
  else if x < 0x10400 then k
  else if x < 0x10480 then
    (if x % 0x10 = 0 then
      { k with
        cks := tabSet latchDefault k.cks ((x - 0x10400) / 0x10)
          { sum := BitVec.ofNat 32 v, valid := v.testBit 32, bank := v.testBit 33, row := bits v 34 8 } }
     else k)
  else if x < 0x11000 then k
  else if x < 0x12000 then
    (let y := x - 0x11000
     { k with
       sums := tabSet rowSumDefault k.sums (b2n (decide (0x800 ≤ y)) * 256 + y % 0x800 / 8)
         { sum := BitVec.ofNat 32 v, valid := v.testBit 32 } })
  else k

/-- Whether a space 0 write is performed: where WRITE_MEM is legal, or in hold mode to the boot SRAM (R456, R448). -/
def State.dbgMemOk (s : State) (p addr : Nat) : Bool :=
  legalIn 0x03 (s.part p).state ||
    ((s.part p).state == .booting && s.rd F.BOOT_STS_stage p == 7 &&
      (s.halves p).any fun h => decide (sramTile addr = 8 * h) && decide (sramBase ≤ addr))

/-- A write to the debug window (R456). -/
def State.dbgWrite (s : State) (p off : Nat) (v : Word) : State :=
  if off < 0x3000000 then
    let o := off - 0x2000000
    let space := s.rd F.DBG_APER_SEL_space p
    let unit := s.rd F.DBG_APER_SEL_unit p
    if ! s.dbgUnitOk p space unit then s
    else if space = 0 then
      let a := s.rd F.DBG_APER_BASE_base p + o
      if ! s.dbgMemOk p a then s.dbgRefused p
      else match s.writePart p a (toLE 8 v.toNat) with
        | some (s, _) => s
        | none => s
    else if space = 1 then
      if ! s.dbgEngineOk p unit then s.dbgRefused p
      else if o < 1024 * 256 then
        let key := s.rd F.DBG_APER_SEL_bank p * 256 + o / 1024
        s.updCore unit fun k => { k with
          acc := tabUpd vregDefault k.acc key fun w => BitVec.ofNat 8192 (putBits w.toNat (8 * (o % 1024)) 64 v.toNat) }
      else s
    else s.dbgRefused p
  else
    let n := (off - 0x3000000) / 0x40000
    if s.partOfCore n ≠ p then s
    else if ! s.dbgEngineOk p n then s.dbgRefused p
    else s.updCore n fun k => k.setWord ((off - 0x3000000) % 0x40000) v.toNat

/-! ### The set-up window as a path reaches it -/

/-- A read of a word of the 64 MiB set-up window (R428). -/
def State.winRead (s : State) (p off : Nat) : State × Word :=
  if ! s.hasPart p then (s, 0) else if off < 0x2000000 then (s, s.peek p off) else s.dbgRead p off

/-- A write of a word of it. -/
def State.winWrite (s : State) (p off : Nat) (v : Word) (i3c : Bool) : State :=
  if ! s.hasPart p then s else if off < 0x2000000 then s.poke p off v i3c else s.dbgWrite p off v

/-- Whether debug accesses are served (R455, R439): not in cold reset nor, unless straps hold the boot (R434), before the boot ROM has
chosen its source. -/
def State.dbgServed (s : State) (p : Nat) : Bool :=
  (s.part p).state != .cold &&
    !((s.part p).state == .booting && s.rd F.BOOT_STS_stage p == 0 && !s.rdB F.BOOT_STS_strap_err p)

/-- DEBUG_READ (R455): the word read leaves the part on the path that asked; none while reads are not served. -/
def execDebugRead (p : Fin 2) (off : BitVec 26) (s : State) : Res :=
  if off.toNat < 0x2000000 ∨ off.toNat % 8 ≠ 0 then notEnabled "not a word of the debug window (R428)"
  else if s.hasPart p && !s.dbgServed p then .next s
  else
    let r := s.winRead p off.toNat
    .next (r.1.emit (.regValue p off.toNat r.2))

/-- DEBUG_WRITE (R456). -/
def execDebugWrite (p : Fin 2) (off : BitVec 26) (v : Word) (s : State) : Res :=
  guarded (decide (0x2000000 ≤ off.toNat) && off.toNat % 8 == 0) "not a word of the debug window (R428)"
    (if s.dbgServed p then s.winWrite p off.toNat v false else s)

end Sys2Proof.Machine
end

