-- ==== Sys2Proof/Machine/Roce.lean ====
section
/-! DEFINITION. The service ports (09 R363–R366; 11 R401–R404; 12 R452): RDMA operations of far devices and of hosts, answers to
this package's own, queue-pair failure, PCS lock, congestion, flow control and router advertisements. -/

namespace Sys2Proof.Machine

/-! ### Queue pairs (R364, R401) -/

/-- Whom a local queue pair serves: host control connection c, far-device entry i, or nobody. -/
inductive Peer where
  | host (c : Nat)
  | far (i : Nat)
  | none
deriving DecidableEq, Repr

/-- The entry of a far device. -/
def State.farEntry (s : State) (p i : Nat) : Nat := (tabGet windowDefault (s.part p).far i).toNat

/-- The service ports of a partition. -/
def State.spsOf (s : State) (p : Nat) : List Nat := (List.range 4).filter fun o => s.partOfOe o == p

/-- The service port a far-device queue pair uses: the lowest of its mask with PCS lock (R364). -/
def State.farPort (s : State) (p i : Nat) : Option Nat :=
  (s.spsOf p).find? fun o => (s.farEntry p i).testBit (152 + o) && s.spLocked o

/-- The peer of a queue pair number of a partition, while its connection stands. -/
def State.peer (s : State) (p : Nat) (qp : BitVec 24) : Peer :=
  let n := qp.toNat
  if 0x0B0000 + 4 * p ≤ n ∧ n < 0x0B0000 + 4 * p + 4 then
    let c := n - (0x0B0000 + 4 * p)
    if (s.conn p c).up && s.spLocked (s.conn p c).sp then .host c else .none
  else if 0x0C0000 ≤ n ∧ n < 0x0C0000 + 4096 then
    let i := n - 0x0C0000
    if (s.farEntry p i).testBit 156 && (s.farPort p i).isSome then .far i else .none
  else .none

/-- The key under which a peer's requests are kept. -/
def Peer.key : Peer → Nat
  | .host c => hostKey c
  | .far i => 1024 + i
  | .none => 0

/-- A NAK of remote access error, of invalid request, of a failure at the home (PRESUMED, notes/assumptions/70.md). -/
def State.nakAccess (s : State) (p : Nat) (qp : BitVec 24) : State := s.emit (.roceNak p qp.toNat 2)
def State.nakInvalid (s : State) (p : Nat) (qp : BitVec 24) : State := s.emit (.roceNak p qp.toNat 1)
def State.nakHome (s : State) (p : Nat) (qp : BitVec 24) : State := s.emit (.roceNak p qp.toNat 3)

/-- The guard of every row of a queue pair. -/
def State.onPeer (s : State) (p : Nat) (qp : BitVec 24) (host : Nat → State) (far : Nat → State) : Res :=
  match s.peer p qp with
  | .none => notEnabled "no such queue pair stands (R364, R401)"
  | .host c => .next (host c)
  | .far i => .next (far i)

/-- The local address a remote virtual address names: bits [40:0] (R365). -/
def vaLocal (va : BitVec 64) : Nat := bits va.toNat 0 41

/-- Whether a span of bytes from a virtual address is memory of the partition. -/
def State.vaMemory (s : State) (p : Nat) (va : BitVec 64) (n : Nat) : Bool :=
  decide (va.toNat < 2 ^ 41) &&
    s.allMemory p (vaLocal va / 64 * 64) ((vaLocal va + n + 63) / 64 - vaLocal va / 64)

/-! ### Incoming operations (R365, R403) -/

/-- Write whole words of the set-up window. -/
def State.putWords (s : State) (p off : Nat) : List Nat → State
  | [] => s
  | w :: t => (s.winWrite p off (BitVec.ofNat 64 w) false).putWords p (off + 8) t

/-- The words of a byte list. -/
def wordsOf (bs : List Byte) : List Nat := elemsOf 8 bs

/-- RDMA_WRITE (R365, R366, R403): a far device's stores, performed before the acknowledgement; or register and doorbell writes
of a host. An R_Key of a far device's operation is not checked (DESIGN CHOICE, notes/assumptions/71.md). -/
def execRdmaWrite (p : Fin 2) (qp : BitVec 24) (rkey : BitVec 32) (va : BitVec 64) (data : List (BitVec 8)) (s : State) : Res :=
  let ack (t : State) : State := t.emit (.roceAck p qp.toNat)
  let n := data.length
  let a := va.toNat
  s.onPeer p qp
    (fun c =>
      let h := s.conn p c
      if rkey.toNat = h.regKey ∧ a % 8 = 0 ∧ n % 8 = 0 ∧ n ≠ 0 ∧ a + n ≤ 0x4000000 then ack (s.putWords p a (wordsOf data))
      else if rkey.toNat = h.dbKey ∧ a % 8 = 0 ∧ (n = 4 ∨ n = 8) ∧ a < 0x400 then
        let v := leAt data 0 4
        ack (if a < 0x200 then s.crDoorbell p (a / 8) v else s.cqDoorbell p ((a - 0x200) / 8) v)
      else s.nakAccess p qp)
    (fun _ => if s.vaMemory p va n then ack (s.putBytes p (vaLocal va) (n + 1) data) else s.nakAccess p qp)

/-- Read whole words of the set-up window. -/
def State.getWords (s : State) (p off : Nat) : Nat → State × List Byte
  | 0 => (s, [])
  | n + 1 =>
    let r := s.winRead p off
    let t := r.1.getWords p (off + 8) n
    (t.1, toLE 8 r.2.toNat ++ t.2)

/-- Read bytes of memory for the outside: none when a granule fails its check and so is not sent (R463). -/
def State.readOut (s : State) (p addr n : Nat) : State × Option (List Byte) :=
  let r := s.loadGrans p (addr / 64 * 64) ((addr + n + 63) / 64 - addr / 64)
  match r.2 with
  | none => (r.1, none)
  | some l =>
    if l.all fun g => g.2 == granCheck g.1 then (r.1, some (((checkedBytes l).drop (addr % 64)).take n))
    else (s.checkRecord p 6 0 0xFF 0 addr, none)

/-- RDMA_READ (R365, R403): answered from memory, or from the register or doorbell region. What a doorbell word reads is not
given: a free value (DESIGN CHOICE, notes/assumptions/69.md). -/
def execRdmaRead (p : Fin 2) (qp : BitVec 24) (rkey : BitVec 32) (va : BitVec 64) (n : Nat) (s : State) : Res :=
  let a := va.toNat
  s.onPeer p qp
    (fun c =>
      let h := s.conn p c
      if rkey.toNat = h.regKey ∧ a % 8 = 0 ∧ n % 8 = 0 ∧ n ≠ 0 ∧ a + n ≤ 0x4000000 then
        let r := s.getWords p a (n / 8)
        r.1.emit (.roceData p qp.toNat r.2)
      else if rkey.toNat = h.dbKey ∧ a % 8 = 0 ∧ n % 8 = 0 ∧ n ≠ 0 ∧ a + n ≤ 0x400 then
        let f := s.takeFree
        f.2.emit (.roceData p qp.toNat (toLE n (Config.freeNat f.1)))
      else s.nakAccess p qp)
    (fun _ =>
      if ! s.vaMemory p va n then s.nakAccess p qp
      else
        let r := s.readOut p (vaLocal va) n
        match r.2 with
        | some b => r.1.emit (.roceData p qp.toNat b)
        | none => r.1.nakHome p qp)

/-- An 8-byte atomic of a far device, answered with the old value (R365, R366). -/
def State.farAtomic (s : State) (p : Nat) (qp : BitVec 24) (va : BitVec 64) (op v c : Nat) : State :=
  if va.toNat % 8 ≠ 0 then s.nakInvalid p qp
  else if ! s.vaMemory p va 8 then s.nakAccess p qp
  else match s.atomic p (vaLocal va) op true v c with
    | some (t, some old) => t.emit (.roceAtomic p qp.toNat old)
    | some (t, none) => t.nakHome p qp
    | none => s.nakAccess p qp

/-- FETCH_ADD (R365): a NAK of invalid request when aimed at a host region (R403). -/
def execFetchAdd (p : Fin 2) (qp : BitVec 24) (va : BitVec 64) (v : BitVec 64) (s : State) : Res :=
  s.onPeer p qp (fun _ => s.nakInvalid p qp) (fun _ => s.farAtomic p qp va 0 v.toNat 0)

/-- CMP_SWAP (R365): as FETCH_ADD; the old value is compared with c and replaced by v. -/
def execCmpSwap (p : Fin 2) (qp : BitVec 24) (va : BitVec 64) (c v : BitVec 64) (s : State) : Res :=
  s.onPeer p qp (fun _ => s.nakInvalid p qp) (fun _ => s.farAtomic p qp va 3 v.toNat c.toNat)

/-- The answer of this package to a request that came by SEND: ops 6, 7 and 8 (R365). -/
def State.sendBack (s : State) (p : Nat) (qp : BitVec 24) (k : Packet) (op : Nat) (f : Packet → Packet) : State :=
  s.emit (.roceSend p qp.toNat (f { emptyPacket with
    op := op, srcEid := s.eid p 255, addr := k.addr, seq := k.seq, tag := k.tag, launch := (s.part p).gtc % 2 ^ 32 }))

/-- The answer to a request this package sent by SEND: it reaches the waiter of its tag (R365). -/
def State.sendAnswer (s : State) (p key : Nat) (k : Packet) : State :=
  match (s.part p).awaits.find? fun a => a.pix == key && a.tag == k.tag && (a.packet.op == 3 || a.packet.op == 4) with
  | none => s
  | some a =>
    let s := s.unawait p a
    match a.who with
    | .thread x l t =>
      s.answerThread x l t (if k.op = 8 then .failed (if bits k.aux 0 8 = 4 then .dataCheck else .addrRange) else .value k.opv)
    | .transfer _ _ _ | .none => s

/-- ROCE_SEND (R365, R366): a packet header of R356: an atomic or SEMSIG to perform here and answer by a SEND, or the answer
to one sent from here. -/
def execRoceSend (p : Fin 2) (qp : BitVec 24) (h : BitVec 512) (s : State) : Res :=
  let k := packetOf h []
  s.onPeer p qp (fun _ => s.nakAccess p qp) fun i =>
    if k.op = 3 ∨ k.op = 4 then
      let r := s.perform p k
      match r.2 with
      | .ok old => r.1.sendBack p qp k (if k.op = 3 then 6 else 7) fun x => { x with opv := if k.op = 3 then old else 0 }
      | .nak c => r.1.sendBack p qp k 8 fun x => { x with aux := c }
    else if k.op = 6 ∨ k.op = 7 ∨ k.op = 8 then s.sendAnswer p (1024 + i) k
    else s.nakInvalid p qp

/-! ### Answers to this package's own operations -/

/-- ROCE_ACK (R234, R366): the peer acknowledges every PSN up to the one of request `seq`; writes complete, fences go on. -/
def execRoceAck (p : Fin 2) (qp : BitVec 24) (seq : Nat) (s : State) : Res :=
  s.onPeer p qp (fun c => s.acked p (hostKey c) seq) (fun i => s.acked p (1024 + i) seq)

/-- RDMA_READ_RESPONSE (R462, R365): the oldest read of the queue pair is answered; each granule gets a new check, and the
response acknowledges what went before it. -/
def execRdmaReadResponse (p : Fin 2) (qp : BitVec 24) (data : List (BitVec 8)) (s : State) : Res :=
  let go (key : Nat) : State :=
    match (s.part p).awaits.find? fun a => a.pix == key && a.packet.op == 1 with
    | none => s
    | some a =>
      let g : Gran := BitVec.ofNat 512 (ofLE (data.take 64))
      let n := if a.packet.bytes = 0 then 8 else a.packet.bytes
      let s := if a.packet.seq = 0 then s.unawait p a else (s.unawait p a).acked p key a.packet.seq
      s.deliverRead p a (some (g, granCheck g)) (leAt data 0 n)
  s.onPeer p qp (fun c => go (hostKey c)) (fun i => go (1024 + i))

/-- ATOMIC_ACKNOWLEDGE (R365): the old value of the oldest FETCH_ADD or CMP_SWAP returns to its thread. -/
def execAtomicAcknowledge (p : Fin 2) (qp : BitVec 24) (old : BitVec 64) (s : State) : Res :=
  let go (key : Nat) : State :=
    match (s.part p).awaits.find? fun a => a.pix == key && a.packet.op == 3 with
    | none => s
    | some a =>
      let s := (s.unawait p a).acked p key a.packet.seq
      match a.who with
      | .thread x l t => s.answerThread x l t (.value old.toNat)
      | .transfer _ _ _ | .none => s
  s.onPeer p qp (fun _ => s) (fun i => go (1024 + i))

/-- Every read, write and atomic outstanding on a far-device queue pair is in the unknown state (R225, R366): a LINK record. -/
def State.farFails (s : State) (p i : Nat) : State :=
  let s := (s.loseRequests p (1024 + i)).failAwaits p (1024 + i)
  s.record p 4 10 i

/-- QP_RETRY_EXHAUSTION (R366). -/
def execQpRetryExhaustion (p : Fin 2) (i : Fin 4096) (s : State) : Res :=
  guarded ((s.farEntry p i).testBit 156) "the entry is not in use (R364)" (s.farFails p i)

/-! ### Ports (R364, R323) -/

/-- Whether a service port has light to work with (R323). -/
def State.spLit (s : State) (o : Nat) : Bool := s.lightEn o && !s.rdB F.OE_LASER_STS_absorber 0 o

/-- The lanes that carry a port of their own (R323). -/
def State.spLane (s : State) (o lane : Nat) : Bool := lane == 0 || s.rdB F.OE_SP_STS_mode 0 o

/-- PCS_LOCK_GAINED (R364, R436): a port of the service port aligns. -/
def execPcsLockGained (o : Fin 4) (lane : Fin 4) (s : State) : Res :=
  guarded (s.spLit o && s.spLane o lane) "the service port has no light or no such port (R323)"
    (let bit := 2 ^ lane.val
     let s := s.wr F.OE_SP_STS_lane_sig ((s.rd F.OE_SP_STS_lane_sig 0 o) ||| (if s.rdB F.OE_SP_STS_mode 0 o then bit else 15)) 0 o
     s.wr F.OE_SP_STS_pcs_lock ((s.rd F.OE_SP_STS_pcs_lock 0 o) ||| bit) 0 o)

/-- PCS_LOCK_LOSS (R364, R412): queue pairs use the next locked port; with none left on the service port its host connections
fail. -/
def execPcsLockLoss (o : Fin 4) (lane : Fin 4) (s : State) : Res :=
  let bit := 2 ^ lane.val
  let was := s.rd F.OE_SP_STS_pcs_lock 0 o
  guarded (bits was lane 1 == 1) "the port has no PCS lock (R323)"
    (let s := s.wr F.OE_SP_STS_pcs_lock (was - bit) 0 o
     if s.spLocked o then s else s.portConnsFail o)

/-- CONGESTION_NOTIFICATION_PACKET (R364): the queue pair's send rate is reduced; by how much is a free value. -/
def execCongestionNotificationPacket (p : Fin 2) (i : Fin 4096) (s : State) : Res :=
  guarded ((s.farEntry p i).testBit 156) "the entry is not in use (R364)"
    (let rate : Nat → Nat := fun _ => 2 ^ 32
     let old := tabGet rate (s.part p).rates i
     let f := s.takeFree
     f.2.updPart p fun q => { q with rates := tabSet rate q.rates i (Config.freeNat f.1 % max old 1) })

/-- The configuration record of the half a service port lies in. -/
def State.spConfig (s : State) (o : Nat) : List Byte := (s.flash (o / 2)).config

/-- The PFC priority of a service port (R451). -/
def State.spPriority (s : State) (o : Nat) : Nat := bits (leAt (s.spConfig o) (0x28 + 32 * o + 22) 2) 13 3

/-- PFC_PAUSE (R364): a pause of the configured priority stops or resumes transmission; other priorities do not concern the
port. What a paused port holds back is timing (DESIGN CHOICE, notes/assumptions/72.md). -/
def execPfcPause (o : Fin 4) (prio : Fin 8) (pause : Bool) (s : State) : Res :=
  if prio.val = s.spPriority o then .next { s with pfc := tabSet natDefault s.pfc o (b2n pause) } else .next s

def routerDefault : Nat → BitVec 128 := fun _ => 0

/-- ROUTER_ADVERTISEMENT (R452): the port learns its default router; a lifetime of 0 withdraws it. -/
def execRouterAdvertisement (o : Fin 4) (router : BitVec 128) (life : BitVec 16) (s : State) : Res :=
  .next { s with routers := tabSet routerDefault s.routers o (if life.toNat = 0 then 0 else router) }

end Sys2Proof.Machine
end

