-- ==== Sys2Proof/Machine/Host.lean ====
section
/-! DEFINITION. The host interface (11): control connections, address resolution, the I3C targets, fetching and starting commands
with their checks (R418–R420, R425–R427), and completion records. -/

namespace Sys2Proof.Machine

/-! ### Host control connections (R401, R402, R412) -/

/-- HOST_CONN_REQ (R401, R402): a REQ arrives on a service port, naming a partition; the lowest free index is given, or REJ. The
R_Keys of the two regions are free values. -/
def execHostConnReq (o : Fin 4) (target : BitVec 8) (qpn : BitVec 24) (s : State) : Res :=
  let p := s.partOfOe o
  guarded (s.spLocked o && (s.part p).state != .cold) "the service port does not answer (R404)"
    (match (List.range 4).find? fun c => !(s.conn p c).up with
     | none => s.emit (.cmRej o)
     | some c =>
       if target.toNat ≠ p then s.emit (.cmRej o)
       else
         let f := s.takeFree
         let k := Config.freeNat f.1
         let h : HostConn := {
           up := true, sp := o, hostQpn := qpn.toNat, regKey := k % 2 ^ 32
           dbKey := (k % 2 ^ 32 + 1 + k / 2 ^ 32 % (2 ^ 32 - 1)) % 2 ^ 32 }
         (f.2.setConn p c h).emit (.cmRep o p c h.regKey h.dbKey))

/-- HOST_CONN_LOST (R412): retry exhaustion or a disconnect request. -/
def execHostConnLost (p : Fin 2) (c : Fin 4) (s : State) : Res :=
  guarded (s.conn p c).up "the connection is not established (R412)" (s.connFail p c)

/-! ### Addresses of the service ports (R404, R448, R451) -/

/-- Whether a configuration record is valid (R451, R452). -/
def configValid (b : List Byte) : Bool :=
  b.length == 1024 && leAt b 0 4 == 0x47464E43 && leAt b 4 2 == 1 && leAt b 0x3FC 4 == crc32C (b.take 0x3FC) &&
    (List.range 4).all fun o => leAt b (0x28 + 32 * o + 24) 1 < 4 || leAt b (0x28 + 32 * o + 24) 1 == 0xFF

/-- The MAC address of a service port, its first byte lowest (R448, R451). -/
def State.spMac (s : State) (o : Nat) : List Byte :=
  let b := s.spConfig o
  if configValid b then (b.drop (8 + 8 * o)).take 6 else toLE 1 2 ++ (toLE 8 s.fuses.serial.toNat).take 4 ++ toLE 1 o

/-- The link-local address autoconfiguration forms from a MAC address (PRESUMED, notes/assumptions/76.md). -/
def linkLocal (mac : List Byte) : Nat :=
  ofBE (toBE 8 0xFE80000000000000 ++ toBE 1 ((mac.headD 0).toNat ^^^ 2) ++ (mac.drop 1).take 2 ++ toBE 2 0xFFFE ++ mac.drop 3)

/-- The IPv4 address of a port, 0 for none. -/
def State.spIp4 (s : State) (o : Nat) : Nat :=
  let b := s.spConfig o
  if configValid b then ofBE ((b.drop (0x28 + 32 * o + 17)).take 4) else 0

/-- The IPv6 addresses of a port. -/
def State.spIp6 (s : State) (o : Nat) : List Nat :=
  let b := s.spConfig o
  let set := if configValid b then ofBE ((b.drop (0x28 + 32 * o)).take 16) else 0
  linkLocal (s.spMac o) :: (if set = 0 then [] else [set])

/-- The partition answers on a service port (R404, R439). -/
def State.spAnswers (s : State) (o : Nat) : Bool := s.spLocked o && (s.part (s.partOfOe o)).state != .cold

/-- ARP_REQUEST (R404). -/
def execArpRequest (o : Fin 4) (ip : BitVec 32) (s : State) : Res :=
  if s.spAnswers o && ip.toNat == s.spIp4 o && ip.toNat != 0 then .next (s.emit (.arpReply o ip.toNat)) else .next s

/-- NEIGHBOUR_SOLICITATION (R404). -/
def execNeighbourSolicitation (o : Fin 4) (ip : BitVec 128) (s : State) : Res :=
  if s.spAnswers o && (s.spIp6 o).contains ip.toNat then .next (s.emit (.neighbourAdvert o ip.toNat)) else .next s

/-- ICMP_ECHO (R404): an IPv4 address comes as its value, an IPv6 one as its own. -/
def execIcmpEcho (o : Fin 4) (ip : BitVec 128) (data : List (BitVec 8)) (s : State) : Res :=
  if s.spAnswers o && ((s.spIp6 o).contains ip.toNat || (ip.toNat == s.spIp4 o && ip.toNat != 0)) then
    .next (s.emit (.echoReply o ip.toNat data))
  else .next s

/-! ### I3C (R405) -/

/-- An I3C target. -/
def State.i3c (s : State) (h : Nat) : I3c := if h = 1 then s.i3c1 else s.i3c0

def State.updI3c (s : State) (h : Nat) (f : I3c → I3c) : State :=
  if h = 1 then { s with i3c1 := f s.i3c1 } else { s with i3c0 := f s.i3c0 }

/-- The static address of a half's target (R521). -/
def State.i3cStatic (s : State) (h : Nat) : Nat := 0x60 + 2 * (s.i3c h).sa.toNat + h

/-- The address a target answers at: its static one until it has been given another (R405). -/
def State.i3cAddr (s : State) (h : Nat) : Nat := ((s.i3c h).dyn).getD (s.i3cStatic h)

/-- Whether a target answers at all (R439): not in cold reset. -/
def State.i3cAnswers (s : State) (h : Nat) : Bool := (s.part (s.partOfHalf h)).state != .cold

/-- Whether it answers busy (R439): the first millisecond of BOOTING; not when straps hold the part there (R434). -/
def State.i3cBusy (s : State) (h : Nat) : Bool :=
  let p := s.partOfHalf h
  (s.part p).state == .booting && s.rd F.BOOT_STS_stage p == 0 && !s.rdB F.BOOT_STS_strap_err p

/-- The status of a private write: its CRC-8, then its offset (R405). -/
def i3cStatus (bytes : List Byte) (n : Nat) : Nat :=
  if crc8 (bytes.take (n - 1)) ≠ leAt bytes (n - 1) 1 then 1 else if leAt bytes 1 4 % 8 ≠ 0 ∨ 2 ^ 26 ≤ leAt bytes 1 4 then 2 else 0

/-- A private write of n bytes whose first is `op`: busy, refused, or performed. -/
def State.i3cWrite (s : State) (h : Nat) (bytes : List Byte) (n op : Nat) (f : State → Nat → State) : Res :=
  if ! s.i3cAnswers h then notEnabled "the target does not answer in cold reset (R439)"
  else if bytes.length ≠ n ∨ leAt bytes 0 1 ≠ op then notEnabled "the transfer is another one (R405)"
  else if s.i3cBusy h then .next (s.updI3c h fun t => { t with status := 3 })
  else
    let st := i3cStatus bytes n
    if st ≠ 0 then .next (s.updI3c h fun t => { t with status := st }) else .next (f s (leAt bytes 1 4))

/-- I3C_REGISTER_WRITE (R405). -/
def execI3cRegisterWrite (h : Fin 2) (bytes : List (BitVec 8)) (s : State) : Res :=
  s.i3cWrite h bytes 14 0x02 fun s off =>
    (s.winWrite (s.partOfHalf h) off (BitVec.ofNat 64 (leAt bytes 5 8)) true).updI3c h fun t => { t with value := 0, status := 0 }

/-- I3C_READ_REQUEST (R405). -/
def execI3cReadRequest (h : Fin 2) (bytes : List (BitVec 8)) (s : State) : Res :=
  s.i3cWrite h bytes 6 0x01 fun s off =>
    let r := s.winRead (s.partOfHalf h) off
    r.1.updI3c h fun t => { t with value := r.2, status := 0 }

/-- I3C_PRIVATE_READ (R405): value, status and CRC-8. -/
def execI3cPrivateRead (h : Fin 2) (s : State) : Res :=
  let t := s.i3c h
  let st := if s.i3cBusy h then 3 else t.status
  guarded (s.i3cAnswers h) "the target does not answer in cold reset (R439)"
    (s.emit (.i3cAnswer h t.value st (crc8 (toLE 8 t.value.toNat ++ toLE 1 st))))

/-- ENTDAA (R405): the controller assigns a dynamic address. -/
def execEntdaa (h : Fin 2) (addr : BitVec 7) (s : State) : Res :=
  guarded (s.i3cAnswers h) "the target does not answer in cold reset (R439)" (s.updI3c h fun t => { t with dyn := some addr.toNat })

/-! ### Fetching entries (R409) -/

/-- The entries fetched of a ring. -/
def State.fetchedOf (s : State) (p r : Nat) : List (List Byte) := tabGet (fun _ => ([] : List (List Byte))) (s.part p).fetched r

/-- COMMAND_FETCH (R409): the next entry of a ring arrives from host memory. -/
def execCommandFetch (p : Fin 2) (r : Fin 64) (desc : List (BitVec 8)) (s : State) : Res :=
  let l := s.fetchedOf p r
  let n := l.length + b2n (s.openOf p (srcOf r)).isSome
  let left := (s.rd F.HIF_CR_STS_producer p r + 2 ^ 32 - s.rd F.HIF_CR_STS_consumer p r) % 2 ^ 32
  let on := s.rdB F.HIF_CR_CFG_enable p r && !s.rdB F.HIF_CR_CFG_stopped p r && (s.conn p (s.rd F.HIF_CR_CFG_conn p r)).up
  guarded (on && desc.length == 64 && decide (n < left) && decide (l.length < 8) && (s.part p).state != .booting)
    "no entry of the ring is to be fetched (R409)"
    (s.updPart p fun q => { q with fetched := tabSet (fun _ => ([] : List (List Byte))) q.fetched r (l ++ [desc]) })

/-! ### Step 1: decode (R413, R418, R422–R424) -/

/-- Bytes of an argument with bits outside `allowed`. -/
def OpenCmd.resv (o : OpenCmd) (base allowed : Nat) : List Nat :=
  let bad := o.field base 8 - (o.field base 8 &&& allowed)
  ((List.range 8).filter fun i => bits bad (8 * i) 8 != 0).map (base + ·)

/-- An offending field when a condition fails. -/
def need (ok : Bool) (off : Nat) : List Nat := if ok then [] else [off]

/-- Ones in the low w bits. -/
def ones (w : Nat) : Nat := 2 ^ w - 1

/-- A memory command's address and length: 8-byte units in the set-up window, 64-byte units elsewhere (R422). -/
def OpenCmd.memFaults (o : OpenCmd) : List Nat :=
  let u := if regsBase ≤ o.arg0 ∧ o.arg0 < regsBase + 0x4000000 then 8 else 64
  need (o.arg0 % u == 0) 8 ++ o.resv 16 (ones 32) ++ need (o.arg1 % u == 0) 16

/-- The unit field of RESET_UNIT (R423): its width, and whether the unit lies in the partition. -/
def State.resetUnit (s : State) (p kind u : Nat) : Nat × Bool :=
  if kind = 0 then (0, true) else if kind = 1 then (1, !s.twoPart) else if kind = 2 then (2, s.partOfOe u == p)
  else if kind = 3 then (4, s.partOfTile u == p) else if kind = 4 then (5, s.partOfPort u == p)
  else if kind = 5 then (10, s.partOfCore (u % 64) == p) else if kind = 6 then (2, s.partOfOe u == p) else (5, s.partOfGather u == p)

/-- The offending bytes of PORT_CTL (R422, R423). -/
def State.portCtlFaults (s : State) (p : Nat) (o : OpenCmd) : List Nat :=
  let t := bits o.arg0 0 8
  let a := bits o.arg1 0 4
  let port := decide (t < 32) && s.partOfPort t == p
  let eng := decide (0x40 ≤ t ∧ t < 0x44) && s.partOfOe (t - 0x40) == p
  o.resv 8 (ones 8) ++ need (port || eng) 8 ++ o.resv 16 (if a = 4 then ones 9 else ones 4) ++
    need (decide (a < (if eng then 2 else 5)) && decide (bits o.arg1 4 5 < 16)) 16

/-- The offending bytes of SET_POLICY (R424). -/
def State.policyFaults (s : State) (p : Nat) (o : OpenCmd) : List Nat :=
  let item := bits o.arg0 0 8
  o.resv 8 (ones 8) ++ need (decide (1 ≤ item ∧ item ≤ 5)) 8 ++
    (if item = 1 then o.resv 16 (ones 5) ++ need ((List.range 4).all fun e => !o.arg1.testBit e || s.partOfOe e == p) 16
     else if item = 3 then o.resv 16 (ones 12) else if item = 4 then o.resv 16 (ones 8) else o.resv 16 1)

/-- The offending bytes of an opcode's arguments. -/
def State.argFaults (s : State) (p : Nat) (o : OpenCmd) : List Nat :=
  let op := o.opcode
  let none3 := o.resv 8 0 ++ o.resv 16 0 ++ o.resv 24 0
  if op = 0x01 then o.resv 8 (ones 8) ++ need (decide (bits o.arg0 0 8 < 4)) 8 ++ o.resv 16 0 ++ o.resv 24 0
  else if op = 0x03 ∨ op = 0x04 then o.memFaults
  else if op = 0x10 then
    need (o.arg0 % 64 == 0) 8 ++ o.resv 16 (ones 48) ++ o.resv 24 (ones 9)
  else if op = 0x11 then o.resv 8 (ones 14) ++ o.resv 16 0 ++ o.resv 24 0
  else if op = 0x13 then need (o.arg0 % 72 == 0) 8 ++ o.resv 16 0 ++ o.resv 24 0
  else if op = 0x15 then o.resv 16 0 ++ o.resv 24 0
  else if op = 0x20 then o.resv 8 (ones 6) ++ need (s.partOfCore (bits o.arg0 0 6) == p) 8 ++ o.resv 16 0 ++ o.resv 24 0
  else if op = 0x21 then s.portCtlFaults p o ++ o.resv 24 0
  else if op = 0x22 then
    o.resv 8 (ones 32) ++ (((List.range 32).filter fun q => o.arg0.testBit q && s.partOfPort q != p).map fun q => 8 + q / 8) ++
      o.resv 16 0 ++ o.resv 24 0
  else if op = 0x23 then s.policyFaults p o ++ o.resv 24 0
  else if op = 0x30 then o.resv 8 (ones 8) ++ need (decide (bits o.arg0 0 8 < 3)) 8 ++ o.resv 16 0 ++ o.resv 24 0
  else if op = 0x31 then
    o.resv 8 (ones 8) ++ need (decide (bits o.arg0 0 8 < 3)) 8 ++ need (o.arg1 % 64 == 0) 16 ++ o.resv 24 (ones 8)
  else if op = 0x32 then o.resv 8 3 ++ need (decide (bits o.arg0 0 2 < 3)) 8 ++ o.resv 16 0 ++ o.resv 24 0
  else if op = 0x33 then
    let k := bits o.arg0 0 4
    let u := s.resetUnit p k (bits o.arg1 0 10)
    o.resv 8 (ones 4) ++ need (decide (k < 8)) 8 ++ o.resv 16 (ones u.1) ++ need u.2 (if k = 1 then 8 else 16) ++ o.resv 24 0
  else if op = 0x38 then
    need (o.arg0 % 64 == 0) 8 ++ o.resv 16 (ones 32) ++ o.resv 24 (ones 16) ++ need (decide (bits o.arg2 8 8 < 2)) 25
  else if op = 0x39 then o.resv 8 1 ++ o.resv 16 0 ++ o.resv 24 0
  else none3

/-- Whether an opcode's extension length is one it has (R422, R424, R449, R501, R505). -/
def extOk (o : OpenCmd) : Bool :=
  let n := o.field 2 2
  let op := o.opcode
  let k := bits o.arg0 0 8
  if op = 0x10 ∨ op = 0x38 then n == 1
  else if op = 0x11 then decide (1 ≤ n ∧ n ≤ 4096)
  else if op = 0x23 then n == (if k = 3 ∨ k = 4 then 1 else 0)
  else if op = 0x30 then n == (if k = 2 then 0 else 3)
  else if op = 0x31 then n == (if k = 0 then 1 else 0)
  else n == 0

/-- Whether the command came through the mailbox. -/
def OpenCmd.mbox (o : OpenCmd) : Bool := o.src == .mailbox

/-- Whether a command is critical (R421). -/
def critical (op : Nat) : Bool :=
  match cmdRow op with
  | some r => r.1
  | none => false

/-- Step 1 of R418: the first offending byte, if any. -/
def State.decodeFault (s : State) (p : Nat) (o : OpenCmd) : Option Nat :=
  let auth := (o.field 1 1).testBit 0
  let mboxBad := o.mbox && critical o.opcode && !s.rdB F.HIF_CTL_mbox_crit p
  let zeros (base n : Nat) : List Nat := ((List.range n).filter fun i => o.field (base + i) 1 != 0).map (base + ·)
  let l := need ((cmdRow o.opcode).isSome && !mboxBad) 0 ++ need (decide (o.field 1 1 < 2)) 1 ++
    need (extOk o && !(o.mbox && decide (64 < o.field 2 2))) 2 ++ s.argFaults p o ++
    need (o.mbox || o.field 2 2 == 0 || o.field 0x20 8 % 64 == 0) 0x20 ++
    (if auth then [] else zeros 0x28 8 ++ zeros 0x30 16)
  l.min?

/-! ### Steps 2 to 4 (R418, R420, R425–R427, R500, R503) -/

/-- Whether an action or kind is refused in ARMED and RUNNING (R423). -/
def OpenCmd.needsRest (o : OpenCmd) : Bool :=
  (o.opcode == 0x21 && bits o.arg1 0 4 != 0) || (o.opcode == 0x33 && bits o.arg0 0 4 != 0)

/-- Step 2: legal in the present state (R421, R423). -/
def State.legalNow (s : State) (p : Nat) (o : OpenCmd) : Bool :=
  let st := (s.part p).state
  legalIn o.opcode st && !(o.needsRest && (st == .armed || st == .running))

/-- A SEC record of the kinds of R471 and R511. -/
def State.secRecord (s : State) (p kind info0 : Nat) : State := s.record p 8 kind 0 (info0 := info0)

/-- A write to the secure store has failed (R494, R511). -/
def State.storeErr (s : State) (p slot : Nat) : State :=
  (s.flag F.SEC_EVT_store_err F.SEC_EVT_CNT_store_cnt p).secRecord p 19 slot

/-- Store the last-accepted counter (R427, R504). -/
def State.setCounter (s : State) (p c : Nat) : State :=
  if p = 1 then { s with vault := { s.vault with mc2 := c } } else { s with vault := { s.vault with mc1 := c } }

/-- The MAC of a command (R426). -/
def State.macOf (s : State) (p : Nat) (key : List Byte) (o : OpenCmd) (ext : List Byte) : List Byte :=
  (hmacSha256 key (toLE 8 s.fuses.serial.toNat ++ toLE 1 p ++ o.desc.take 0x30 ++ ext)).take 16

/-- What authentication decides (R425–R427, R500): go on, or a status and detail, and the state after it. `storeOk` says whether
the secure store takes the counter. -/
def State.authenticate (s : State) (p : Nat) (o : OpenCmd) (ext : List Byte) (storeOk : Bool) : State × Option (Nat × Nat × Nat) :=
  let auth := (o.field 1 1).testBit 0
  let crit := critical o.opcode
  let install := o.opcode == 0x30 && bits o.arg0 0 8 == 0
  match s.cmdKey p with
  | none => (s, if (crit && !install) || (auth && !install) then some (0x1A, 1, 0) else none)
  | some key =>
    if ! auth then (s, if crit then some (0x03, 0, 0) else none)
    else if s.macOf p key o ext ≠ (o.desc.drop 0x30).take 16 then (s.secRecord p 1 (o.field 0 8), some (0x04, 0, 0))
    else
      let c := o.field 0x28 8
      let last := s.lastCounter p
      if c = 0 ∨ c ≤ last then (s.secRecord p 2 (o.field 0 8), some (0x05, 0, last))
      else if ! storeOk then (s.storeErr p (1 + p), some (0x1A, 8, 0))
      else (s.setCounter p c, none)

/-- The extension of a command: the host's answer to its fetch, or the mailbox buffer (R406, R418 step 3). -/
def State.extension (s : State) (p : Nat) (o : OpenCmd) (ext : Option (List Byte)) : Option (List Byte) :=
  let n := 64 * o.field 2 2
  if n = 0 then some []
  else if o.mbox then some (((List.range (n / 8)).flatMap fun j => toLE 8 (s.reg .HIF_MBOX_EXT p j).toNat))
  else ext.map (padTo n)

/-- Steps 2 to 4 on an open command. -/
def State.checkSteps (s : State) (p : Nat) (o : OpenCmd) (ext : Option (List Byte)) (storeOk : Bool) : State :=
  if ! s.legalNow p o then s.complete p o.src 0x01 0 0 0
  else match s.extension p o ext with
    | none => s.complete p o.src 0x06 1 0 0
    | some b =>
      let r := s.authenticate p o b storeOk
      match r.2 with
      | some (st, d, v) => r.1.complete p o.src st d v 0
      | none => r.1.setOpen p { o with ext := b, checked := true }

/-- Start an open command: step 1, then the control slot for a control command, then the rest (R418, R420). -/
def State.startOpen (s : State) (p : Nat) (o : OpenCmd) (ext : Option (List Byte)) (storeOk : Bool) : State :=
  match s.decodeFault p o with
  | some d => s.complete p o.src 0x02 d 0 0
  | none =>
    if ! isControl o.opcode then s.checkSteps p o ext storeOk
    else if (s.part p).slotHolder.isSome ∨ (s.part p).slotWait ≠ [] then
      (s.setOpen p { o with note := 1 }).updPart p fun q => { q with slotWait := q.slotWait ++ [o.src] }
    else (s.updPart p fun q => { q with slotHolder := some o.src }).checkSteps p o ext storeOk

/-- COMMAND_START (R409, R418): the next fetched entry of a ring, or the mailbox command, starts. -/
def execCommandStart (p : Fin 2) (r : Fin 65) (ext : Option (List (BitVec 8))) (storeOk : Bool) (s : State) : Res :=
  if r.val = 64 then
    match s.openOf p .mailbox with
    | some o =>
      if o.checked || o.note == 1 then notEnabled "the mailbox command has started (R406)" else .next (s.startOpen p o ext storeOk)
    | none => notEnabled "the mailbox holds no command (R406)"
  else
    match s.fetchedOf p r with
    | [] => notEnabled "no entry of the ring has been fetched (R409)"
    | d :: rest =>
      let waits := (s.part p).records.any fun c => c.ring == r.val
      if (s.openOf p (srcOf r)).isSome || waits || s.rdB F.HIF_CR_CFG_stopped p r || (s.part p).state == .booting then
        notEnabled "the ring starts no command now (R409–R411)"
      else
        let o : OpenCmd := { src := srcOf r, desc := d, ext := [], checked := false, stage := 0, note := 0, orphan := false }
        let s := s.updPart p fun q => { q with
          fetched := tabSet (fun _ => ([] : List (List Byte))) q.fetched r rest, opens := q.opens ++ [o] }
        .next (s.startOpen p o ext storeOk)

/-- CONTROL_SLOT_GRANT (R420): the first waiting control command takes the slot and is checked against the present state. -/
def execControlSlotGrant (p : Fin 2) (ext : Option (List (BitVec 8))) (storeOk : Bool) (s : State) : Res :=
  match (s.part p).slotWait with
  | [] => notEnabled "no control command waits (R420)"
  | src :: rest =>
    if (s.part p).slotHolder.isSome then notEnabled "the control slot is held (R420)"
    else match s.openOf p src with
      | none => notEnabled "the waiting command is gone (R412)"
      | some o =>
        .next ((s.updPart p fun q => { q with slotWait := rest, slotHolder := some src }).checkSteps p o ext storeOk)

/-! ### Completion records (R410, R411, R414) -/

/-- Whether a completion ring takes a record now (R410). -/
def State.cqRoom (s : State) (p q : Nat) : Bool :=
  let W := s.rd F.HIF_CQ_STS_written p q
  let H := s.rd F.HIF_CQ_STS_host_consumed p q
  s.rdB F.HIF_CQ_CFG_enable p q && (s.conn p (s.rd F.HIF_CQ_CFG_conn p q)).up &&
    decide ((W + 2 ^ 32 - H) % 2 ^ 32 < 2 ^ s.rd F.HIF_CQ_CFG_log_size p q)

/-- Write a record into its completion ring. -/
def State.writeRecord (s : State) (p : Nat) (c : CplRec) : State :=
  let W := s.rd F.HIF_CQ_STS_written p c.cq
  let n := 2 ^ s.rd F.HIF_CQ_CFG_log_size p c.cq
  let addr := (s.reg .HIF_CQ_ADDR p c.cq).toNat + 32 * (W % n)
  let s := s.emit (.hostWrite p (s.rd F.HIF_CQ_CFG_conn p c.cq) (s.rd F.HIF_CQ_CFG_rkey p c.cq) addr (c.bytes (1 - W / n % 2)))
  let s := s.count F.HIF_CQ_STS_written 1 p c.cq
  let s := s.updPart p fun q => { q with records := removeAt q.records (q.records.findIdx (· == c)) }
  if c.stop then s.wr F.HIF_CR_CFG_stopped 1 p c.ring else s

/-- COMPLETION_WRITE (R410): the oldest waiting record of a completion ring is written. -/
def execCompletionWrite (p : Fin 2) (q : Fin 64) (s : State) : Res :=
  match (s.part p).records.find? fun c => c.cq == q.val with
  | none => notEnabled "no record waits for the ring (R410)"
  | some c => guarded (s.cqRoom p q) "the ring has no free slot (R410)" (s.writeRecord p c)

end Sys2Proof.Machine
end

