-- ==== Sys2Proof/Machine/Cmds.lean ====
section
/-! DEFINITION. Host commands that have passed their checks run and complete (11 R422–R424): inspection, memory, CLEAR_FAULT,
PORT_CTL, CAL_OPTICS and SET_POLICY. -/

namespace Sys2Proof.Machine

/-- The guard of a command's row: it is in progress at that source, its checks have passed, it has not run. -/
def State.onCommand (s : State) (p r op : Nat) (f : OpenCmd → State) : Res :=
  match s.fresh? p r op with
  | none => notEnabled "no such command is in progress there (R418)"
  | some o => .next (f o)

/-- Complete with OK. -/
def State.completeOk (s : State) (p : Nat) (o : OpenCmd) (r0 r1 : Nat) : State := s.complete p o.src 0 0 r0 r1

/-! ### Inspection -/

/-- NOP_COMMAND (R421). -/
def execNopCommand (p : Fin 2) (r : Fin 65) (s : State) : Res := s.onCommand p r 0x00 fun o => s.completeOk p o 0 0

/-- The results of a QUERY page (R422). -/
def State.queryPage (s : State) (p page : Nat) : Nat × Nat :=
  if page = 0 then (s.readReg p .ID_DEVICE 0 0 0, s.fuses.serial.toNat)
  else if page = 1 then (s.readReg p .ID_FL_STS 0 0 0, 0)
  else if page = 2 then (s.fwBuild p, s.rd F.NET_STS_lpl p + 1 * 2 ^ 8)
  else (64 + 64 * 2 ^ 16 + 256 * 2 ^ 32 + 16 * 2 ^ 48, 4096)

/-- QUERY (R422). -/
def execQuery (p : Fin 2) (r : Fin 65) (s : State) : Res :=
  s.onCommand p r 0x01 fun o => let x := s.queryPage p (bits o.arg0 0 8); s.completeOk p o x.1 x.2

/-- READ_STATE (R422). -/
def execReadState (p : Fin 2) (r : Fin 65) (s : State) : Res :=
  s.onCommand p r 0x02 fun o => s.completeOk p o (s.readReg p .SCH_STS 0 0 0) (s.part p).gtc

/-! ### Memory (R422, R234) -/

/-- Where a memory command's span lies: memory, the set-up window, or nowhere with the first address outside. -/
inductive Place where
  | memory
  | window (off : Nat)
  | outside (addr : Nat)
deriving DecidableEq, Repr

/-- The place of n bytes from a local address (R422). -/
def State.placeOf (s : State) (p addr n : Nat) : Place :=
  if regsBase ≤ addr ∧ addr < regsBase + 0x4000000 then
    (if addr + n ≤ regsBase + 0x4000000 then .window (addr - regsBase) else .outside (regsBase + 0x4000000))
  else
    match (List.range (n / 64)).find? fun i => !s.allMemory p (addr + 64 * i) 1 with
    | some i => .outside (addr + 64 * i)
    | none => if n = 0 ∧ !s.allMemory p addr 1 then .outside addr else .memory

/-- WRITE_MEM (R422, R234, R462): the host's answer to the read of its window is written, each granule with a new check. -/
def execWriteMem (p : Fin 2) (r : Fin 65) (data : Option (List (BitVec 8))) (s : State) : Res :=
  s.onCommand p r 0x03 fun o =>
    let n := bits o.arg1 0 32
    let d := s.windowDetail p (bits o.arg2 0 8) (64 * bits o.arg2 8 56) n false
    if d ≠ 0 then s.complete p o.src 0x06 d 0 0
    else match s.placeOf p o.arg0 n with
      | .outside a => s.complete p o.src 0x16 0 a 0
      | .window off =>
        match data with
        | none => s.complete p o.src 0x06 1 0 0
        | some b => (s.putWords p off (wordsOf (padTo n b))).completeOk p o n 0
      | .memory =>
        match data with
        | none => s.complete p o.src 0x06 1 0 0
        | some b => (s.putBytes p o.arg0 (n / 64) (padTo n b)).completeOk p o n 0

/-- Where a host window's offset lies: connection, R_Key and host address (R424). -/
def State.windowPlace (s : State) (p win off : Nat) : Nat × Nat × Nat :=
  let e := (tabGet windowDefault (s.part p).windows win).toNat
  (bits e 160 2, bits e 128 32, (bits e 0 64 + off) % 2 ^ 64)

/-- Bytes written to a host window. -/
def State.toWindow (s : State) (p win off : Nat) (b : List Byte) : State :=
  let w := s.windowPlace p win off
  s.emit (.hostWrite p w.1 w.2.1 w.2.2 b)

/-- READ_MEM (R422, R463): each granule's check is verified as it leaves; the data precedes the record. -/
def execReadMem (p : Fin 2) (r : Fin 65) (s : State) : Res :=
  s.onCommand p r 0x04 fun o =>
    let n := bits o.arg1 0 32
    let win := bits o.arg2 0 8
    let off := 64 * bits o.arg2 8 56
    let d := s.windowDetail p win off n true
    if d ≠ 0 then s.complete p o.src 0x06 d 0 0
    else match s.placeOf p o.arg0 n with
      | .outside a => s.complete p o.src 0x16 0 a 0
      | .window w =>
        let x := s.getWords p w (n / 8)
        (x.1.toWindow p win off x.2).completeOk p o n 0
      | .memory =>
        let x := s.readMem p o.arg0 (n / 64) []
        match x.2 with
        | .ok b => (x.1.toWindow p win off b).completeOk p o n 0
        | .error a => (x.1.checkRecord p 5 0 0xFF 0 a).complete p o.src 0x17 0 a 0

/-! ### CLEAR_FAULT (R416, R476) -/

/-- CLEAR_FAULT (R422): HALTED or FAULTED becomes LOADED; replay_ready clears, and SCH_SLIP with its detection tick
(DEDUCED, notes/assumptions/77.md). -/
def execClearFault (p : Fin 2) (r : Fin 65) (s : State) : Res :=
  s.onCommand p r 0x16 fun o =>
    let old := (s.reg .SCH_SLIP p).toNat
    let s := ((s.setReg .SCH_SLIP 0 p).setReg .SCH_SLIP_GTC 0 p).wr F.FLT_STS_replay_ready 0 p
    let s := (s.updPart p fun q => { q with freeze := none, ownFault := false }).enter p .loaded
    s.completeOk p o old 0

/-! ### PORT_CTL (R423) -/

/-- The result of a PORT_CTL: PORT_STS or OE_LASER_STS of its target. -/
def State.portCtlDone (s : State) (p : Nat) (o : OpenCmd) : State :=
  let t := bits o.arg0 0 8
  s.completeOk p o (if t < 32 then (s.reg .PORT_STS 0 t).toNat else (s.reg .OE_LASER_STS 0 (t - 0x40)).toNat) 0

/-- A PORT_CTL action on a port and on an engine. -/
def State.portCtl (s : State) (p r action : Nat) (port engine : Nat → State) : Res :=
  match s.fresh? p r 0x21 with
  | none => notEnabled "no PORT_CTL is in progress there (R418)"
  | some o =>
    let t := bits o.arg0 0 8
    if bits o.arg1 0 4 ≠ action then notEnabled "the PORT_CTL is another action (R423)"
    else .next ((if t < 32 then port t else engine (t - 0x40)).portCtlDone p o)

/-- PORT_CTL_DARK (R423, R293). -/
def execPortCtlDark (p : Fin 2) (r : Fin 65) (s : State) : Res :=
  s.portCtl p r 0 (fun q => (s.portDark q).updPort q fun t => { t with dark := true }) (fun o => s.lightOff o)

/-- PORT_CTL_LIGHT (R423, R330, R296): a port in DARK or PROBE trains, once its engine has light. -/
def execPortCtlLight (p : Fin 2) (r : Fin 65) (s : State) : Res :=
  s.portCtl p r 1
    (fun q =>
      let s := s.updPort q fun t => { t with dark := false }
      if (s.portState q == ptDark || s.fibre q == fbProbe) && s.spLit (q / 8) then s.lightFibre q else s)
    (fun o => s.lightOn o)

/-- PORT_CTL_RETRAIN (R423, R331, R354): cause 4 of the retrain message; an INCOMPATIBLE port trains again. -/
def execPortCtlRetrain (p : Fin 2) (r : Fin 65) (s : State) : Res :=
  s.portCtl p r 2 (fun q => if s.portState q = ptIncompatible then s.startTraining q false else s.retrainPort q 4 true) (fun _ => s)

/-- PORT_CTL_RESTORE (R316, R317): a restriped or dropped fibre retrains on all its wavelengths. -/
def execPortCtlRestore (p : Fin 2) (r : Fin 65) (s : State) : Res :=
  s.portCtl p r 3
    (fun q =>
      let s := s.setLanes q 0x1F 0 0x1F 0x1F
      (s.startTraining q true).updPort q fun t => { t with restore := true })
    (fun _ => s)

/-- PORT_CTL_MOON_RETURN (R314, R423): the receiving side of lane k runs the handover in reverse; the sending side asks for it. -/
def execPortCtlMoonReturn (p : Fin 2) (r : Fin 65) (s : State) : Res :=
  let k := match s.fresh? p r 0x21 with
    | some o => bits o.arg1 4 5
    | none => 0x1F
  s.portCtl p r 4
    (fun q =>
      let s := s.startBack q k
      if (s.port q).txLane = k then s.queueMgmt q (opticMsg 6 k 0 0) else s)
    (fun _ => s)

/-! ### CAL_OPTICS (R305) -/

/-- The ports of a mask. -/
def maskPorts (m : Nat) : List Nat := (List.range 32).filter fun q => m.testBit q

/-- Begin a recalibration pass on a fibre, or full sweeps on a port that is down (R305). -/
def State.calPort (s : State) (q : Nat) : State :=
  let o := q / 8
  if s.portState q = ptDown then s.ringsOf q laneRings fun r => r.sweep true
  else if s.fibre q = fbLit ∨ s.fibre q = fbLit15 then
    (s.updOe o fun e => { e with
      recal := if e.recal.contains (q % 8) then e.recal else e.recal ++ [q % 8]
      recalled := e.recalled.filter (· != q % 8) }).showRecal o
  else s

/-- CAL_OPTICS (R305, R422): the command starts its passes, and runs again to complete once none of them goes on; it answers
with the ports whose pass completed. -/
def execCalOptics (p : Fin 2) (r : Fin 65) (s : State) : Res :=
  match s.running? p r 0x22 with
  | none => notEnabled "no CAL_OPTICS is in progress there (R418)"
  | some o =>
    let ps := maskPorts (bits o.arg0 0 32)
    if o.stage = 0 then .next ((ps.foldl State.calPort s).await p o)
    else
      let busy := ps.any fun q => (s.oe (q / 8)).recal.contains (q % 8)
      let done := (ps.filter fun q => (s.oe (q / 8)).recalled.contains (q % 8)).foldl (fun a q => a + 2 ^ q) 0
      guarded (!busy) "a pass of the command goes on (R305)" (s.completeOk p o done 0)

/-! ### SET_POLICY (R424) -/

/-- A SET_POLICY of one item. -/
def State.policy (s : State) (p r item : Nat) (f : OpenCmd → Res) : Res :=
  match s.fresh? p r 0x23 with
  | none => notEnabled "no SET_POLICY is in progress there (R418)"
  | some o => if bits o.arg0 0 8 ≠ item then notEnabled "the SET_POLICY is of another item (R424)" else f o

/-- SET_POLICY_OPTICAL (R315, R424). -/
def execSetPolicyOptical (p : Fin 2) (r : Fin 65) (s : State) : Res :=
  s.policy p r 1 fun o =>
    let s := ((List.range 4).filter fun e => o.arg1.testBit e).foldl (fun a e => a.wr F.OE_POLICY_policy (bits o.arg1 4 1) 0 e) s
    .next (s.completeOk p o 0 0)

/-- SET_POLICY_AS_WIRED (R355, R424): the port identity records change with it, and ports are checked again. -/
def execSetPolicyAsWired (p : Fin 2) (r : Fin 65) (s : State) : Res :=
  s.policy p r 2 fun o =>
    let s := s.wr F.NET_CTL_aswired (bits o.arg1 0 1) p
    let s := (s.portsOf p).foldl (fun a q => a.sendPir q) s
    .next ((s.reidentify p).completeOk p o 0 0)

/-- Whether an entry's extension is well formed: reserved bits and bytes 32–63 zero. -/
def entryOk (ext : List Byte) (reserved : List (Nat × Nat)) : Bool :=
  allZero ((ext.drop 32).take 32) && reserved.all fun x => bits (ofLE (ext.take 32)) x.1 x.2 == 0

/-- SET_POLICY_FAR_DEVICE (R363, R364, R424): the old entry's queue pair closes, with R366 for what is outstanding on it, and the
new entry applies (DEDUCED, notes/assumptions/74.md). -/
def execSetPolicyFarDevice (p : Fin 2) (r : Fin 65) (s : State) : Res :=
  s.policy p r 3 fun o =>
    let i := bits o.arg1 0 12
    if ! entryOk o.ext [(157, 3), (192, 64)] then .next (s.complete p o.src 0x02 0 0 0)
    else
      let busy := (s.farEntry p i).testBit 156 &&
        (!(s.e2eOut p (1024 + i)).unacked.isEmpty || (s.part p).awaits.any fun a => a.pix == 1024 + i)
      let s := if busy then s.farFails p i else s
      let s := s.updPart p fun q => { q with
        far := tabSet windowDefault q.far i (BitVec.ofNat 256 (ofLE (o.ext.take 32))), rates := tabDel q.rates i }
      .next (s.completeOk p o 0 0)

/-- Whether an access through a host window is in flight (R424). -/
def State.windowBusy (s : State) (p w : Nat) : Bool :=
  let e := (tabGet windowDefault (s.part p).windows w).toNat
  e.testBit 162 && (s.part p).awaits.any fun a =>
    a.pix == hostKey (bits e 160 2) && decide (bits e 0 64 ≤ a.packet.addr ∧ a.packet.addr < bits e 0 64 + bits e 64 48)

/-- SET_POLICY_HOST_WINDOW (R424): once every access through the old entry has finished, the new one applies. -/
def execSetPolicyHostWindow (p : Fin 2) (r : Fin 65) (s : State) : Res :=
  s.policy p r 4 fun o =>
    let w := bits o.arg1 0 8
    let v := ofLE (o.ext.take 32)
    if ! (entryOk o.ext [(112, 16), (165, 91)] && bits v 0 64 % 64 == 0 && bits v 64 48 % 64 == 0) then
      .next (s.complete p o.src 0x02 0 0 0)
    else
      guarded (!s.windowBusy p w) "an access through the old entry is in flight (R424)"
        ((s.updPart p fun q => { q with windows := tabSet windowDefault q.windows w (BitVec.ofNat 256 v) }).completeOk p o 0 0)

/-- A configuration record with its encryption bit of a partition set, and its CRC (R451, R452). -/
def setEncryption (b : List Byte) (p : Nat) (on : Bool) : List Byte :=
  let v := putBits (leAt b 0xE8 1) p 1 (b2n on)
  let body := setAt (padTo 1024 b) 0xE8 (BitVec.ofNat 8 v)
  body.take 0x3FC ++ toLE 4 (crc32C (body.take 0x3FC))

/-- SET_POLICY_ENCRYPTION (R276, R424, R452): the configuration record takes the bit; it applies from the next reset. -/
def execSetPolicyEncryption (p : Fin 2) (r : Fin 65) (s : State) : Res :=
  s.policy p r 5 fun o =>
    let s := (s.halves p).foldl (fun a h => a.updFlash h fun f => { f with config := setEncryption f.config p (o.arg1.testBit 0) }) s
    .next (s.completeOk p o 0 0)

end Sys2Proof.Machine
end

