-- ==== Sys2Proof/Machine/Faults.lean ====
section
/-! DEFINITION. Integrity and faults (13): quarantine, the SRAM rewrite and scrub, the fault log and fault ring, ageing monitors and
re-plans, the spare core swap, and the reset of engines it shares with RESET_UNIT (12 R442). -/

namespace Sys2Proof.Machine

/-! ### Quarantine (R482–R484) -/

/-- Stop a stream where it stands (R483). -/
def Stream.halt (st : Stream) : Stream := if st.status = .faulted then st else { st with status := .idle }

/-- Empty the queues of a channel (R483): its work in flight stops, and it refreshes autonomously. -/
def Chan.stop (d : Chan) : Chan := { d with ceiling := true, sched0 := [], sched1 := [], wide0 := [], wide1 := [], narrow0 := [], narrow1 := [] }

/-- A partition enters QUARANTINED (R483, R457, R476): streams and work in flight stop, a freeze drain ends, the in-flight list is
rebuilt, and open commands that are not legal there end with ABORTED. `cause` is the code of FLT_STS q_cause. -/
def State.quarantine (s : State) (p cause : Nat) : State :=
  if (s.part p).state = .quarantined ∨ (s.part p).state = .cold then s
  else
    let s := s.allStreams p Stream.halt
    let s := s.enter p .quarantined
    let s := s.rebuildInflight p true
    let s := (List.range 640).foldl (fun a c => if a.partOfChan c = p then a.updChan c Chan.stop else a) s
    let s := s.updPart p fun q => { q with freeze := none, ownFault := false, t0 := none, stopAt := none, armed := false, ready := [] }
    let s := ((s.wr F.FLT_STS_replay_ready 0 p).wr F.FLT_STS_quarantined 1 p).wr F.FLT_STS_q_cause cause p
    let s := s.wr F.SCH_STS_plane 4 p
    let s := s.flag F.FLT_EVT_quarantine F.FLT_EVT_CNT_quar_cnt p
    let s := [0x12, 0x13, 0x14, 0x15].foldl (fun a op => a.completeOp p op 0x18 0 0 0) s
    s.abortOpens p

/-- QUARANTINE_DARK (R483): within 1 ms every tensor transmitter and comet lane is dark. -/
def execQuarantineDark (p : Fin 2) (s : State) : Res :=
  guarded (s.contained p && (s.portsOf p).any fun q => s.portState q != ptDark || !(s.port q).dark)
    "the partition is not quarantined, or is dark already (R483)"
    ((s.portsOf p).foldl (fun a q => (a.portDark q).updPort q fun t => { t with dark := true }) s)

/-- The base die of a stack (R11, R43). -/
def stackDie (k : Nat) : Nat :=
  let t := [0, 0, 1, 1, 2, 4, 6, 6, 7, 7].getD (k % 10) 0
  16 + (if k < 10 then t else mirrorTile t)

/-- UE_LIMIT (R482): more than ue_limit uncorrectable detections in a tile (unit 0–15) or stack (unit 16–35) within 60 minutes. -/
def execUeLimit (p : Fin 2) (unit : Fin 36) (s : State) : Res :=
  let u := unit.val
  let lim := s.rd F.FLT_CTL_ue_limit p
  let mine := (if u < 16 then s.partOfTile u else s.partOfHalf ((u - 16) / 10)) == p.val
  let g := (s.part p).gtc
  let n := ((tabGet listDefault s.ueTicks u).filter fun x => decide (g < x + 3600000 * s.msTicks)).length
  guarded (mine && lim != 0 && decide (lim < n) && !s.contained p && (s.part p).state != .cold) "the limit is not passed (R482)"
    (let i := if u < 16 then u else u - 16
     (s.quarantine p 3).record p 1 7 u (die := if u < 16 then 16 + u else stackDie i) (info0 := i) (changed := true))

/-! ### SRAM (R465, R466) -/

/-- Store a granule's correctable words corrected; nothing changes where a word is uncorrectable. -/
def State.sramCorrect (s : State) (a : Nat) : State :=
  let d := s.sramSide a
  if (ueWords d.err).isEmpty then s.setSramSide a { d with err := 0 } else s

/-- SRAM_REWRITE (R465): the oldest queued rewrite of a tile, one indivisible read-correct-write. What it corrects was counted by the
read that queued it; a granule uncorrectable by now is treated as any read treats it. -/
def execSramRewrite (t : Fin 16) (s : State) : Res :=
  match tabGet listDefault s.sramFix t with
  | [] => notEnabled "no rewrite is queued (R465)"
  | a :: _ =>
    let bad := !(ueWords (s.sramSide a).err).isEmpty
    let s := if bad then (s.sramRead a).1 else s
    let s := { s with sramFix := tabUpd listDefault s.sramFix t fun l => l.filter (· != a) }
    .next (s.sramCorrect a)

/-- SRAM_SCRUB (R466): the scrubber reads a granule and handles it by R465; `flip` are the bits that have been upset since
(DESIGN CHOICE, notes/assumptions/26.md). -/
def execSramScrub (t : Fin 16) (g : Fin 1572864) (flip : BitVec 600) (s : State) : Res :=
  let a := sramBase + t * tileBytes + 64 * g
  let d := s.sramSide a
  .next ((s.setSramSide a { d with err := d.err ^^^ flip }).sramRead a).1

/-! ### The fault log (R470–R473) -/

/-- When Mafin runs on a partition's MGP (R473). -/
def State.mafinRuns (s : State) (p : Nat) : Bool :=
  match (s.part p).state with
  | .cold => false
  | .booting => decide (4 ≤ s.rd F.BOOT_STS_stage p) && s.rd F.BOOT_STS_stage p != 7
  | .idle | .loaded | .armed | .running | .halted | .faulted | .quarantined => true

/-- The span in which one record of a class, kind and unit is sent (R472): 1 s for SEC kinds 1 and 2, otherwise 1 ms. -/
def State.recordSpan (s : State) (cls kind : Nat) : Nat := if cls = 8 ∧ kind ≤ 2 then 1000 * s.msTicks else s.msTicks

/-- Whether an event's record may be sent now (R472). -/
def State.mayLog (s : State) (p : Nat) (r : Raised) : Bool :=
  r.recovery || !((s.part p).sentAt.any fun x =>
    x.1 == r.cls && x.2.1 == r.kind && x.2.2.1 == r.unit && decide ((s.part p).gtc < x.2.2.2 + s.recordSpan r.cls r.kind))

/-- The order of records (R473): by tick, then class, then die. -/
def Raised.before (a b : Raised) : Bool :=
  decide (a.gtc < b.gtc) || (a.gtc == b.gtc && (decide (a.cls < b.cls) || (a.cls == b.cls && decide (a.die < b.die))))

/-- The event whose record goes next. -/
def State.nextRaised (s : State) (p : Nat) : Option Raised :=
  ((s.part p).raised.filter (s.mayLog p)).foldl (fun (o : Option Raised) (r : Raised) => match o with
    | none => some r
    | some x => if r.before x then some r else some x) none

/-- A record with its CRC (R470). -/
def sealRecord (b : List Byte) : List Byte := b ++ toLE 4 (crc32C b)

/-- The bytes of a record (R470), ring phase 0. -/
def State.recordBytes (s : State) (p : Nat) (r : Raised) (seq lost : Nat) : List Byte :=
  let q := s.part p
  let flags := b2n r.recovery + b2n (decide (1 < r.count)) * 2 + b2n r.changed * 4 + b2n (decide (0 < lost)) * 8
  sealRecord (toLE 4 seq ++ toLE 1 r.cls ++ toLE 1 r.kind ++ toLE 1 flags ++ toLE 1 q.state.code ++ toLE 8 r.gtc ++
    toLE 4 q.session ++ toLE 2 (s.ownPix p) ++ toLE 1 p ++ toLE 1 r.die ++ toLE 3 r.eid ++ toLE 1 r.count ++ toLE 4 r.orbit ++
    toLE 8 r.addr ++ toLE 8 r.info0 ++ toLE 8 r.info1 ++ toLE 2 (min lost 65535) ++ toLE 2 0)

/-- Make room in a full log (R473): the oldest CE record goes, or the oldest one. The flag says that what went had not been
written to the fault ring. -/
def dropLogged (l : List Logged) : List Logged × Bool :=
  if l.length < 256 then (l, false)
  else
    let i := if l.any (·.cls == 0) then l.findIdx (·.cls == 0) else 0
    (removeAt l i, match l[i]? with
      | some x => !x.written
      | none => false)

/-- A record enters the internal log (R473). -/
def State.logRecord (s : State) (p : Nat) (r : Raised) : State :=
  let q := s.part p
  let seq := s.rd F.FLT_STS_last_seq p + 1
  let x : Logged := { seq := seq, cls := r.cls, bytes := s.recordBytes p r seq q.lost, written := false }
  let d := dropLogged q.log
  let sent := (r.cls, r.kind, r.unit, q.gtc) :: q.sentAt.filter fun y => !(y.1 == r.cls && y.2.1 == r.kind && y.2.2.1 == r.unit)
  let s := s.updPart p fun q => { q with
    raised := removeAt q.raised (q.raised.findIdx (· == r)), log := d.1 ++ [x], lost := b2n d.2, sentAt := sent }
  let s := (s.wr F.FLT_STS_last_seq seq p).flag F.FLT_EVT_record F.FLT_EVT_CNT_record_cnt p
  let s := if r.cls = 0 then s else s.flag F.FLT_EVT_record_hi F.FLT_EVT_CNT_hi_cnt p
  if d.2 then s.flag F.FLT_EVT_lost F.FLT_EVT_CNT_lost_cnt p else s

/-- The alert land of a partition (R473). -/
def State.alert (s : State) (p : Nat) : Bool := s.rdB F.FLT_CTL_alert_en p && s.rdB F.FLT_EVT_record_hi p

/-- FAULT_RECORD_LOG (R472, R473): the next record enters the internal log. -/
def execFaultRecordLog (p : Fin 2) (s : State) : Res :=
  if ! s.mafinRuns p then notEnabled "Mafin has not started (R473)"
  else match s.nextRaised p with
    | none => notEnabled "no record is to be sent now (R472)"
    | some r => .next (s.logRecord p r)

/-! ### The fault ring (R474) -/

/-- A logged record as it goes to the ring, with its phase. -/
def ringRecord (b : List Byte) (phase : Nat) : List Byte :=
  sealRecord (setAt (b.take 60) 6 (BitVec.ofNat 8 (leAt b 6 1 % 128 + phase * 128)))

/-- FAULT_RING_WRITE (R474): the oldest record not yet written goes to the ring, once a slot is free. -/
def execFaultRingWrite (p : Fin 2) (s : State) : Res :=
  let k := s.rd F.FLT_RING_STS_written p
  let n := 2 ^ s.rd F.FLT_RING_CFG_log_size p
  let c := s.rd F.FLT_RING_CFG_conn p
  let room := decide ((k + 2 ^ 32 - s.rd F.FLT_RING_STS_host_consumed p) % 2 ^ 32 < n)
  match (s.part p).log.find? fun x => !x.written with
  | none => notEnabled "every record in the log has been written (R474)"
  | some x =>
    guarded (s.rdB F.FLT_RING_CFG_enable p && (s.conn p c).up && room) "the fault ring takes no record now (R474)"
      (let addr := (s.reg .FLT_RING_ADDR p).toNat + 64 * (k % n)
       let s := s.emit (.hostWrite p c (s.rd F.FLT_RING_CFG_rkey p) addr (ringRecord x.bytes (1 - k / n % 2)))
       let s := s.count F.FLT_RING_STS_written 1 p
       s.updPart p fun q => { q with log := updFirst (fun y => y.seq == x.seq) (fun y => { y with written := true }) q.log })

/-! ### The ageing log (R487, R492) -/

/-- An entry's 32 bytes (R487). -/
def AgeEntry.bytes (e : AgeEntry) : List Byte :=
  sealRecord (toLE 1 e.type ++ toLE 1 e.unitKind ++ toLE 2 e.unit ++ toLE 4 e.day ++ toLE 8 e.value0 ++ toLE 8 e.value1 ++ toLE 4 0)

/-- The entries AGE_LOG_SEL indexes, newest first: those of the first half of the partition, then of the second
(DEDUCED, notes/assumptions/79.md). -/
def State.ageEntries (s : State) (p : Nat) (permanent : Bool) : List AgeEntry :=
  (s.halves p).flatMap fun h => (if permanent then (s.flash h).perm else (s.flash h).trend).reverse

/-- AGE_LOG_READY (R492): the selected entry has been read; an index beyond the log reads 0. -/
def execAgeLogReady (p : Fin 2) (s : State) : Res :=
  guarded (s.part p).ageSel "no entry is being fetched (R492)"
    (let b : List Byte := match (s.ageEntries p (s.rdB F.AGE_LOG_SEL_part p))[s.rd F.AGE_LOG_SEL_index p]? with
       | some e => e.bytes
       | none => []
     let s := (List.range 4).foldl (fun a i => a.setReg .AGE_LOG_DATA (BitVec.ofNat 64 (leAt b (8 * i) 8)) p i) s
     (s.wr F.AGE_LOG_SEL_ready 1 p).updPart p fun q => { q with ageSel := false })

/-- An ageing advisory (R471 CE kind 3): the entry type and the value. -/
def State.advise (s : State) (p type unit die v : Nat) : State := s.record p 0 3 unit (die := die) (info0 := type) (info1 := v)

/-- AGEING_SAMPLE (R485): monitor 0 an oscillator (10 ppm, die index), 1 a path-delay replica's lowest slack of a second (taps, die
index), 2 a channel's PHY eye (% of UI, channel index). -/
def execAgeingSample (monitor : Fin 3) (unit : Fin 640) (v : BitVec 16) (s : State) : Res :=
  let u := unit.val
  let d := s.die u
  let x := sext 16 v.toNat
  if monitor.val = 0 then
    guarded (decide (u < 40)) "the package has 40 dies (R43)"
      (let t := s.updDie u fun d => { d with drift := v.toNat, driftSum := d.driftSum + x, driftN := d.driftN + 1 }
       if x < -3000 ∧ -3000 ≤ sext 16 d.drift then t.advise (s.partOfDie u) 1 u u (wrapNat 64 (10 * x)) else t)
  else if monitor.val = 1 then
    guarded (decide (u < 36) && decide (v.toNat < 64)) "compute, base and EIC dies have replicas of 0 to 63 taps (R485)"
      (s.updDie u fun d => { d with
        slack := v.toNat, sMin := some (min (d.sMin.getD v.toNat) v.toNat), dayLow := some (min (d.dayLow.getD v.toNat) v.toNat) })
  else
    let was := (s.chan u).eye
    let t := s.updChan u fun c => { c with eye := some v.toNat, eyeLow := some (min (c.eyeLow.getD v.toNat) v.toNat) }
    .next (if v.toNat < 30 ∧ 30 ≤ was.getD 30 then t.advise (s.partOfChan u) 3 (40 + u) (stackDie (u / 32)) v.toNat else t)

/-- How many entries a trend part holds (R487). -/
def trendRoom : Nat := 229376

/-- The mean of whole numbers, towards minus infinity. -/
def meanOf (l : List Int) : Int := if l.isEmpty then 0 else l.foldl (· + ·) 0 / (l.length : Int)

/-- Whether a type's extreme is its lowest value (R485): slack, eye and laser margin. Drift and shift are extreme by magnitude. -/
def extremeOf (type : Nat) (l : List Int) : Int :=
  match l with
  | [] => 0
  | x :: t => t.foldl (fun a v => if type = 2 ∨ type = 3 ∨ type = 5 then min a v else if a.natAbs < v.natAbs then v else a) x

/-- The entry that stands for an item's oldest 32 daily entries (R487; DEDUCED, notes/assumptions/80.md). -/
def mergeEntries (l : List AgeEntry) (e : AgeEntry) : AgeEntry :=
  let vs := l.map fun x => sext 64 x.value0
  { e with day := (l.map (·.day)).min?.getD e.day, value0 := wrapNat 64 (extremeOf e.type vs), value1 := wrapNat 64 (meanOf vs) }

/-- Merge the oldest 32 daily entries of every item that has as many (R487). -/
def mergeTrend (l : List AgeEntry) : List AgeEntry :=
  let same (a b : AgeEntry) : Bool := a.type == b.type && a.unitKind == b.unitKind && a.unit == b.unit
  l.zipIdx.filterMap fun x =>
    let e := x.1
    let item := l.filter (same e)
    let rank := ((l.take x.2).filter (same e)).length
    if item.length < 32 ∨ 32 ≤ rank then some e else if rank = 0 then some (mergeEntries (item.take 32) e) else none

/-- A half's daily entries (R485): drift means, lowest slacks, narrowest eyes, heater shifts and lowest laser margins of the units
that were sampled. -/
def State.dailyEntries (s : State) (h : Nat) : List AgeEntry :=
  let e (type kind unit : Nat) (v : Int) : AgeEntry :=
    { type := type, unitKind := kind, unit := unit % 65536, day := s.day, value0 := wrapNat 64 v, value1 := 0 }
  let dies := (List.range 40).filter fun d => (if d < 32 then d % 16 / 8 else d % 4 / 2) == h
  (dies.filterMap fun d => let x := s.die d; if x.driftN = 0 then none else some (e 1 0 d (10 * x.driftSum / (x.driftN : Int)))) ++
  (dies.filterMap fun d => (s.die d).dayLow.map fun v => e 2 0 d v) ++
  ((span (320 * h) 320).filterMap fun c => (s.chan c).eyeLow.map fun v => e 3 1 c v) ++
  (s.rings.filterMap fun x => if x.1 / 18 / 4 / 16 = h then x.2.shift.map fun v => e 4 2 (ringUnit x.1) v else none) ++
  ((span (16 * h) 16).flatMap fun q => (s.port q).waves.filterMap fun w => w.2.dayLow.map fun v => e 5 3 (18 * q + w.1) v)

/-- A half's monitors begin a new day. -/
def State.newDay (s : State) (h : Nat) : State :=
  let dies := (List.range 40).filter fun d => (if d < 32 then d % 16 / 8 else d % 4 / 2) == h
  let s := dies.foldl (fun a d => a.updDie d fun x => { x with driftSum := 0, driftN := 0, dayLow := none }) s
  let s := (span (320 * h) 320).foldl (fun a c => if (a.chan c).eyeLow.isSome then a.updChan c fun x => { x with eyeLow := none } else a) s
  let s := s.rings.foldl (fun a x => if x.1 / 18 / 4 / 16 = h then a.updRing x.1 fun r => { r with shift := none } else a) s
  (span (16 * h) 16).foldl (fun a q => (a.port q).waves.foldl (fun b w =>
    b.updWave q w.1 fun x => { x with dayLow := none }) a) s

/-- A half's daily entries go to its flash. -/
def State.writeDay (s : State) (h : Nat) : State :=
  let es := s.dailyEntries h
  let s := s.updFlash h fun f => { f with trend := (if f.trend.length + es.length ≤ trendRoom then f.trend else mergeTrend f.trend) ++ es }
  s.newDay h

/-- AGEING_DAILY_ENTRY (R485, R487): Mafin writes every monitor's daily entry, and a day has passed. -/
def execAgeingDailyEntry (s : State) : Res :=
  let hs := [0, 1].filter fun h => s.mafinRuns (s.partOfHalf h)
  guarded (!hs.isEmpty) "Mafin does not run (R485)" (let t := hs.foldl State.writeDay s; { t with day := t.day + 1 })

/-! ### Margin plans (R488–R490) -/

/-- The step of R489 for a die whose lowest slack is m. -/
def planStep (m thr off : Nat) : Int :=
  if m < thr + 4 then 2 else if m < thr + 8 then 1 else if thr + 16 < m ∧ 0 < off then -1 else 0

/-- Re-plan one die (R489). -/
def State.replanDie (s : State) (p d : Nat) : State :=
  let x := s.die d
  match x.sMin with
  | none => s
  | some m =>
    let t := planStep m (tabGet natDefault s.fuses.thr d % 64) x.off
    let past := decide ((24 : Int) < (x.off : Int) + t)
    let off := if past then 24 else ((x.off : Int) + t).toNat
    let s := s.updDie d fun y => { y with off := off, limit := y.limit || past, sMin := none }
    if past then s.record p 0 4 d (die := d) (info0 := s.ageSts d) else s

/-- The dies a partition's plan covers: compute, base and EIC (R488). -/
def State.planDies (s : State) (p : Nat) : List Nat := (List.range 36).filter fun d => s.partOfDie d == p

/-- The half a die lies in. -/
def halfOfDie (d : Nat) : Nat := if d < 32 then d % 16 / 8 else d % 4 / 2

/-- A re-plan (R489, R490): every die's offset, the plan stored in the permanent log, the generation counted. -/
def State.replan (s : State) (p : Nat) : State :=
  let ds := s.planDies p
  let t := ds.foldl (fun a d => a.replanDie p d) s
  let gen := (s.rd F.AGE_PLAN_generation p + 1) % 2 ^ 32
  let changed := (ds.filter fun d => (t.die d).off != (s.die d).off).length
  let limits := (ds.filter fun d => (t.die d).limit).length
  let t := ds.foldl (fun a d => a.ageLog (halfOfDie d) 22 0 d (a.die d).off gen) t
  ((t.wr F.AGE_PLAN_generation gen p).wr F.AGE_PLAN_changed changed p).wr F.AGE_PLAN_at_limit limits p

/-- REPLAN_MARGINS (R490). -/
def execReplanMargins (p : Fin 2) (r : Fin 65) (s : State) : Res :=
  s.onCommand p r 0x34 fun o =>
    let s := s.replan p
    s.completeOk p o (s.rd F.AGE_PLAN_changed p + s.rd F.AGE_PLAN_at_limit p * 2 ^ 8) (s.rd F.AGE_PLAN_generation p)

/-! ### Resetting engines (12 R442; R103, R225) -/

/-- A map's entries changed one by one, its canonical form kept. -/
def tabMap {α : Type} [DecidableEq α] (d : Nat → α) (t : Tab α) (f : α → α) : Tab α := t.foldl (fun a x => tabSet d a x.1 (f x.2)) []

/-- A stream as an engine reset leaves it: stopped, its section kept. -/
def Stream.cleared (st : Stream) : Stream := { plane := st.plane, early := st.early, start := st.start, instrs := st.instrs }

/-- Drop the requests of a core's transfers from the queues of every channel. -/
def State.dropRequests (s : State) (n : Nat) : State :=
  let k (l : List WideReq) : List WideReq := l.filter fun r => r.core != n
  { s with chans := tabMap chanDefault s.chans fun d => { d with
      sched0 := k d.sched0, sched1 := k d.sched1, wide0 := k d.wide0, wide1 := k d.wide1 } }

/-- Drop the requests of a gather engine's threads. -/
def State.dropNarrow (s : State) (g : Nat) : State :=
  let k (l : List NarrowReq) : List NarrowReq := l.filter fun r => r.gx != g
  { s with chans := tabMap chanDefault s.chans fun d => { d with narrow0 := k d.narrow0, narrow1 := k d.narrow1 } }

/-- The state an engine reset clears (R442): mask bits SCU, MXE, VXE, DMX; the semaphores with all four. -/
def Core.clear (k : Core) (mask : Nat) : Core :=
  let b (i : Nat) : Bool := mask.testBit i
  let k := if b 0 then { k with sregs := [], aregs := [], scu := k.scu.cleared } else k
  let k := if b 1 then { k with acc := [], accInt0 := false, accInt1 := false, sums := [], mxe := k.mxe.cleared } else k
  let k := if b 2 then { k with vregs := [], cks := [], vxe := k.vxe.cleared } else k
  let k := if b 3 then { k with transfers := [], dmx := k.dmx.cleared } else k
  let k := { k with pends := k.pends.filter fun x => !b x.eng.idx }
  if mask % 16 = 15 then { k with sems := [], arriving := [] } else k

/-- Reset the named engines of a core (R442, R103). -/
def State.engineReset (s : State) (n mask : Nat) : State :=
  let s := s.releaseFences n ([Eng.scu, .mxe, .vxe, .dmx].filter fun e => mask.testBit e.idx)
  let s := s.updCore n fun k => k.clear mask
  let s := if mask.testBit 3 then (s.dropRequests n).setReg .DMX_ERR_TAG 0 0 n else s
  let s := if mask.testBit 2 then s.setReg .CHK_STS 0 0 n else s
  let s := (List.range 4).foldl (fun a i => if mask.testBit i then a.setReg .ENG_FAULT 0 0 n i else a) s
  if mask % 16 = 0 then s else ((s.setReg .EXC_CNT_A 0 0 n).setReg .EXC_CNT_B 0 0 n).setReg .EXC_CNT_C 0 0 n

/-! ### The spare core swap (R478–R481) -/

/-- The field of TILE_LPMAP that carries logical core n (R43). -/
def lpField (n : Nat) : Fld := ⟨.TILE_LPMAP, 4 * (n % 4), 3⟩

/-- Hold and release a tile. -/
def State.hold (s : State) (t : Nat) : State := { s with held := if s.held.contains t then s.held else s.held ++ [t] }
def State.unhold (s : State) (t : Nat) : State := { s with held := s.held.filter (· != t) }

/-- SWAP_CORE (R39, R478, R479): NO_SPARE, TILE_BUSY, or the tile is held and the spare's self-test begins. -/
def execSwapCore (p : Fin 2) (r : Fin 65) (s : State) : Res :=
  match s.fresh? p r 0x20 with
  | none => notEnabled "no SWAP_CORE is in progress there (R418)"
  | some o =>
    let n := bits o.arg0 0 6
    let t := n / 4
    let sp := s.rd F.TILE_LPMAP_spare_phys 0 t
    let k := s.core n
    let busy := [k.scu.code, k.mxe.code, k.vxe.code, k.dmx.code].any fun c => c != 0 && c != 3
    if sp = 7 then .next (s.complete p o.src 0x14 0 0 0)
    else if busy then .next (s.complete p o.src 0x15 0 0 0)
    else
      let s := match (s.part p).swap with
        | some w => s.unhold (w.core / 4)
        | none => s
      let w : Swap := { core := n, old := s.rd (lpField n) 0 t, spare := sp, phase := 0 }
      .next (((s.hold t).updPart p fun q => { q with swap := some w }).await p o)

/-- The swap's command, if it has not been aborted. -/
def State.swapOpen (s : State) (p : Nat) : Option OpenCmd := (s.part p).opens.find? fun o => o.checked && o.opcode == 0x20 && o.stage == 1

/-- Mark a physical core failed: TILE_LPMAP failed. -/
def State.markCore (s : State) (t pc : Nat) : State := s.wr F.TILE_LPMAP_failed (s.rd F.TILE_LPMAP_failed 0 t ||| 2 ^ pc) 0 t

/-- The ageing-log entry of a failed core (R39, R480). -/
def State.logCore (s : State) (t pc : Nat) : State := s.ageLog (t / 8) 16 4 (5 * t + pc) 0 0

/-- SPARE_SELF_TEST_DONE (R479–R481): the map is written and the logical core reset; or the spare failed and the original core goes
on; or the swap was aborted before, and the map stays. -/
def execSpareSelfTestDone (p : Fin 2) (ok : Bool) (s : State) : Res :=
  match (s.part p).swap with
  | none => notEnabled "no swap is in progress (R479)"
  | some w =>
    let t := w.core / 4
    if w.phase ≠ 0 then notEnabled "the self-test has ended (R479)"
    else match s.swapOpen p with
      | none => .next ((s.unhold t).updPart p fun q => { q with swap := none })
      | some o =>
        let s := s.wr F.TILE_LPMAP_spare_phys 7 0 t
        if ok then
          let s := ((s.wr (lpField w.core) w.spare 0 t).markCore t w.old).engineReset w.core 15
          .next (s.updPart p fun q => { q with swap := some { w with phase := 1 } })
        else
          let s := ((s.markCore t w.spare).logCore t w.spare).updPart p fun q => { q with swap := some { w with phase := 3 } }
          .next (s.complete p o.src 0x14 1 0 0)

/-- TILE_RELEASE (R479). -/
def execTileRelease (p : Fin 2) (s : State) : Res :=
  match (s.part p).swap with
  | none => notEnabled "no swap is in progress (R479)"
  | some w =>
    guarded (w.phase == 1 || w.phase == 3) "the tile is not to be released now (R479)"
      ((s.unhold (w.core / 4)).updPart p fun q => { q with swap := if w.phase = 1 then some { w with phase := 2 } else none })

/-- SWAP_LOG_STORED (R479, R481): the replaced core's entry is in the ageing log, and the command completes with the new map. -/
def execSwapLogStored (p : Fin 2) (s : State) : Res :=
  match (s.part p).swap with
  | none => notEnabled "no swap is in progress (R479)"
  | some w =>
    let t := w.core / 4
    guarded (w.phase == 2) "the tile is still held (R479)"
      (let s := (s.logCore t w.old).updPart p fun q => { q with swap := none }
       match s.swapOpen p with
       | some o => s.completeOk p o (s.reg .TILE_LPMAP 0 t).toNat 0
       | none => s)

end Sys2Proof.Machine
end

