-- ==== Sys2Proof/Machine/Boot.lean ====
section
/-! DEFINITION. Start-up and resets (12 R433–R448; 14 R496–R499): cold and warm reset, the boot ROM's choice and check of a firmware,
Mafin's start, memory training and zero-fill, and the entry into IDLE. Partial resets and flash updates are in Reset.lean. -/

namespace Sys2Proof.Machine

/-! ### What a reset covers (R442) -/

/-- A unit that a reset names (R442): a half, an optical engine, a tile or a port. -/
inductive ResetUnit where
  | half (h : Nat)
  | oe (o : Nat)
  | tile (t : Nat)
  | port (q : Nat)
deriving DecidableEq, Repr

/-- The unit of a RESET_UNIT kind from 1 to 4 (R423). -/
def resetUnitOf (kind u : Nat) : ResetUnit :=
  if kind = 1 then .half u else if kind = 2 then .oe u else if kind = 3 then .tile u else .port u

def ResetUnit.hasTile : ResetUnit → Nat → Bool
  | .half h, t => t / 8 == h
  | .tile u, t => t == u
  | .oe _, _ | .port _, _ => false

def ResetUnit.hasOe : ResetUnit → Nat → Bool
  | .half h, o => o / 2 == h
  | .oe u, o => o == u
  | .tile _, _ | .port _, _ => false

def ResetUnit.hasPort : ResetUnit → Nat → Bool
  | .half h, q => q / 16 == h
  | .oe o, q => q / 8 == o
  | .port u, q => q == u
  | .tile _, _ => false

def ResetUnit.hasChan : ResetUnit → Nat → Bool
  | .half h, c => c / 320 == h
  | .oe _, _ | .tile _, _ | .port _, _ => false

/-- The bridge sides of a unit (R12, R442). -/
def ResetUnit.hasSide (u : ResetUnit) (b x : Nat) : Bool :=
  match u with
  | .half h => sideHalf b x == h
  | .oe o => sideAt b x == 16 + o
  | .tile t => sideAt b x == t
  | .port _ => false

/-- The registers of a unit's own; a core map stays through a partial reset (R442). -/
def ResetUnit.hasReg (u : ResetUnit) (partly : Bool) (r : Reg) (i j : Nat) : Bool :=
  match r with
  | .BRG_CTL | .BRG_WIDTH_STS | .BRG_MASK | .BRG_EVT | .BRG_EVT_CNT | .BRG_GROUP_SEL | .BRG_GROUP_STS => u.hasSide i j
  | .TILE_LPMAP => !partly && u.hasTile i
  | .SRM_STS => u.hasTile i
  | .LDLY_STS | .LDLY_ASYM | .PORT_STS | .PORT_EVT | .PORT_EVT_CNT | .PORT_ERR_CNT | .PORT_PIR => u.hasPort i
  | .CORE_CTL | .CORE_STS | .ENG_FAULT | .CORE_EVT | .CORE_EVT_CNT | .EXC_CNT_A | .EXC_CNT_B | .EXC_CNT_C | .DMX_STS
  | .DMX_ERR_TAG | .CHK_STS | .SEM_VAL => u.hasTile (i / 4)
  | .GXE_STS | .GXE_EVT | .GXE_ERR => u.hasTile (i / 2)
  | .MST_STS => u.hasChan (i * 32)
  | .MCH_STS | .MCH_EVT | .MCH_EVT_CNT | .MCH_ERR_LOC | .MCH_CE_CNT | .MTG_CTL | .MTG_LIMIT | .MTG_SEED | .MTG_STS
  | .MTG_ERR => u.hasChan i
  | .OE_FIB_STS | .OE_FIB_LANEMAP | .OE_FIB_EVT | .OE_FIB_EVT_CNT | .OE_FIB_MARGIN | .OE_FIB_COMET | .OE_FIB_EVT_CNT1 =>
    u.hasPort (8 * i + j)
  | .OE_CTL | .OE_STS | .OE_EVT | .OE_EVT_CNT | .OE_POLICY | .OE_LASER_STS | .OE_FF_COEF | .OE_RINGTAB_CTL | .OE_RINGTAB_DATA
  | .OE_RING_STS | .OE_SP_STS | .COL_CTL | .COL_STS | .COL_EVT | .COL_EVT_CNT | .COL_GRP_SEL | .COL_GRP_STS | .COL_GRP_DONE
  | .COL_ABORT => u.hasOe i
  | _ => false

/-- Reset every register instance that `gone` names (by partition, register, instance). -/
def State.clearRegs (s : State) (gone : Nat → Reg → Nat → Nat → Bool) : State :=
  { s with regs := s.regs.filter fun x => match decodeOffset (x.1 % 0x4000000) with
      | some (r, i, j, _) => !gone (x.1 / 0x4000000) r i j
      | none => true }

/-- The engine of a ring. -/
def ringOe (k : Nat) : Nat := k / 18 / 4 / 8

/-- The port of a ring, if it is a fibre's: kind 3 names a comet bus (R288). -/
def ResetUnit.hasRing (u : ResetUnit) (k : Nat) : Bool :=
  if k / 18 % 4 = 3 then u.hasOe (ringOe k) else u.hasPort (8 * ringOe k + k / 18 / 4 % 8)

/-- Clear the engines, bridges, optics and ports of a unit (R442). `keep` keeps the numbers from which launches and transfers count. -/
def State.clearUnit (s : State) (u : ResetUnit) (keep : Bool) : State :=
  let tiles := (List.range 16).filter u.hasTile
  let s := if keep then
      tiles.foldl (fun a t =>
        let a := (span (4 * t) 4).foldl (fun b n => (b.dropRequests n).updCore n fun k => { nextTransfer := k.nextTransfer }) a
        (span (2 * t) 2).foldl (fun b g => (b.dropNarrow g).updGather g fun k => { nextLaunch := k.nextLaunch }) a) s
    else { s with
           cores := s.cores.filter fun x => !u.hasTile (x.1 / 4)
           gathers := s.gathers.filter fun x => !u.hasTile (x.1 / 2) }
  let pf := s.pfc.filter fun x => !u.hasOe x.1
  { s with
    sides := s.sides.filter fun x => !u.hasSide (x.1 / 2) (x.1 % 2)
    chans := s.chans.filter fun x => !u.hasChan x.1
    ports := s.ports.filter fun x => !u.hasPort x.1
    oes := s.oes.filter fun x => !u.hasOe x.1
    colls := s.colls.filter fun x => !u.hasOe x.1
    rings := s.rings.filter fun x => !u.hasRing x.1
    preBias := s.preBias.filter fun x => !u.hasTile x.1
    sramFix := s.sramFix.filter fun x => !u.hasTile x.1
    held := s.held.filter fun t => !u.hasTile t
    pfc := pf
    routers := s.routers.filter fun x => !u.hasOe x.1 }

/-- Strap fields whose reset values the optical registers take (R433): light_en, OE_POLICY and the service port mode. -/
def State.strapOptics (s : State) (o : Nat) : State :=
  ((s.wr F.OE_CTL_light_en (1 - bits s.straps.toNat 6 1) 0 o).wr F.OE_POLICY_policy (bits s.straps.toNat 3 1) 0 o).wr
    F.OE_SP_STS_mode (bits s.straps.toNat 7 1) 0 o

/-! ### Memory contents -/

/-- Zero the SRAM of the tiles named, with valid word codes and checks (R436, R448). -/
def State.zeroSram (s : State) (tile : Nat → Bool) : State :=
  { s with
    mem := s.mem.filter fun c => decide (c.1 < sramBase) || !tile ((c.1 - sramBase) / tileBytes)
    sram := s.sram.filter fun x => !tile ((x.1 * 64 - sramBase) / tileBytes) }

/-- Zero every HBM granule of the halves named (R271). -/
def State.zeroHbm (s : State) (half : Nat → Bool) : State :=
  { s with
    mem := s.mem.filter fun c => decide (sramBase ≤ c.1) || !half (physChan (c.1 / 64) / 320)
    hbmSide := s.hbmSide.filter fun x => !half (physChan x.1 / 320)
    hbmUsed := s.hbmUsed.filter fun x => !half (physChan x.1 / 320) }

/-! ### Cold reset (R433–R436, R441) -/

/-- A die's plan and monitors after a cold reset: the plan is in the ageing log and stays (R436, R490). -/
def Die.planOnly (d : Die) : Die := { off := d.off, limit := d.limit }

/-- A rail or sensor whose extremes start anew (R525). -/
def Rail.fresh (r : Rail) : Rail := { r with minMv := r.mv, faulted := false }
def Temp.fresh (t : Temp) : Temp := { t with max := t.now }

/-- COLD_RESET (R441, R442, R519): COLD_RST_N is low, or power has come on (`power`). Everything is reset but fuses, flash, secure
store and what the board sees; without power memories lose their contents. -/
def execColdReset (power : Bool) (s : State) : Res :=
  let k : State := {
    twoPart := s.twoPart, straps := s.straps
    mem := if power then [] else s.mem
    sram := if power then [] else s.sram
    hbmSide := if power then [] else s.hbmSide
    hbmUsed := if power then [] else s.hbmUsed
    heaters := [], dies := tabMap dieDefault s.dies Die.planOnly
    fuses := s.fuses, flash0 := s.flash0, flash1 := s.flash1, vault := { s.vault with consent := false }
    i3c0 := if power then { sa := s.i3c0.sa } else s.i3c0
    i3c1 := if power then { sa := s.i3c1.sa } else s.i3c1
    rails := tabMap railDefault s.rails Rail.fresh
    temps := tabMap tempDefault s.temps Temp.fresh
    trip0 := s.trip0 && !power, trip1 := s.trip1 && !power, day := s.day
    out := s.out, free := s.free, pending := s.pending }
  .next (s.parts.foldl (fun a p => a.wr F.RST_CAUSE_kind (b2n !power) p) k)

/-- The strap combinations that are refused (R434). -/
def State.strapsRefused (s : State) (straps : BitVec 8) : Bool :=
  let d := bits straps.toNat 0 2
  let src := bits straps.toNat 4 2
  decide (2 ≤ d) || (d == 0 && s.fuses.gradeX) || src == 3 || (src == 1 && straps.toNat.testBit 6)

/-- A partition begins its boot (R416, R436): a boot session and memory keys drawn afresh (R278, R358, R495). `cold` parts start from
nothing. -/
def State.restart (s : State) (p : Nat) (stopped wipe : Bool) : State :=
  let f := s.takeFree
  let g := f.2.takeFree
  let q : Part := {
    session := Config.freeNat f.1 % (2 ^ 32 - 1) + 1, memKey := Config.freeNat g.1 % 2 ^ 512, stopped := stopped, wipe := wipe }
  let s := (g.2.updPart p fun _ => q).enter p .booting
  s.wr F.HIF_STS_primary p p

/-- COLD_RESET_RELEASE (R433–R436): the straps are latched and checked, the partition mode is set, and every partition is in BOOTING.
A refused combination holds it there. -/
def execColdResetRelease (straps : BitVec 8) (s : State) : Res :=
  guarded ((s.part 0).state == .cold) "cold reset is not held (R436)"
    (let bad := s.strapsRefused straps
     let causes := s.rd F.RST_CAUSE_kind 0
     let s := { s with straps := straps, twoPart := straps.toNat.testBit 2 }
     let s := s.parts.foldl (fun a p =>
       let a := (a.restart p bad false).wr F.RST_CAUSE_kind causes p
       a.wr F.BOOT_STS_strap_err (b2n bad) p) s
     (List.range 4).foldl State.strapOptics s)

/-! ### Warm reset (R438, R442) -/

/-- The registers a warm reset of a partition resets (R442): its own set, and its units'. What shows the clocks, the cause of the
reset and the fused feature levels stays. -/
def State.warmGone (s : State) (p : Nat) (part : Nat) (r : Reg) (i j : Nat) : Bool :=
  if (regInfo r).perPartition then part == p && r != .CLK_STS && r != .RST_CAUSE && r != .ID_FL_STS
  else (s.halves p).any fun h => (ResetUnit.half h).hasReg false r i j

/-- One half under a cold or warm reset: its units cleared, its tables saved to flash, its MGP in its ROM, the extremes of its
sensors anew. -/
def State.warmHalf (s : State) (h : Nat) : State :=
  let s := (s.flashHeaters h).clearUnit (.half h) false
  let s := { s with
    ueTicks := s.ueTicks.filter fun x => (if x.1 < 16 then x.1 / 8 else (x.1 - 16) / 10) != h
    temps := tabMap tempDefault s.temps Temp.fresh }
  (s.updMgp h fun _ => {})

/-- A partition restarts its boot: `kind` and `source` of RST_CAUSE, and whether its boot wipes its memory (R509). -/
def State.warmPart (s : State) (p source : Nat) (wipe : Bool) : State :=
  let n := s.rd F.RST_CAUSE_warm_cnt p + 1
  let stopped := (s.part p).stopped
  let t := (s.halves p).foldl State.warmHalf (s.clearRegs (s.warmGone p))
  let t := t.restart p stopped wipe
  let t := ((t.setReg .RST_CAUSE 0 p).wr F.RST_CAUSE_kind 2 p).wr F.RST_CAUSE_source source p
  let t := t.wr F.RST_CAUSE_warm_cnt n p
  let t := ((List.range 4).filter fun o => t.partOfOe o == p).foldl State.strapOptics t
  if p = 1 ∨ !t.twoPart then { t with vault := { t.vault with consent := false } } else t

/-- A warm reset of a partition (R438). -/
def State.warmReset (s : State) (p source : Nat) : State :=
  let s := s.warmPart p source false
  { s with rails := tabMap railDefault s.rails Rail.fresh }

/-- BOOT_WATCHDOG (R447): Mafin has not reached IDLE within 10 s of starting. -/
def execBootWatchdog (p : Fin 2) (s : State) : Res :=
  let st := s.rd F.BOOT_STS_stage p
  guarded (s.hasPart p && (s.part p).state == .booting && decide (3 ≤ st ∧ st ≤ 5)) "Mafin is not starting (R447)" (s.warmReset p 3)

/-! ### The boot ROM (R447, R448) -/

/-- How far a half's boot has come; the serving MGP's shows in BOOT_STS while the partition boots. -/
def State.bootStage (s : State) (h st : Nat) : State :=
  let p := s.partOfHalf h
  let s := s.updMgp h fun m => { m with stage := st }
  if s.mgpOf p = h ∧ (s.part p).state = .booting then s.wr F.BOOT_STS_stage st p else s

/-- The boot ROM waits for an image in SRAM (R448): it initialises the SRAM of TILE0 or TILE8. -/
def State.holdBoot (s : State) (h : Nat) : State := (s.zeroSram fun t => t == 8 * h).bootStage h 7

/-- The boot ROM chooses the slot that its boot record names (R447). -/
def State.flashBoot (s : State) (h : Nat) : State :=
  let f := s.flash h
  let n := f.attempts + 1
  let past := f.trial && decide (3 ≤ n)
  let s := if ! f.trial then s
    else if past then
      let s := s.updFlash h fun f => { f with trial := false, attempts := n, active := 1 - f.active, bootSeq := f.bootSeq + 1 }
      if s.mgpOf (s.partOfHalf h) = h then s.flag F.BOOT_EVT_fw_fallback F.BOOT_EVT_CNT_fallback_cnt (s.partOfHalf h) else s
    else s.updFlash h fun f => { f with attempts := n, bootSeq := f.bootSeq + 1 }
  (s.updMgp h fun m => { m with slot := (s.flash h).active, second := false }).bootStage h 1

/-- The boot ROM boots from the service network (R448): it lights OE0 or OE2 with every tensor port dark. -/
def State.networkBoot (s : State) (h : Nat) : State :=
  let s := (enginePorts (2 * h)).foldl (fun a q => a.updPort q fun t => { t with dark := true }) s
  ((s.updMgp h fun m => { m with slot := 2, second := false }).bootStage h 1).lightOn (2 * h)

/-- BOOT_SLOT_SELECT (R436, R447, R448): an MGP's boot ROM has read its boot record and chosen a slot, or its straps another source. -/
def execBootSlotSelect (h : Fin 2) (s : State) : Res :=
  let p := s.partOfHalf h
  let q := s.part p
  let src := bits s.straps.toNat 4 2
  guarded (q.state != .cold && !q.stopped && (s.mgp h).stage == 0 && s.rdB F.CLK_STS_root_lock p && !q.resets.contains (1, h.val))
    "the half's boot ROM has no boot record to read (R447)"
    (if src = 0 then s.flashBoot h else if src = 1 then s.networkBoot h else s.holdBoot h)

/-- The checks of R497 on a firmware image, as the FW_INVALID detail that fails first. -/
def State.fwFault (s : State) (p : Nat) (img : List Byte) : Option Nat :=
  let key := leAt img 6 1
  let pub := (img.drop 0x18).take 96
  let format := decide (256 ≤ img.length) && decide (img.length ≤ 0x800000) && leAt img 0 4 == 0x4E46414D && leAt img 4 2 == 1
    && decide (key < 4) && decide (leAt img 7 1 < 2) && 256 + leAt img 8 4 == img.length && decide (leAt img 0x78 1 < 16)
    && !(leAt img 0x78 1).testBit key && allZero ((img.drop 0x79).take 39)
  if ! format then some 1
  else if s.fuses.rootKeys[key]? ≠ some (sha384 pub) then some 9
  else if s.fuses.revoked.testBit key then some 10
  else if ! ecdsaVerify pub ((img.drop 0xA0).take 96) (sha384 (img.take 0xA0 ++ img.drop 0x100)) then some 3
  else if leAt img 0xC 4 < s.mc0 p then some 4
  else none

/-- What is kept of an accepted image (R496, R497). -/
def firmwareOf (img : List Byte) : Firmware :=
  { keyIndex := leAt img 6 1, raise := (leAt img 7 1).testBit 0, revoke := leAt img 0x78 1, sec := leAt img 0xC 4,
    build := leAt img 0x10 8, meas := sha384 img }

/-- The n bytes of SRAM from a local address, as they stand. -/
def State.rawBytes (s : State) (a n : Nat) : List Byte := (List.range n).map fun i => s.byte (a + i)

/-- The image a boot ROM has read: from its slot, from the network, or from SRAM (R448). -/
def State.bootImage (s : State) (h : Nat) (net : List Byte) : List Byte :=
  let m := s.mgp h
  if m.slot = 0 then (s.flash h).slotA
  else if m.slot = 1 then (s.flash h).slotB
  else if m.slot = 2 then net
  else
    let b := s.rawBytes (sramBase + 8 * h * tileBytes) (64 * s.rd F.BOOT_CTL_granules (s.partOfHalf h))
    b.take (256 + leAt b 8 4)

/-- A P-384 private key from 56 bytes of KDF output (R499). -/
def privateKey (c : List Byte) : Nat := ofBE c % (p384n - 1) + 1

/-- The CDI (R499); the encoding of its parts is PRESUMED, notes/assumptions/14.md. -/
def State.cdi (s : State) (f : Firmware) : List Byte :=
  hmacSha384 (toLE 32 s.fuses.uds) (f.meas ++ toLE 4 f.sec ++ toLE 1 s.straps.toNat ++ toLE 1 (b2n s.twoPart))

/-- ASCII text of an info string. -/
def ascii (t : String) : List Byte := t.toList.map fun c => BitVec.ofNat 8 c.toNat

/-- The Alias key pair of a partition (R499), and its certificate, whose bytes are free. -/
def State.makeAlias (s : State) (p : Nat) (f : Firmware) : State :=
  let x := s.takeFree
  let v := Config.freeNat x.1
  x.2.updPart p fun q => { q with
    aliasKey := privateKey (hkdfSha384 [] (s.cdi f) (ascii "RDN-ALIAS" ++ toLE 1 p) 56)
    aliasCert := toLE (v % 2048 + 1) (v / 2048) }

/-- A firmware is accepted: it runs, the UDS is locked, and the serving MGP's identity is formed (R493, R497, R499). -/
def State.acceptFirmware (s : State) (h : Nat) (f : Firmware) : State :=
  let p := s.partOfHalf h
  let s := (s.updMgp h fun m => { m with fw := some f }).bootStage h 3
  let s := s.wr F.SEC_STS_uds_locked 1 p
  if s.mgpOf p = h ∧ (s.part p).state = .booting then s.makeAlias p f else s

/-- A firmware fails its verification (R447, R448, R511): the other slot is tried, then hold mode. -/
def State.rejectFirmware (s : State) (h detail : Nat) : State :=
  let p := s.partOfHalf h
  let m := s.mgp h
  if m.slot = 2 then s
  else if m.slot = 3 then s.holdBoot h
  else
    let s := (s.flag F.SEC_EVT_boot_verify F.SEC_EVT_CNT_verify_cnt p).secRecord p 18 (m.slot + detail * 16)
    if ! m.second then s.updMgp h fun m => { m with slot := 1 - m.slot, second := true }
    else
      let s := if s.mgpOf p = h then s.wr F.BOOT_STS_boot_fail 1 p else s
      s.holdBoot h

/-- FIRMWARE_VERIFIED (R497): the chosen image has been read and verified, or fails. `net` is what the network gave. -/
def execFirmwareVerified (h : Fin 2) (net : List (BitVec 8)) (s : State) : Res :=
  let m := s.mgp h
  let img := s.bootImage h net
  guarded ((s.part (s.partOfHalf h)).state != .cold && ((m.stage == 1 && m.slot != 3) || (m.stage == 2 && m.slot == 3)))
    "the half's boot ROM reads no image (R436)"
    (match s.fwFault (s.partOfHalf h) img with
     | none => s.acceptFirmware h (firmwareOf img)
     | some d => s.rejectFirmware h d)

/-- NETWORK_BOOT_TIMEOUT (R448): 60 s without an image. -/
def execNetworkBootTimeout (h : Fin 2) (s : State) : Res :=
  let m := s.mgp h
  guarded ((s.part (s.partOfHalf h)).state != .cold && m.stage == 1 && m.slot == 2) "the half's boot ROM waits for no image (R448)"
    (s.holdBoot h)

/-! ### Mafin starts (R37, R40, R276, R490) -/

/-- The feature levels (R40): the minimum over some dies. -/
def State.minFl (s : State) (ds : List Nat) : Nat := ((ds.map fun d => tabGet natDefault s.fuses.fl d).min?).getD 0

/-- Show the feature levels (R40, R43). -/
def State.showFl (s : State) : State :=
  let all := List.range 40
  let dev := s.minFl all
  let lim := (all.find? fun d => tabGet natDefault s.fuses.fl d == dev).getD 0
  let s := (s.wr F.ID_FL_STS_dev_fl dev 0).wr F.ID_FL_STS_west_fl (s.minFl (all.filter fun d => halfOfDie d == 0)) 0
  (s.wr F.ID_FL_STS_east_fl (s.minFl (all.filter fun d => halfOfDie d == 1)) 0).wr F.ID_FL_STS_limit_die lim 0

/-- The physical cores of a tile that the ageing log marks failed (R37, R39). -/
def State.loggedBad (s : State) (t : Nat) : Nat :=
  ((List.range 5).filter fun pc => (s.flash (t / 8)).perm.any fun e => e.type == 16 && e.unitKind == 4 && e.unit == 5 * t + pc).foldl
    (fun a pc => a + 2 ^ pc) 0

/-- The physical cores a tile may use. -/
def State.goodCores (s : State) (t : Nat) : List Nat :=
  (List.range 5).filter fun pc => !(tabGet natDefault s.fuses.fusedBad t).testBit pc && !(s.loggedBad t).testBit pc

/-- Build the map of a tile (R37). -/
def State.buildMap (s : State) (t : Nat) : State :=
  let g := s.goodCores t
  let s := (List.range 4).foldl (fun a i => a.wr (lpField i) (g.getD i 7) 0 t) s
  (s.wr F.TILE_LPMAP_spare_phys (g.getD 4 7) 0 t).wr F.TILE_LPMAP_failed (s.loggedBad t) 0 t

/-- The configuration record that serves a partition, if it is valid (R451). -/
def State.config? (s : State) (p : Nat) : Option (List Byte) :=
  let b := (s.flash (s.mgpOf p)).config
  if configValid b then some b else none

/-- Inline encryption from the configuration record (R276, R451). -/
def State.setEncryption (s : State) (p : Nat) : State :=
  let on : Nat := match s.config? p with
    | some b => bits (leAt b 0xE8 1) p 1
    | none => 0
  (s.wr F.MEM_CTL_enc_en on p).wr F.MEM_STS_enc_active on p

/-- The plan that the ageing log holds (R490): its generation and the dies at their limit. -/
def State.showPlan (s : State) (p : Nat) : State :=
  let gens := ((s.halves p).flatMap fun h => (s.flash h).perm.filter fun e => e.type == 22).map (·.value1)
  (s.wr F.AGE_PLAN_generation ((gens.max?).getD 0) p).wr F.AGE_PLAN_at_limit ((s.planDies p).filter fun d => (s.die d).limit).length p

/-- The boot after PARTITION counts the mode change (R504, R509, R511). -/
def State.countMode (s : State) (p : Nat) : State :=
  if ! s.modeDue then s
  else
    let n := min (s.vault.mc5 + 1) (2 ^ 32 - 1)
    let s := { s with modeDue := false, vault := { s.vault with mc5 := n } }
    (s.flag F.SEC_EVT_mode_change F.SEC_EVT_CNT_mode_cnt p).secRecord p 17 (b2n s.twoPart + n * 2 ^ 32)

/-- MAFIN_START (R436): feature levels, core maps, encryption and margin plan; a warm reset re-plans (R490); a tile without four cores
quarantines the partition (R37). -/
def execMafinStart (p : Fin 2) (s : State) : Res :=
  guarded (s.hasPart p && (s.part p).state == .booting && s.rd F.BOOT_STS_stage p == 3 && (s.mgp (s.mgpOf p)).stage == 3)
    "no verified firmware waits to start (R436)"
    (let ts := (List.range 16).filter fun t => s.partOfTile t == p
     let s := ts.foldl State.buildMap s.showFl
     let s := (s.setEncryption p).showPlan p
     let s := if s.rd F.RST_CAUSE_kind p = 2 then s.replan p else s
     let s := (s.countMode p).wr F.BOOT_STS_stage 4 p
     if ts.any fun t => decide ((s.goodCores t).length < 4) then s.quarantine p 1 else s)

/-! ### Memory and optics come up (R242, R243, R271, R436) -/

/-- Whether the present boot zeroes memory whatever the encryption setting: after a cold reset, or after PARTITION (R271, R509). -/
def State.bootWipes (s : State) (p : Nat) : Bool := decide (s.rd F.RST_CAUSE_kind p < 2) || (s.part p).wipe

/-- A channel's PHY training (R243): up to two failing lanes are repaired onto its spares and logged; with three or more it fails. -/
def State.trainChannel (s : State) (c : Nat) (bad : List Nat) : State :=
  if bad.isEmpty ∨ 2 < bad.length then s
  else
    let s := bad.foldl (fun a l => a.ageLog (c / 320) 18 1 c l 0) s
    s.wr F.MST_STS_lanes_repaired (s.rd F.MST_STS_lanes_repaired 0 (c / 32) + bad.length) 0 (c / 32)

/-- A stack is marked failed (R242). -/
def State.failStack (s : State) (p k : Nat) : State :=
  let s := s.wr F.MST_STS_failed 1 0 k
  let s := (span (32 * k) 32).foldl (fun a c => a.wr F.MCH_STS_mode 0 0 c) s
  s.flag F.MEM_EVT_chan_fail F.MEM_EVT_fail_cnt p

/-- LDLY_ASYM and comet tap of a port from its half's flash (R436, R451). -/
def State.loadPort (s : State) (q : Nat) : State :=
  let s := match s.config? (s.partOfPort q) with
    | some b => s.wr F.LDLY_ASYM_asym_ps (leAt b (0xA8 + 2 * q) 2) 0 q
    | none => s
  s.setReg .OE_FIB_COMET (BitVec.ofNat 64 (tabGet natDefault (s.flash (q / 16)).taps q)) 0 (q / 8) (q % 8)

/-- Heater tables of a half, LDLY_ASYM and comet taps from its flash (R436). -/
def State.loadHalf (s : State) (h : Nat) : State :=
  let mine (x : Nat × BitVec 16) : Bool := x.1 / 16 / 18 / 4 / 8 / 2 == h
  let t := (s.flash h).heaters.foldl (fun t x => tabSet heaterDefault t x.1 x.2) (s.heaters.filter fun x => !mine x)
  (span (16 * h) 16).foldl State.loadPort { s with heaters := t }

/-- The optical engines of a partition leave reset (R436): with light_en = 1 each enables its primary laser input. -/
def State.startOptics (s : State) (o : Nat) : State :=
  let s := if (s.mgp (o / 2)).slot = 2 then (enginePorts o).foldl (fun a q => a.updPort q fun t => { t with dark := false }) s else s
  if ! s.lightEn o then s else if s.spLit o then s.lightEngine o else s.lightOn o

/-- STACK_TRAINING_DONE (R242, R243, R271, R436): PHY training and identity checks end. `bad` are the stacks that failed, `lanes` the
failing lanes by channel. SRAM is zeroed at a cold boot and after PARTITION, zero-fill begins where R271 asks for it, and the
engines leave reset. -/
def execStackTrainingDone (p : Fin 2) (bad : List (Fin 20)) (lanes : List (Fin 640 × Nat)) (s : State) : Res :=
  let st := (s.part p).state
  let chans := (List.range 640).filter fun c => s.partOfChan c == p
  let of (c : Nat) : List Nat := (lanes.filter fun x => x.1.val == c).map (·.2)
  let mine := (bad.all fun k => s.partOfHalf (k.val / 10) == p) && lanes.all fun x => s.partOfChan x.1.val == p
  guarded (s.hasPart p && (st == .booting || st == .quarantined) && s.rd F.BOOT_STS_stage p == 4 && mine)
    "the partition trains no stacks (R436)"
    (let s := (chans.filter fun c => !(of c).isEmpty).foldl (fun a c => a.trainChannel c (of c)) s
     let failed := (List.range 20).filter fun k =>
       bad.any (fun b => b.val == k) || (span (32 * k) 32).any fun c => decide (2 < (of c).length)
     let s := failed.foldl (fun a k => a.failStack p k) s
     let wipes := s.bootWipes p
     let s := if wipes then s.zeroSram fun t => s.partOfTile t == p else s
     let s := (s.halves p).foldl State.loadHalf s
     let s := ((List.range 4).filter fun o => s.partOfOe o == p).foldl State.startOptics s
     let fill := wipes || s.encOn p
     let s := s.updPart p fun q => { q with filling := fill }
     let s := if fill ∨ ¬ failed.isEmpty then s else s.wr F.MEM_STS_ready 1 p
     let s := s.wr F.BOOT_STS_stage 5 p
     if failed.isEmpty then s else s.quarantine p 2)

/-- ZERO_FILL_DONE (R271): every granule of every channel is zero, and MEM_STS ready is set if every stack is trained. -/
def execZeroFillDone (p : Fin 2) (s : State) : Res :=
  guarded (s.hasPart p && (s.part p).filling) "no zero-fill runs (R271)"
    (let s := (s.zeroHbm fun h => s.partOfHalf h == p).updPart p fun q => { q with filling := false }
     let whole := (List.range 20).all fun k => s.partOfHalf (k / 10) != p || !s.rdB F.MST_STS_failed 0 k
     if whole then s.wr F.MEM_STS_ready 1 p else s)

/-! ### IDLE (R437, R447, R498) -/

/-- The registers that carry a lock bit of their own. -/
def lockRegs : List Reg := allRegs.filter fun r => (regInfo r).lock == some r

/-- Mafin sets every lock bit of a partition (R436). -/
def State.lockAll (s : State) (p : Nat) : State :=
  lockRegs.foldl (fun a r =>
    let d := regInfo r
    let set (b : State) (i j : Nat) : State := b.wr ⟨r, 31, 1⟩ 1 p i j
    if d.perPartition then set a 0 0
    else (List.range (max d.n1 1)).foldl (fun b i => (List.range (max d.n2 1)).foldl (fun c j =>
      if c.seesReg p r i j then set c i j else c) b) a) s

/-- Every bridge of the partition has been trained (R437). -/
def State.bridgesReady (s : State) (p : Nat) : Bool :=
  (List.range 32).all fun b => (isSeam b && s.twoPart) || (List.range 2).all fun x =>
    s.partOfSide b x != p || [brActive, brDegraded, brDown].contains (s.sideState b x)

/-- Raise MC0 to the security version of a firmware (R498), in every store of the partition (R494). -/
def State.raiseMc0 (s : State) (p v : Nat) : State :=
  { s with vault := { s.vault with
      mc0W := if !s.twoPart ∨ p = 0 then v else s.vault.mc0W
      mc0E := if !s.twoPart ∨ p = 1 then v else s.vault.mc0E } }

/-- What Mafin does when a firmware reaches IDLE (R447, R498); one that came from the network or by hold leaves the boot record as it
is (R448). -/
def State.settleFirmware (s : State) (p : Nat) (storeOk : Bool) : State :=
  let s := (s.halves p).foldl (fun a h => a.updFlash h fun f =>
    if (f.trial ∨ f.attempts ≠ 0) ∧ (s.mgp h).slot < 2 then { f with trial := false, attempts := 0, bootSeq := f.bootSeq + 1 } else f) s
  match (s.mgp (s.mgpOf p)).fw with
  | none => s
  | some f =>
    let s := if f.raise ∧ s.mc0 p < f.sec then (if storeOk then s.raiseMc0 p f.sec else s.storeErr p 0) else s
    { s with fuses := { s.fuses with revoked := s.fuses.revoked ||| f.revoke } }

/-- BOOT_COMPLETE (R437): the lock bits are set and the partition enters IDLE. `storeOk` says that the secure store takes a raised
MC0. -/
def execBootComplete (p : Fin 2) (storeOk : Bool) (s : State) : Res :=
  guarded (s.hasPart p && (s.part p).state == .booting && s.rd F.BOOT_STS_stage p == 5 && !(s.part p).filling && s.bridgesReady p)
    "a condition of R437 does not hold"
    (((s.lockAll p).enter p .idle).wr F.BOOT_STS_stage 6 p |>.settleFirmware p storeOk)

end Sys2Proof.Machine
end

