-- ==== Sys2Proof/Machine/Reset.lean ====
section
/-! DEFINITION. RESET_UNIT and partial resets (11 R423; 12 R442–R445), and the flash updates FW_STAGE and FW_COMMIT
(12 R446, R449, R450). -/

namespace Sys2Proof.Machine

/-! ### Records written before a reset (R423, R450, R509) -/

/-- Complete a command with OK and write its record at once; none while its completion ring does not take one. -/
def State.recordNow (s : State) (p : Nat) (o : OpenCmd) : Option State :=
  let t := s.completeOk p o 0 0
  match o.src with
  | .mailbox => some t
  | .ring r =>
    let q := s.rd F.HIF_CR_CFG_cq p r
    if o.orphan then some t
    else if !s.cqRoom p q || (s.part p).records.any (fun c => c.cq == q) then none
    else match (t.part p).records.find? fun c => c.cq == q with
      | some c => some (t.writeRecord p c)
      | none => some t

/-- A RESET_UNIT of one kind that has passed its checks. -/
def State.resetCommand (s : State) (p r kind : Nat) (f : OpenCmd → Res) : Res :=
  match s.fresh? p r 0x33 with
  | none => notEnabled "no RESET_UNIT is in progress there (R418)"
  | some o => if bits o.arg0 0 4 ≠ kind then notEnabled "the RESET_UNIT is of another kind (R423)" else f o

/-- RESET_UNIT_WARM (R423, R438): the record is written, then the partition is warm reset. -/
def execResetUnitWarm (p : Fin 2) (r : Fin 65) (s : State) : Res :=
  s.resetCommand p r 0 fun o => match s.recordNow p o with
    | none => notEnabled "the completion ring takes no record yet (R410)"
    | some t => .next (t.warmReset p 1)

/-! ### Partial resets (R442–R445) -/

/-- Whether a reset's scope covers another's (R445). -/
def ResetUnit.covers : ResetUnit → ResetUnit → Bool
  | .half h, .half g => h == g
  | .half h, .oe o => o / 2 == h
  | .half h, .tile t => t / 8 == h
  | .half h, .port q => q / 16 == h
  | .oe o, .port q => q / 8 == o
  | .oe o, .oe b => o == b
  | .tile t, .tile b => t == b
  | .port q, .port b => q == b
  | .oe _, .half _ | .oe _, .tile _ | .tile _, .half _ | .tile _, .oe _ | .tile _, .port _ | .port _, .half _ | .port _, .oe _
  | .port _, .tile _ => false

/-- The units of a partition's partial resets in progress. -/
def Part.resetUnits (q : Part) : List ResetUnit := q.resets.map fun x => resetUnitOf x.1 x.2

/-- Show the cause of a reset in RST_CAUSE (R459); the count of warm resets stays. -/
def State.resetCause (s : State) (p kind unit : Nat) : State :=
  ((s.wr F.RST_CAUSE_kind kind p).wr F.RST_CAUSE_source 1 p).wr F.RST_CAUSE_unit unit p

/-- What of a unit stays through a partial reset although its registers are reset: the logical ports of the placement, and
what the boot found of stacks and channels (R242, R442). -/
def State.restoreUnit (s t : State) (u : ResetUnit) : State :=
  let t := ((List.range 32).filter u.hasPort).foldl (fun a q => a.wr F.PORT_STS_logical (s.rd F.PORT_STS_logical 0 q) 0 q) t
  let t := ((List.range 640).filter fun c => u.hasChan c && s.rd F.MCH_STS_mode 0 c == 0).foldl
    (fun a c => a.wr F.MCH_STS_mode 0 0 c) t
  ((List.range 20).filter fun k => u.hasChan (32 * k)).foldl (fun a k =>
    (a.wr F.MST_STS_failed (s.rd F.MST_STS_failed 0 k) 0 k).wr F.MST_STS_lanes_repaired (s.rd F.MST_STS_lanes_repaired 0 k) 0 k) t

/-- A partial reset begins (R439, R442): ports and service ports of the unit go dark, its engines, bridges, optics and registers are
reset, its collective groups are READY, and resets it covers are absorbed (R445). -/
def State.startPartial (s : State) (p kind unit : Nat) : State :=
  let u := resetUnitOf kind unit
  let oes := (List.range 4).filter u.hasOe
  let ports := (List.range 32).filter u.hasPort
  let cores := (List.range 64).filter fun n => u.hasTile (n / 4)
  let s := ports.foldl State.portDark s
  let s := oes.foldl State.spDark s
  let s := cores.foldl (fun a n => a.releaseFences n [.scu, .mxe, .vxe, .dmx]) s
  let t := (s.clearRegs fun _ r i j => u.hasReg true r i j).clearUnit u true
  let t := s.restoreUnit t u
  let t := oes.foldl (fun a o => (a.strapOptics o).collReset p o) t
  let t := if s.contained p then ports.foldl (fun a q => a.updPort q fun x => { x with dark := true }) t else t
  let t := if kind = 1 then
      let t := t.updMgp unit fun _ => {}
      if t.mgpOf p = unit then t.wr F.HIF_STS_primary (1 - unit) p else t
    else t
  let t := t.updPart p fun q => { q with resets := (q.resets.filter fun x => !u.covers (resetUnitOf x.1 x.2)) ++ [(kind, unit)] }
  t.resetCause p (kind + 2) unit

/-- A partial reset named by RESET_UNIT: one that a reset in progress covers has no further effect (R445). -/
def State.askPartial (s : State) (p kind unit : Nat) : State :=
  if (s.part p).resetUnits.any fun u => u.covers (resetUnitOf kind unit) then s else s.startPartial p kind unit

/-- RESET_UNIT_HALF (R423, R444): the record means acceptance; the other MGP becomes primary if the half holds it. -/
def execResetUnitHalf (p : Fin 2) (r : Fin 65) (s : State) : Res :=
  s.resetCommand p r 1 fun o => match s.recordNow p o with
    | none => notEnabled "the completion ring takes no record yet (R410)"
    | some t => .next (t.askPartial p 1 (bits o.arg1 0 1))

/-- A partial reset whose command completes when the reset ends (R443, R445); one that ends the command's own connection discards its
record (R412). -/
def State.resetLater (s : State) (p r kind width : Nat) : Res :=
  s.resetCommand p r kind fun o => .next ((s.await p o).askPartial p kind (bits o.arg1 0 width))

/-- RESET_UNIT_OE (R423). -/
def execResetUnitOe (p : Fin 2) (r : Fin 65) (s : State) : Res := s.resetLater p r 2 2

/-- RESET_UNIT_TILE (R423). -/
def execResetUnitTile (p : Fin 2) (r : Fin 65) (s : State) : Res := s.resetLater p r 3 4

/-- RESET_UNIT_PORT (R423). -/
def execResetUnitPort (p : Fin 2) (r : Fin 65) (s : State) : Res := s.resetLater p r 4 5

/-- A partial or engine reset has completed. -/
def State.resetFlag (s : State) (p : Nat) : State := s.flag F.BOOT_EVT_partial_reset F.BOOT_EVT_CNT_partial_cnt p

/-- A reset that completes at once: its effect, its cause and its command. -/
def State.resetNow (s : State) (p r kind : Nat) (f : Nat → State → State) : Res :=
  s.resetCommand p r kind fun o =>
    let u := bits o.arg1 0 10
    .next ((((f u s).resetFlag p).resetCause p (kind + 2) u).completeOk p o 0 0)

/-- RESET_UNIT_ENGINE (R442, R225): the named engines of a core. -/
def execResetUnitEngine (p : Fin 2) (r : Fin 65) (s : State) : Res :=
  s.resetNow p r 5 fun u s => s.engineReset (bits u 0 6) (bits u 6 4)

/-- RESET_UNIT_COLLECTIVE (R398). -/
def execResetUnitCollective (p : Fin 2) (r : Fin 65) (s : State) : Res := s.resetNow p r 6 fun u s => s.collReset p u

/-- RESET_UNIT_GATHER (R442): every thread and launch ends; no semaphore is signalled. -/
def execResetUnitGather (p : Fin 2) (r : Fin 65) (s : State) : Res :=
  s.resetNow p r 7 fun u s => (s.dropNarrow u).updGather u fun g => { nextLaunch := g.nextLaunch }

/-- Mafin reapplies the loaded image to the units of a partial reset (R443). -/
def State.reapply (s : State) (p : Nat) (u : ResetUnit) : State :=
  let ports := (List.range 32).filter u.hasPort
  let s := ports.foldl (fun a q => (a.loadPort q).showDelay q) s
  match (s.part p).image with
  | none => s
  | some img =>
    let s := s.loadStreamsOf p img ((List.range 64).filter fun n => u.hasTile (n / 4))
    let s := s.loadChannelsOf img ((List.range 640).filter u.hasChan)
    if s.contained p then s.allStreams p Stream.halt else s

/-- Light comes back to the units of a partial reset (R442, R436). -/
def State.relightUnit (s : State) (p : Nat) (u : ResetUnit) : State :=
  let s := ((List.range 4).filter u.hasOe).foldl (fun a o => if a.lightEn o then a.lightOn o else a) s
  match u with
  | .port q => if s.spLit (q / 8) && !s.contained p then s.lightFibre q else s
  | .half _ | .oe _ | .tile _ => s

/-- PARTIAL_RESET_DONE (R443–R445): the k-th partial reset in progress ends, and the RESET_UNIT commands that it covers complete. -/
def execPartialResetDone (p : Fin 2) (k : Nat) (s : State) : Res :=
  match (s.part p).resets[k]? with
  | none => notEnabled "no such partial reset is in progress (R443)"
  | some x =>
    let u := resetUnitOf x.1 x.2
    let s := s.updPart p fun q => { q with resets := removeAt q.resets k }
    let s := ((s.reapply p u).relightUnit p u).resetFlag p
    let mine := (s.part p).opens.filter fun o =>
      o.checked && o.opcode == 0x33 && o.stage == 1 && u.covers (resetUnitOf (bits o.arg0 0 4) (bits o.arg1 0 10))
    .next (mine.foldl (fun a o => a.completeOk p o 0 0) s)

/-! ### FW_STAGE (R449) -/

/-- Whether another FW_STAGE is in progress on the partition. -/
def State.staging (s : State) (p : Nat) (src : CmdSrc) : Bool :=
  (s.part p).opens.any fun o => o.src != src && o.opcode == 0x38 && o.stage == 1

/-- The image FW_STAGE names, or the status and detail that refuse it: 6, 5, the fetch, 2, then the checks of its kind. -/
def State.stagedImage (s : State) (p : Nat) (o : OpenCmd) (data : Option (List Byte)) (most : Nat)
    (check : List Byte → Option Nat) : Except (Nat × Nat) (List Byte) :=
  let n := bits o.arg1 0 32
  let d := s.windowDetail p (bits o.arg2 0 8) o.arg0 n false
  if s.staging p o.src then .error (0x19, 6)
  else if most < n then .error (0x19, 5)
  else if d ≠ 0 then .error (0x06, d)
  else match data with
    | none => .error (0x06, 1)
    | some b =>
      let img := padTo n b
      if sha384 img ≠ o.ext.take 48 then .error (0x19, 2)
      else match check img with
        | some d => .error (0x19, d)
        | none => .ok img

/-- Change the flash of every half of a partition (R446). -/
def State.updFlashes (s : State) (p : Nat) (f : Flash → Flash) : State := (s.halves p).foldl (fun a h => a.updFlash h f) s

/-- A slot's contents. -/
def Flash.setInactive (f : Flash) (b : List Byte) : Flash := if f.active = 0 then { f with slotB := b } else { f with slotA := b }

/-- FW_STAGE of one kind. Its row runs twice: the image is read and verified, and what is to be overwritten is given up; then it is
written, read back and compared (`flashOk`). -/
def State.fwStage (s : State) (p r kind most : Nat) (check : List Byte → Option Nat) (data : Option (List Byte))
    (begin_ : Flash → Flash) (finish : List Byte → Flash → Flash) (results : List Byte → Nat × Nat) (flashOk : Bool) : Res :=
  match s.running? p r 0x38 with
  | none => notEnabled "no FW_STAGE is in progress there (R418)"
  | some o =>
    if bits o.arg2 8 8 ≠ kind then notEnabled "the FW_STAGE is of another kind (R449)"
    else if o.stage = 0 then
      match s.stagedImage p o data most check with
      | .error e => .next (s.complete p o.src e.1 e.2 0 0)
      | .ok img => .next ((s.updFlashes p begin_).setOpen p { o with stage := 1, ext := img })
    else if ! flashOk then .next (s.complete p o.src 0x19 7 0 0)
    else
      let x := results o.ext
      .next ((s.updFlashes p (finish o.ext)).completeOk p o x.1 x.2)

/-- FW_STAGE_FIRMWARE (R449, R497): into the slot that is not active, which stands empty while it is written. -/
def execFwStageFirmware (p : Fin 2) (r : Fin 65) (data : Option (List (BitVec 8))) (flashOk : Bool) (s : State) : Res :=
  s.fwStage p r 0 0x800000 (s.fwFault p) data (fun f => { f.setInactive [] with staged := false })
    (fun b f => { f.setInactive b with staged := true }) (fun b => (leAt b 0x10 8, leAt b 0xC 4)) flashOk

/-- FW_STAGE_CONFIG (R449, R451): the configuration record. -/
def execFwStageConfig (p : Fin 2) (r : Fin 65) (data : Option (List (BitVec 8))) (flashOk : Bool) (s : State) : Res :=
  s.fwStage p r 1 1024 (fun b => if configValid b then none else some 1) data id (fun b f => { f with config := b })
    (fun _ => (0, 0)) flashOk

/-! ### FW_COMMIT (R450) -/

/-- The staged slot becomes active on trial, in one boot-record write. -/
def Flash.commit (f : Flash) : Flash :=
  { f with active := 1 - f.active, trial := true, attempts := 0, staged := false, bootSeq := f.bootSeq + 1 }

/-- An FW_COMMIT, with or without reset_now; detail 8 with nothing staged. -/
def State.fwCommit (s : State) (p r now : Nat) (f : OpenCmd → State → Res) : Res :=
  match s.fresh? p r 0x39 with
  | none => notEnabled "no FW_COMMIT is in progress there (R418)"
  | some o =>
    if bits o.arg0 0 1 ≠ now then notEnabled "the FW_COMMIT has the other reset_now (R450)"
    else if ! (s.flash (s.mgpOf p)).staged then .next (s.complete p o.src 0x19 8 0 0)
    else f o (s.updFlashes p Flash.commit)

/-- FW_COMMIT (R450): from the next cold or warm reset. -/
def execFwCommit (p : Fin 2) (r : Fin 65) (s : State) : Res := s.fwCommit p r 0 fun o s => .next (s.completeOk p o 0 0)

/-- FW_COMMIT_RESET_NOW (R450): the record is written, then a warm reset follows. -/
def execFwCommitResetNow (p : Fin 2) (r : Fin 65) (s : State) : Res :=
  s.fwCommit p r 1 fun o s => match s.recordNow p o with
    | none => notEnabled "the completion ring takes no record yet (R410)"
    | some t => .next (t.warmReset p 2)

end Sys2Proof.Machine
end

