-- ==== Sys2Proof/Machine/Security.lean ====
section
/-! DEFINITION. Security and partitions (14 R499–R511): command keys, attestation, and the partition mode. -/

namespace Sys2Proof.Machine

/-- Complete a security command with SEC_REFUSED and a detail. -/
def State.secRefused (s : State) (p : Nat) (o : OpenCmd) (detail : Nat) : State := s.complete p o.src 0x1A detail 0 0

/-! ### KEY_ROTATE (R500–R504) -/

/-- The Alias key's fingerprint in a KEY_ROTATE extension (R501). -/
def State.aliasHash (s : State) (p : Nat) : List Byte := (sha384 (ecPublic (s.part p).aliasKey)).take 16

/-- The wrapping key W (R501), from the host's public key; none if it is not on the curve. -/
def State.wrapKey (s : State) (p : Nat) (pub : List Byte) : Option (List Byte) :=
  let x := ofBE (pub.take 48)
  let y := ofBE ((pub.drop 48).take 48)
  if ! onCurve x y then none
  else match ecMul (s.part p).aliasKey (some (x, y)) with
    | none => none
    | some (k, _) => some (hkdfSha384 (toLE 8 s.fuses.serial.toNat ++ toLE 1 p) (toBE 48 k) (ascii "RDN-KW") 32)

/-- The new command key of a KEY_ROTATE extension, or the detail that refuses it (R502). -/
def State.newKey (s : State) (p : Nat) (ext : List Byte) : Except Nat (List Byte) :=
  if (ext.drop 136).take 16 ≠ s.aliasHash p then .error 5
  else match s.wrapKey p (ext.take 96) with
    | none => .error 4
    | some w => match kwUnwrap w ((ext.drop 96).take 40) with
      | none => .error 4
      | some k => .ok k

/-- Store a partition's command key and its key generation (R494, R504). -/
def State.setKey (s : State) (p : Nat) (key : Option (List Byte)) (gen : Nat) : State :=
  { s with vault := if p = 1 then { s.vault with key1 := key, mc4 := gen } else { s.vault with key0 := key, mc3 := gen } }

/-- A command key has changed (R511). -/
def State.keyChanged (s : State) (p action : Nat) : State :=
  (s.flag F.SEC_EVT_key_change F.SEC_EVT_CNT_key_cnt p).secRecord p 16 (s.keyGen p + action * 2 ^ 32)

/-- Take a new command key: the generation counts, and the results give it with the key check value (R502). -/
def State.takeKey (s : State) (p : Nat) (o : OpenCmd) (action : Nat) (storeOk : Bool) : State :=
  match s.newKey p o.ext with
  | .error d => s.secRefused p o d
  | .ok key =>
    let gen := s.keyGen p + 1
    if 2 ^ 32 ≤ gen then s.secRefused p o 8
    else if ! storeOk then (s.storeErr p p).secRefused p o 8
    else ((s.setKey p (some key) gen).keyChanged p action).completeOk p o gen (leAt (hmacSha256 key (ascii "KCV")) 0 8)

/-- A KEY_ROTATE of one action that has passed its checks. -/
def State.keyCommand (s : State) (p r action : Nat) (f : OpenCmd → State) : Res :=
  match s.fresh? p r 0x30 with
  | none => notEnabled "no KEY_ROTATE is in progress there (R418)"
  | some o => if bits o.arg0 0 8 ≠ action then notEnabled "the KEY_ROTATE has another action (R501)" else .next (f o)

/-- KEY_ROTATE_INSTALL (R502). -/
def execKeyRotateInstall (p : Fin 2) (r : Fin 65) (storeOk : Bool) (s : State) : Res :=
  s.keyCommand p r 0 fun o =>
    if (s.cmdKey p).isSome then s.secRefused p o 2
    else if ! (o.mbox && o.i3c) then s.secRefused p o 3
    else if (o.field 1 1).testBit 0 then s.secRefused p o 9
    else s.takeKey p o 0 storeOk

/-- KEY_ROTATE_ROTATE (R502). -/
def execKeyRotateRotate (p : Fin 2) (r : Fin 65) (storeOk : Bool) (s : State) : Res :=
  s.keyCommand p r 1 fun o => if (s.cmdKey p).isSome then s.takeKey p o 1 storeOk else s.secRefused p o 1

/-- KEY_ROTATE_RELEASE (R502): the key is erased. -/
def execKeyRotateRelease (p : Fin 2) (r : Fin 65) (storeOk : Bool) (s : State) : Res :=
  s.keyCommand p r 2 fun o =>
    if (s.cmdKey p).isNone then s.secRefused p o 1
    else if ! storeOk then (s.storeErr p p).secRefused p o 8
    else ((s.setKey p none (s.keyGen p)).keyChanged p 2).completeOk p o 0 0

/-! ### ATTEST (R505, R506) -/

/-- Bytes 0x000–0x0FF of an attestation report (R506). -/
def State.reportBody (s : State) (p : Nat) (nonce : List Byte) : List Byte :=
  let q := s.part p
  let f : Firmware := ((s.mgp (s.mgpOf p)).fw).getD { keyIndex := 0, raise := false, revoke := 0, sec := 0, build := 0, meas := [] }
  let fl := s.flash (s.mgpOf p)
  let image : List Byte := match q.image with
    | some i => padTo 48 i.hash
    | none => List.replicate 48 0
  let plc : List Byte := match q.placement with
    | some x => padTo 16 x.hash
    | none => List.replicate 16 0
  let flags := b2n s.twoPart + b2n (s.cmdKey p).isSome * 2 + b2n (s.encOn p) * 4 + b2n fl.trial * 8
  toLE 4 0x54525441 ++ toLE 2 1 ++ toLE 1 p ++ toLE 1 flags ++ toLE 8 s.fuses.serial.toNat ++ toLE 1 (s.flOf p) ++
    toLE 1 s.straps.toNat ++ toLE 1 q.state.code ++ toLE 1 0 ++ toLE 4 f.sec ++ toLE 8 f.build ++ padTo 48 f.meas ++
    sha384 fl.config ++ image ++ plc ++ toLE 4 (s.keyGen p) ++ toLE 4 q.session ++ toLE 8 (s.lastCounter p) ++ toLE 8 q.gtc ++
    padTo 32 nonce ++ toLE 8 0

/-- The signed report; the signature's nonce is a draw of the entropy source (R495). -/
def State.report (s : State) (p : Nat) (nonce : List Byte) : State × List Byte :=
  let b := s.reportBody p nonce
  let f := s.takeFree
  (f.2, b ++ ecdsaSign (s.part p).aliasKey (Config.freeNat f.1 % (p384n - 1) + 1) (sha384 b))

/-- An ATTEST of one type: its bytes go to the host window, and result0 gives how many. -/
def State.attest (s : State) (p r type : Nat) (f : OpenCmd → State × List Byte) : Res :=
  match s.fresh? p r 0x31 with
  | none => notEnabled "no ATTEST is in progress there (R418)"
  | some o =>
    if bits o.arg0 0 8 ≠ type then notEnabled "the ATTEST is of another type (R505)"
    else
      let x := f o
      let w := bits o.arg2 0 8
      let d := s.windowDetail p w o.arg1 x.2.length true
      if d ≠ 0 then .next (s.complete p o.src 0x06 d 0 0)
      else .next ((x.1.toWindow p w o.arg1 x.2).completeOk p o x.2.length 0)

/-- ATTEST_REPORT (R506). -/
def execAttestReport (p : Fin 2) (r : Fin 65) (s : State) : Res := s.attest p r 0 fun o => s.report p (o.ext.take 32)

/-- ATTEST_DEVICEID_CERT (R505). -/
def execAttestDeviceidCert (p : Fin 2) (r : Fin 65) (s : State) : Res := s.attest p r 1 fun _ => (s, s.fuses.devCert)

/-- ATTEST_ALIAS_CERT (R505). -/
def execAttestAliasCert (p : Fin 2) (r : Fin 65) (s : State) : Res := s.attest p r 2 fun _ => (s, (s.part p).aliasCert)

/-! ### PARTITION (R507–R509) -/

/-- The warm reset of the whole package into a partition mode (R509): its boot wipes SRAM and HBM and counts the change. East's clocks
are those of the package when the device splits. The source RST_CAUSE shows is a free value (DESIGN CHOICE, notes/assumptions/81.md). -/
def State.changeMode (s : State) (two : Bool) : State :=
  let f := s.takeFree
  let src := Config.freeNat f.1 % 8
  let n := s.rd F.RST_CAUSE_warm_cnt 0 + 1
  let clk := s.reg .CLK_STS 0
  let t := s.parts.foldl (fun a p => a.warmPart p src true) f.2
  let t := { t with twoPart := two, part0 := {}, part1 := {}, modeDue := true, rails := tabMap railDefault t.rails Rail.fresh }
  let t := t.parts.foldl (fun a p => (((a.restart p false true).wr F.RST_CAUSE_kind 2 p).wr F.RST_CAUSE_source src p).wr
    F.RST_CAUSE_warm_cnt n p) t
  if two then t.setReg .CLK_STS clk 1 else t

/-- A PARTITION of one action that has passed its checks. -/
def State.partitionCommand (s : State) (p r action : Nat) (f : OpenCmd → Res) : Res :=
  match s.fresh? p r 0x32 with
  | none => notEnabled "no PARTITION is in progress there (R418)"
  | some o => if bits o.arg0 0 2 ≠ action then notEnabled "the PARTITION has another action (R509)" else f o

/-- Accept a split or merge: the secure store takes its change, the record is written, and the package resets. -/
def State.acceptMode (s : State) (p : Nat) (o : OpenCmd) (two storeOk : Bool) (v : Vault) : Res :=
  if ! storeOk then .next ((s.storeErr p 1).secRefused p o 8)
  else if 2 ^ 32 ≤ s.vault.mc5 + 1 then .next (s.secRefused p o 8)
  else match s.recordNow p o with
    | none => notEnabled "the completion ring takes no record yet (R410)"
    | some t => .next ({ t with vault := v }.changeMode two)

/-- PARTITION_SPLIT (R509): East's slot takes a copy of the key, and its counters do not decrease. -/
def execPartitionSplit (p : Fin 2) (r : Fin 65) (storeOk : Bool) (s : State) : Res :=
  s.partitionCommand p r 0 fun o =>
    let v := s.vault
    if s.twoPart then .next (s.secRefused p o 7)
    else s.acceptMode p o true storeOk { v with key1 := v.key0, mc2 := max v.mc2 v.mc1, mc4 := max v.mc4 v.mc3 }

/-- PARTITION_MERGE (R509): East's key is erased. -/
def execPartitionMerge (p : Fin 2) (r : Fin 65) (storeOk : Bool) (s : State) : Res :=
  s.partitionCommand p r 1 fun o =>
    if ! s.twoPart ∨ p.val = 1 ∨ (s.part 1).state ≠ .idle then .next (s.secRefused p o 7)
    else if ! s.vault.consent then .next (s.secRefused p o 6)
    else s.acceptMode p o false storeOk { s.vault with key1 := none, consent := false }

/-- PARTITION_CONSENT (R509): East consents to a merge. -/
def execPartitionConsent (p : Fin 2) (r : Fin 65) (storeOk : Bool) (s : State) : Res :=
  s.partitionCommand p r 2 fun o =>
    if ! s.twoPart ∨ p.val = 0 then .next (s.secRefused p o 7)
    else if ! storeOk then .next ((s.storeErr p 1).secRefused p o 8)
    else .next ({ s with vault := { s.vault with consent := true } }.completeOk p o 0 0)

/-- CONSENT_EXPIRY (R509): 60 s have passed. -/
def execConsentExpiry (s : State) : Res :=
  guarded s.vault.consent "no consent is held (R509)" { s with vault := { s.vault with consent := false } }

/-- SEAM_SIDEBAND (R508): a half's two bits reach the other half. In whole-device mode the wire carries only the divider alignment and
GTC load of R444, and the device keeps one GTC. -/
def execSeamSideband (h : Fin 2) (s : State) : Res :=
  if ! s.twoPart then .next s
  else
    let idle := (s.part h).state == .idle
    let consent := h.val == 1 && s.vault.consent
    let s := s.wr F.SEC_STS_peer_idle (b2n idle) (1 - h.val)
    let s := if h.val = 1 then s.wr F.SEC_STS_consent (b2n consent) 0 else s
    .next (s.emit (.seam h idle consent))

end Sys2Proof.Machine
end

