-- ==== Sys2Proof/Machine/Power.lean ====
section
/-! DEFINITION. Temperatures, rails and power (13 R468; 15 R515–R519, R524, R525). -/

namespace Sys2Proof.Machine

/-- The die whose fault record names a sensor: its own, or the base die under a stack (R524). -/
def sensorDie (u : Nat) : Nat := if u < 40 then u else stackDie (u - 40)

/-- The half a sensor lies in. -/
def sensorHalf (u : Nat) : Nat := if u < 40 then halfOfDie u else (u - 40) / 10

/-- Store a sample: the highest so far, and the warning, which stands until the sensor falls 5 °C below it (R468, R525). -/
def Temp.sample (t : Temp) (v warn : Nat) : Temp :=
  { now := v, max := if t.max < v then v else t.max, warn := decide (16 * warn ≤ v) || (t.warn && decide (16 * warn < v + 80)) }

/-- DIE_TEMP_SAMPLE (R468, R524): unit u as PWR_TEMP_SEL numbers it, in 1/16 °C. Reaching the shutdown temperature sends its record
alone and quarantines the partition; 125 °C on a die asserts the half's THERMTRIP_N. -/
def execDieTempSample (u : Fin 60) (t : BitVec 12) (s : State) : Res :=
  let v := t.toNat
  let p := s.partOfSensor u
  let was := s.temp u
  let shut := 16 * shutTemp u
  guarded ((s.part p).state != .cold) "the device is not released (R441)"
    (let s := { s with temps := tabSet tempDefault s.temps u (was.sample v (warnTemp u)) }
     let trip := decide (u.val < 40) && decide (2000 ≤ v)
     let s := if trip then (if sensorHalf u = 1 then { s with trip1 := true } else { s with trip0 := true }) else s
     let warm := !was.warn && decide (16 * warnTemp u ≤ v)
     let hot := decide (shut ≤ v) && (decide (was.now < shut) || !s.contained p)
     let s := if warm then s.flag F.PWR_EVT_temp_warn F.PWR_EVT_CNT_warn_cnt p else s
     if hot then
       let s := s.flag F.PWR_EVT_temp_shut F.PWR_EVT_CNT_shut_cnt p
       (s.quarantine p 4).record p 6 4 u (die := sensorDie u) (info0 := v) (changed := true)
     else if warm then s.record p 6 3 u (die := sensorDie u) (info0 := v) else s)

/-- The operating windows of the rails in mV (R515). -/
def railWindow (k : Nat) : Nat × Nat :=
  [(1746, 1854), (1746, 1854), (1018, 1082), (728, 772), (1710, 1890), (825, 875), (1455, 1545), (776, 824), (1710, 1890),
   (882, 918)].getD k (0, 0)

/-- Whether a rail's voltage lies in its window. -/
def railOk (k mv : Nat) : Bool := decide ((railWindow k).1 ≤ mv) && decide (mv ≤ (railWindow k).2)

/-- A measurement of a rail (R525). -/
def State.railSample (s : State) (k mv amps : Nat) : State :=
  { s with rails := tabUpd railDefault s.rails k fun r => { r with mv := mv, amps := amps, minMv := min r.minMv mv, inWin := railOk k mv } }

/-- RAIL_FAULT (R515, R482): a rail has been out of its window for 10 µs with COLD_RST_N high; every partition is quarantined. -/
def execRailFault (k : Fin 10) (mv : BitVec 16) (s : State) : Res :=
  guarded ((s.part 0).state != .cold && !railOk k mv.toNat) "COLD_RST_N is low, or the rail is in its window (R515, R519)"
    (let s := s.railSample k mv.toNat (s.rail k).amps
     let s := { s with rails := tabUpd railDefault s.rails k fun r => { r with faulted := true } }
     s.parts.foldl (fun a p =>
       let a := a.flag F.PWR_EVT_rail_fault F.PWR_EVT_CNT_rail_cnt p
       (a.quarantine p 5).record p 7 3 k (info0 := k.val) (changed := true)) s)

/-- The package's 1 ms mean is above its limit (R517): running partitions slip; the others are throttled, with one record per
excursion. -/
def State.overPower (s : State) (w : Nat) : State :=
  let s := if s.powerOver then s else s.parts.foldl (fun a p => a.flag F.PWR_EVT_power_limit F.PWR_EVT_CNT_limit_cnt p) s
  let s := { s with powerOver := true }
  let rest := s.parts.filter fun p => !s.running p
  let s := (s.parts.filter s.running).foldl (fun a p => if a.schedStopped p then a else a.slip p 0x10) s
  if rest.isEmpty ∨ s.rdB F.PWR_STS_throttle 0 then s
  else rest.foldl (fun a p => a.record p 7 2 0 (info0 := w)) (s.wr F.PWR_STS_throttle 1 0)

/-- POWER_SAMPLE (R516, R517, R525): the 1 ms mean of package power in W, and voltage (mV) and current (0.1 A) of the rails in order. -/
def execPowerSample (w : BitVec 16) (rails : List (BitVec 16 × BitVec 16)) (s : State) : Res :=
  let n := w.toNat
  guarded ((s.part 0).state != .cold) "the device is not released (R441)"
    (let s := (rails.take 10).zipIdx.foldl (fun a x => a.railSample x.2 x.1.1.toNat x.1.2.toNat) s
     let s := (s.wr F.PWR_STS_pkg_w n 0).wr F.PWR_STS_pkg_max_w (max n (s.rd F.PWR_STS_pkg_max_w 0)) 0
     if s.powerLimitW < n then s.overPower n
     else if 100 * n ≤ 97 * s.powerLimitW then { s with powerOver := false }.wr F.PWR_STS_throttle 0 0
     else s)

end Sys2Proof.Machine
end

