-- ==== Sys2Proof/Machine/Dispatch.lean ====
section
/-! DEFINITION. The dispatch: one arm for each constructor of Instr. -/

namespace Sys2Proof.Machine

/-- The effect of a command on everything but the queue. -/
def exec (i : Instr) (s : State) : Host.Outcome State Fault Refusal :=
  match i with
  | .beat b x header body => Sys2Proof.Machine.execBeat b x header body s
  | .beatLaunch b x new => Sys2Proof.Machine.execBeatLaunch b x new s
  | .beatReplay b x seq => Sys2Proof.Machine.execBeatReplay b x seq s
  | .bridgeSilenceTimeout b x => Sys2Proof.Machine.execBridgeSilenceTimeout b x s
  | .bcrcLimit b x => Sys2Proof.Machine.execBcrcLimit b x s
  | .bridgeRetrainSignal b x => Sys2Proof.Machine.execBridgeRetrainSignal b x s
  | .forceRetrain b x => Sys2Proof.Machine.execForceRetrain b x s
  | .bridgeResetRelease b x => Sys2Proof.Machine.execBridgeResetRelease b x s
  | .calibrateDone b x => Sys2Proof.Machine.execCalibrateDone b x s
  | .wireTestDone b x bad => Sys2Proof.Machine.execWireTestDone b x bad s
  | .mapDone b => Sys2Proof.Machine.execMapDone b s
  | .rootPllLock p => Sys2Proof.Machine.execRootPllLock p s
  | .rootUnlock p => Sys2Proof.Machine.execRootUnlock p s
  | .spllUnlock o => Sys2Proof.Machine.execSpllUnlock o s
  | .refclkLoss p => Sys2Proof.Machine.execRefclkLoss p s
  | .holdoverTimeout p => Sys2Proof.Machine.execHoldoverTimeout p s
  | .refclkReturn p => Sys2Proof.Machine.execRefclkReturn p s
  | .timingExchange q frac => Sys2Proof.Machine.execTimingExchange q frac s
  | .timingWord q m frac => Sys2Proof.Machine.execTimingWord q m frac s
  | .delayValid q => Sys2Proof.Machine.execDelayValid q s
  | .gtcLoad p => Sys2Proof.Machine.execGtcLoad p s
  | .aligned p => Sys2Proof.Machine.execAligned p s
  | .steerLimit p => Sys2Proof.Machine.execSteerLimit p s
  | .elasticExit q f => Sys2Proof.Machine.execElasticExit q f s
  | .conjunction p => Sys2Proof.Machine.execConjunction p s
  | .nop u w => Sys2Proof.Machine.execNop u w s
  | .semwait n e w => Sys2Proof.Machine.execSemwait n e w s
  | .semsig n e w => Sys2Proof.Machine.execSemsig n e w s
  | .semaphoreServe n => Sys2Proof.Machine.execSemaphoreServe n s
  | .fence n e w => Sys2Proof.Machine.execFence n e w s
  | .fenceComplete n e => Sys2Proof.Machine.execFenceComplete n e s
  | .fenceTimeout n e => Sys2Proof.Machine.execFenceTimeout n e s
  | .halt n e w => Sys2Proof.Machine.execHalt n e w s
  | .loop n e w => Sys2Proof.Machine.execLoop n e w s
  | .sli n w => Sys2Proof.Machine.execSli n w s
  | .sadd n w => Sys2Proof.Machine.execSadd n w s
  | .ssub n w => Sys2Proof.Machine.execSsub n w s
  | .smul n w => Sys2Proof.Machine.execSmul n w s
  | .sand n w => Sys2Proof.Machine.execSand n w s
  | .sor n w => Sys2Proof.Machine.execSor n w s
  | .sxor n w => Sys2Proof.Machine.execSxor n w s
  | .sshl n w => Sys2Proof.Machine.execSshl n w s
  | .sshr n w => Sys2Proof.Machine.execSshr n w s
  | .ssra n w => Sys2Proof.Machine.execSsra n w s
  | .saddi n w => Sys2Proof.Machine.execSaddi n w s
  | .ali n w => Sys2Proof.Machine.execAli n w s
  | .aadd n w => Sys2Proof.Machine.execAadd n w s
  | .aaddi n w => Sys2Proof.Machine.execAaddi n w s
  | .afroms n w => Sys2Proof.Machine.execAfroms n w s
  | .stoa n w => Sys2Proof.Machine.execStoa n w s
  | .sld n w => Sys2Proof.Machine.execSld n w s
  | .sst n w => Sys2Proof.Machine.execSst n w s
  | .ald n w => Sys2Proof.Machine.execAld n w s
  | .ast n w => Sys2Proof.Machine.execAst n w s
  | .br n w => Sys2Proof.Machine.execBr n w s
  | .jmp n w => Sys2Proof.Machine.execJmp n w s
  | .gtcrd n w => Sys2Proof.Machine.execGtcrd n w s
  | .loopidx n w => Sys2Proof.Machine.execLoopidx n w s
  | .glaunch n w => Sys2Proof.Machine.execGlaunch n w s
  | .resultDelivery n k => Sys2Proof.Machine.execResultDelivery n k s
  | .homeRefusal n k => Sys2Proof.Machine.execHomeRefusal n k s
  | .mma n w => Sys2Proof.Machine.execMma n w s
  | .mws n w => Sys2Proof.Machine.execMws n w s
  | .sramQueueTimeout n => Sys2Proof.Machine.execSramQueueTimeout n s
  | .mldacc n w => Sys2Proof.Machine.execMldacc n w s
  | .mstacc n w => Sys2Proof.Machine.execMstacc n w s
  | .mzero n w => Sys2Proof.Machine.execMzero n w s
  | .vadd n w => Sys2Proof.Machine.execVadd n w s
  | .vsub n w => Sys2Proof.Machine.execVsub n w s
  | .vmul n w => Sys2Proof.Machine.execVmul n w s
  | .vfma n w => Sys2Proof.Machine.execVfma n w s
  | .vmin n w => Sys2Proof.Machine.execVmin n w s
  | .vmax n w => Sys2Proof.Machine.execVmax n w s
  | .vsadd n w => Sys2Proof.Machine.execVsadd n w s
  | .vsmul n w => Sys2Proof.Machine.execVsmul n w s
  | .vsfma n w => Sys2Proof.Machine.execVsfma n w s
  | .vsel n w => Sys2Proof.Machine.execVsel n w s
  | .vcmp n w => Sys2Proof.Machine.execVcmp n w s
  | .vand n w => Sys2Proof.Machine.execVand n w s
  | .vor n w => Sys2Proof.Machine.execVor n w s
  | .vxor n w => Sys2Proof.Machine.execVxor n w s
  | .vshl n w => Sys2Proof.Machine.execVshl n w s
  | .vshr n w => Sys2Proof.Machine.execVshr n w s
  | .vexp2 n w => Sys2Proof.Machine.execVexp2 n w s
  | .vlog2 n w => Sys2Proof.Machine.execVlog2 n w s
  | .vrcp n w => Sys2Proof.Machine.execVrcp n w s
  | .vrsqrt n w => Sys2Proof.Machine.execVrsqrt n w s
  | .vtanh n w => Sys2Proof.Machine.execVtanh n w s
  | .verf n w => Sys2Proof.Machine.execVerf n w s
  | .vfexp2 n w => Sys2Proof.Machine.execVfexp2 n w s
  | .vcvt n w => Sys2Proof.Machine.execVcvt n w s
  | .vld n w => Sys2Proof.Machine.execVld n w s
  | .vst n w => Sys2Proof.Machine.execVst n w s
  | .vqst n w => Sys2Proof.Machine.execVqst n w s
  | .vacc n w => Sys2Proof.Machine.execVacc n w s
  | .vredsum n w => Sys2Proof.Machine.execVredsum n w s
  | .vredmax n w => Sys2Proof.Machine.execVredmax n w s
  | .vredmin n w => Sys2Proof.Machine.execVredmin n w s
  | .vtopk n w => Sys2Proof.Machine.execVtopk n w s
  | .vsample n w => Sys2Proof.Machine.execVsample n w s
  | .vchk n w => Sys2Proof.Machine.execVchk n w s
  | .vbcast n w => Sys2Proof.Machine.execVbcast n w s
  | .vlane n w => Sys2Proof.Machine.execVlane n w s
  | .vmovs n w => Sys2Proof.Machine.execVmovs n w s
  | .vidx n w => Sys2Proof.Machine.execVidx n w s
  | .dxfer n w => Sys2Proof.Machine.execDxfer n w s
  | .dmxTransferComplete n id => Sys2Proof.Machine.execDmxTransferComplete n id s
  | .transferStop n id => Sys2Proof.Machine.execTransferStop n id s
  | .gatherThreadStart g => Sys2Proof.Machine.execGatherThreadStart g s
  | .gld g l t w => Sys2Proof.Machine.execGld g l t w s
  | .gldr g l t w => Sys2Proof.Machine.execGldr g l t w s
  | .gst g l t w => Sys2Proof.Machine.execGst g l t w s
  | .gadd g l t w => Sys2Proof.Machine.execGadd g l t w s
  | .gaddi g l t w => Sys2Proof.Machine.execGaddi g l t w s
  | .gmuli g l t w => Sys2Proof.Machine.execGmuli g l t w s
  | .gshr g l t w => Sys2Proof.Machine.execGshr g l t w s
  | .gandi g l t w => Sys2Proof.Machine.execGandi g l t w s
  | .gatom g l t w => Sys2Proof.Machine.execGatom g l t w s
  | .gbr g l t w => Sys2Proof.Machine.execGbr g l t w s
  | .gend g l t w => Sys2Proof.Machine.execGend g l t w s
  | .narrowAccessAnswer g l t => Sys2Proof.Machine.execNarrowAccessAnswer g l t s
  | .loadImage p r data => Sys2Proof.Machine.execLoadImage p r data s
  | .setPlacement p r => Sys2Proof.Machine.execSetPlacement p r s
  | .arm p r => Sys2Proof.Machine.execArm p r s
  | .armReady q w => Sys2Proof.Machine.execArmReady q w s
  | .armed q w => Sys2Proof.Machine.execArmed q w s
  | .armFail q w => Sys2Proof.Machine.execArmFail q w s
  | .armTimeout p => Sys2Proof.Machine.execArmTimeout p s
  | .start p r => Sys2Proof.Machine.execStart p r s
  | .startNotice q w => Sys2Proof.Machine.execStartNotice q w s
  | .runStart p => Sys2Proof.Machine.execRunStart p s
  | .stop p r => Sys2Proof.Machine.execStop p r s
  | .stopNotice q w => Sys2Proof.Machine.execStopNotice q w s
  | .haltAt p r => Sys2Proof.Machine.execHaltAt p r s
  | .haltNotice q w => Sys2Proof.Machine.execHaltNotice q w s
  | .slipNoticeLaunch p => Sys2Proof.Machine.execSlipNoticeLaunch p s
  | .slip q w => Sys2Proof.Machine.execSlip q w s
  | .freeze p => Sys2Proof.Machine.execFreeze p s
  | .freezeDrainEnd p => Sys2Proof.Machine.execFreezeDrainEnd p s
  | .sendSlot q f => Sys2Proof.Machine.execSendSlot q f s
  | .landingOpen p j => Sys2Proof.Machine.execLandingOpen p j s
  | .landingDeadline p j => Sys2Proof.Machine.execLandingDeadline p j s
  | .forecastBin p j => Sys2Proof.Machine.execForecastBin p j s
  | .preBiasEnd t => Sys2Proof.Machine.execPreBiasEnd t s
  | .marginAlarm d => Sys2Proof.Machine.execMarginAlarm d s
  | .fcastDev p j => Sys2Proof.Machine.execFcastDev p j s
  | .ack p dst h => Sys2Proof.Machine.execAck p dst h s
  | .ackSend p pix => Sys2Proof.Machine.execAckSend p pix s
  | .hbmRequest n id idx => Sys2Proof.Machine.execHbmRequest n id idx s
  | .hbmAccessDone c pc q k flip => Sys2Proof.Machine.execHbmAccessDone c pc q k flip s
  | .hbmBound c => Sys2Proof.Machine.execHbmBound c s
  | .hbmRewrite c => Sys2Proof.Machine.execHbmRewrite c s
  | .narrowRequest g l t => Sys2Proof.Machine.execNarrowRequest g l t s
  | .refreshSlot c idx => Sys2Proof.Machine.execRefreshSlot c idx s
  | .autonomousRefresh c bank => Sys2Proof.Machine.execAutonomousRefresh c bank s
  | .preRunRefresh c => Sys2Proof.Machine.execPreRunRefresh c s
  | .stackTempSample k temp => Sys2Proof.Machine.execStackTempSample k temp s
  | .innerCeRead k counts => Sys2Proof.Machine.execInnerCeRead k counts s
  | .scrubRead c loc g flip last => Sys2Proof.Machine.execScrubRead c loc g flip last s
  | .mtgStart c v => Sys2Proof.Machine.execMtgStart c v s
  | .mtgStop c steps => Sys2Proof.Machine.execMtgStop c steps s
  | .mtgDone c => Sys2Proof.Machine.execMtgDone c s
  | .laserFail o fault => Sys2Proof.Machine.execLaserFail o fault s
  | .standbyEnable o => Sys2Proof.Machine.execStandbyEnable o s
  | .standbyReady o pwr => Sys2Proof.Machine.execStandbyReady o pwr s
  | .laserLoss o fault => Sys2Proof.Machine.execLaserLoss o fault s
  | .sweepStep o idx kind n resp => Sys2Proof.Machine.execSweepStep o idx kind n resp s
  | .ringUpdate o idx kind n temp e => Sys2Proof.Machine.execRingUpdate o idx kind n temp e s
  | .ffUpdate o => Sys2Proof.Machine.execFfUpdate o s
  | .recalTimer o => Sys2Proof.Machine.execRecalTimer o s
  | .recalRingDone o idx kind n lc last => Sys2Proof.Machine.execRecalRingDone o idx kind n lc last s
  | .tableDrift o idx kind n => Sys2Proof.Machine.execTableDrift o idx kind n s
  | .tableFlashWrite half => Sys2Proof.Machine.execTableFlashWrite half s
  | .equalise o => Sys2Proof.Machine.execEqualise o s
  | .marginSample q m => Sys2Proof.Machine.execMarginSample q m s
  | .cometReturn q => Sys2Proof.Machine.execCometReturn q s
  | .slopeFit q => Sys2Proof.Machine.execSlopeFit q s
  | .moonReq q m => Sys2Proof.Machine.execMoonReq q m s
  | .moonReady q m => Sys2Proof.Machine.execMoonReady q m s
  | .moonPassCount q => Sys2Proof.Machine.execMoonPassCount q s
  | .moonSwitch q m => Sys2Proof.Machine.execMoonSwitch q m s
  | .moonSwitchFrame q => Sys2Proof.Machine.execMoonSwitchFrame q s
  | .moonFail q => Sys2Proof.Machine.execMoonFail q s
  | .moonTest q m => Sys2Proof.Machine.execMoonTest q m s
  | .moonTestEnd q m => Sys2Proof.Machine.execMoonTestEnd q m s
  | .moonTestDone q m => Sys2Proof.Machine.execMoonTestDone q m s
  | .moonReturn q m => Sys2Proof.Machine.execMoonReturn q m s
  | .restripe q m => Sys2Proof.Machine.execRestripe q m s
  | .restripeFrame q rx => Sys2Proof.Machine.execRestripeFrame q rx s
  | .drop q m => Sys2Proof.Machine.execDrop q m s
  | .los q => Sys2Proof.Machine.execLos q s
  | .probeTimer q => Sys2Proof.Machine.execProbeTimer q s
  | .probeLight q => Sys2Proof.Machine.execProbeLight q s
  | .frame q f w => Sys2Proof.Machine.execFrame q f w s
  | .linkReplayRequest q first => Sys2Proof.Machine.execLinkReplayRequest q first s
  | .creditReturn q m => Sys2Proof.Machine.execCreditReturn q m s
  | .identityFragment q m => Sys2Proof.Machine.execIdentityFragment q m s
  | .marginReport q m => Sys2Proof.Machine.execMarginReport q m s
  | .retrain q m => Sys2Proof.Machine.execRetrain q m s
  | .alignDone q moon => Sys2Proof.Machine.execAlignDone q moon s
  | .ident q => Sys2Proof.Machine.execIdent q s
  | .pirResend q => Sys2Proof.Machine.execPirResend q s
  | .pirTimeout q => Sys2Proof.Machine.execPirTimeout q s
  | .frameErrorLimit q => Sys2Proof.Machine.execFrameErrorLimit q s
  | .portDown q => Sys2Proof.Machine.execPortDown q s
  | .downRelight q => Sys2Proof.Machine.execDownRelight q s
  | .load p dst h => Sys2Proof.Machine.execLoad p dst h s
  | .store p dst h data => Sys2Proof.Machine.execStore p dst h data s
  | .atomic p dst h => Sys2Proof.Machine.execAtomic p dst h s
  | .semsigPacket p dst h => Sys2Proof.Machine.execSemsigPacket p dst h s
  | .loadRsp p dst h data => Sys2Proof.Machine.execLoadRsp p dst h data s
  | .atomicRsp p dst h => Sys2Proof.Machine.execAtomicRsp p dst h s
  | .nak p dst h => Sys2Proof.Machine.execNak p dst h s
  | .mcAxis p dst h data => Sys2Proof.Machine.execMcAxis p dst h data s
  | .mcMask p dst h data => Sys2Proof.Machine.execMcMask p dst h data s
  | .mcAck p dst h => Sys2Proof.Machine.execMcAck p dst h s
  | .e2eRetransmit p pix => Sys2Proof.Machine.execE2eRetransmit p pix s
  | .rdmaWrite p qp rkey va data => Sys2Proof.Machine.execRdmaWrite p qp rkey va data s
  | .rdmaRead p qp rkey va n => Sys2Proof.Machine.execRdmaRead p qp rkey va n s
  | .fetchAdd p qp va v => Sys2Proof.Machine.execFetchAdd p qp va v s
  | .cmpSwap p qp va c v => Sys2Proof.Machine.execCmpSwap p qp va c v s
  | .roceSend p qp h => Sys2Proof.Machine.execRoceSend p qp h s
  | .roceAck p qp seq => Sys2Proof.Machine.execRoceAck p qp seq s
  | .qpRetryExhaustion p idx => Sys2Proof.Machine.execQpRetryExhaustion p idx s
  | .pcsLockLoss o lane => Sys2Proof.Machine.execPcsLockLoss o lane s
  | .collectivePostTake e => Sys2Proof.Machine.execCollectivePostTake e s
  | .triggerFire e sched idx => Sys2Proof.Machine.execTriggerFire e sched idx s
  | .collData p h data => Sys2Proof.Machine.execCollData p h data s
  | .collCredit p h => Sys2Proof.Machine.execCollCredit p h s
  | .collAbort p h => Sys2Proof.Machine.execCollAbort p h s
  | .collTimeout e k => Sys2Proof.Machine.execCollTimeout e k s
  | .cometSlot q w => Sys2Proof.Machine.execCometSlot q w s
  | .cometLaunch e => Sys2Proof.Machine.execCometLaunch e s
  | .collectiveComplete e k => Sys2Proof.Machine.execCollectiveComplete e k s
  | .hostConnReq o target qpn => Sys2Proof.Machine.execHostConnReq o target qpn s
  | .hostConnLost p c => Sys2Proof.Machine.execHostConnLost p c s
  | .arpRequest o ip => Sys2Proof.Machine.execArpRequest o ip s
  | .neighbourSolicitation o ip => Sys2Proof.Machine.execNeighbourSolicitation o ip s
  | .icmpEcho o ip data => Sys2Proof.Machine.execIcmpEcho o ip data s
  | .i3cRegisterWrite h bytes => Sys2Proof.Machine.execI3cRegisterWrite h bytes s
  | .i3cReadRequest h bytes => Sys2Proof.Machine.execI3cReadRequest h bytes s
  | .i3cPrivateRead h => Sys2Proof.Machine.execI3cPrivateRead h s
  | .entdaa h addr => Sys2Proof.Machine.execEntdaa h addr s
  | .commandDoorbell p r n => Sys2Proof.Machine.execCommandDoorbell p r n s
  | .completionDoorbell p q n => Sys2Proof.Machine.execCompletionDoorbell p q n s
  | .commandFetch p r desc => Sys2Proof.Machine.execCommandFetch p r desc s
  | .commandStart p r ext storeOk => Sys2Proof.Machine.execCommandStart p r ext storeOk s
  | .controlSlotGrant p ext storeOk => Sys2Proof.Machine.execControlSlotGrant p ext storeOk s
  | .completionWrite p q => Sys2Proof.Machine.execCompletionWrite p q s
  | .ringResume p r => Sys2Proof.Machine.execRingResume p r s
  | .commandRingEnable p r => Sys2Proof.Machine.execCommandRingEnable p r s
  | .completionRingEnable p q => Sys2Proof.Machine.execCompletionRingEnable p q s
  | .mailboxGo p i3c => Sys2Proof.Machine.execMailboxGo p i3c s
  | .nopCommand p r => Sys2Proof.Machine.execNopCommand p r s
  | .query p r => Sys2Proof.Machine.execQuery p r s
  | .readState p r => Sys2Proof.Machine.execReadState p r s
  | .writeMem p r data => Sys2Proof.Machine.execWriteMem p r data s
  | .readMem p r => Sys2Proof.Machine.execReadMem p r s
  | .clearFault p r => Sys2Proof.Machine.execClearFault p r s
  | .swapCore p r => Sys2Proof.Machine.execSwapCore p r s
  | .spareSelfTestDone p ok => Sys2Proof.Machine.execSpareSelfTestDone p ok s
  | .tileRelease p => Sys2Proof.Machine.execTileRelease p s
  | .swapLogStored p => Sys2Proof.Machine.execSwapLogStored p s
  | .portCtlDark p r => Sys2Proof.Machine.execPortCtlDark p r s
  | .portCtlLight p r => Sys2Proof.Machine.execPortCtlLight p r s
  | .portCtlRetrain p r => Sys2Proof.Machine.execPortCtlRetrain p r s
  | .portCtlRestore p r => Sys2Proof.Machine.execPortCtlRestore p r s
  | .portCtlMoonReturn p r => Sys2Proof.Machine.execPortCtlMoonReturn p r s
  | .calOptics p r => Sys2Proof.Machine.execCalOptics p r s
  | .setPolicyOptical p r => Sys2Proof.Machine.execSetPolicyOptical p r s
  | .setPolicyAsWired p r => Sys2Proof.Machine.execSetPolicyAsWired p r s
  | .setPolicyFarDevice p r => Sys2Proof.Machine.execSetPolicyFarDevice p r s
  | .setPolicyHostWindow p r => Sys2Proof.Machine.execSetPolicyHostWindow p r s
  | .setPolicyEncryption p r => Sys2Proof.Machine.execSetPolicyEncryption p r s
  | .keyRotateInstall p r storeOk => Sys2Proof.Machine.execKeyRotateInstall p r storeOk s
  | .keyRotateRotate p r storeOk => Sys2Proof.Machine.execKeyRotateRotate p r storeOk s
  | .keyRotateRelease p r storeOk => Sys2Proof.Machine.execKeyRotateRelease p r storeOk s
  | .attestReport p r => Sys2Proof.Machine.execAttestReport p r s
  | .attestDeviceidCert p r => Sys2Proof.Machine.execAttestDeviceidCert p r s
  | .attestAliasCert p r => Sys2Proof.Machine.execAttestAliasCert p r s
  | .partitionSplit p r storeOk => Sys2Proof.Machine.execPartitionSplit p r storeOk s
  | .partitionMerge p r storeOk => Sys2Proof.Machine.execPartitionMerge p r storeOk s
  | .partitionConsent p r storeOk => Sys2Proof.Machine.execPartitionConsent p r storeOk s
  | .consentExpiry => Sys2Proof.Machine.execConsentExpiry s
  | .seamSideband h => Sys2Proof.Machine.execSeamSideband h s
  | .resetUnitWarm p r => Sys2Proof.Machine.execResetUnitWarm p r s
  | .resetUnitHalf p r => Sys2Proof.Machine.execResetUnitHalf p r s
  | .resetUnitOe p r => Sys2Proof.Machine.execResetUnitOe p r s
  | .resetUnitTile p r => Sys2Proof.Machine.execResetUnitTile p r s
  | .resetUnitPort p r => Sys2Proof.Machine.execResetUnitPort p r s
  | .resetUnitEngine p r => Sys2Proof.Machine.execResetUnitEngine p r s
  | .resetUnitCollective p r => Sys2Proof.Machine.execResetUnitCollective p r s
  | .resetUnitGather p r => Sys2Proof.Machine.execResetUnitGather p r s
  | .partialResetDone p k => Sys2Proof.Machine.execPartialResetDone p k s
  | .replanMargins p r => Sys2Proof.Machine.execReplanMargins p r s
  | .fwStageFirmware p r data flashOk => Sys2Proof.Machine.execFwStageFirmware p r data flashOk s
  | .fwStageConfig p r data flashOk => Sys2Proof.Machine.execFwStageConfig p r data flashOk s
  | .fwCommit p r => Sys2Proof.Machine.execFwCommit p r s
  | .fwCommitResetNow p r => Sys2Proof.Machine.execFwCommitResetNow p r s
  | .coldReset power => Sys2Proof.Machine.execColdReset power s
  | .coldResetRelease straps => Sys2Proof.Machine.execColdResetRelease straps s
  | .bootSlotSelect h => Sys2Proof.Machine.execBootSlotSelect h s
  | .firmwareVerified h net => Sys2Proof.Machine.execFirmwareVerified h net s
  | .mafinStart p => Sys2Proof.Machine.execMafinStart p s
  | .stackTrainingDone p bad lanes => Sys2Proof.Machine.execStackTrainingDone p bad lanes s
  | .zeroFillDone p => Sys2Proof.Machine.execZeroFillDone p s
  | .bootComplete p storeOk => Sys2Proof.Machine.execBootComplete p storeOk s
  | .bootWatchdog p => Sys2Proof.Machine.execBootWatchdog p s
  | .bootGo p => Sys2Proof.Machine.execBootGo p s
  | .networkBootTimeout h => Sys2Proof.Machine.execNetworkBootTimeout h s
  | .debugRead p off => Sys2Proof.Machine.execDebugRead p off s
  | .debugWrite p off v => Sys2Proof.Machine.execDebugWrite p off v s
  | .sramRewrite t => Sys2Proof.Machine.execSramRewrite t s
  | .sramScrub t g flip => Sys2Proof.Machine.execSramScrub t g flip s
  | .ueLimit p unit => Sys2Proof.Machine.execUeLimit p unit s
  | .quarantineDark p => Sys2Proof.Machine.execQuarantineDark p s
  | .faultRecordLog p => Sys2Proof.Machine.execFaultRecordLog p s
  | .faultRingWrite p => Sys2Proof.Machine.execFaultRingWrite p s
  | .faultRingEnable p => Sys2Proof.Machine.execFaultRingEnable p s
  | .faultRingConsumed p n => Sys2Proof.Machine.execFaultRingConsumed p n s
  | .ageLogSelect p v => Sys2Proof.Machine.execAgeLogSelect p v s
  | .ageLogReady p => Sys2Proof.Machine.execAgeLogReady p s
  | .ageingSample monitor unit v => Sys2Proof.Machine.execAgeingSample monitor unit v s
  | .ageingDailyEntry => Sys2Proof.Machine.execAgeingDailyEntry s
  | .dieTempSample u t => Sys2Proof.Machine.execDieTempSample u t s
  | .railFault k mv => Sys2Proof.Machine.execRailFault k mv s
  | .powerSample w rails => Sys2Proof.Machine.execPowerSample w rails s
  | .flagClear p off v => Sys2Proof.Machine.execFlagClear p off v s
  | .lockSet p off v => Sys2Proof.Machine.execLockSet p off v s
  | .registerWrite p off v i3c => Sys2Proof.Machine.execRegisterWrite p off v i3c s
  | .freeFrameLaunch q f => Sys2Proof.Machine.execFreeFrameLaunch q f s
  | .laserSourceReady o pwr => Sys2Proof.Machine.execLaserSourceReady o pwr s
  | .rdmaReadResponse p qp data => Sys2Proof.Machine.execRdmaReadResponse p qp data s
  | .atomicAcknowledge p qp old => Sys2Proof.Machine.execAtomicAcknowledge p qp old s
  | .congestionNotificationPacket p idx => Sys2Proof.Machine.execCongestionNotificationPacket p idx s
  | .pfcPause o prio pause => Sys2Proof.Machine.execPfcPause o prio pause s
  | .routerAdvertisement o router life => Sys2Proof.Machine.execRouterAdvertisement o router life s
  | .cometMessageMissing e k => Sys2Proof.Machine.execCometMessageMissing e k s
  | .pcsLockGained o lane => Sys2Proof.Machine.execPcsLockGained o lane s

end Sys2Proof.Machine
end

