-- ==== Sys2Proof/Machine/Step.lean ====
section
/-! DEFINITION. The step: the command at the front of the queue, or one idle tick. -/

namespace Sys2Proof.Machine

/-- A partition's tick: its GTC counts while its dividers run (02 R54). -/
def State.tickPart (s : State) (p : Nat) : State :=
  if s.rdB F.CLK_STS_root_lock p then s.updPart p fun q => { q with gtc := q.gtc + 1 } else s

/-- One tick of the package (DESIGN CHOICE, notes/assumptions/1.md). -/
def State.tick (s : State) : State := s.parts.foldl State.tickPart s

/-- One step: run the command at the front of the queue on the state with the queue's rest; with no command waiting, one tick
passes. -/
def step (s : State) : Host.Outcome State Fault Refusal :=
  match s.pending with
  | [] => .next s.tick
  | c :: rest => exec c { s with pending := rest }

/-- The state with the command that a word spells at the front of its queue; unchanged where the word spells none. -/
def State.withFetchWord (s : State) (nbits w : Nat) : State :=
  match decodeTableWord nbits w with
  | some c => { s with pending := c :: s.pending }
  | none => s

end Sys2Proof.Machine
end

