-- ==== Sys2Proof/Safety.lean ====
section
/-! DEFINITION. The words the statements are made of: that a command completes with what it leaves, and what stays as it
was. -/

namespace Sys2Proof.Machine

/-- The command completes: exec answers a next state, and that state satisfies `Q`. -/
def Completes (i : Instr) (s : State) (Q : State → Prop) : Prop := ∃ t, exec i s = .next t ∧ Q t

/-- Every byte of storage reads after as before. -/
def SameMemory (s t : State) : Prop := ∀ a, t.byte a = s.byte a

/-- Every register instance outside the listed keys holds after what it held before. -/
def SameRegs (s t : State) (keys : List Nat) : Prop :=
  ∀ r p i j k, Reg.key r p i j k ∉ keys → t.reg r p i j k = s.reg r p i j k

/-- The engines' side of the part (cores and gather engines) is as before. -/
def SameEngines (s t : State) : Prop := t.cores = s.cores ∧ t.gathers = s.gathers

/-- The secure store, the fuses and the flash are as before. -/
def SameStores (s t : State) : Prop :=
  t.vault = s.vault ∧ t.fuses = s.fuses ∧ t.flash0 = s.flash0 ∧ t.flash1 = s.flash1

/-! ### Engine instructions -/

/-- The instruction word `w` as it issues now in the stream of engine `e` of core `n` (R110, R111). -/
def State.issueCtx (s : State) (n : Nat) (e : Eng) (w : InstrWord) : Ctx :=
  { n := n, p := s.partOfCore n, e := e, sched := (s.stream n e).plane == .sched, index := (s.stream n e).pc,
    tick := s.issueTick (s.partOfCore n) (s.stream n e) w.toNat, w := w.toNat }

/-- The word is the next of a stream that may issue, it is the engine's instruction of opcode `op`, and in the scheduled
plane it has a delta and its engine is free at its issue tick (R110, R111, R113, R114). -/
def State.issuable (s : State) (n : Nat) (e : Eng) (w : InstrWord) (op : Nat) : Prop :=
  s.mayIssue n e w = true ∧ classOf w = e.idx ∧ opcodeOf w = op ∧
  ((s.stream n e).plane = .sched → bits w.toNat 112 16 ≠ 0 ∧ (s.stream n e).busy ≤ (s.issueCtx n e w).tick)

/-- Everything outside core `n` is as in `u`: the other cores, the gather engines, the registers, storage, the stores and the
partitions. -/
def OnlyCore (u t : State) (n : Nat) : Prop :=
  (∀ m, m ≠ n → t.core m = u.core m) ∧ t.gathers = u.gathers ∧ t.regs = u.regs ∧ SameMemory u t ∧ SameStores u t ∧
  t.part0 = u.part0 ∧ t.part1 = u.part1 ∧ t.out = u.out

/-- The instruction completes: its stream goes on after `occ` ticks of occupancy and its effects are under way until `lat`
ticks after its issue (R112, R114, R158); nothing else differs from `u`, the state with its operands read and its events
counted. -/
def Performs (i : Instr) (s u : State) (n : Nat) (e : Eng) (w : InstrWord) (occ lat : Nat) (effects : List Effect) : Prop :=
  Completes i s fun t =>
    let c := s.issueCtx n e w
    let k := (u.core n).updStream e fun st => (st.issuedAt c.tick occ).advance
    t.core n = { k with pends := k.pends ++ [{ eng := e, index := c.index, due := c.tick + lat, effects := effects }] } ∧
    OnlyCore u t n

/-- The instruction completes and only its stream changes, by `f` (R117). -/
def Steers (i : Instr) (s : State) (n : Nat) (e : Eng) (f : Stream → Stream) : Prop :=
  Completes i s fun t => t.core n = (s.core n).updStream e f ∧ OnlyCore s t n

/-- The instruction faults its engine with a cause (R116): its stream stops, ENG_FAULT names the cause and the index, eng_fault
is set, and a slip of cause ENGINE is raised when the stream is scheduled; no storage changes. -/
def FaultsWith (i : Instr) (s : State) (n : Nat) (e : Eng) (cause : EngCause) : Prop :=
  Completes i s fun t =>
    (t.stream n e).status = .faulted ∧ (t.stream n e).pc = (s.stream n e).pc ∧
    t.rd F.ENG_FAULT_cause 0 n e.idx = cause.code ∧ t.rd F.ENG_FAULT_index 0 n e.idx = (s.stream n e).pc % 2 ^ 32 ∧
    t.rdB F.ENG_FAULT_sched 0 n e.idx = ((s.stream n e).plane == .sched) ∧ t.rd F.CORE_EVT_eng_fault 0 n = 1 ∧
    ((s.stream n e).plane = .sched → t.rd F.SCH_EVT_slip (s.partOfCore n) = 1) ∧ SameMemory s t

/-- A lane of a vector register in the lane type `vt` (R137). -/
def Core.lane (k : Core) (vt r j : Nat) : Nat := elemAt (k.V r).toNat (laneFmt vt).width j

/-- The vector instruction writes vd lane by lane: lane j is the value of `g j`, whose events are counted (R88, R103, R137);
nothing else differs from `u`, the state with its operands read. -/
def WritesLanes (i : Instr) (s u : State) (n : Nat) (w : InstrWord) (lat vt : Nat) (g : Nat → Nat × Exc) : Prop :=
  ∃ v : VReg, (∀ j, j < laneCount vt → elemAt v.toNat (laneFmt vt).width j = (g j).1 % 2 ^ (laneFmt vt).width) ∧
    Performs i s (u.countExc n ((List.range (laneCount vt)).map fun j => (g j).2)) n .vxe w 1 lat
      [.vreg (s.issueCtx n .vxe w).vd v]

/-- The matrix product's element (m, j), which `job` gives from its starting value, goes to row `row + m` of the bank, with the
bank's type tag and the validity of its row checksums (R127, R130, R131, R133). -/
def ProductGives (i : Instr) (s u : State) (n : Nat) (w : InstrWord) (bank : Bool) (row rows : Nat) (init chk : Bool)
    (job : MxeJob) (occ : Nat) : Prop :=
  let b := (u.core n).bank bank
  let el (m j : Nat) : Nat × Exc := job.elem (if init then 0 else elemAt (b.row (row + m)).toNat 32 j) m j
  ∃ rs sums, rs.length = rows ∧ sums.length = rows ∧
    Performs i s (u.countExc n ((List.range rows).flatMap fun m => (List.range 256).map fun j => (el m j).2)) n .mxe w occ
      (occ + 24) [.accTag bank job.int, .accRows bank row rs, .rowSums bank row sums] ∧
    (∀ m, m < rows → ∀ j, j < 256 → elemAt (rs.getD m 0).toNat 32 j = (el m j).1 % 2 ^ 32) ∧
    ∀ m, m < rows → (sums.getD m (rowSumDefault 0)).valid = (chk && (init || (b.sum (row + m)).valid))

/-! ### Host commands -/

/-- The command of ring `r` (64: the mailbox) with opcode `op` has passed its checks and not run yet, and its source has no
other command open (R409, R418). -/
def State.readyCmd (s : State) (p r op : Nat) (o : OpenCmd) : Prop :=
  s.running? p r op = some o ∧ o.stage = 0 ∧ (s.part p).opens.filter (fun x => x.src == o.src) = [o]

/-- The command has completed with these values (R409–R411, R414): it is open no longer, and its record waits for its
completion ring, or stands in the mailbox's completion words with done set and busy clear. The record of a command whose
connection was lost is discarded (R412). -/
def Closed (t : State) (p : Nat) (o : OpenCmd) (status detail r0 r1 : Nat) : Prop :=
  t.openOf p o.src = none ∧
  match o.src with
  | .ring r => o.orphan = false → ∃ c ∈ (t.part p).records, c.ring = r ∧ c.cmdId = o.field 4 4 ∧ c.opcode = o.opcode ∧
      c.status = status ∧ c.detail = detail ∧ c.res0 = r0 % 2 ^ 64 ∧ c.res1 = r1 % 2 ^ 64
  | .mailbox => t.rd F.HIF_MBOX_CTL_busy p = 0 ∧ t.rd F.HIF_MBOX_CTL_done p = 1 ∧
      bits (t.reg .HIF_MBOX_CPL p).toNat 32 8 = status % 256

/-- The command has run and waits for an event of its own: it is open as before, at stage 1. -/
def Waits (t : State) (p : Nat) (o : OpenCmd) : Prop := t.openOf p o.src = some { o with stage := 1 }

/-- Steps 2 to 4 decide command `o`, which state `v` holds open (R418, R425–R427, R500): illegal now, no extension, not
authenticated, or through with its extension and its counter stored. A command of an unowned partition, or one without
authentication, needs none unless it is critical. -/
def Decides (i : Instr) (s v : State) (p : Nat) (o : OpenCmd) (ext : Option (List Byte)) (storeOk : Bool) : Prop :=
  let auth := (o.field 1 1).testBit 0
  let install := o.opcode == 0x30 && bits o.arg0 0 8 == 0
  let crit := critical o.opcode
  let through (t : State) (b : List Byte) : Prop :=
    t.openOf p o.src = some { o with ext := b, checked := true } ∧ (t.part p).slotHolder = (v.part p).slotHolder
  (v.legalNow p o = false → Completes i s fun t => Closed t p o 0x01 0 0 0 ∧ t.rd F.HIF_EVT_state_reject p = 1) ∧
  (v.legalNow p o = true →
    (v.extension p o ext = none → Completes i s fun t => Closed t p o 0x06 1 0 0) ∧
    ∀ b, v.extension p o ext = some b →
      (v.cmdKey p = none →
        (install = false → (crit || auth) = true → Completes i s fun t => Closed t p o 0x1A 1 0 0) ∧
        (install = true ∨ (crit || auth) = false → Completes i s fun t => through t b)) ∧
      ∀ key, v.cmdKey p = some key →
        (auth = false → crit = true → Completes i s fun t => Closed t p o 0x03 0 0 0) ∧
        (auth = false → crit = false → Completes i s fun t => through t b) ∧
        (auth = true → v.macOf p key o b ≠ (o.desc.drop 0x30).take 16 → Completes i s fun t =>
          Closed t p o 0x04 0 0 0 ∧ t.rd F.HIF_EVT_auth_fail p = 1 ∧ t.lastCounter p = v.lastCounter p) ∧
        (auth = true → v.macOf p key o b = (o.desc.drop 0x30).take 16 →
          let c := o.field 0x28 8
          (c = 0 ∨ c ≤ v.lastCounter p → Completes i s fun t =>
            Closed t p o 0x05 0 (v.lastCounter p) 0 ∧ t.rd F.HIF_EVT_auth_stale p = 1 ∧ t.lastCounter p = v.lastCounter p) ∧
          (v.lastCounter p < c → storeOk = false → Completes i s fun t =>
            Closed t p o 0x1A 8 0 0 ∧ t.rd F.SEC_EVT_store_err p = 1 ∧ t.lastCounter p = v.lastCounter p) ∧
          (v.lastCounter p < c → storeOk = true → Completes i s fun t => through t b ∧ t.lastCounter p = c)))

/-! ### Storage -/

/-- The bytes from address `a` on become `bs`, and every other byte reads as before. -/
def StoresBytes (s t : State) (a : Nat) (bs : List Byte) : Prop :=
  ∀ x, t.byte x = if a ≤ x ∧ x < a + bs.length then bs.getD (x - a) 0 else s.byte x

end Sys2Proof.Machine
end

