-- ==== Sys2Proof/Certificates/Slice0/Obligations.lean ====
section
/-! DEFINITION. The statements about the model, one definition each. Each cites the rules of spec/ it formalises; what is the
model's own choice it says so, naming the log entry. -/

open Sys2Proof Sys2Proof.Machine

/-- The step is exec of the front command; an empty queue is one tick (DESIGN CHOICE, notes/assumptions/1.md, DESIGN CHOICE). -/
def Obligations.StepRunsQueue : Prop :=
  (∀ (c : Instr) (rest : List Instr) (s : State), step { s with pending := c :: rest } = exec c { s with pending := rest }) ∧
  (∀ s : State, s.pending = [] → ∃ t, step s = .next t ∧ t.pending = [] ∧ t.regs = s.regs ∧ SameMemory s t ∧ SameEngines s t ∧
    ∀ p : Fin 2, (t.part p).gtc = (s.part p).gtc + (if p.val ∈ s.parts ∧ s.rd F.CLK_STS_root_lock p = 1 then 1 else 0))

/-- The state after reset (R416, R441; the values of the register tables). -/
def Obligations.ResetState : Prop :=
  let s := State.reset
  Memory.wf s.mem ∧ s.pending = [] ∧ s.cores = [] ∧ s.gathers = [] ∧ s.colls = [] ∧ s.ports = [] ∧ s.out = [] ∧
  (∀ p : Fin 2, (s.part p).state = .cold ∧ (s.part p).opens = [] ∧ (s.part p).image = none ∧ (s.part p).placement = none ∧
    s.rd F.NET_STS_pix p = 0x3FFF) ∧
  (∀ p : Fin 2, s.rd F.GTC_CTL_guard p = 4 ∧ s.rd F.SCH_CTL_arm_timeout p = 100 ∧ s.rd F.SCH_CTL_fcast_en p = 1 ∧
    s.rd F.ORD_CTL_fence_tmo p = 2000 ∧ s.rd F.MEM_CTL_enc_en p = 0 ∧ s.rd F.MEM_CTL_scrub_en p = 1 ∧
    s.rd F.MEM_CTL_scrub_hours p = 24 ∧ s.rd F.NET_CTL_e2e_rto p = 100 ∧ s.rd F.HIF_CTL_mbox_crit p = 1 ∧
    s.rd F.FLT_CTL_ue_limit p = 16 ∧ s.rd F.FLT_CTL_sram_scrub_s p = 60 ∧ s.rd F.FLT_CTL_alert_en p = 1) ∧
  (∀ o : Fin 4, s.rd F.OE_CTL_standby_hot 0 o = 1 ∧ s.rd F.OE_CTL_recal_s 0 o = 600 ∧ s.rd F.OE_CTL_early_lead 0 o = 120 ∧
    s.rd F.OE_FF_COEF_k_mc 0 o = 75 ∧ s.rd F.OE_FF_COEF_tau_th 0 o = 400 ∧ s.rd F.OE_FF_COEF_tau_s 0 o = 50 ∧
    s.rd F.COL_CTL_coll_tmo 0 o = 2000) ∧
  (∀ c : Fin 64, s.rd F.CORE_CTL_chk_report 0 c = 1) ∧ ∀ b : Fin 32, ∀ side : Fin 2, s.rd F.BRG_CTL_enable 0 b side = 1

/-- The invariant of memory, over every command (INVENTORY, Memory and ordering). -/
def Obligations.MemoryKept : Prop :=
  (∀ s t : State, Memory.wf s.mem → step s = .next t → Memory.wf t.mem) ∧
  (∀ (c : Instr) (s t : State), exec c s = .next t → t.pending = s.pending)

/-- Whole-machine rule over every command (R504: no counter ever decreases; R493, R498: what is fused). -/
def Obligations.StoresOnlyGain : Prop :=
  ∀ (c : Instr) (s t : State), s.vault.mc5 < 2 ^ 32 → exec c s = .next t →
    s.vault.mc0W ≤ t.vault.mc0W ∧ s.vault.mc0E ≤ t.vault.mc0E ∧ s.vault.mc1 ≤ t.vault.mc1 ∧ s.vault.mc2 ≤ t.vault.mc2 ∧
    s.vault.mc3 ≤ t.vault.mc3 ∧ s.vault.mc4 ≤ t.vault.mc4 ∧ s.vault.mc5 ≤ t.vault.mc5 ∧
    (∀ k, s.fuses.revoked.testBit k = true → t.fuses.revoked.testBit k = true) ∧
    t.fuses.serial = s.fuses.serial ∧ t.fuses.gradeX = s.fuses.gradeX ∧ t.fuses.rootKeys = s.fuses.rootKeys ∧
    t.fuses.uds = s.fuses.uds ∧ t.fuses.devCert = s.fuses.devCert

/-- BEAT, BEAT_LAUNCH and BEAT_REPLAY complete with the effects of R15, R19 and R30, and BCRC_LIMIT with that of R21. -/
def Obligations.BridgeTraffic : Prop :=
  (∀ (b : Fin 32) (x : Fin 2) (h : BitVec 256) (body : BitVec 3696) (s : State), s.sideUp b x = false →
    exec (.beat b x h body) s = .next s) ∧
  (∀ (b : Fin 32) (x : Fin 2) (h : BitVec 256) (body : BitVec 3696) (s : State), s.sideUp b x = true →
    crc32Ieee (bcrcBytes h body) ≠ bits h.toNat 224 32 →
    Completes (.beat b x h body) s fun t =>
      t.rd F.BRG_EVT_CNT_bcrc_cnt 0 b x = (s.rd F.BRG_EVT_CNT_bcrc_cnt 0 b x + 1) % 65536 ∧
      (t.side b x).awaitReplay = true ∧ (t.side b x).expect = (s.side b x).expect ∧
      (t.side b x).failTicks = (s.part (s.partOfSide b x)).gtc ::
        (s.side b x).failTicks.filter (fun u => decide ((s.part (s.partOfSide b x)).gtc < u + 2 ^ 20)) ∧
      (t.side b x).retry = (s.side b x).retry ∧ SameMemory s t ∧ SameEngines s t) ∧
  (∀ (b : Fin 32) (x : Fin 2) (s : State), s.sideUp b x = true → 8 ≤ (s.side b x).failTicks.length →
    Completes (.bcrcLimit b x) s fun t => t.rd F.BRG_WIDTH_STS_state 0 b x = brRetrain ∧
      (t.side b x).failTicks = [] ∧ (t.side b x).retry = (s.side b x).retry ∧ SameMemory s t ∧ SameEngines s t) ∧
  (∀ (b : Fin 32) (x : Fin 2) (h : BitVec 256) (body : BitVec 3696) (s : State), s.sideUp b x = true →
    crc32Ieee (bcrcBytes h body) = bits h.toNat 224 32 →
    bits h.toNat 0 4 = sigNibble (s.rd F.BRG_WIDTH_STS_signature 0 b x) (bits h.toNat 4 8 % 4) →
    bits h.toNat 4 8 = (s.side b x).expect % 256 →
    Completes (.beat b x h body) s fun t =>
      (t.side b x).expect = ((s.side b x).expect + 1) % 256 ∧ (t.side b x).ackVld = true ∧
      (t.side b x).awaitReplay = false ∧
      (t.side b x).retry =
        (if h.toNat.testBit 12 then ackRetry (bits h.toNat 13 8) (s.side b x).retry else (s.side b x).retry) ∧
      t.out = s.out ++ (((List.range 7).filter fun n => h.toNat.testBit (21 + n)).map (bodyGran h body)).map
        (.bridgeDeliver b x) ∧ SameMemory s t ∧ SameEngines s t) ∧
  (∀ (b : Fin 32) (x : Fin 2) (h : BitVec 256) (body : BitVec 3696) (s : State), s.sideUp b x = true →
    crc32Ieee (bcrcBytes h body) = bits h.toNat 224 32 →
    bits h.toNat 0 4 ≠ sigNibble (s.rd F.BRG_WIDTH_STS_signature 0 b x) (bits h.toNat 4 8 % 4) →
    Completes (.beat b x h body) s fun t => t.rd F.BRG_WIDTH_STS_state 0 b x = brRetrain ∧
      (t.side b x).expect = (s.side b x).expect ∧ (t.side b x).retry = (s.side b x).retry ∧ SameMemory s t) ∧
  (∀ (b : Fin 32) (x : Fin 2) (new : List (Bool × BitVec 24 × BitVec 512 × BitVec 16)) (s : State),
    s.sideUp b x = true → (s.side b x).retry.length < 255 →
    (s.sideState b x = brDegraded → ∀ g ∈ new, g.1 = false) →
    Completes (.beatLaunch b x new) s fun t =>
      (t.side b x).sendSeq = ((s.side b x).sendSeq + 1) % 256 ∧
      (∃ e : SentBeat, e.seq = (s.side b x).sendSeq ∧ (t.side b x).retry = (s.side b x).retry ++ [e] ∧
        (s.side b x).queue ++ offered new = e.grans ++ (t.side b x).queue ∧
        e.grans.length ≤ s.rd F.BRG_WIDTH_STS_gran_per_beat 0 b x) ∧
      SameMemory s t ∧ SameEngines s t ∧ t.regs = s.regs) ∧
  (∀ (b : Fin 32) (x : Fin 2) (seq : BitVec 8) (s : State), s.sideUp b x = true →
    Completes (.beatReplay b x seq) s fun t =>
      t.rd F.BRG_EVT_replay 0 b x = 1 ∧ t.sides = s.sides ∧
      t.out = s.out ++ ((s.side b x).retry.dropWhile fun e => !(e.seq == seq.toNat)).map (fun e =>
        let m := mkBeat (s.rd F.BRG_WIDTH_STS_signature 0 b x) e.seq (s.side b x).ackVld ((s.side b x).expect + 255) e.grans
        .beat b x m.1 m.2) ∧ SameMemory s t ∧ SameEngines s t)

/-- The training commands of a bridge complete with the effects of R22–R34. -/
def Obligations.BridgeTraining : Prop :=
  (∀ (b : Fin 32) (x : Fin 2) (s : State), s.sideUp b x = true →
    Completes (.bridgeSilenceTimeout b x) s fun t => t.rd F.BRG_WIDTH_STS_state 0 b x = brRetrain ∧
      (t.side b x).retry = (s.side b x).retry ∧ (t.side b x).short = true ∧
      t.out = s.out ++ [.bridgeRetrain b x] ∧ SameMemory s t ∧ SameEngines s t) ∧
  (∀ (b : Fin 32) (x : Fin 2) (s : State), s.sideUp b x = true →
    Completes (.bridgeRetrainSignal b x) s fun t => t.rd F.BRG_WIDTH_STS_state 0 b x = brRetrain ∧
      (t.side b x).retry = (s.side b x).retry ∧ t.out = s.out ∧ SameMemory s t ∧ SameEngines s t) ∧
  (∀ (b : Fin 32) (x : Fin 2) (s : State),
    (s.sideState b x = brOff ∨ s.sideState b x = brReset → exec (.forceRetrain b x) s = .next s) ∧
    (s.sideTraining b x = true →
      Completes (.forceRetrain b x) s fun t => t.rd F.BRG_WIDTH_STS_state 0 b x = brCalibrate ∧ t.sides = s.sides) ∧
    (s.sideUp b x = true →
      Completes (.forceRetrain b x) s fun t => t.rd F.BRG_WIDTH_STS_state 0 b x = brRetrain ∧
        (t.side b x).retry = (s.side b x).retry)) ∧
  (∀ (b : Fin 32) (x : Fin 2) (s : State), s.sideState b x = brReset → s.underReset b x = false →
    Completes (.bridgeResetRelease b x) s fun t => SameMemory s t ∧ t.rd F.BRG_WIDTH_STS_state 0 b x =
      (if s.rdB F.BRG_CTL_enable 0 b x = false ∨ (isSeam b = true ∧ s.twoPart = true) then brOff
       else if s.sideState b (1 - x) = brActive then brActive else brCalibrate)) ∧
  (∀ (b : Fin 32) (x : Fin 2) (s : State), s.sideState b x = brCalibrate ∨ s.sideState b x = brRetrain →
    Completes (.calibrateDone b x) s fun t => t.rd F.BRG_WIDTH_STS_state 0 b x = brWireTest ∧ t.sides = s.sides) ∧
  (∀ (b : Fin 32) (x : Fin 2) (bad : List (Fin 64 × Fin 66)) (s : State), s.sideState b x = brWireTest →
    Completes (.wireTestDone b x bad) s fun t => t.rd F.BRG_WIDTH_STS_state 0 b x = brMap ∧ SameMemory s t ∧
      ∀ g, g < 64 → (t.side b x).goodMask.getLsbD g = decide ((bad.filter fun w => w.1.val == g).length ≤ 2)) ∧
  (∀ (b : Fin 32) (s : State), s.sideState b 0 = brMap → s.sideState b 1 = brMap →
    Completes (.mapDone b) s fun t => SameMemory s t ∧ ∀ x : Fin 2,
      t.reg .BRG_MASK 0 b x = (s.side b 0).goodMask &&& (s.side b 1).goodMask ∧
      t.rd F.BRG_WIDTH_STS_state 0 b x =
        widthState (popcount 64 ((s.side b 0).goodMask &&& (s.side b 1).goodMask).toNat) ∧
      t.rd F.BRG_WIDTH_STS_generation 0 b x =
        (max (s.rd F.BRG_WIDTH_STS_generation 0 b 0) (s.rd F.BRG_WIDTH_STS_generation 0 b 1) + 1) % 65536 ∧
      (t.side b x).expect = (s.side b (1 - x)).resendPoint)

/-- The clock and group time events complete with the effects of R47–R60 and R71. -/
def Obligations.ClocksAndGroupTime : Prop :=
  (∀ (p : Fin 2) (s : State), (s.part p).state = .booting → s.rdB F.CLK_STS_root_lock p = false → p.val ∈ s.parts →
    Completes (.rootPllLock p) s fun t => t.rd F.CLK_STS_root_lock p = 1 ∧ t.rd F.CLK_STS_ref_present p = 1 ∧
      t.rd F.CLK_STS_spll_lock p = s.ownSplls p ∧ (t.part p).gtc = 0 ∧ (t.part p).state = .booting ∧
      SameMemory s t ∧ SameEngines s t) ∧
  (∀ (p : Fin 2) (s : State), s.rdB F.CLK_STS_root_lock p = true →
    Completes (.rootUnlock p) s fun t => t.rd F.CLK_STS_root_lock p = 0 ∧ t.rd F.CLK_EVT_root_unlock p = 1 ∧
      t.rd F.CLK_EVT_root_cnt p = (s.rd F.CLK_EVT_root_cnt p + 1) % 65536 ∧ (t.part p).gtc = (s.part p).gtc ∧
      SameMemory s t ∧ SameEngines s t) ∧
  (∀ (o : Fin 4) (s : State), (s.rd F.CLK_STS_spll_lock (s.partOfOe o)).testBit o = true →
    Completes (.spllUnlock o) s fun t => (t.rd F.CLK_STS_spll_lock (s.partOfOe o)).testBit o = false ∧
      t.rd F.CLK_EVT_spll_unlock (s.partOfOe o) = 1 ∧
      t.rd F.CLK_EVT_spll_cnt (s.partOfOe o) = (s.rd F.CLK_EVT_spll_cnt (s.partOfOe o) + 1) % 65536 ∧
      SameMemory s t ∧ SameEngines s t) ∧
  (∀ (p : Fin 2) (s : State), s.rdB F.CLK_STS_ref_present p = true →
    Completes (.refclkLoss p) s fun t => t.rd F.CLK_STS_ref_present p = 0 ∧ t.rd F.CLK_STS_holdover p = 1 ∧
      t.rd F.CLK_EVT_ref_loss p = 1 ∧ SameMemory s t ∧ SameEngines s t) ∧
  (∀ (p : Fin 2) (s : State), s.rdB F.CLK_STS_holdover p = true → s.rdB F.CLK_STS_ref_present p = false →
    Completes (.holdoverTimeout p) s fun t => (t.part p).linksHeld = true ∧ SameMemory s t ∧ SameEngines s t) ∧
  (∀ (p : Fin 2) (s : State), s.rdB F.CLK_STS_holdover p = true →
    Completes (.refclkReturn p) s fun t => t.rd F.CLK_STS_ref_present p = 1 ∧ t.rd F.CLK_STS_holdover p = 0 ∧
      (t.part p).linksHeld = false ∧ (t.part p).loadThetas = [] ∧ (t.part p).goodMeans = 0 ∧
      t.rd F.GTC_ALIGN_STS_phase p = (if s.isMaster p then 0 else 1) ∧ SameMemory s t ∧ SameEngines s t) ∧
  (∀ (q : Fin 32) (fr : BitVec 8) (s : State),
    s.portState q = ptUp ∨ s.portState q = ptUnplaced ∨ s.portState q = ptMiswired ∨ s.portState q = ptIncompatible →
    exec (.timingExchange q fr) s = .next (s.emit (.frame q ((s.port q).mgmtFrame [BitVec.ofNat 128
      (0x10 + s.stampAt (s.partOfPort q) fr.toNat * 2 ^ 8 + (s.port q).lastRx * 2 ^ 48 + (s.port q).lastArr * 2 ^ 88)])))) ∧
  (∀ (q : Fin 32) (m : BitVec 128) (fr : BitVec 8) (s : State), bits m.toNat 0 8 = 0x10 →
    s.portState q ≠ ptUp → s.portState q ≠ ptUnplaced → s.portState q ≠ ptMiswired → s.portState q ≠ ptIncompatible →
    exec (.timingWord q m fr) s = .next s) ∧
  (∀ (q : Fin 32) (m : BitVec 128) (fr : BitVec 8) (s : State), bits m.toNat 0 8 = 0x10 →
    s.portState q = ptUp ∨ s.portState q = ptUnplaced ∨ s.portState q = ptMiswired ∨ s.portState q = ptIncompatible →
    Completes (.timingWord q m fr) s fun t => (t.port q).heard = true ∧ (t.port q).lastRx = bits m.toNat 8 40 ∧
      (t.port q).lastArr = s.stampAt (s.partOfPort q) fr.toNat ∧
      (t.port q).delays = (if (s.port q).heard then
        ((exchange (bits m.toNat 8 40) (s.stampAt (s.partOfPort q) fr.toNat) (bits m.toNat 48 40) (bits m.toNat 88 40)
          (s.asym q)).1 :: (s.port q).delays).take 4096 else (s.port q).delays) ∧ SameMemory s t ∧ SameEngines s t) ∧
  (∀ (q : Fin 32) (s : State), (s.port q).delays.length = 4096 → s.portState q ≠ ptTraining →
    Completes (.delayValid q) s fun t => t.rd F.LDLY_STS_valid 0 q = 1 ∧ t.ports = s.ports ∧ SameMemory s t) ∧
  (∀ (p : Fin 2) (s : State), s.rd F.GTC_ALIGN_STS_phase p = 1 → (s.part p).loadThetas.length = 64 →
    s.isMaster p = false →
    Completes (.gtcLoad p) s fun t => t.rd F.GTC_ALIGN_STS_phase p = 2 ∧ (t.part p).goodMeans = 0 ∧
      (∃ k : Int, (t.part p).gtc = wrapNat 64 (((s.part p).gtc : Int) - 72 * k)) ∧ SameMemory s t ∧ SameEngines s t) ∧
  (∀ (p : Fin 2) (s : State), s.rd F.GTC_ALIGN_STS_phase p = 2 → 100 ≤ (s.part p).goodMeans →
    Completes (.aligned p) s fun t => t.rd F.GTC_ALIGN_STS_aligned p = 1 ∧ t.rd F.GTC_ALIGN_STS_phase p = 3 ∧
      (t.part p).gtc = (s.part p).gtc ∧ SameMemory s t ∧ SameEngines s t) ∧
  (∀ (p : Fin 2) (s : State), s.rd F.GTC_ALIGN_STS_phase p = 3 →
    Completes (.steerLimit p) s fun t => t.rd F.CLK_EVT_steer_limit p = 1 ∧
      t.rd F.CLK_EVT_CNT_steer_cnt p = (s.rd F.CLK_EVT_CNT_steer_cnt p + 1) % 65536 ∧ t.part0 = s.part0 ∧
      t.part1 = s.part1 ∧ SameMemory s t ∧ SameEngines s t)

/-- Scalar arithmetic on S and A registers completes with the result of R123 (R110–R112, R121–R123, R158). -/
def Obligations.ScalarArithmetic : Prop :=
  (∀ (n : Fin 64) (w : InstrWord) (s : State),
     let c := s.issueCtx n .scu w
     let k := s.core n
     let gives (i : Instr) (op lat : Nat) (fs : List (Nat × Nat)) (r : Nat) : Prop :=
       s.issuable n .scu w op → c.reservedOk fs = true →
         ∃ v : BitVec 32, v.toNat = r ∧ Performs i s s n .scu w 1 lat [.sreg c.d v]
     let abd := [fD, fA, fB]
     gives (.sli n w) 0x01 1 [fD, fImm32] c.imm32 ∧
     gives (.sadd n w) 0x02 1 abd ((k.S c.a + k.S c.b) % 2 ^ 32) ∧
     gives (.ssub n w) 0x03 1 abd ((k.S c.a + (2 ^ 32 - k.S c.b)) % 2 ^ 32) ∧
     gives (.smul n w) 0x04 3 abd (k.S c.a * k.S c.b % 2 ^ 32) ∧
     gives (.sand n w) 0x05 1 abd (k.S c.a &&& k.S c.b) ∧
     gives (.sor n w) 0x06 1 abd (k.S c.a ||| k.S c.b) ∧
     gives (.sxor n w) 0x07 1 abd (k.S c.a ^^^ k.S c.b) ∧
     gives (.sshl n w) 0x08 1 abd (k.S c.a * 2 ^ (k.S c.b % 32) % 2 ^ 32) ∧
     gives (.sshr n w) 0x09 1 abd (k.S c.a / 2 ^ (k.S c.b % 32)) ∧
     (s.issuable n .scu w 0x0A → c.reservedOk abd = true →
       ∃ v : BitVec 32, v.toInt = sext 32 (k.S c.a) / (2 ^ (k.S c.b % 32) : Nat) ∧
         Performs (.ssra n w) s s n .scu w 1 1 [.sreg c.d v]) ∧
     gives (.saddi n w) 0x0B 1 [fD, fA, fImm32] ((k.S c.a + c.imm32) % 2 ^ 32)) ∧
  (∀ (n : Fin 64) (w : InstrWord) (s : State),
     let c := s.issueCtx n .scu w
     let k := s.core n
     let gives (i : Instr) (op : Nat) (fs : List (Nat × Nat)) (r : Int) : Prop :=
       s.issuable n .scu w op → c.reservedOk fs = true → c.d < 16 →
         ∃ v : BitVec 64, (v.toNat : Int) = r % (2 ^ 64 : Nat) ∧ Performs i s s n .scu w 1 1 [.areg c.d v]
     gives (.ali n w) 0x10 [fD, (21, 64)] c.imm64 ∧
     (c.a < 16 → gives (.aadd n w) 0x11 [fD, fA, fB] (k.A c.a + sext 32 (k.S c.b))) ∧
     (c.a < 16 → gives (.aaddi n w) 0x12 [fD, fA, fImm32] (k.A c.a + sext 32 c.imm32)) ∧
     gives (.afroms n w) 0x13 [fD, fA, fB] (k.S c.a + k.S c.b * 2 ^ 32 : Nat) ∧
     (s.issuable n .scu w 0x14 → c.reservedOk [fD, fA] = true → c.d ≤ 30 → c.a < 16 →
       ∃ lo hi : BitVec 32, lo.toNat + hi.toNat * 2 ^ 32 = k.A c.a ∧
         Performs (.stoa n w) s s n .scu w 1 1 [.sreg c.d lo, .sreg (c.d + 1) hi]) ∧
     gives (.gtcrd n w) 0x30 [fD] c.tick ∧
     (s.issuable n .scu w 0x31 → c.reservedOk [fD, fA] = true →
       Performs (.loopidx n w) s s n .scu w 1 1
         [.sreg c.d (BitVec.ofNat 32 (((s.stream n .scu).loops[c.a]?.map (·.iter)).getD 0))]))

/-- The scalar loads and stores of R124 complete with these results. -/
def Obligations.ScalarMemory : Prop :=
  ∀ (n : Fin 64) (w : InstrWord) (s : State),
    let c := s.issueCtx n .scu w
    let k := s.core n
    let load (i : Instr) (op size : Nat) (mk : Nat → Effect) : Prop :=
      s.issuable n .scu w op → c.reservedOk [fD, fA, fImm32] = true → c.a < 16 → (size = 8 → c.d < 16) →
        match s.scalarAddr c size with
        | .error x => FaultsWith i s n .scu x
        | .ok a =>
          let r := s.sramRead (a / 64 * 64)
          (r.2.ok = true → Performs i s r.1 n .scu w 1 (readBound (tileOf n) (sramTile a))
            [mk (bits r.2.data.toNat (8 * (a % 64)) (8 * size))]) ∧
          (r.2.ok = false → FaultsWith i s n .scu .dataCheck)
    let store (i : Instr) (op size v : Nat) : Prop :=
      s.issuable n .scu w op → c.reservedOk [fB, fA, fImm32] = true → c.a < 16 → (size = 8 → c.b < 16) →
        match s.scalarAddr c size with
        | .error x => FaultsWith i s n .scu x
        | .ok a => Performs i s s n .scu w 1 (writeBound (tileOf n) (sramTile a)) [.writeBytes a (toLE size v)]
    load (.sld n w) 0x18 4 (fun v => .sreg c.d (BitVec.ofNat 32 v)) ∧
    load (.ald n w) 0x1A 8 (fun v => .areg c.d (BitVec.ofNat 64 v)) ∧
    store (.sst n w) 0x19 4 (k.S c.b) ∧
    store (.ast n w) 0x1B 8 (k.A c.b)

/-- The instructions that steer a stream complete with the effects of R117, R121 and R123. -/
def Obligations.StreamControl : Prop :=
  ∀ (n : Fin 64) (e : Eng) (w : InstrWord) (s : State),
    let c := s.issueCtx n e w
    let k := s.core n
    let target (imm : Nat) (st : Stream) : Stream :=
      { st.issuedAt c.tick 2 with pc := ((st.pc : Int) + sext 16 imm).toNat }.settle
    let next (st : Stream) : Stream := (st.issuedAt c.tick 1).advance
    (s.issuable n e w 0x00 → c.reservedOk [] = true → Steers (.nop (.stream n e) w) s n e next) ∧
    (s.mayIssue n e w = true → ¬ (classOf w = e.idx ∧ assigned e.idx (opcodeOf w) = true) →
      FaultsWith (.nop (.stream n e) w) s n e .illegalInstr) ∧
    (s.mayIssue n e w = true → classOf w = e.idx → opcodeOf w = 0 → (s.stream n e).plane = .sched →
      (bits w.toNat 112 16 = 0 → FaultsWith (.nop (.stream n e) w) s n e .illegalInstr) ∧
      (bits w.toNat 112 16 ≠ 0 → c.tick < (s.stream n e).busy →
        FaultsWith (.nop (.stream n e) w) s n e .issueConflict)) ∧
    (s.issuable n e w 0xF3 → c.reservedOk [] = true →
      Steers (.halt n e w) s n e fun st => { st.issuedAt c.tick 1 with
        pc := st.pc + 1, loops := [], status := if st.plane = .sched then .passDone else .idle }) ∧
    (s.issuable n e w 0xF4 → c.reservedOk [(84, 16), (72, 12)] = true → c.f 84 16 ≠ 0 → c.f 72 12 ≠ 0 →
      ((s.stream n e).loops.length < 4 → Steers (.loop n e w) s n e fun st => { st.issuedAt c.tick 1 with
        pc := st.pc + 1
        loops := { first := st.pc + 1, last := st.pc + c.f 72 12, count := c.f 84 16, iter := 0 } :: st.loops }.settle) ∧
      (4 ≤ (s.stream n e).loops.length → FaultsWith (.loop n e w) s n e .loopDepth)) ∧
    (∀ taken : Bool, e = .scu → s.issuable n e w 0x28 → c.reservedOk [fA, fB, (53, 16), (50, 3)] = true →
      branchTaken (c.f 50 3) 32 (k.S c.a) (k.S c.b) = some taken →
      (c.sched = false → Steers (.br n w) s n e (if taken then target (c.f 53 16) else next)) ∧
      (c.sched = true → FaultsWith (.br n w) s n e .illegalInstr)) ∧
    (e = .scu → s.issuable n e w 0x29 → c.reservedOk [(53, 16)] = true →
      Steers (.jmp n w) s n e (target (c.f 53 16)))

/-- The semaphore and fence commands complete with the effects of R118, R119, R219 and R225. -/
def Obligations.SemaphoresAndFences : Prop :=
  (∀ (n : Fin 64) (e : Eng) (w : InstrWord) (s : State),
    let c := s.issueCtx n e w
    let sem := c.f 94 6
    let need := c.f 78 16
    (s.issuable n e w 0xF0 → c.reservedOk [(94, 6), (78, 16)] = true → need ≠ 0 →
      (c.sched = false → Steers (.semwait n e w) s n e fun st =>
        { st.issuedAt c.tick 1 with status := .waitSem sem need }) ∧
      (c.sched = true → need ≤ (s.core n).sem sem → Completes (.semwait n e w) s fun t =>
        (t.core n).sem sem = (s.core n).sem sem - need ∧ (∀ x, x ≠ sem → (t.core n).sem x = (s.core n).sem x) ∧
        t.stream n e = ((s.stream n e).issuedAt c.tick 1).advance ∧ OnlyCore s t n) ∧
      (c.sched = true → (s.core n).sem sem < need → FaultsWith (.semwait n e w) s n e .semShort)) ∧
    (s.issuable n e w 0xF1 → c.reservedOk [(94, 6), (78, 16), (77, 1)] = true → c.f 77 1 = 0 →
      Completes (.semsig n e w) s fun t =>
        t.core n = ({ s.core n with arriving := (s.core n).arriving ++ [(sem, need)] } : Core).updStream e
          (fun st => (st.issuedAt c.tick 1).advance) ∧ OnlyCore s t n) ∧
    (s.issuable n e w 0xF2 → c.reservedOk [(98, 2)] = true → c.sched = false → c.f 98 2 = 0 →
      Steers (.fence n e w) s n e fun st => { st.issuedAt c.tick 2 with status := .waitFence {
        scope := .core, transfers := (if e = .dmx then (s.core n).transfers.map (·.id) else []), targets := [],
        issued := c.tick, timedOut := false } }) ∧
    (s.issuable n e w 0xF2 → c.sched = true → FaultsWith (.fence n e w) s n e .illegalInstr)) ∧
  (∀ (n : Fin 64) (s : State), (s.core n).arriving = [] → ∀ e : Eng,
    ∃ t, exec (.semaphoreServe n) s = .next t ∧ OnlyCore s t n ∧
      ∀ sem need, (s.stream n e).status = .waitSem sem need → (∀ e', e' ≠ e → (s.stream n e').status = .running) →
        need ≤ (s.core n).sem sem →
        (t.core n).sem sem = (s.core n).sem sem - need ∧ t.stream n e = (s.stream n e).advance) ∧
  (∀ (n : Fin 64) (s : State) (sem x : Nat), (s.core n).arriving = [(sem, x)] →
    (∀ e, (s.stream n e).status = .running) →
    Completes (.semaphoreServe n) s fun t => (t.core n).sem sem = min ((s.core n).sem sem + x) 65535 ∧
      (65535 < (s.core n).sem sem + x → t.rd F.CORE_EVT_sem_ovf 0 n = 1) ∧ (t.core n).arriving = [] ∧ SameMemory s t) ∧
  (∀ (n : Fin 64) (e : Eng) (f : Fence) (s : State), (s.stream n e).status = .waitFence f → f.timedOut = false →
    s.contained (s.partOfCore n) = false →
    let u := s.fenceMoved n (s.partOfCore n) f
    ((∀ id ∈ f.transfers, (s.core n).transfer? id = none) → u = s) ∧
    (u.fenceMet n (s.partOfCore n) f = true → Completes (.fenceComplete n e) s fun t =>
      t.core n = (u.core n).updStream e Stream.advance ∧ OnlyCore u t n)) ∧
  (∀ (n : Fin 64) (e : Eng) (f : Fence) (s : State), (s.stream n e).status = .waitFence f → f.timedOut = false →
    f.scope ≠ .core → s.fenceMet n (s.partOfCore n) f = false →
    Completes (.fenceTimeout n e) s fun t => (t.stream n e).status = .waitFence { f with timedOut := true } ∧
      t.rd F.ORD_EVT_fence_timeout (s.partOfCore n) = 1 ∧ SameMemory s t)

/-- RESULT_DELIVERY and HOME_REFUSAL complete with the effects of R112 and R151. -/
def Obligations.ResultsArrive : Prop :=
  ∀ (n : Fin 64) (k : Nat) (s : State) (r : Pend), (s.core n).pends[k]? = some r →
    (s.core n).pends.any r.after = false →
    let p := s.partOfCore n
    let arrives (Q : State → Prop) : Prop := Completes (.resultDelivery n k) s fun t =>
      (t.core n).pends = removeAt (s.core n).pends k ∧ Q t
    (∀ d v, r.effects = [.sreg d v] → arrives fun t => (t.core n).S d = v.toNat ∧
      (∀ x, x ≠ d → (t.core n).S x = (s.core n).S x) ∧ (∀ x, (t.core n).A x = (s.core n).A x) ∧ OnlyCore s t n) ∧
    (∀ d v, r.effects = [.areg d v] → arrives fun t => (t.core n).A d = v.toNat ∧
      (∀ x, x ≠ d → (t.core n).A x = (s.core n).A x) ∧ (∀ x, (t.core n).S x = (s.core n).S x) ∧ OnlyCore s t n) ∧
    (∀ d v, r.effects = [.vreg d v] → arrives fun t => (t.core n).V d = v ∧
      (∀ x, x ≠ d → (t.core n).V x = (s.core n).V x) ∧ OnlyCore s t n) ∧
    (∀ bank int row rows sums, r.effects = [.accTag bank int, .accRows bank row rows, .rowSums bank row sums] →
      row + rows.length ≤ 256 → sums.length = rows.length →
      arrives fun t => (t.core n).accInt bank = int ∧ (t.core n).accInt (!bank) = (s.core n).accInt (!bank) ∧
        (∀ x, x < 256 → (t.core n).accRow bank x =
          (if row ≤ x ∧ x < row + rows.length then rows.getD (x - row) 0 else (s.core n).accRow bank x) ∧
          (t.core n).accRow (!bank) x = (s.core n).accRow (!bank) x) ∧ OnlyCore s t n) ∧
    (∀ a g chk, r.effects = [.writeGran a g chk] → a % 64 = 0 → arrives fun t =>
      StoresBytes s t a (toLE 64 g.toNat) ∧ (t.sramSide a).check = chk ∧ (t.sramSide a).poison = false) ∧
    (∀ a bs, r.effects = [.writeBytes a bs] → s.home p a = .sram a → a % 64 + bs.length ≤ 64 →
      ((s.sramRead (a / 64 * 64)).2.ok = true → arrives fun t => StoresBytes s t a bs) ∧
      ((s.sramRead (a / 64 * 64)).2.ok = false → Completes (.homeRefusal n k) s fun t =>
        (t.core n).pends = removeAt (s.core n).pends k ∧ (t.stream n r.eng).status = .faulted ∧
        t.rd F.ENG_FAULT_cause 0 n r.eng.idx = EngCause.dataCheck.code ∧
        t.rd F.ENG_FAULT_index 0 n r.eng.idx = r.index % 2 ^ 32 ∧ SameMemory s t))

/-- The matrix products complete with the effects of R130 and R131. -/
def Obligations.MatrixProducts : Prop :=
  (∀ (n : Fin 64) (w : InstrWord) (s : State) (fa fb : Fmt) (bs aa ab asa asb : Nat),
    let c := s.issueCtx n .mxe w
    let scaled := c.f 90 2 != 0
    let bank := c.f 89 1 == 1
    let init := c.f 88 1 == 1
    let kb := c.f 31 16
    let int := intResult fa fb (c.f 90 2)
    let la := kb * bs * 256 * fa.width / 8
    let lb := kb * bs * 256 * fb.width / 8
    s.issuable n .mxe w 0x01 → mxeFmt (c.f 96 4) = some fa → mxeFmt (c.f 92 4) = some fb →
    blockSize fa fb (c.f 90 2) = some bs → c.f 0 7 = 0 → kb ≠ 0 →
    (∀ x, s.mxeOperand c (c.f 83 4) (c.f 71 12) la false = .error x → FaultsWith (.mma n w) s n .mxe x) ∧
    (s.mxeOperand c (c.f 83 4) (c.f 71 12) la false = .ok aa → s.mxeOperand c (c.f 67 4) (c.f 55 12) lb true = .ok ab →
      (scaled = true → s.mxeOperand c (c.f 51 4) (c.f 19 12) (kb * 256) false = .ok asa ∧
        s.mxeOperand c (c.f 47 4) (c.f 7 12) (kb * 256) true = .ok asb) →
      (init = false → ((s.core n).bank bank).int ≠ int → FaultsWith (.mma n w) s n .mxe .accType) ∧
      ((init = false → ((s.core n).bank bank).int = int) →
        let xa := s.readOp aa la
        let xb := xa.s.readOp ab lb
        let ya := if scaled then xb.s.readOp asa (kb * 256) else { xb with val := 0 }
        let yb := if scaled then ya.s.readOp asb (kb * 256) else { ya with val := 0 }
        (xa.ok && xb.ok && ya.ok && yb.ok) = true →
        ProductGives (.mma n w) s yb.s n w bank 0 256 init (c.f 87 1 == 1)
          { as := linesOf fa xa.val 256 (kb * bs) fun m k => k * 256 + m
            bs := linesOf fb xb.val 256 (kb * bs) fun j k => k * 256 + j
            sa := fun m q => if scaled then bits ya.val (8 * (q * 256 + m)) 8 else 127
            sb := fun j q => if scaled then bits yb.val (8 * (q * 256 + j)) 8 else 127
            blk := bs, nblk := kb, int := int } (kb * bs * rateDiv fa fb)))) ∧
  (∀ (n : Fin 64) (w : InstrWord) (s : State) (fa fw : Fmt) (bs ax aw as : Nat),
    let c := s.issueCtx n .mxe w
    let scaled := c.f 90 2 != 0
    let bank := c.f 89 1 == 1
    let init := c.f 88 1 == 1
    let kn := c.f 23 16
    let b := c.f 20 3 + 1
    let row := c.f 12 8
    let K := kn * 256
    let int := intResult fa fw (c.f 90 2)
    let elemBytes := cdiv (b * K * fa.width / 8) 64 * 64
    let lx := if scaled then elemBytes + b * (K / bs) else b * K * fa.width / 8
    let lw := K * 256 * fw.width / 8
    s.issuable n .mxe w 0x02 → mxeFmt (c.f 96 4) = some fa → mxeFmt (c.f 92 4) = some fw →
    blockSize fa fw (c.f 90 2) = some bs → c.f 0 12 = 0 → kn ≠ 0 → row + b ≤ 256 →
    (∀ x, s.mxeOperand c (c.f 83 4) (c.f 71 12) lx false = .error x → FaultsWith (.mws n w) s n .mxe x) ∧
    (s.mxeOperand c (c.f 83 4) (c.f 71 12) lx false = .ok ax → s.mxeOperand c (c.f 67 4) (c.f 55 12) lw true = .ok aw →
      (scaled = true → s.mxeOperand c (c.f 51 4) (c.f 39 12) (K / bs * 256) true = .ok as) →
      (init = false → ((s.core n).bank bank).int ≠ int → FaultsWith (.mws n w) s n .mxe .accType) ∧
      ((init = false → ((s.core n).bank bank).int = int) →
        let xx := s.readOp ax lx
        let xw := xx.s.readOp aw lw
        let xs := if scaled then xw.s.readOp as (K / bs * 256) else { xw with val := 0 }
        (xx.ok && xw.ok && xs.ok) = true →
        ProductGives (.mws n w) s xs.s n w bank row b init (c.f 87 1 == 1)
          { as := linesOf fa xx.val b K fun j k => j * K + k
            bs := linesOf fw xw.val 256 K fun m k => k * 256 + m
            sa := fun j q => if scaled then bits xx.val (8 * (elemBytes + j * (K / bs) + q)) 8 else 127
            sb := fun m q => if scaled then bits xs.val (8 * (q * 256 + m)) 8 else 127
            blk := bs, nblk := K / bs, int := int } (kn * max (b * rateDiv fa fw) (cdiv fw.width 4))))) ∧
  (∀ (n : Fin 64) (s : State), s.running (s.partOfCore n) = true →
    exec (.sramQueueTimeout n) s = .next (s.slip (s.partOfCore n) 0x02))

/-- The accumulator moves of R132 complete with these results. -/
def Obligations.AccumulatorMoves : Prop :=
  ∀ (n : Fin 64) (w : InstrWord) (s : State),
    let c := s.issueCtx n .mxe w
    let bank := c.f 99 1 == 1
    let row := c.f 90 8
    let rows := c.f 82 8 + 1
    (s.issuable n .mxe w 0x03 → c.reservedOk [(99, 1), (98, 1), (90, 8), (82, 8), (78, 4), (66, 12), (65, 1)] = true →
      row + rows ≤ 256 →
      match s.mxeOperand c (c.f 78 4) (c.f 66 12) (rows * 1024) false with
      | .error x => FaultsWith (.mldacc n w) s n .mxe x
      | .ok a =>
        let r := s.readOp a (rows * 1024)
        r.ok = true → ∃ vs sums, vs.length = rows ∧ sums.length = rows ∧
          Performs (.mldacc n w) s r.s n .mxe w (cdiv rows 16) (cdiv rows 16 + 14)
            [.accTag bank (c.f 98 1 == 1), .accRows bank row vs, .rowSums bank row sums] ∧
          (∀ m, m < rows → (vs.getD m 0).toNat = bits r.val (8192 * m) 8192) ∧
          ∀ m, m < rows → (sums.getD m (rowSumDefault 0)).valid = (c.f 65 1 == 1)) ∧
    (s.issuable n .mxe w 0x04 → c.reservedOk [(99, 1), (90, 8), (82, 8), (78, 4), (66, 12)] = true → row + rows ≤ 256 →
      match s.mxeOperand c (c.f 78 4) (c.f 66 12) (rows * 1024) false with
      | .error x => FaultsWith (.mstacc n w) s n .mxe x
      | .ok a => ∃ es, es.length = 16 * rows ∧
        Performs (.mstacc n w) s s n .mxe w (cdiv rows 16) (cdiv rows 16 + 12) es ∧
        ∀ m i, m < rows → i < 16 → ∃ g : Gran,
          g.toNat = bits (((s.core n).bank bank).row (row + m)).toNat (512 * i) 512 ∧
          es[16 * m + i]? = some (.writeGran (a + 1024 * m + 64 * i) g (granCheck g))) ∧
    (s.issuable n .mxe w 0x05 → c.reservedOk [(99, 1), (98, 1)] = true →
      Performs (.mzero n w) s s n .mxe w 1 2 [.accTag bank (c.f 98 1 == 1), .accRows bank 0 (List.replicate 256 0),
        .rowSums bank 0 (List.replicate 256 { sum := 0, valid := true })])

/-- The lane-wise vector instructions complete with the results of R137–R139. -/
def Obligations.VectorLanes : Prop :=
  (∀ (n : Fin 64) (w : InstrWord) (s : State),
     let c := s.issueCtx n .vxe w
     let k := s.core n
     let f := laneFmt c.vt
     let a (j : Nat) : Nat := k.lane c.vt c.va j
     let b (j : Nat) : Nat := k.lane c.vt c.vb j
     let z (j : Nat) : Nat := k.lane c.vt c.vc j
     let x := k.scalar c.vt c.sa
     let y := k.scalar c.vt c.sb
     let gives (i : Instr) (op lat : Nat) (fs : List (Nat × Nat)) (g : Nat → Nat × Exc) : Prop :=
       s.issuable n .vxe w op → c.reservedOk fs = true → c.vt ≤ 2 → WritesLanes i s s n w lat c.vt g
     gives (.vadd n w) 0x01 4 [fVd, fVa, fVb, fVt] (fun j =>
       f.result ((f.value (a j)).add (f.value (b j))) ((f.value (a j)).isNan || (f.value (b j)).isNan)) ∧
     gives (.vsub n w) 0x02 4 [fVd, fVa, fVb, fVt] (fun j =>
       f.result ((f.value (a j)).add (f.value (b j)).negate) ((f.value (a j)).isNan || (f.value (b j)).isNan)) ∧
     gives (.vmul n w) 0x03 4 [fVd, fVa, fVb, fVt] (fun j =>
       f.result ((f.value (a j)).mul (f.value (b j))) ((f.value (a j)).isNan || (f.value (b j)).isNan)) ∧
     gives (.vfma n w) 0x04 4 [fVd, fVa, fVb, fVc, fVt] (fun j =>
       f.result (((f.value (a j)).mul (f.value (b j))).add (f.value (z j)))
         ((f.value (a j)).isNan || (f.value (b j)).isNan || (f.value (z j)).isNan)) ∧
     gives (.vmin n w) 0x05 2 [fVd, fVa, fVb, fVt] (fun j => minMax false c.vt (a j) (b j)) ∧
     gives (.vmax n w) 0x06 2 [fVd, fVa, fVb, fVt] (fun j => minMax true c.vt (a j) (b j)) ∧
     gives (.vsadd n w) 0x07 4 [fVd, fVa, fVt, fSa] (fun j =>
       let r := f.result ((f.value (a j)).add x.1) ((f.value (a j)).isNan || x.1.isNan)
       (r.1, r.2.or x.2)) ∧
     gives (.vsmul n w) 0x08 4 [fVd, fVa, fVt, fSa] (fun j =>
       let r := f.result ((f.value (a j)).mul x.1) ((f.value (a j)).isNan || x.1.isNan)
       (r.1, r.2.or x.2)) ∧
     gives (.vsfma n w) 0x09 4 [fVd, fVa, fVt, fSa, fSb] (fun j =>
       let r := f.result (((f.value (a j)).mul x.1).add y.1) ((f.value (a j)).isNan || x.1.isNan || y.1.isNan)
       (r.1, (r.2.or x.2).or y.2)) ∧
     gives (.vsel n w) 0x0A 2 [fVd, fVa, fVb, fVc, fVt] (fun j => (if z j = 0 then b j else a j, {})) ∧
     (c.f 61 3 < 4 → gives (.vcmp n w) 0x0B 2 [fVd, fVa, fVb, fVt, (61, 3)] (fun j => cmpLane (c.f 61 3) c.vt (a j) (b j)))) ∧
  (∀ (n : Fin 64) (w : InstrWord) (s : State),
     let c := s.issueCtx n .vxe w
     let k := s.core n
     let a (j : Nat) : Nat := k.lane c.vt c.va j
     let b (j : Nat) : Nat := k.lane c.vt c.vb j
     let bitwise (i : Instr) (op : Nat) (g : Nat → Nat) : Prop :=
       s.issuable n .vxe w op → c.reservedOk [fVd, fVa, fVb, fVt] = true →
         (c.vt = 2 → WritesLanes i s s n w 2 2 fun j => (g j, {})) ∧ (c.vt ≠ 2 → FaultsWith i s n .vxe .illegalInstr)
     bitwise (.vand n w) 0x0C (fun j => a j &&& b j) ∧
     bitwise (.vor n w) 0x0D (fun j => a j ||| b j) ∧
     bitwise (.vxor n w) 0x0E (fun j => a j ^^^ b j) ∧
     bitwise (.vshl n w) 0x0F (fun j => a j * 2 ^ (b j % 32)) ∧
     bitwise (.vshr n w) 0x10 (fun j => ((sext 32 (a j) / (2 ^ (b j % 32) : Nat)) % (2 ^ 32 : Nat)).toNat) ∧
     (s.issuable n .vxe w 0x26 → c.reservedOk [fVd, fVt, fSa] = true → c.vt = 2 →
       WritesLanes (.vidx n w) s s n w 2 2 fun j => (k.S c.sa + j, {})) ∧
     (s.issuable n .vxe w 0x23 → c.reservedOk [fVd, fVt, fSa] = true → c.vt ≤ 2 →
       WritesLanes (.vbcast n w) s s n w 2 c.vt fun _ =>
         if c.vt = 1 then Fmt.bf16.convert .rne (Fmt.fp32.value (k.S c.sa)) else (k.S c.sa, {})) ∧
     (s.issuable n .vxe w 0x24 → c.reservedOk [fVd, fVa, fVt, fSa] = true → c.vt ≤ 2 →
       WritesLanes (.vlane n w) s s n w 3 c.vt fun j => (a ((j + k.S c.sa) % laneCount c.vt), {})) ∧
     (s.issuable n .vxe w 0x25 → c.reservedOk [fVa, fVt, fSa, (59, 5)] = true → c.vt ≤ 2 →
       ∃ v : BitVec 32, v.toNat = a (k.S c.sa % laneCount c.vt) * (if c.vt = 1 then 65536 else 1) ∧
         Performs (.vmovs n w) s s n .vxe w 1 3 [.sreg (c.f 59 5) v]))

/-- The function and conversion instructions of R139 complete with these lanes. -/
def Obligations.VectorFunctions : Prop :=
  ∀ (n : Fin 64) (w : InstrWord) (s : State),
    let c := s.issueCtx n .vxe w
    let k := s.core n
    let fn (i : Instr) (op : Nat) (f : TFun) : Prop :=
      s.issuable n .vxe w op → c.reservedOk [fVd, fVa, fVt] = true →
        (c.vt = 0 → WritesLanes i s s n w 12 0 fun j => f.apply (k.lane 0 c.va j)) ∧
        (c.vt ≠ 0 → FaultsWith i s n .vxe .illegalInstr)
    fn (.vexp2 n w) 0x11 .exp2 ∧ fn (.vlog2 n w) 0x12 .log2 ∧ fn (.vrcp n w) 0x13 .rcp ∧ fn (.vrsqrt n w) 0x14 .rsqrt ∧
    fn (.vtanh n w) 0x15 .tanh ∧ fn (.verf n w) 0x16 .erf ∧
    (s.issuable n .vxe w 0x17 → c.reservedOk [fVd, fVa, fVt, fSa, fSb] = true → c.vt = 0 →
      WritesLanes (.vfexp2 n w) s s n w 14 0 fun j =>
        let x := Fmt.fp32.value (k.lane 0 c.va j)
        let y := (k.scalar 0 c.sa).1
        let z := (k.scalar 0 c.sb).1.negate
        let m := Fmt.fp32.result ((x.mul y).add z) (x.isNan || y.isNan || z.isNan)
        let r := TFun.exp2.apply m.1
        (r.1, m.2.or { r.2 with nanIn := false })) ∧
    (s.issuable n .vxe w 0x18 → c.reservedOk [fVd, fVa, fVt, (47, 17)] = true → c.vt ≤ 2 → c.f 62 2 ≠ 3 → c.f 60 2 ≠ 3 →
      (c.f 47 1 = 1 → (c.vt = 1 ↔ c.f 62 2 ≠ 1)) →
      let hi := c.f 47 1
      let conv (e j : Nat) : Nat × Exc :=
        (laneFmt (c.f 62 2)).convert (k.rnd (c.f 60 2) (c.f 56 4) (c.f 52 4) (c.f 48 4) e)
          ((laneFmt c.vt).value (k.lane c.vt c.va j))
      (c.f 62 2 = 1 → c.vt ≠ 1 →
        ∃ v : BitVec 4096, (∀ j, j < 256 → elemAt v.toNat 16 j = (conv (256 * hi + j) j).1 % 2 ^ 16) ∧
          Performs (.vcvt n w) s (s.countExc n ((List.range 256).map fun j => (conv (256 * hi + j) j).2)) n .vxe w 1 4
            [.vhalf c.vd (hi == 1) v]) ∧
      (¬ (c.f 62 2 = 1 ∧ c.vt ≠ 1) → WritesLanes (.vcvt n w) s s n w 4 (c.f 62 2) fun j =>
        conv j (if c.vt = 1 ∧ c.f 62 2 ≠ 1 then 256 * hi + j else j)))

/-- The vector loads and stores of R140 and R141 complete with these results. -/
def Obligations.VectorMemory : Prop :=
  ∀ (n : Fin 64) (w : InstrWord) (s : State) (f : Fmt),
    let c := s.issueCtx n .vxe w
    let k := s.core n
    let t := tileOf n
    let L := laneCount c.vt
    let lf := laneFmt c.vt
    let blk := scaleBlock (c.f 18 2)
    Fmt.ofCode (c.f 20 4) = some f →
    (s.issuable n .vxe w 0x19 → c.reservedOk [fVd, fVt, (14, 50)] = true → c.vt ≤ 2 →
      (vldFmts c.vt).contains (c.f 20 4) = true → c.f 18 2 ≠ 3 →
      (c.f 18 2 ≠ 0 → 3 ≤ c.f 20 4 ∧ c.f 20 4 ≤ 9) →
      let bytes := L * f.width / 8
      (∀ x, s.vxeAddr c bytes = .error x → FaultsWith (.vld n w) s n .vxe x) ∧
      (∀ a, s.vxeAddr c bytes = .ok a → c.f 18 2 = 0 →
        let x := s.readOp a bytes
        (x.ok = true → WritesLanes (.vld n w) s x.s n w (14 + (spanBound readBound t a bytes - 12)) c.vt fun j =>
          if f = lf then (elemAt x.val f.width j, {}) else lf.convert .rne (f.value (elemAt x.val f.width j))) ∧
        (x.ok = false → FaultsWith (.vld n w) s n .vxe .dataCheck)) ∧
      (∀ a sc, s.vxeAddr c bytes = .ok a → c.f 18 2 ≠ 0 → s.scaleAddr c (c.f 14 4) (L / blk) 1 = .ok sc →
        let x := s.readOp a bytes
        let y := x.s.readBytes sc (L / blk)
        (x.ok && y.ok) = true →
        WritesLanes (.vld n w) s y.s n w
          (14 + (max (spanBound readBound t a bytes) (spanBound readBound t sc (L / blk)) - 12)) c.vt fun j =>
            let code := bits y.val (8 * (j / blk)) 8
            let v := f.value (elemAt x.val f.width j)
            let r := lf.convert .rne (v.mul (scaleValue code))
            (r.1, { r.2 with nanIn := v.isNan || code == 0xFF }))) ∧
    (s.issuable n .vxe w 0x1A → c.reservedOk [fVa, fVt, (6, 58)] = true → c.vt ≤ 2 → c.f 20 4 ≤ 10 → c.f 18 2 ≠ 3 →
      let bytes := L * f.width / 8
      let el (j : Nat) : Nat × Exc := if f = lf then (k.lane c.vt c.va j, {})
        else f.convert (k.rnd (c.f 18 2) (c.f 14 4) (c.f 10 4) (c.f 6 4) j) (lf.value (k.lane c.vt c.va j))
      match s.vxeAddr c bytes with
      | .error x => FaultsWith (.vst n w) s n .vxe x
      | .ok a => ∃ v : Nat, (∀ j, j < L → elemAt v f.width j = (el j).1 % 2 ^ f.width) ∧
        Performs (.vst n w) s (s.countExc n ((List.range L).map fun j => (el j).2)) n .vxe w 1
          (spanBound writeBound t a bytes) (storeGrans a v bytes)) ∧
    (s.issuable n .vxe w 0x1B → c.reservedOk [fVa, fVt, (0, 64)] = true → c.vt = 0 → 3 ≤ c.f 20 4 → c.f 20 4 ≤ 9 →
      c.f 18 2 = 1 ∨ c.f 18 2 = 2 → c.f 16 2 ≠ 3 → ∀ a sc,
      let bytes := 256 * f.width / 8
      let nb := 256 / blk
      let block (b : Nat) : Nat × List (Nat × Exc) :=
        quantBlock k c f (b * blk) ((List.range blk).map fun i => Fmt.fp32.value (k.lane 0 c.va (b * blk + i)))
      s.vxeAddr c bytes = .ok a → s.scaleAddr c (c.f 12 4) nb 8 = .ok sc →
      ∃ v : Nat, (∀ b i, b < nb → i < blk → ∀ e, (block b).2[i]? = some e → elemAt v f.width (b * blk + i) = e.1 % 2 ^ f.width) ∧
        Performs (.vqst n w) s (s.countExc n ((List.range nb).flatMap fun b => (block b).2.map (·.2))) n .vxe w 1
          (16 + (max (spanBound writeBound t a bytes) (spanBound writeBound t sc nb) - 12))
          (storeGrans a v bytes ++ splitWrite sc ((List.range nb).map fun b => BitVec.ofNat 8 (block b).1)))

/-- The reductions and the checksum instructions complete with these results. -/
def Obligations.VectorReductions : Prop :=
  ∀ (n : Fin 64) (w : InstrWord) (s : State),
    let c := s.issueCtx n .vxe w
    let k := s.core n
    let cnt := c.f 53 6 + 1
    let lanes := (k.groupLanes c.vt c.va cnt).flatMap id
    let anyNan := lanes.any fun x => ((laneFmt c.vt).value x).isNan
    let extreme (i : Instr) (op : Nat) (mx : Bool) : Prop :=
      s.issuable n .vxe w op → c.reservedOk [fVa, fVt, (53, 11)] = true → c.vt ≤ 2 → c.va + c.f 53 6 ≤ 63 →
        ∃ v : BitVec 32, v.toNat =
            lanes.foldl (fun a x => (minMax mx c.vt a x).1) (lanes.headD 0) * (if c.vt = 1 then 65536 else 1) % 2 ^ 32 ∧
          Performs i s (s.countExc n [{ nanIn := anyNan }]) n .vxe w cnt (cnt + 6) [.sreg (c.f 59 5) v]
    (s.issuable n .vxe w 0x1D → c.reservedOk [fVa, fVt, (53, 11)] = true → c.vt = 2 → c.va + c.f 53 6 ≤ 63 →
      let exact := lanes.foldl (fun a x => a + sext 32 x) 0
      ∃ v : BitVec 32, v.toInt = max (-2147483648) (min exact 2147483647) ∧
        Performs (.vredsum n w) s (s.countExc n [{ ovf := v.toInt != exact }]) n .vxe w cnt (cnt + 10)
          [.sreg (c.f 59 5) v]) ∧
    (s.issuable n .vxe w 0x1D → c.reservedOk [fVa, fVt, (53, 11)] = true → c.vt < 2 → c.va + c.f 53 6 ≤ 63 →
      let r := groupSum ((k.groupLanes c.vt c.va cnt).map fun l => l.map (· * (if c.vt = 1 then 65536 else 1)))
      ∃ ev v, v = BitVec.ofNat 32 r.1 ∧ ev.ovf = r.2 ∧
        Performs (.vredsum n w) s (s.countExc n [ev]) n .vxe w cnt (cnt + 10) [.sreg (c.f 59 5) v]) ∧
    extreme (.vredmax n w) 0x1E true ∧ extreme (.vredmin n w) 0x1F false ∧
    (s.issuable n .vxe w 0x20 → c.reservedOk [fVd, fVa, fVt, fSa, (50, 14)] = true → c.vt = 0 → 1 ≤ c.f 55 9 → c.f 55 9 ≤ 256 →
      c.vd % 2 = 0 → c.va + c.f 51 4 ≤ 63 → (c.vd + 1 < c.va ∨ c.va + c.f 51 4 < c.vd) →
      let cand (x : Nat × Nat) : Prop :=
        (∃ i, i < 256 * (c.f 51 4 + 1) ∧ x = (k.lane 0 (c.va + i / 256) (i % 256), (k.S c.sa + i) % 2 ^ 32)) ∨
        (c.f 50 1 = 1 ∧ ∃ j, j < c.f 55 9 ∧ x = (k.lane 0 c.vd j, k.lane 2 (c.vd + 1) j))
      ∃ vals idxs : VReg, ∃ (ev : Exc) (top : List (Nat × Nat)),
        Performs (.vtopk n w) s (s.countExc n [ev]) n .vxe w (2 * (c.f 51 4 + 1)) (2 * (c.f 51 4 + 1) + 16)
          [.vreg c.vd vals, .vreg (c.vd + 1) idxs] ∧
        top.Pairwise (fun x y => rankKey x ≤ rankKey y) ∧ top.length = c.f 55 9 ∧
        (∀ x ∈ top, cand x) ∧ (∀ x, cand x → x ∈ top ∨ ∀ y ∈ top, rankKey y ≤ rankKey x) ∧
        ∀ j, j < 256 → (elemAt vals.toNat 32 j, elemAt idxs.toNat 32 j) = top.getD j (fp32NegInf, 0xFFFFFFFF)) ∧
    (s.issuable n .vxe w 0x21 → c.reservedOk [fVa, fVb, fVt, (43, 21)] = true → c.vt = 0 → c.va + c.f 60 4 ≤ 63 →
      c.vb + c.f 60 4 ≤ 63 → ∃ ev v, Performs (.vsample n w) s (s.countExc n [ev]) n .vxe w (4 * (c.f 60 4 + 1))
        (4 * (c.f 60 4 + 1) + 24) [.sreg (c.f 43 5) v] ∧
        ((∀ l ∈ k.groupLanes 0 c.va (c.f 60 4 + 1), ∀ x ∈ l, x = 0) → v = 0xFFFFFFFF ∧ ev.inv = true)) ∧
    (s.issuable n .vxe w 0x1C → c.reservedOk [fVd, (51, 13)] = true → c.vt = 0 →
      let bank := c.f 63 1 == 1
      let rs := k.rowSum bank (c.f 55 8)
      let ck : CkLatch := { sum := rs.sum, valid := rs.valid, bank := bank, row := c.f 55 8 }
      Performs (.vacc n w) s s n .vxe w 1 4
        ([.vreg c.vd (k.accRow bank (c.f 55 8))] ++ if c.f 54 1 = 1 then [.latch (c.f 51 3) ck] else [])) ∧
    (s.issuable n .vxe w 0x22 → c.reservedOk [fVa, fVt, (45, 19)] = true → c.vt = 0 →
      let ck := k.latch (c.f 61 3)
      (ck.valid = false → Performs (.vchk n w) s s n .vxe w 2 12 []) ∧
      (ck.valid = true → checkRow (lanesOf 0 (k.V c.va)) ck.sum.toNat (c.f 45 16) = none →
        Performs (.vchk n w) s s n .vxe w 2 12 []) ∧
      (∀ ratio, ck.valid = true → checkRow (lanesOf 0 (k.V c.va)) ck.sum.toNat (c.f 45 16) = some ratio →
        Performs (.vchk n w) s s n .vxe w 2 12 [.chkFail ck.bank ck.row ratio]))

/-- The data mover's commands complete with the effects of R144–R150. -/
def Obligations.DataMover : Prop :=
  (∀ (n : Fin 64) (w : InstrWord) (s : State),
    let c := s.issueCtx n .dmx w
    s.issuable n .dmx w 0x01 → c.reservedOk [(96, 4), (72, 24), (60, 12)] = true → (s.core n).transfers.length < 64 →
    match s.descAddr c with
    | .error x => FaultsWith (.dxfer n w) s n .dmx x
    | .ok a =>
      let r := s.readOp a 64
      r.ok = true →
      match descFault r.val with
      | some x => FaultsWith (.dxfer n w) s n .dmx x
      | none => Completes (.dxfer n w) s fun t =>
        (∃ x : Transfer, (t.core n).transfers = (s.core n).transfers ++ [x] ∧ x.id = (s.core n).nextTransfer ∧
          x.desc.toNat = r.val ∧ x.plane = (s.stream n .dmx).plane ∧ x.issued = c.tick ∧ x.index = c.index) ∧
        (t.core n).nextTransfer = (s.core n).nextTransfer + 1 ∧
        t.stream n .dmx = ((s.stream n .dmx).issuedAt c.tick 1).advance ∧ (∀ m, m ≠ n.val → t.core m = s.core m)) ∧
  (∀ (n : Fin 64) (id : Nat) (s : State) (x : Transfer),
    let p := s.partOfCore n
    let m := ({ s := s, t := x, stuck := false } : Mover).pump n p true x.total
    (s.core n).transfer? id = some x → s.contained p = false →
    (m.t.next = x.total → m.t.out = 0 → m.t.fail = none → m.s.transferAwaits n p id = false →
      m.s.transferQueued n p id = false →
      Completes (.dmxTransferComplete n id) s fun t =>
        (t.core n).transfers = (s.core n).transfers.filter (fun y => y.id != id) ∧
        (t.core n).arriving = (s.core n).arriving ++ (if x.f 194 1 = 1 then [(x.f 188 6, 1)] else []) ∧
        SameMemory m.s t) ∧
    (∀ a b, x.total = 1 → x.next = 0 → x.held = [] → x.out = 0 → x.fail = none → s.srcEnd p x 0 = .sram a →
      s.dstEnd p x 0 = .sram b → (s.sramRead a).2.ok = true → s.transferAwaits n p id = false →
      s.transferQueued n p id = false →
      Completes (.dmxTransferComplete n id) s fun t => StoresBytes s t b (toLE 64 (s.rawGran a).toNat) ∧
        (t.core n).transfers = (s.core n).transfers.filter fun y => y.id != id) ∧
    (m.t.fail = some m.t.next → Completes (.transferStop n id) s fun t =>
      (t.core n).transfers = (s.core n).transfers.filter (fun y => y.id != id) ∧
      (t.core n).arriving = (s.core n).arriving ∧ t.rd F.CORE_EVT_dmx_err 0 n = 1 ∧
      t.rd F.DMX_ERR_TAG_tag 0 n = x.f 448 64 ∧ SameMemory m.s t))

/-- The script instructions of R155 complete with these effects. -/
def Obligations.GatherScripts : Prop :=
  ∀ (g : Fin 32) (l t : Nat) (w : InstrWord) (s : State) (h : Thread) (y : Launch),
    let p := s.partOfGather g
    let f (lo k : Nat) : Nat := bits w.toNat lo k
    let imm : Int := sext 32 (f 57 32)
    let runs (op : Nat) (fs : List (Nat × Nat)) : Prop :=
      s.thread? g l t = some h ∧ (s.gather g).launches.find? (fun z => z.id == l) = some y ∧ y.script[h.pc]? = some w ∧
      h.access = none ∧ s.contained p = false ∧ classOf w = 4 ∧ opcodeOf w = op ∧ clearFields (w.toNat % 2 ^ 100) fs = 0
    let goesOn (i : Instr) (pc : Nat) (regs : Nat → Nat) : Prop := Completes i s fun u =>
      (pc < y.script.length → ∃ h', u.thread? g l t = some h' ∧ h'.pc = pc ∧ h'.access = none ∧ h'.buf = h.buf ∧
        (∀ x, h'.T x = regs x) ∧ u.cores = s.cores) ∧
      (y.script.length ≤ pc → u.thread? g l t = none) ∧
      (∀ g', g' ≠ g.val → u.gather g' = s.gather g') ∧ SameMemory s u ∧ u.regs = s.regs
    let sets (i : Instr) (op : Nat) (fs : List (Nat × Nat)) (v : Int) : Prop :=
      runs op fs → goesOn i (h.pc + 1) fun x => if x = f 97 3 then (v % (2 ^ 64 : Nat)).toNat else h.T x
    let access (i : Instr) (op : Nat) (fs : List (Nat × Nat)) (ea size : Nat) (ok : Bool) (k : NarrowOp) : Prop :=
      runs op fs →
        (ok = true → ea % size = 0 →
          let leaves (away : Bool) : Prop := Completes i s fun u => u.cores = s.cores ∧ SameMemory s u ∧
            u.thread? g l t = some { h with access := some { addr := ea, size := size, op := k, away := away,
                                                             answer := none, issued := (s.part p).gtc } }
          let ends : Prop := Completes i s fun u => u.thread? g l t = none ∧ SameMemory s u ∧
            u.rd F.GXE_EVT_thread_err 0 g = 1 ∧ u.rd F.GXE_ERR_cause 0 g = EngCause.addrRange.code
          match s.target p ea with
          | .bad => ends
          | .here a => match s.home p a with
            | .sram _ => leaves false
            | .hbm _ _ _ _ => leaves false
            | .window _ => ends
            | .nowhere => ends
          | .package px _ => if s.reachable p px = true then leaves true else ends
          | .far _ _ => leaves true) ∧
        (ok = false ∨ ea % size ≠ 0 → Completes i s fun u => u.thread? g l t = none ∧
          u.rd F.GXE_EVT_thread_err 0 g = 1 ∧ u.rd F.GXE_ERR_cause 0 g = EngCause.align.code ∧ SameMemory s u)
    let size := 8 * 2 ^ f 95 2
    let boff := f 89 6
    let ea (ta : Nat) : Nat := (((h.T ta : Int) + imm) % (2 ^ 64 : Nat)).toNat
    (runs 0 [] → goesOn (.nop (.thread g l t) w) (h.pc + 1) h.T) ∧
    sets (.gadd g l t w) 0x04 [(97, 3), (94, 3), (91, 3)] (h.T (f 94 3) + h.T (f 91 3)) ∧
    sets (.gaddi g l t w) 0x05 [(97, 3), (94, 3), (57, 32)] (h.T (f 94 3) + imm) ∧
    sets (.gmuli g l t w) 0x06 [(97, 3), (94, 3), (57, 32)] (h.T (f 94 3) * imm) ∧
    sets (.gshr g l t w) 0x07 [(97, 3), (94, 3), (88, 6)] (h.T (f 94 3) / 2 ^ f 88 6 : Nat) ∧
    sets (.gandi g l t w) 0x08 [(97, 3), (94, 3), (57, 32)] (h.T (f 94 3) &&& f 57 32 : Nat) ∧
    (∀ taken : Bool, runs 0x0A [(97, 3), (94, 3), (91, 3), (87, 4)] → f 87 4 ≠ 0 →
      branchTaken (f 91 3) 64 (h.T (f 97 3)) (h.T (f 94 3)) = some taken →
      goesOn (.gbr g l t w) (h.pc + 1 + if taken then f 87 4 else 0) h.T) ∧
    access (.gld g l t w) 0x01 [(97, 3), (95, 2), (89, 6), (57, 32)] (ea (f 97 3)) size (boff % size == 0)
      (.load boff size) ∧
    access (.gldr g l t w) 0x02 [(97, 3), (94, 3), (57, 32)] (ea (f 94 3)) 8 true (.loadReg (f 97 3)) ∧
    access (.gst g l t w) 0x03 [(97, 3), (95, 2), (89, 6), (57, 32)] (ea (f 97 3)) size (boff % size == 0)
      (.store (granBytes h.buf boff size)) ∧
    access (.gatom g l t w) 0x09 [(97, 3), (95, 2), (94, 1), (91, 3), (88, 3), (85, 3)] (h.T (f 97 3))
      (if f 94 1 = 1 then 8 else 4) true
      (.atomic (f 95 2) (f 94 1 == 1) (h.T (f 91 3)) (h.T (f 88 3)) (f 85 3))

/-- The gather engine's launches and threads follow R152–R157. -/
def Obligations.GatherThreads : Prop :=
  (∀ (n : Fin 64) (w : InstrWord) (s : State),
    let c := s.issueCtx n .scu w
    let k := s.core n
    let g := 2 * tileOf n + bits w.toNat 99 1
    s.issuable n .scu w 0x38 → c.reservedOk [(99, 1), (95, 4), (91, 4), (86, 5), (80, 6), (79, 1)] = true →
    1 ≤ k.S (c.f 86 5) → k.S (c.f 86 5) ≤ 1280 → s.launchesTaken g < 16 →
    match s.sramReach c.p (k.A (c.f 95 4)) with
    | .error x => FaultsWith (.glaunch n w) s n .scu x
    | .ok a =>
      (a % 64 ≠ 0 → FaultsWith (.glaunch n w) s n .scu .align) ∧
      (a % 64 = 0 → let r := s.readScript c.p a 4 []
        r.2.2.1 = true → Performs (.glaunch n w) s r.1 n .scu w 1 2
          [.launch g r.2.1 (k.A (c.f 91 4)) (k.S (c.f 86 5)) (c.f 80 6) (c.f 79 1 == 1)])) ∧
  (∀ (g : Fin 32) (s : State) (y : Launch) (ad sa : Nat),
    (s.gather g).launches.find? (fun z => decide (z.started < z.nth)) = some y →
    (s.gather g).launches.find? (fun z => z.id == y.id) = some y → s.thread? g y.id y.started = none →
    (s.gather g).threads.length < maxThreads → s.contained (s.partOfGather g) = false → s.held.contains (g / 2) = false →
    0 < y.script.length → (y.args + 8 * y.started) % 8 = 0 →
    s.target (s.partOfGather g) (y.args + 8 * y.started) = .here ad → s.home (s.partOfGather g) ad = .sram sa →
    (s.sramRead (sa / 64 * 64)).2.ok = true →
    Completes (.gatherThreadStart g) s fun t => ∃ h, t.thread? g y.id y.started = some h ∧ h.pc = 0 ∧ h.buf = 0 ∧
      h.access = none ∧ h.T 0 = y.started % 2 ^ 64 ∧
      h.T 1 = granPart (s.sramRead (sa / 64 * 64)).2.data sa 8 % 2 ^ 64 ∧ SameMemory s t ∧ t.cores = s.cores) ∧
  (∀ (g : Fin 32) (l t : Nat) (w : InstrWord) (s : State) (h : Thread) (y : Launch),
    s.thread? g l t = some h → (s.gather g).launches.find? (fun z => z.id == l) = some y → y.script[h.pc]? = some w →
    h.access = none → s.contained (s.partOfGather g) = false → classOf w = 4 → opcodeOf w = 0x0F →
    w.toNat % 2 ^ 100 = 0 →
    Completes (.gend g l t w) s fun u => u.thread? g l t = none ∧ SameMemory s u ∧ u.regs = s.regs ∧
      (y.ended + 1 < y.nth → u.cores = s.cores ∧ ∃ z, (u.gather g).launches.find? (fun z => z.id == l) = some z ∧
        z.ended = y.ended + 1 ∧ z.failed = y.failed) ∧
      (y.nth ≤ y.ended + 1 → (u.gather g).launches.find? (fun z => z.id == l) = none ∧
        ∀ m, (u.core m).arriving = (s.core m).arriving ++
          if m = y.core ∧ y.semEn = true ∧ y.failed = false then [(y.sem, 1)] else [])) ∧
  (∀ (g : Fin 32) (l t : Nat) (s : State) (h : Thread) (y : Launch) (a : Narrow),
    s.thread? g l t = some h → (s.gather g).launches.find? (fun z => z.id == l) = some y → h.access = some a →
    h.pc + 1 < y.script.length →
    (∀ v, a.answer = some (.value v) → Completes (.narrowAccessAnswer g l t) s fun u =>
      ∃ h', u.thread? g l t = some h' ∧ h'.pc = h.pc + 1 ∧ h'.access = none ∧ SameMemory s u ∧ u.cores = s.cores ∧
        (∀ td, a.op = .loadReg td → h'.buf = h.buf ∧ ∀ x, h'.T x = if x = td then v % 2 ^ 64 else h.T x) ∧
        (∀ boff size, a.op = .load boff size →
          h'.buf = spliceGran h.buf boff (toLE size v) ∧ ∀ x, h'.T x = h.T x)) ∧
    (∀ c, a.answer = some (.failed c) → Completes (.narrowAccessAnswer g l t) s fun u =>
      u.thread? g l t = none ∧ u.rd F.GXE_EVT_thread_err 0 g = 1 ∧ u.rd F.GXE_ERR_cause 0 g = c.code ∧ SameMemory s u) ∧
    (∀ bs ad, a.answer = none → a.away = false → a.op = .store bs → s.target (s.partOfGather g) a.addr = .here ad →
      s.home (s.partOfGather g) ad = .sram ad → ad % 64 + bs.length ≤ 64 → (s.sramRead (ad / 64 * 64)).2.ok = true →
      Completes (.narrowAccessAnswer g l t) s fun u => StoresBytes s u ad bs ∧ u.cores = s.cores))

/-- The loading and arming commands complete with the effects of R170–R183. -/
def Obligations.LoadAndArm : Prop :=
  (∀ (p : Fin 2) (r : Fin 65) (data : Option (List (BitVec 8))) (s : State) (o : OpenCmd), s.readyCmd p r 0x10 o →
    let x := s.imageFile p o data
    (∀ f, x.2 = .ok f → imageHash f = o.ext.take 48 → x.1.imageFaults p f = [] →
      let img := x.1.imageOf p f
      exec (.loadImage p r data) s = .next (((x.1.applyImage p img).enterEvent p .loaded).complete p o.src 0 0
        (img.length + img.fl * 2 ^ 32) (leAt img.hash 0 8))) ∧
    (x.1 = s → ∀ f, x.2 = .ok f → imageHash f ≠ o.ext.take 48 → Completes (.loadImage p r data) s fun t =>
      Closed t p o 0x09 1 0 0 ∧ (t.part p).image = (s.part p).image ∧ (t.part p).state = (s.part p).state ∧
      SameMemory s t ∧ SameEngines s t) ∧
    (x.1 = s → ∀ f d, x.2 = .ok f → imageHash f = o.ext.take 48 → (s.imageFaults p f).min? = some d →
      Completes (.loadImage p r data) s fun t => Closed t p o 0x07 d 0 0 ∧ (t.part p).image = (s.part p).image ∧
        (t.part p).state = (s.part p).state ∧ SameMemory s t ∧ SameEngines s t)) ∧
  (∀ (p : Fin 2) (r : Fin 65) (s : State) (o : OpenCmd), s.readyCmd p r 0x11 o →
    (s.placementOk o.ext (bits o.arg0 0 14) = true →
      let pl := placementOf o.ext (bits o.arg0 0 14)
      exec (.setPlacement p r) s =
        .next ((s.applyPlacement p pl).complete p o.src 0 0 (leAt pl.hash 0 8) (leAt pl.hash 8 8))) ∧
    (s.placementOk o.ext (bits o.arg0 0 14) = false → Completes (.setPlacement p r) s fun t =>
      Closed t p o 0x08 0 0 0 ∧ (t.part p).placement = (s.part p).placement ∧ SameMemory s t ∧ SameEngines s t)) ∧
  (∀ (p : Fin 2) (r : Fin 65) (s : State) (o : OpenCmd), s.readyCmd p r 0x12 o →
    let u := ((s.setReg .SCH_CONJ 0 p).setReg .SCH_FREEZE 0 p).setReg .SCH_STS 1 p
    (∀ f, u.armFails p = some f → Completes (.arm p r) s fun t => Closed t p o f.1 f.2.1 f.2.2.1 f.2.2.2 ∧
      (t.part p).state = (s.part p).state ∧ t.reg .SCH_CONJ p = 0 ∧ t.reg .SCH_FREEZE p = 0 ∧ t.reg .SCH_STS p = 1) ∧
    (∀ pl img, u.armFails p = none → (s.part p).placement = some pl → (s.part p).image = some img →
      ((pl.children pl.own).all (s.part p).ready.contains = false → Completes (.arm p r) s fun t =>
        Waits t p o ∧ (t.part p).armed = true ∧ (t.part p).state = (s.part p).state ∧ t.out = s.out) ∧
      ((pl.children pl.own).all (s.part p).ready.contains = true → s.isMaster p = true → Completes (.arm p r) s fun t =>
        Closed t p o 0 0 0 0 ∧ (t.part p).state = .armed ∧ t.rd F.SCH_STS_plane p = 2 ∧ SameMemory s t))) ∧
  (∀ (q : Fin 32) (w : BitVec 256) (s : State), let p := s.partOfPort q
    let n := noticeOf w
    n.kind = kArmReady → ∀ img, (s.part p).image = some img →
    leAt img.hash 0 8 = n.a → leAt img.plcHash 0 8 = n.b → (s.part p).armed = false →
    Completes (.armReady q w) s fun t => n.origin ∈ (t.part p).ready ∧ (t.part p).state = (s.part p).state ∧
      SameMemory s t ∧ SameEngines s t ∧ t.regs = s.regs) ∧
  (∀ (q : Fin 32) (w : BitVec 256) (s : State), let p := s.partOfPort q
    let n := noticeOf w
    (n.kind = kArmed → s.knows p n = true → exec (.armed q w) s = .next s) ∧
    (n.kind = kArmFail → s.knows p n = true → exec (.armFail q w) s = .next s) ∧
    (∀ o, n.kind = kArmed → s.knows p n = false → (s.part p).state = .loaded → o ∈ s.waitingOn p 0x12 →
      (s.part p).opens.filter (fun x => x.src == o.src) = [o] → Completes (.armed q w) s fun t =>
        (t.part p).state = .armed ∧ t.rd F.SCH_STS_plane p = 2 ∧ Closed t p o 0 0 0 0 ∧ SameMemory s t) ∧
    (n.kind = kArmFail → s.knows p n = false → (s.part p).state = .armed → Completes (.armFail q w) s fun t =>
      (t.part p).state = .loaded ∧ t.rd F.SCH_STS_plane p = 1 ∧ (t.part p).t0 = none ∧ SameMemory s t)) ∧
  (∀ (p : Fin 2) (s : State) (o : OpenCmd), o ∈ s.waitingOn p 0x12 →
    (s.part p).opens.filter (fun x => x.src == o.src) = [o] → Completes (.armTimeout p) s fun t =>
      Closed t p o 0x10 0 0 0 ∧ (t.part p).armed = false ∧ (t.part p).ready = [] ∧ (t.part p).state = (s.part p).state ∧
      SameMemory s t ∧ SameEngines s t)

/-- START by R184: NOT_MASTER away from the timing master; T(0) a multiple of 72 at least 45,000 ticks ahead, or for 0 the least at
or above GTC + 225,000; flooded; each member enters RUNNING at T(0). -/
def Obligations.StartRule : Prop :=
  (∀ (p : Fin 2) (r : Fin 65) (s : State) (o : OpenCmd), s.readyCmd p r 0x13 o →
    let g := (s.part p).gtc
    let least (d : Nat) : Nat := (g + d + 71) / 72 * 72
    (s.isMaster p = false → Completes (.start p r) s fun t => Closed t p o 0x11 0 0 0 ∧ (t.part p).t0 = (s.part p).t0 ∧
      (t.part p).state = (s.part p).state ∧ t.out = s.out ∧ SameMemory s t ∧ SameEngines s t) ∧
    (s.isMaster p = true → o.arg0 % 72 ≠ 0 → Completes (.start p r) s fun t =>
      Closed t p o 0x02 0x08 0 0 ∧ (t.part p).t0 = (s.part p).t0) ∧
    (s.isMaster p = true → o.arg0 % 72 = 0 → o.arg0 ≠ 0 → o.arg0 < g + 45000 → Completes (.start p r) s fun t =>
      Closed t p o 0x13 0 (least 45000) 0 ∧ (t.part p).t0 = (s.part p).t0) ∧
    (s.isMaster p = true → o.arg0 % 72 = 0 → (o.arg0 = 0 ∨ g + 45000 ≤ o.arg0) → Completes (.start p r) s fun t =>
      let T := if o.arg0 = 0 then least 225000 else o.arg0
      (t.part p).t0 = some T ∧ (t.part p).lateStart = false ∧ Waits t p o ∧ T % 72 = 0 ∧
      (∃ ports n, t.out = s.out ++ [.notice p ports n] ∧ n.kind = kStart ∧ n.a = T ∧ n.origin = s.ownPix p) ∧
      SameMemory s t ∧ SameEngines s t)) ∧
  (∀ (q : Fin 32) (w : BitVec 256) (s : State), let p := s.partOfPort q
    let n := noticeOf w
    n.kind = kStart → (s.knows p n = true → exec (.startNotice q w) s = .next s) ∧
    (s.knows p n = false → (s.part p).state = .armed → Completes (.startNotice q w) s fun t =>
      (t.part p).t0 = some n.a ∧ (t.part p).lateStart = decide (n.a < (s.part p).gtc + 72) ∧
      (t.part p).state = .armed ∧ SameMemory s t ∧ SameEngines s t)) ∧
  (∀ (p : Fin 2) (s : State) (T : Nat) (img : Image), (s.part p).state = .armed → (s.part p).t0 = some T →
    (s.part p).image = some img → Completes (.runStart p) s fun t =>
      (t.part p).state = .running ∧ (t.part p).orbit = 0 ∧ (t.part p).conj = T ∧ t.rd F.SCH_CONJ_conj p = T % 2 ^ 64 ∧
      t.rd F.SCH_STS_plane p = 3 ∧ (t.part p).stopAt = none ∧ SameMemory s t ∧
      ((s.part p).lateStart = false → (t.part p).freeze = none) ∧
      ((s.part p).lateStart = true → ∃ f, (t.part p).freeze = some f ∧ f.cause = 0x0F ∧
        f.tf = (s.part p).gtc + img.horizon))

/-- The conjunction and stop commands complete with the effects of R68, R185 and R186. -/
def Obligations.OrbitsAndStop : Prop :=
  (∀ (p : Fin 2) (s : State) (img : Image), (s.part p).state = .running → (s.part p).image = some img →
    let q := s.part p
    let T := q.conj + 72 * ((img.length + 71) / 72)
    (∀ f, q.freeze = some f → f.frozen = true ∨ f.tf ≤ T → exec (.conjunction p) s = .next s) ∧
    ((∀ f, q.freeze = some f → f.frozen = false ∧ T < f.tf) →
      ((∃ c, q.stopAt = some c ∧ c ≤ T) ∨ (img.orbits ≠ 0 ∧ img.orbits ≤ q.orbit + 1) →
        Completes (.conjunction p) s fun t => (t.part p).state = .armed ∧ t.rd F.SCH_STS_plane p = 2 ∧
          (t.part p).stopAt = none ∧ (t.part p).freeze = none ∧ SameMemory s t) ∧
      ((∀ c, q.stopAt = some c → T < c) → (img.orbits = 0 ∨ q.orbit + 1 < img.orbits) →
        Completes (.conjunction p) s fun t => (t.part p).state = .running ∧ (t.part p).orbit = q.orbit + 1 ∧
          (t.part p).conj = T ∧ t.rd F.SCH_CONJ_conj p = T % 2 ^ 64 ∧ SameMemory s t ∧
          (s.schedStopped p = false → t.rd F.SCH_STS_plane p = 3) ∧
          (s.schedStopped p = true → t.reg .SCH_STS p = s.reg .SCH_STS p)))) ∧
  (∀ (p : Fin 2) (r : Fin 65) (s : State) (o : OpenCmd), s.readyCmd p r 0x14 o →
    (s.isMaster p = false → Completes (.stop p r) s fun t => Closed t p o 0x11 0 0 0 ∧ (t.part p).stopAt = (s.part p).stopAt) ∧
    (s.isMaster p = true → ∀ img, (s.part p).state = .running → (s.part p).image = some img →
      Completes (.stop p r) s fun t => ∃ c, (t.part p).stopAt = some c ∧ Waits t p o ∧
        (∃ k, c = (s.part p).conj + 72 * ((img.length + 71) / 72) * k) ∧
        (0 < img.length → (s.part p).conj ≤ (s.part p).gtc → (s.part p).gtc + img.horizon ≤ c) ∧
        (t.part p).slotHolder ≠ some o.src ∧ SameMemory s t ∧ SameEngines s t) ∧
    (s.isMaster p = true → (s.part p).state = .armed → Completes (.stop p r) s fun t =>
      (t.part p).state = .loaded ∧ (t.part p).t0 = none ∧ Closed t p o 0 0 0 0)) ∧
  (∀ (q : Fin 32) (w : BitVec 256) (s : State), let p := s.partOfPort q
    let n := noticeOf w
    n.kind = kStop → (s.knows p n = true → exec (.stopNotice q w) s = .next s) ∧
    (s.knows p n = false →
      ((s.part p).state = .running → n.a ≠ 0 → Completes (.stopNotice q w) s fun t =>
        (t.part p).stopAt = some n.a ∧ (t.part p).state = .running ∧ SameMemory s t ∧ SameEngines s t) ∧
      ((s.part p).state = .armed → n.a = 0 → Completes (.stopNotice q w) s fun t =>
        (t.part p).state = .loaded ∧ (t.part p).t0 = none ∧ SameMemory s t))) ∧
  (∀ (p : Fin 2) (r : Fin 65) (s : State) (o : OpenCmd), s.readyCmd p r 0x15 o →
    let least := (s.part p).gtc + s.horizon p
    (s.isMaster p = false → Completes (.haltAt p r) s fun t => Closed t p o 0x11 0 0 0) ∧
    (s.isMaster p = true → o.arg0 < least → Completes (.haltAt p r) s fun t =>
      Closed t p o 0x13 0 least 0 ∧ (t.part p).freeze = (s.part p).freeze) ∧
    (s.isMaster p = true → least ≤ o.arg0 → (s.part p).gtc < o.arg0 → s.running p = true → (s.part p).freeze = none →
      Completes (.haltAt p r) s fun t => Waits t p o ∧ ∃ f, (t.part p).freeze = some f ∧ f.tf = o.arg0 ∧ f.cause = 0x80 ∧
        f.isLocal = false ∧ f.frozen = false ∧ t.rd F.SCH_FREEZE_t_f p = o.arg0 % 2 ^ 64 ∧ SameMemory s t))

/-- The freeze commands complete with the effects of R189–R196. -/
def Obligations.FreezeAgrees : Prop :=
  (∀ (s : State) (p : Fin 2) (cause : Nat) (img : Image), (s.part p).image = some img → cause < 256 →
    let t := s.slip p cause
    t.rd F.SCH_EVT_slip p = 1 ∧ SameMemory s t ∧ SameEngines s t ∧ (t.part p).state = (s.part p).state ∧
    ((s.part p).state = .running → (s.part p).freeze = none →
      (∃ f, (t.part p).freeze = some f ∧ f.tf = (s.part p).gtc + img.horizon ∧ f.td = (s.part p).gtc ∧ f.cause = cause ∧
        f.origin = s.ownPix p ∧ f.isLocal = true ∧ f.launched = false) ∧
      t.rd F.SCH_FREEZE_t_f p = ((s.part p).gtc + img.horizon) % 2 ^ 64 ∧ t.rd F.SCH_SLIP_cause p = cause ∧
      t.rd F.SCH_SLIP_local p = 1) ∧
    ((s.part p).state ≠ .running ∨ (s.part p).freeze ≠ none → t.part p = s.part p ∧
      t.rd F.SCH_SLIP_cause p = s.rd F.SCH_SLIP_cause p)) ∧
  (∀ (p : Fin 2) (s : State) (f : Freeze), (s.part p).freeze = some f → f.isLocal = true → f.launched = false →
    Completes (.slipNoticeLaunch p) s fun t => (t.part p).freeze = some { f with launched := true } ∧
      (∃ ports n, t.out = s.out ++ [.notice p ports n] ∧ n.kind = kSlip ∧ n.code = f.cause ∧ n.a = f.td ∧ n.b = f.tf ∧
        n.origin = s.ownPix p) ∧ SameMemory s t ∧ SameEngines s t) ∧
  (∀ (q : Fin 32) (w : BitVec 256) (s : State) (kind : Nat) (i : Instr), let p := s.partOfPort q
    let n := noticeOf w
    (kind = kSlip ∧ i = .slip q w ∨ kind = kHalt ∧ i = .haltNotice q w) → n.kind = kind →
    (s.knows p n = true → exec i s = .next s) ∧
    (s.knows p n = false → s.running p = false → Completes i s fun t =>
      (t.part p).freeze = (s.part p).freeze ∧ (t.part p).state = (s.part p).state ∧ t.out = s.out ∧ SameMemory s t) ∧
    (s.knows p n = false → s.running p = true → (s.part p).gtc < n.b →
      (s.part p).freeze = none ∨ (∃ f, (s.part p).freeze = some f ∧ f.frozen = false ∧ n.b < f.tf) →
      Completes i s fun t => (∃ f, (t.part p).freeze = some f ∧ f.tf = n.b ∧ f.td = n.a ∧ f.origin = n.origin ∧
          f.cause = n.code ∧ f.frozen = false) ∧ t.rd F.SCH_FREEZE_t_f p = n.b ∧ t.rd F.SCH_SLIP_cause p = n.code ∧
        t.rd F.SCH_SLIP_origin p = n.origin ∧ (∃ ports, t.out = s.out ++ [.notice p ports n]) ∧
        (t.part p).state = .running ∧ SameMemory s t ∧ SameEngines s t) ∧
    (s.knows p n = false → s.running p = true → ∀ f, (s.part p).freeze = some f → f.frozen = false → f.tf < n.b →
      Completes i s fun t => (t.part p).freeze = some f ∧ t.out = s.out ∧ SameMemory s t)) ∧
  (∀ (p : Fin 2) (s : State) (f : Freeze), (s.part p).freeze = some f → s.running p = true → f.frozen = false →
    Completes (.freeze p) s fun t => t.rd F.SCH_STS_plane p = 4 ∧ (t.part p).freeze = some { f with frozen := true } ∧
      (t.part p).state = .running ∧ SameMemory s t) ∧
  (∀ (p : Fin 2) (s : State) (f : Freeze), (s.part p).freeze = some f → s.running p = true → f.frozen = true →
    Completes (.freezeDrainEnd p) s fun t => (t.part p).state = (if (s.part p).ownFault then .faulted else .halted) ∧
      t.rd F.FLT_STS_replay_ready p = 1 ∧ t.rd F.INFL_STS_valid p = 1 ∧ SameMemory s t)

/-- The slot, landing and forecast commands complete with the effects of R66, R176, R179 and R197–R202. -/
def Obligations.SlotsAndForecast : Prop :=
  (∀ (q : Fin 32) (f : Nat) (s : State) (x : LinkSlot), let p := s.partOfPort q
    s.slotOf q f false = some x → s.running p = true →
    let mine (v : VcFrame) : Bool := v.unit == x.unit && s.frameFor q v
    (s.schedStopped p = true → exec (.sendSlot q f) s = .next s) ∧
    (s.schedStopped p = false → (s.part p).sendq.find? mine = none → exec (.sendSlot q f) s = .next (s.slip p 0x04)) ∧
    (∀ pre v post, s.schedStopped p = false → (s.part p).sendq = pre ++ v :: post → (∀ y ∈ pre, mine y = false) →
      mine v = true → Completes (.sendSlot q f) s fun t => (t.part p).sendq = pre ++ post ∧
        t.out = s.out ++ [.frame q v.bits] ∧ SameMemory s t ∧ SameEngines s t ∧ t.regs = s.regs)) ∧
  (∀ (q : Fin 32) (f : Nat) (s : State) (x : LinkSlot), let p := s.partOfPort q
    s.slotOf q f true = some x → s.running p = true →
    ((s.port q).elastic.find? (fun e => e.1 == f) = none → (∀ z, (s.part p).freeze = some z → z.frozen = false) →
      exec (.elasticExit q f) s = .next (s.slip p 0x04)) ∧
    (∀ w, (s.port q).elastic.find? (fun e => e.1 == f) = some (f, w) →
      let gs := frameGrans w
      let gidx := frameF w 32 25 + b2n (!w.toNat.testBit 5)
      (s.twoPart = false → frameF w 8 14 = s.ownPix p → frameF w 22 10 = x.unit → x.unit < 100 →
        64 * (gidx + gs.length) ≤ 16 * tileBytes → Completes (.elasticExit q f) s fun t =>
          StoresBytes s t (sramBase + 64 * gidx) (gs.flatMap fun g => toLE 64 g.1.toNat) ∧ SameEngines s t) ∧
      (frameF w 8 14 ≠ s.ownPix p → x.unit = 104 + q / 8 → Completes (.elasticExit q f) s fun t =>
        (∃ v : VcFrame, (t.part p).sendq = (s.part p).sendq ++ [v] ∧ v.data = gs ∧ v.dstPix = frameF w 8 14 ∧
          v.dstUnit = frameF w 22 10 ∧ v.gidx = gidx ∧ v.unit = x.unit) ∧ SameMemory s t ∧ SameEngines s t))) ∧
  (∀ (p : Fin 2) (j : Nat) (s : State) (x : Landing), j < 256 → s.landing? p j = some x → s.running p = true →
    Completes (.landingOpen p j) s (fun t => t.rd F.LAND_STS_count p j = 0 ∧ j ∈ (t.part p).landOpen ∧
      SameMemory s t ∧ SameEngines s t) ∧
    ((s.part p).landOpen.contains j = true →
      (x.expected ≤ s.rd F.LAND_STS_count p j → Completes (.landingDeadline p j) s fun t =>
        t.rd F.LAND_STS_met p j = 1 ∧ j ∉ (t.part p).landOpen ∧ (t.part p).freeze = (s.part p).freeze ∧ SameMemory s t) ∧
      (s.rd F.LAND_STS_count p j < x.expected → Completes (.landingDeadline p j) s fun t =>
        t.rd F.LAND_STS_met p j = 0 ∧ j ∉ (t.part p).landOpen ∧ t.rd F.SCH_EVT_slip p = 1 ∧
        ((s.part p).freeze = none → ∃ f, (t.part p).freeze = some f ∧ f.cause = 0x07) ∧ SameMemory s t))) ∧
  (∀ (p : Fin 2) (j : Nat) (s : State) (img : Image) (e : Forecast), (s.part p).image = some img →
    img.forecast[j]? = some e → s.rdB F.SCH_CTL_fcast_en p = true → (s.part p).state = .running →
    (∀ f, (s.part p).freeze = some f → f.frozen = false) → Completes (.forecastBin p j) s fun t =>
      (t.part p).fcastNow = some j ∧ SameMemory s t ∧ SameEngines s t ∧ t.regs = s.regs ∧
      ((s.part p).fcastNow = none → ∀ k, k < 16 → s.partOfTile k = p → 0 < e.tileW.getD k 0 →
        tabGet natDefault t.preBias k = min (e.tileW.getD k 0) 200)) ∧
  (∀ (k : Fin 16) (s : State), tabGet natDefault s.preBias k ≠ 0 → Completes (.preBiasEnd k) s fun t =>
    tabGet natDefault t.preBias k = 0 ∧ (∀ x, x ≠ k.val → tabGet natDefault t.preBias x = tabGet natDefault s.preBias x) ∧
    t.regs = s.regs ∧ SameMemory s t ∧ SameEngines s t) ∧
  (∀ (d : Fin 36) (s : State), let p := s.partOfDie d
    Completes (.marginAlarm d) s fun t => (t.part p).raised ≠ [] ∧ SameMemory s t ∧ SameEngines s t ∧
      (d.val < 16 → s.running p = true → t.rd F.SCH_EVT_slip p = 1) ∧ (16 ≤ d.val → t.regs = s.regs))

/-- FCAST_DEV by R203. THERMAL is class 6 (R471). -/
def Obligations.ForecastDeviation : Prop :=
  ∀ (p : Fin 2) (j : Nat) (s : State) (img : Image), (s.part p).image = some img → j < img.forecast.length →
    s.running p = true → Completes (.fcastDev p j) s fun t => t.rd F.SCH_EVT_fcast_dev p = 1 ∧
      t.rd F.SCH_EVT_CNT_fcast_cnt p = (s.rd F.SCH_EVT_CNT_fcast_cnt p + 1) % 2 ^ 16 ∧
      (∃ x ∈ (t.part p).raised, x.cls = 6) ∧
      (t.part p).state = .running ∧ (t.part p).orbit = (s.part p).orbit ∧ (t.part p).conj = (s.part p).conj ∧
      (t.part p).freeze = (s.part p).freeze ∧ SameMemory s t ∧ SameEngines s t

/-- The HBM request commands complete with the effects of R253–R257 and R272. -/
def Obligations.HbmRequests : Prop :=
  (∀ (n : Fin 64) (id i : Nat) (s u : State) (x0 x : Transfer) (r : WideReq), let p := s.partOfCore n
    let m := ({ s := s, t := x0, stuck := false } : Mover).pump n p true x0.total
    let c := physChan r.phys
    let pc := physPc r.phys
    let sched := x.plane == .sched && s.chanMode c == 2
    (s.core n).transfer? id = some x0 → s.contained p = false → wideReqOf m.s n p m.t i = some (u, x, r) →
    u.chanMode c = s.chanMode c → u.chan c = s.chan c → (u.part p).freeze = none → s.chanMode c ≠ 0 →
    (sched = false → ((s.chan c).wideq false pc).length < 64) →
    Completes (.hbmRequest n id i) s fun t =>
      (t.chan c).wideq sched pc = (s.chan c).wideq sched pc ++ [{ r with arr := (s.chan c).nextArr }] ∧
      (t.chan c).wideq (!sched) pc = (s.chan c).wideq (!sched) pc ∧
      (t.chan c).nextArr = (s.chan c).nextArr + 1 ∧ SameMemory u t ∧
      (x.plane = .sched → s.chanMode c = 1 → u.running p = true → t.rd F.SCH_EVT_slip p = 1)) ∧
  (∀ (c : Fin 640) (pc : Fin 2) (sched : Bool) (k : Nat) (flip : BitVec 640) (s : State) (r : WideReq),
    let q : HbmQueue := if sched then .sched else .wide
    ((s.chan c).wideq sched pc)[k]? = some r → s.chanMode c ≠ 3 → (sched = true → k = 0) →
    (s.chan c).earlier pc r.phys r.arr = false →
    (∀ g chk, r.write = some (g, chk) → Completes (.hbmAccessDone c pc q k flip) s fun t =>
      (t.chan c).wideq sched pc = removeAt ((s.chan c).wideq sched pc) k ∧
      (∀ a, ¬ (r.phys * 64 ≤ a ∧ a < r.phys * 64 + 64) → t.byte a = s.byte a) ∧ t.regs = s.regs ∧ t.gathers = s.gathers ∧
      ∀ x, (s.core r.core).transfer? r.id = some x →
        (t.core r.core).transfer? r.id = some { x with out := x.out - 1 }) ∧
    (r.write = none → exec (.hbmAccessDone c pc q k flip) s = .next
      (((s.updChan c fun d => d.setWideq sched pc (removeAt (d.wideq sched pc) k)).upset r.phys flip).wideDone r sched))) ∧
  (∀ (c : Fin 640) (pc : Fin 2) (k : Nat) (flip : BitVec 640) (s : State) (r : NarrowReq) (h : Thread) (a : Narrow),
    ((s.chan c).narrowq pc)[k]? = some r → s.chanMode c ≠ 3 → (s.chan c).earlier pc r.phys r.arr = false →
    s.thread? r.gx r.launch r.index = some h → h.access = some a → s.contained (s.partOfTile (r.gx / 2)) = false →
    Completes (.hbmAccessDone c pc .narrow k flip) s fun t => (t.chan c).narrowq pc = removeAt ((s.chan c).narrowq pc) k ∧
      ∃ ans, t.thread? r.gx r.launch r.index = some { h with access := some { a with answer := some ans } }) ∧
  (∀ (g : Fin 32) (l t : Nat) (s : State) (h : Thread) (a : Narrow) (ad c loc k o : Nat), let p := s.partOfTile (g / 2)
    let ph := hbmPhys c loc k
    s.thread? g l t = some h → h.access = some a → a.away = false → s.contained p = false → s.target p a.addr = .here ad →
    s.home p ad = .hbm c loc k o → physChan ph = c →
    (s.chanMode c ≠ 0 → ((s.chan c).narrowq (physPc ph)).length < 64 → s.lineOf ph = none →
      Completes (.narrowRequest g l t) s fun u => SameMemory s u ∧ u.regs = s.regs ∧ u.cores = s.cores ∧
        u.thread? g l t = some { h with access := some { a with away := true } } ∧
        ∃ r : NarrowReq, (u.chan c).narrowq (physPc ph) = (s.chan c).narrowq (physPc ph) ++ [r] ∧ r.addr = ad ∧ r.size = a.size ∧
          r.op = a.op ∧ r.phys = ph ∧ r.arr = (s.chan c).nextArr) ∧
    (∀ b td, s.chanMode c = 1 ∨ s.chanMode c = 2 → s.lineOf ph = some b → b.check = granCheck b.data → a.op = .loadReg td →
      a.size = 8 → ad % 8 = 0 → (s.chan c).earlier (physPc ph) ph (s.chan c).nextArr = false →
      Completes (.narrowRequest g l t) s fun u => SameMemory s u ∧ u.regs = s.regs ∧ u.cores = s.cores ∧
        u.thread? g l t = some { h with access := some { a with away := true, answer := some (.value (granPart b.data ad 8)) } })) ∧
  (∀ (c : Fin 640) (s : State), let p := s.partOfChan c
    s.running p = true → Completes (.hbmBound c) s fun t => t.rd F.MCH_EVT_bound_miss 0 c = 1 ∧
      t.rd F.SCH_EVT_slip p = 1 ∧ SameMemory s t ∧ SameEngines s t ∧
      (∀ img, (s.part p).image = some img → (s.part p).freeze = none → ∃ f, (t.part p).freeze = some f ∧ f.cause = 0x06))

/-- The refresh, scrub and traffic generator commands complete with the effects of R259–R264, R269 and R279–R282. -/
def Obligations.HbmUpkeep : Prop :=
  (∀ (c : Fin 640) (i pc bank at' : Nat) (r : RefreshSec) (s : State), let p := s.partOfChan c
    let gap := s.mclkOf ((s.part p).gtc - tabGet (fun _ => (0 : Nat)) (s.chan c).lastRef (16 * pc + bank))
    s.refreshSec p c = some r → r.slots[i]? = some (at', pc, bank) → s.listedRefresh p c = true →
    Completes (.refreshSlot c i) s fun t =>
      tabGet (fun _ => (0 : Nat)) (t.chan c).lastRef (16 * pc + bank) = (s.part p).gtc ∧
      t.rd F.MCH_STS_max_gap 0 c = max (s.rd F.MCH_STS_max_gap 0 c) (min gap 65535) ∧ SameMemory s t ∧ SameEngines s t) ∧
  (∀ (c : Fin 640) (b : Fin 32) (s : State), let p := s.partOfChan c
    let gap := s.mclkOf ((s.part p).gtc - tabGet (fun _ => (0 : Nat)) (s.chan c).lastRef b)
    s.chanMode c ≠ 0 → s.listedRefresh p c = false → Completes (.autonomousRefresh c b) s fun t =>
      tabGet (fun _ => (0 : Nat)) (t.chan c).lastRef b = (s.part p).gtc ∧
      (∀ x, x ≠ b.val → tabGet (fun _ => (0 : Nat)) (t.chan c).lastRef x = tabGet (fun _ => (0 : Nat)) (s.chan c).lastRef x) ∧
      t.rd F.MCH_STS_max_gap 0 c = max (s.rd F.MCH_STS_max_gap 0 c) (min gap 65535) ∧ SameMemory s t ∧ SameEngines s t) ∧
  (∀ (c : Fin 640) (s : State), let p := s.partOfChan c
    s.chanMode c = 2 → (s.part p).state = .armed → (s.part p).t0.isSome = true → Completes (.preRunRefresh c) s fun t =>
      (∀ b, b < 32 → tabGet (fun _ => (0 : Nat)) (t.chan c).lastRef b = (s.part p).gtc) ∧ SameMemory s t ∧ SameEngines s t) ∧
  (∀ (k : Fin 20) (temp : BitVec 8) (s : State), let p := s.partOfHalf (k / 10)
    Completes (.stackTempSample k temp) s fun t => t.rd F.MST_STS_temp 0 k = temp.toNat ∧
      t.rd F.MST_STS_temp_max 0 k = max temp.toNat (s.rd F.MST_STS_temp_max 0 k) ∧
      t.rdB F.MST_STS_hot 0 k = decide (85 < temp.toNat) ∧ SameMemory s t ∧ SameEngines s t ∧
      (∀ c r, c < 32 → s.listedRefresh p (32 * k + c) = true → s.refreshSec p (32 * k + c) = some r →
        (if r.hot then 95 else 85) < temp.toNat → (t.chan (32 * k + c)).ceiling = true ∧ t.rd F.MEM_EVT_ceiling p = 1 ∧
          t.rd F.SCH_EVT_slip p = 1)) ∧
  (∀ (k : Fin 20) (counts : List (BitVec 32)) (s : State), counts.length = 32 → Completes (.innerCeRead k counts) s fun t =>
    (∀ i, i < 32 → t.rd F.MCH_CE_CNT_inner_cnt 0 (32 * k + i) = (counts.getD i 0).toNat) ∧ SameMemory s t ∧ SameEngines s t) ∧
  (∀ (c : Fin 640) (ph : Nat) (rest : List Nat) (s : State), (s.chan c).rewrites = ph :: rest → s.chanMode c ≠ 3 →
    Completes (.hbmRewrite c) s fun t => (t.chan c).rewrites = rest ∧ t.regs = s.regs ∧ SameEngines s t ∧
      ∀ a, ¬ (ph * 64 ≤ a ∧ a < ph * 64 + 64) → t.byte a = s.byte a) ∧
  (∀ (c : Fin 640) (loc : Nat) (g : Fin 4) (flip : BitVec 640) (last : Bool) (s : State), let p := s.partOfChan c
    let ph := hbmPhys c loc g
    s.rdB F.MEM_CTL_scrub_en p = true → s.chanMode c = 1 ∨ s.chanMode c = 2 → loc < chanLocs →
    (∀ x, flip = 0 → s.hbmDecode ph = some (x, 0) → Completes (.scrubRead c loc g flip last) s fun t =>
      SameMemory s t ∧ SameEngines s t ∧ t.rd F.MEM_EVT_scrub_pass p = (if last then 1 else s.rd F.MEM_EVT_scrub_pass p)) ∧
    ((s.upset ph flip).hbmDecode ph = none → Completes (.scrubRead c loc g flip last) s fun t =>
      t.rd F.MEM_EVT_ue p = 1 ∧ t.rd F.MCH_EVT_ue 0 c = 1 ∧ SameEngines s t ∧
      ∀ a, ¬ (ph * 64 ≤ a ∧ a < ph * 64 + 64) → t.byte a = s.byte a)) ∧
  (∀ (c : Fin 640) (v : Word) (s : State), let p := s.partOfChan c
    v.toNat.testBit 0 = true → (s.chan c).mtg = none →
    ((s.part p).state = .booting ∨ (s.part p).state = .idle → bits v.toNat 2 3 ≠ 7 → Completes (.mtgStart c v) s fun t =>
      t.chanMode c = 3 ∧ t.rd F.MTG_STS_busy 0 c = 1 ∧ t.rd F.MTG_STS_errors 0 c = 0 ∧
      (∃ m, (t.chan c).mtg = some m ∧ m.mode = s.chanMode c) ∧ SameMemory s t ∧ SameEngines s t) ∧
    ((s.part p).state ≠ .booting ∧ (s.part p).state ≠ .idle ∨ bits v.toNat 2 3 = 7 → Completes (.mtgStart c v) s fun t =>
      t.rd F.MTG_STS_refused 0 c = 1 ∧ t.chanMode c = s.chanMode c ∧ (t.chan c).mtg = none ∧ SameMemory s t)) ∧
  (∀ (c : Fin 640) (steps : Nat) (s : State), ((s.chan c).mtg = none → exec (.mtgStop c steps) s = .next s) ∧
    ∀ m, (s.chan c).mtg = some m → m.mode < 4 → Completes (.mtgStop c steps) s fun t => (t.chan c).mtg = none ∧
      t.rd F.MTG_STS_busy 0 c = 0 ∧ t.chanMode c = m.mode ∧ SameEngines s t ∧ (steps = 0 → SameMemory s t)) ∧
  (∀ (c : Fin 640) (m : Mtg) (s : State), (s.chan c).mtg = some m → m.mode < 4 → Completes (.mtgDone c) s fun t =>
    SameEngines s t ∧ (m.ctl.testBit 10 = false → (t.chan c).mtg = none ∧ t.rd F.MTG_STS_done 0 c = 1 ∧
      t.rd F.MTG_STS_busy 0 c = 0 ∧ t.chanMode c = m.mode) ∧
    (m.ctl.testBit 10 = true → (t.chan c).mtg = some m))

/-- The laser source commands complete with the effects of R293–R297. -/
def Obligations.LaserInputs : Prop :=
  (∀ (o : Fin 4) (pwr : BitVec 16) (s : State), s.opticsUp o = true → s.lightEn o = true → (s.oe o).priOn = true →
    (s.oe o).priFail = false → s.rdB F.OE_LASER_STS_absorber 0 o = true ∨ s.rd F.OE_LASER_STS_in_sel 0 o = 1 →
    Completes (.laserSourceReady o pwr) s fun t => t.rd F.OE_LASER_STS_in_sel 0 o = 0 ∧ t.rd F.OE_LASER_STS_absorber 0 o = 0 ∧
      t.rd F.OE_LASER_STS_pri_pwr 0 o = pwr.toNat ∧ t.rd F.OE_LASER_STS_pri_fault 0 o = 0 ∧ (t.oe o).ready = true ∧
      (t.oe o).refPwr = sext 16 pwr.toNat ∧ SameMemory s t ∧ SameEngines s t) ∧
  (∀ (o : Fin 4) (fault : Bool) (s : State), s.lightEn o = true → (s.oe o).priOn = true → (s.oe o).priFail = false →
    s.rd F.OE_LASER_STS_in_sel 0 o = 0 → Completes (.laserFail o fault) s fun t =>
      (t.oe o).priFail = true ∧ (t.oe o).recal = [] ∧ t.rd F.OE_EVT_laser_fail 0 o = 1 ∧
      t.rd F.OE_LASER_STS_pri_fault 0 o = (if fault then 1 else s.rd F.OE_LASER_STS_pri_fault 0 o) ∧
      (∀ k ∈ engineRings o, (t.ring k).state ≠ rgSweep ∧ (t.ring k).state ≠ rgLocked ∧ (t.ring k).state ≠ rgUnlocked) ∧
      SameMemory s t ∧ SameEngines s t) ∧
  (∀ (o : Fin 4) (s : State), s.lightEn o = true → (s.oe o).priFail = true → (s.oe o).sbyOn = false →
    Completes (.standbyEnable o) s fun t => t.oe o = { s.oe o with sbyOn := true } ∧
      (∀ x, x ≠ o.val → t.oe x = s.oe x) ∧ t.regs = s.regs ∧ t.rings = s.rings ∧ SameMemory s t ∧ SameEngines s t) ∧
  (∀ (o : Fin 4) (pwr : BitVec 16) (s : State), s.lightEn o = true → (s.oe o).priFail = true → (s.oe o).sbyOn = true →
    (s.oe o).sbyFail = false → s.rd F.OE_LASER_STS_in_sel 0 o = 0 → Completes (.standbyReady o pwr) s fun t =>
      t.rd F.OE_LASER_STS_in_sel 0 o = 1 ∧ t.rd F.OE_LASER_STS_absorber 0 o = 0 ∧ t.rd F.OE_LASER_STS_sby_pwr 0 o = pwr.toNat ∧
      (∀ k ∈ engineRings o, (t.ring k).state ≠ rgHold) ∧ SameMemory s t ∧ SameEngines s t) ∧
  (∀ (o : Fin 4) (fault : Bool) (s : State), s.lightEn o = true → (s.oe o).priFail = true → (s.oe o).sbyOn = true →
    (s.oe o).sbyFail = false → Completes (.laserLoss o fault) s fun t =>
      t.rd F.OE_LASER_STS_absorber 0 o = 1 ∧ t.rd F.OE_EVT_laser_loss 0 o = 1 ∧ (t.oe o).sbyFail = true ∧
      (∀ q ∈ enginePorts o, t.portState q = ptDark ∧ t.fibre q = fbDark) ∧ SameMemory s t ∧ SameEngines s t)

/-- The ring control commands complete with the effects of R297–R305 and R308. -/
def Obligations.RingControl : Prop :=
  (∀ (o : Fin 4) (i : Fin 8) (kind : Fin 4) (n : Fin 18) (temp : BitVec 12) (e : BitVec 8) (s : State),
    let k := ringKey o i kind n
    let r := s.ring k
    let rd := (s.reading o temp.toNat).1
    let trim := max (-4095) (min 4095 (r.trim + (sext 8 e.toNat).tdiv 4))
    let bad : Prop := 96 ≤ (sext 8 e.toNat).natAbs ∨ trim = 4095 ∨ trim = -4095
    ringExists i kind n = true →
    (r.state ≠ rgLocked → Completes (.ringUpdate o i kind n temp e) s fun t => (t.ring k).temp = temp.toNat ∧
      (t.ring k).state = r.state ∧ (t.ring k).trim = r.trim ∧
      (r.state = rgParked → (t.ring k).code = heaterCode (s.tableAt k rd + 3000)) ∧ SameMemory s t ∧ SameEngines s t) ∧
    (r.state = rgLocked → ¬ bad ∨ r.bad < 2 → Completes (.ringUpdate o i kind n temp e) s fun t =>
      (t.ring k).state = rgLocked ∧ (t.ring k).trim = trim ∧ (¬ bad → (t.ring k).bad = 0) ∧
      (bad → (t.ring k).bad = r.bad + 1) ∧ (kind.val ≠ 2 → (t.ring k).code = heaterCode (s.tableAt k rd + r.trim)) ∧
      (∀ k', k' ≠ k → t.ring k' = s.ring k') ∧ SameMemory s t ∧ SameEngines s t) ∧
    (r.state = rgLocked → bad → 2 ≤ r.bad → kind.val ≠ 3 → Completes (.ringUpdate o i kind n temp e) s fun t =>
      t.rd F.OE_FIB_EVT_ring_unlock 0 o i = 1 ∧ (t.ring k).state ≠ rgLocked ∧ SameMemory s t ∧ SameEngines s t)) ∧
  (∀ (o : Fin 4) (i : Fin 8) (kind : Fin 4) (n : Fin 18) (resp : BitVec 16) (s : State),
    let k := ringKey o i kind n
    let r := s.ring k
    let h := s.tableAt k (s.reading o r.temp).1
    let best := max r.best resp.toNat
    let at' := if r.best < resp.toNat then r.sweepCode h else r.bestCode
    ringExists i kind n = true → r.state = rgSweep ∨ r.state = rgUnlocked →
    (r.step + 1 < r.sweepSteps → Completes (.sweepStep o i kind n resp) s fun t => (t.ring k).state = rgSweep ∧
      (t.ring k).step = r.step + 1 ∧ (t.ring k).best = best ∧ (t.ring k).bestCode = at' ∧ (t.ring k).code = r.sweepCode h ∧
      SameMemory s t ∧ SameEngines s t) ∧
    (r.sweepSteps ≤ r.step + 1 → 0 < best → ((at' : Int) - h).natAbs ≤ 2048 → Completes (.sweepStep o i kind n resp) s fun t =>
      (t.ring k).state = rgLocked ∧ (t.ring k).code = at' ∧ (t.ring k).trim = (at' : Int) - h ∧ (t.ring k).failed = 0 ∧
      SameMemory s t ∧ SameEngines s t) ∧
    (r.sweepSteps ≤ r.step + 1 → best = 0 ∨ 2048 < ((at' : Int) - h).natAbs → r.failed < 2 →
      Completes (.sweepStep o i kind n resp) s fun t => (t.ring k).state = rgSweep ∧ (t.ring k).step = 0 ∧
        (t.ring k).failed = r.failed + 1 ∧ SameMemory s t ∧ SameEngines s t) ∧
    (r.sweepSteps ≤ r.step + 1 → best = 0 ∨ 2048 < ((at' : Int) - h).natAbs → 2 ≤ r.failed →
      Completes (.sweepStep o i kind n resp) s fun t => SameMemory s t ∧ SameEngines s t ∧
        (kind.val = 3 → (t.ring k).state = rgFailed ∧ (t.ring k).failed = 3))) ∧
  (∀ (o : Fin 4) (s : State), Completes (.ffUpdate o) s fun t =>
    t.rdB F.OE_STS_ff_active 0 o = s.ffActive (s.partOfOe o) ∧ t.rings = s.rings ∧ t.heaters = s.heaters ∧
    SameMemory s t ∧ SameEngines s t) ∧
  (∀ (o : Fin 4) (s : State), Completes (.recalTimer o) s fun t =>
    (∀ i, i < 8 → s.fibre (8 * o.val + i) = fbLit ∨ s.fibre (8 * o.val + i) = fbLit15 → i ∈ (t.oe o).recal) ∧
    (∀ i, i ∈ (s.oe o).recal → i ∈ (t.oe o).recal) ∧ t.rdB F.OE_STS_recal_busy 0 o = !(t.oe o).recal.isEmpty ∧
    t.rings = s.rings ∧ SameMemory s t ∧ SameEngines s t) ∧
  (∀ (o : Fin 4) (i : Fin 8) (kind : Fin 4) (n : Fin 18) (lc : BitVec 16) (s : State),
    let k := ringKey o i kind n
    let q := 8 * o.val + i.val
    let rd := (s.reading o (s.ring k).temp).1
    ringExists i kind n = true → kind.val ≠ 3 → (s.port q).lowLane kind n = false → i.val ∈ (s.oe o).recal →
    s.recalFree q = true → (s.ring k).state = rgLocked →
    Completes (.recalRingDone o i kind n lc false) s (fun t =>
      t.tableAt k rd + (t.ring k).trim = s.tableAt k rd + (s.ring k).trim ∧ (t.ring k).state = rgLocked ∧
      (∀ k', k' ≠ k → t.ring k' = s.ring k') ∧ SameMemory s t ∧ SameEngines s t) ∧
    Completes (.recalRingDone o i kind n lc true) s (fun t => i.val ∉ (t.oe o).recal ∧
      ((∀ x ∈ (s.oe o).recal, x = i.val) → t.rd F.OE_EVT_recal_pass 0 o = 1 ∧ t.rd F.OE_STS_recal_busy 0 o = 0) ∧
      SameMemory s t ∧ SameEngines s t)) ∧
  (∀ (o : Fin 4) (i : Fin 8) (kind : Fin 4) (n : Fin 18) (s : State), let k := ringKey o i kind n
    ringExists i kind n = true → (s.ring k).state = rgLocked → 256 * (s.ring k).driftN < (s.ring k).driftSum →
    Completes (.tableDrift o i kind n) s fun t => t.rd F.OE_EVT_table_drift 0 o = 1 ∧ (t.ring k).driftSum = 0 ∧
      (t.ring k).driftN = 0 ∧ (t.ring k).trim = (s.ring k).trim ∧ (kind.val ≠ 3 → i.val ∈ (t.oe o).recal) ∧
      SameMemory s t ∧ SameEngines s t) ∧
  (∀ (half : Fin 2) (s : State), (s.part (s.partOfHalf half)).state ≠ .cold → Completes (.tableFlashWrite half) s fun t =>
    (t.flash half).heaters = s.heaters.filter (fun x => x.1 / 16 / 18 / 4 / 8 / 2 == half.val) ∧
    t.flash (1 - half.val) = s.flash (1 - half.val) ∧ t.heaters = s.heaters ∧ t.regs = s.regs ∧ SameMemory s t ∧
    SameEngines s t) ∧
  (∀ (o : Fin 4) (s : State), Completes (.equalise o) s fun t =>
    (∀ k ∈ engineRings o, (t.ring k).driftSum = 0 ∧ (t.ring k).driftN = 0 ∧ (t.ring k).trim = (s.ring k).trim) ∧
    t.regs = s.regs ∧ SameMemory s t ∧ SameEngines s t)

/-- The margin and signal commands complete with the effects of R292, R309, R310, R318, R321 and R322. -/
def Obligations.FibreMargins : Prop :=
  (∀ (q : Fin 32) (m : BitVec 144) (s : State), s.portState q ≠ ptDark →
    (∀ n, n < 18 → ((s.port q).wave n).samples.length < 9) → Completes (.marginSample q m) s fun t =>
      (∀ n, n < 18 → ((t.port q).wave n).samples = sext 8 (bits m.toNat (8 * n) 8) :: ((s.port q).wave n).samples ∧
        ((t.port q).wave n).secN = ((s.port q).wave n).secN + 1) ∧ SameMemory s t ∧ SameEngines s t) ∧
  (∀ (q : Fin 32) (m : BitVec 144) (s : State), s.portState q ≠ ptDark → Completes (.marginSample q m) s fun t =>
    SameMemory s t ∧ SameEngines s t) ∧
  (∀ (q : Fin 32) (n : Nat) (m : Int) (s : State), ((s.port q).wave n).warn = false → ((s.port q).wave n).hand = false →
    ((s.port q).wave n).loss = false → 20 ≤ m → m < 30 →
    let t := s.thresholds q n m
    t.rd F.OE_FIB_EVT_warn 0 (q.val / 8) (q.val % 8) = 1 ∧ ((t.port q).wave n).warn = true ∧ (t.port q).hand = (s.port q).hand) ∧
  (∀ (q : Fin 32) (s : State), Completes (.slopeFit q) s fun t =>
    (∀ n, n < 18 → ((s.port q).wave n).secN ≠ 0 → ((t.port q).wave n).secN = 0 ∧ ((t.port q).wave n).means =
      ((((s.port q).wave n).secSum, ((s.port q).wave n).secN) :: ((s.port q).wave n).means).take 10) ∧
    SameMemory s t ∧ SameEngines s t) ∧
  (∀ (q : Fin 32) (s : State), s.fibre q = fbLit ∨ s.fibre q = fbLit15 → s.cometOk q = false →
    (s.ring (ringKey (q.val / 8) (q.val % 8) 1 17)).state = rgLocked → (s.port q).lowMargin 17 = false →
    Completes (.cometReturn q) s fun t => t.cometOk q = true ∧ t.fibre q = s.fibre q ∧ t.ports = s.ports ∧
      SameMemory s t ∧ SameEngines s t) ∧
  (∀ (q : Fin 32) (s : State), s.portState q ≠ ptDark → s.fibre q ≠ fbLos → s.fibre q ≠ fbProbe → s.fibre q ≠ fbDropped →
    Completes (.los q) s fun t => t.rd F.OE_FIB_EVT_los 0 (q.val / 8) (q.val % 8) = 1 ∧ t.portState q = ptDown ∧
      t.cometOk q = false ∧ t.fibre q = (if s.rdB F.OE_POLICY_policy 0 (q.val / 8) then fbProbe else fbLos) ∧
      (t.port q).hand = none ∧ SameMemory s t ∧ SameEngines s t) ∧
  (∀ (q : Fin 32) (s : State), s.fibre q = fbProbe →
    (Completes (.probeTimer q) s fun t => (t.port q).lastProbe = some (s.part (s.partOfPort q)).gtc ∧
      (∃ f, t.out = s.out ++ [.frame q f]) ∧ t.regs = s.regs ∧ SameMemory s t ∧ SameEngines s t) ∧
    ((s.port q).lastProbe = none → exec (.probeLight q) s = exec (.probeTimer q) s) ∧
    (∀ g, (s.port q).lastProbe = some g → (s.part (s.partOfPort q)).gtc ≤ g + (if s.slow then 180000 else 225000) →
      Completes (.probeLight q) s fun t => t.portState q = ptTraining ∧ t.fibre q = fbLocking ∧ (t.port q).lit = true ∧
        SameMemory s t ∧ SameEngines s t))

/-- The moon commands complete with the effects of R309–R314. -/
def Obligations.MoonHandover : Prop :=
  (∀ (q : Fin 32) (m : BitVec 128) (s : State),
    let lane := omLane m
    let frame := omFrame m
    let only (i : Instr) (P : State → Prop) : Prop :=
      Completes i s fun t => P t ∧ t.regs = s.regs ∧ SameMemory s t ∧ SameEngines s t
    (s.manages q = false → (omOp m = 1 → exec (.moonReq q m) s = .next s) ∧ (omOp m = 2 → exec (.moonReady q m) s = .next s) ∧
      (omOp m = 3 → exec (.moonSwitch q m) s = .next s) ∧ (omOp m = 4 → exec (.moonTest q m) s = .next s) ∧
      (omOp m = 5 → exec (.moonTestDone q m) s = .next s) ∧ (omOp m = 6 → exec (.moonReturn q m) s = .next s)) ∧
    (s.manages q = true →
      (omOp m = 1 → lane < 16 → (s.port q).txLane = 0x1F ∨ (s.port q).txLane = lane → only (.moonReq q m) fun t =>
        (t.port q).mirror = some lane ∧ ((t.port q).wave 16).atten = ((s.port q).wave lane).atten ∧
        ((s.ring (ringKey (q.val / 8) (q.val % 8) 0 16)).state = rgLocked → (t.port q).txLane = lane)) ∧
      (∀ h, omOp m = 2 → (s.port q).hand = some h → h.stage = 0 → h.lane = lane → h.back = false →
        only (.moonReady q m) fun t => (t.port q).hand = some { h with stage := 1, frame := frame }) ∧
      (omOp m = 3 → (s.port q).txLane = lane → only (.moonSwitch q m) fun t => (t.port q).txSwitch = some frame) ∧
      (omOp m = 4 → s.moonLane q = 0x1F → (s.port q).hand = none → only (.moonTest q m) fun t => (t.port q).testing = true) ∧
      (omOp m = 5 → (s.port q).moonOut = true → only (.moonTestDone q m) fun t => (t.port q).moonOut = false ∧
        ((s.ring (ringKey (q.val / 8) (q.val % 8) 0 16)).state ≠ rgFailed → (t.port q).txMoon = decide (30 ≤ omMargin m))) ∧
      (omOp m = 6 → frame ≠ 0 → (s.port q).txLane = lane → only (.moonReturn q m) fun t =>
        (t.port q).txLane = 0x1F ∧ (t.port q).mirror = none ∧ (t.port q).txSwitch = none) ∧
      (omOp m = 6 → frame = 0 → s.moonLane q = lane → lane < 16 → (s.port q).hand = none → (s.port q).lowMargin lane = false →
        only (.moonReturn q m) fun t => ∃ h, (t.port q).hand = some h ∧ h.lane = lane ∧ h.back = true ∧ h.stage = 1))) ∧
  (∀ (q : Fin 32) (s : State) (h : Handover), (s.port q).hand = some h →
    (h.stage = 1 → (s.ring (ringKey (q.val / 8) (q.val % 8) 1 (if h.back then h.lane else 16))).state = rgLocked →
      Completes (.moonPassCount q) s fun t => (∃ h', (t.port q).hand = some h' ∧ h'.lane = h.lane ∧ h'.stage = 2 ∧
        (s.port q).rxFrames + 1024 ≤ h'.frame) ∧ t.regs = s.regs ∧ SameMemory s t ∧ SameEngines s t) ∧
    (h.stage = 2 → Completes (.moonSwitchFrame q) s fun t => (t.port q).hand = none ∧
      t.rd F.OE_FIB_EVT_handover 0 (q.val / 8) (q.val % 8) = 1 ∧ h.frame ≤ (t.port q).rxFrames ∧
      t.moonLane q = (if h.back then 0x1F else h.lane % 32) ∧ (h.back = false → t.moonAvail q = false) ∧
      SameMemory s t ∧ SameEngines s t) ∧
    Completes (.moonFail q) s fun t => t.rd F.OE_FIB_EVT_moon_fail 0 (q.val / 8) (q.val % 8) = 1 ∧
      (h.back = true → (t.port q).hand = none) ∧
      (h.back = false → h.retried = false → (t.port q).hand =
        some { lane := h.lane, stage := 0, frame := 0, retried := true, back := false }) ∧
      (h.back = false → h.retried = true → t.moonAvail q = false) ∧ SameMemory s t ∧ SameEngines s t) ∧
  (∀ (q : Fin 32) (m : BitVec 8) (s : State), (s.port q).testing = true → Completes (.moonTestEnd q m) s fun t =>
    (t.port q).testing = false ∧ t.moonAvail q = (decide (30 ≤ sext 8 m.toNat) &&
      (s.ring (ringKey (q.val / 8) (q.val % 8) 1 16)).state != rgFailed) ∧
    (t.port q).mgmt = (s.port q).mgmt ++ [BitVec.ofNat 128 (opticMsg 5 0 m.toNat 0)] ∧ SameMemory s t ∧ SameEngines s t)

/-- The restripe and drop commands complete with the effects of R315–R317. -/
def Obligations.RestripeAndDrop : Prop :=
  ∀ (q : Fin 32) (m : BitVec 128) (s : State), let p := s.partOfPort q
    (omOp m = 7 → s.manages q = true → omLane m < 17 → Completes (.restripe q m) s fun t =>
      (t.port q).txStripe = some (omLane m, omFrame m) ∧ t.regs = s.regs ∧ SameMemory s t ∧ SameEngines s t) ∧
    (∀ w f, (s.port q).rxStripe = some (w, f) →
      (s.moonLane q = 0x1F ∧ w < 16) ∨ (s.moonLane q < 16 ∧ w ≤ 16 ∧ w ≠ s.moonLane q) →
      Completes (.restripeFrame q true) s fun t =>
      t.rd F.OE_FIB_EVT_restripe 0 (q.val / 8) (q.val % 8) = 1 ∧ t.lanes q = 15 ∧ t.fibre q = fbLit15 ∧
      t.moonAvail q = false ∧ w ∉ t.traffic q ∧ (t.traffic q).length = 15 ∧ (t.port q).rxStripe = none ∧ SameMemory s t ∧ SameEngines s t ∧
      (s.scheduledPort q = true → s.running p = true → t.rd F.SCH_EVT_slip p = 1)) ∧
    (∀ w f, (s.port q).txStripe = some (w, f) → (s.port q).txLane = 0x1F → Completes (.restripeFrame q false) s fun t =>
      t.rd F.OE_FIB_EVT_restripe 0 (q.val / 8) (q.val % 8) = 1 ∧ (t.port q).txStripe = none ∧ (t.port q).txLanes = 15 ∧
      (t.port q).txExcl0 = w ∧ (t.port q).txExcl1 = 0x1F ∧ t.fibre q = s.fibre q ∧ SameMemory s t ∧ SameEngines s t) ∧
    (omOp m = 8 → s.manages q = true → s.fibre q ≠ fbDropped → Completes (.drop q m) s fun t =>
      t.fibre q = fbDropped ∧ t.portState q = ptDown ∧ t.rd F.OE_FIB_EVT_drop 0 (q.val / 8) (q.val % 8) = 1 ∧
      t.cometOk q = false ∧ t.lanes q = 0 ∧ (t.port q).hand = none ∧ SameMemory s t ∧ SameEngines s t) ∧
    (omOp m = 8 → s.manages q = true → s.fibre q = fbDropped → exec (.drop q m) s = .next s)

/-- The frame commands complete with the effects of R335–R341. -/
def Obligations.LinkFrames : Prop :=
  (∀ (q : Fin 32) (s : State), s.manages q = false →
    (∀ f w, exec (.frame q f w) s = .next s) ∧ (∀ n, exec (.linkReplayRequest q n) s = .next s) ∧
    (∀ m : BitVec 128, bits m.toNat 0 8 = 0x11 → exec (.creditReturn q m) s = .next s) ∧
    (∀ m : BitVec 128, bits m.toNat 0 8 = 0x12 → exec (.identityFragment q m) s = .next s) ∧
    (∀ m : BitVec 128, bits m.toNat 0 8 = 0x13 → exec (.marginReport q m) s = .next s) ∧
    (∀ m : BitVec 128, bits m.toNat 0 8 = 0x14 → exec (.retrain q m) s = .next s)) ∧
  (∀ (q : Fin 32) (f : Nat) (w : BitVec 1152) (s : State), s.manages q = true →
    (checkFrame w = none → Completes (.frame q f w) s fun t =>
      t.rd F.PORT_ERR_CNT_uncorrectable 0 q =
        (s.rd F.PORT_ERR_CNT_uncorrectable 0 q + 1) % 2 ^ F.PORT_ERR_CNT_uncorrectable.width ∧
      (t.port q).badRun = (s.port q).badRun + 1 ∧ (t.port q).lexp = (s.port q).lexp ∧
      (t.port q).elastic = (s.port q).elastic ∧ SameMemory s t ∧ SameEngines s t ∧
      (if s.running (s.partOfPort q) = true ∧ (s.slotOf q f true).isSome then
          (t.port q).awaitReplay = (s.port q).awaitReplay ∧ t.out = s.out
        else (t.port q).awaitReplay = true ∧ t.out = s.out ++ [.linkReplay q (s.port q).lexp])) ∧
    (∀ w' fixed, checkFrame w = some (w', fixed) → frameF w' 0 2 = 0 → s.portState q = ptUp →
      (s.port q).elastic.length < 256 → Completes (.frame q f w) s fun t =>
        (t.port q).elastic = (s.port q).elastic ++ [(f, w')] ∧ (t.port q).badRun = 0 ∧
        (t.port q).rxFrames = (s.port q).rxFrames + 1 ∧ t.out = s.out ∧ SameMemory s t ∧ SameEngines s t) ∧
    (∀ w' fixed, checkFrame w = some (w', fixed) → frameF w' 0 2 = 1 ∨ frameF w' 0 2 = 2 →
      s.portState q = ptUp ∨ s.portState q = ptUnplaced →
      (frameF w' 8 12 ≠ (s.port q).lexp → Completes (.frame q f w) s fun t => (t.port q).awaitReplay = true ∧
        (t.port q).lexp = (s.port q).lexp ∧ t.out = s.out ++ [.linkReplay q (s.port q).lexp] ∧ SameMemory s t) ∧
      (frameF w' 8 12 = (s.port q).lexp → Completes (.frame q f w) s fun t => (t.port q).lexp = ((s.port q).lexp + 1) % 4096 ∧
        (t.port q).awaitReplay = false ∧ (t.port q).lackVld = true ∧ (t.port q).badRun = 0 ∧ SameMemory s t ∧
        SameEngines s t))) ∧
  (∀ (q : Fin 32) (s : State), s.manages q = true →
    (∀ n : BitVec 12, Completes (.linkReplayRequest q n) s fun t =>
      (t.port q).resend = (s.port q).retry.dropWhile (fun x => x.1 != n.toNat) ∧ (t.port q).retry = (s.port q).retry ∧
      t.regs = s.regs ∧ SameMemory s t ∧ SameEngines s t) ∧
    (∀ m : BitVec 128, bits m.toNat 0 8 = 0x11 → Completes (.creditReturn q m) s fun t =>
      (∀ c, c < 4 → tabGet natDefault (t.port q).outCls c =
        tabGet natDefault (s.port q).outCls c - bits m.toNat (8 + 12 * c) 12) ∧ t.regs = s.regs ∧ SameMemory s t) ∧
    (∀ m : BitVec 128, bits m.toNat 0 8 = 0x12 → bits m.toNat 8 8 < 5 → (s.port q).frags = [] →
      Completes (.identityFragment q m) s fun t =>
        tabGet (fun _ => ([] : List Byte)) (t.port q).frags (bits m.toNat 8 8) = toLE 14 (m.toNat / 2 ^ 16) ∧
        (t.port q).pir = (s.port q).pir ∧ t.regs = s.regs ∧ SameMemory s t) ∧
    (∀ m : BitVec 128, bits m.toNat 0 8 = 0x13 → Completes (.marginReport q m) s fun t =>
      (∀ i, i < 14 → bits m.toNat 8 8 + i < 18 →
        ((t.port q).wave (bits m.toNat 8 8 + i)).far = sext 8 (bits m.toNat (16 + 8 * i) 8)) ∧ t.regs = s.regs ∧ SameMemory s t) ∧
    (∀ m : BitVec 128, bits m.toNat 0 8 = 0x14 →
      s.portState q = ptUp ∨ s.portState q = ptUnplaced ∨ s.portState q = ptMiswired → Completes (.retrain q m) s fun t =>
        t.portState q = ptTraining ∧ t.rd F.PORT_EVT_retrain 0 q = 1 ∧ (t.port q).retry = (s.port q).retry ∧
        SameMemory s t ∧ SameEngines s t)) ∧
  (∀ (q : Fin 32) (f : Nat) (s : State), s.manages q = true → s.running (s.partOfPort q) = false →
    let t := s.port q
    (f % 32 = 31 → Completes (.freeFrameLaunch q f) s fun u => (u.port q).mgmt = t.mgmt.drop 7 ∧
      (∀ c, c < 4 → tabGet natDefault (u.port q).owed c = tabGet natDefault t.owed c - min (tabGet natDefault t.owed c) 4095) ∧
      u.out = s.out ++ [.frame q (t.mgmtFrame (BitVec.ofNat 128 t.creditMessage :: t.mgmt.take 7))] ∧ SameMemory s u) ∧
    (f % 32 ≠ 31 → s.portState q = ptUp ∨ s.portState q = ptUnplaced →
      (∀ x rest, t.resend = x :: rest → Completes (.freeFrameLaunch q f) s fun u => (u.port q).resend = rest ∧
        (u.port q).retry = t.retry ∧ (∃ w, u.out = s.out ++ [.frame q w]) ∧ u.regs = s.regs ∧ SameMemory s u) ∧
      (∀ x rest, t.resend = [] → t.freeq = x :: rest → t.credit (frameClass x.bits) = true → t.retry.length < 2048 →
        Completes (.freeFrameLaunch q f) s fun u => (u.port q).freeq = rest ∧
          (u.port q).lseq = (t.lseq + 1) % 4096 ∧ (∃ w, (u.port q).retry = t.retry ++ [(t.lseq, w)] ∧ u.out = s.out ++ [.frame q w]) ∧
          tabGet natDefault (u.port q).outCls (frameClass x.bits) = tabGet natDefault t.outCls (frameClass x.bits) + 1 ∧
          u.regs = s.regs ∧ SameMemory s u) ∧
      (t.resend = [] → t.freeq = [] → Completes (.freeFrameLaunch q f) s fun u => u.out = s.out ++ [.frame q (t.mgmtFrame [])] ∧
        (u.port q).retry = t.retry ∧ u.regs = s.regs ∧ SameMemory s u)))

/-- The link state commands complete with the effects of R329–R332, R353 and R354. -/
def Obligations.LinkStates : Prop :=
  ∀ (q : Fin 32) (s : State), let p := s.partOfPort q
    (∀ moon : BitVec 8, s.portState q = ptTraining → s.rdB F.PORT_STS_phase_ident 0 q = false → s.ringsReady q = true →
      (s.part p).linksHeld = false → s.badWaves q = [] →
      let stays : Prop := s.lanes q = 15 ∧ (s.port q).restore = false
      Completes (.alignDone q moon) s fun t => t.portState q = ptTraining ∧ t.rd F.PORT_STS_phase_ident 0 q = 1 ∧
        (stays → t.lanes q = 15 ∧ t.fibre q = fbLit15) ∧ (¬ stays → t.lanes q = 16 ∧ t.fibre q = fbLit) ∧ (t.port q).pir = [] ∧ (t.port q).resend = (s.port q).retry ∧
        (t.port q).lit = true ∧ SameMemory s t ∧ SameEngines s t) ∧
    (s.portState q = ptTraining → s.rdB F.PORT_STS_phase_ident 0 q = true → pirGood (s.port q).pir = true →
      let own := s.rd F.NET_STS_lpl p
      let far := pirLpl (s.port q).pir
      (own + 2 ≤ far ∨ far + 2 ≤ own → Completes (.ident q) s fun t => t.portState q = ptIncompatible ∧
        t.rd F.PORT_EVT_incompatible 0 q = 1 ∧ t.rd F.NET_EVT_incompatible p = 1 ∧ SameMemory s t ∧ SameEngines s t) ∧
      (far < own + 2 → own < far + 2 →
        ((s.part p).placement = none → Completes (.ident q) s fun t => t.portState q = ptUnplaced ∧ SameMemory s t ∧ SameEngines s t) ∧
        ((s.part p).placement ≠ none → s.dirOf q ≠ 0 → s.pirMatches p (s.logicalOf q) (s.port q).pir = true →
          Completes (.ident q) s fun t => t.portState q = ptUp ∧ (t.fibre q = fbLit ∨ t.fibre q = fbLit15) ∧
            SameMemory s t ∧ SameEngines s t) ∧
        ((s.part p).placement ≠ none → s.dirOf q ≠ 0 → s.pirMatches p (s.logicalOf q) (s.port q).pir = false →
          s.rdB F.NET_CTL_aswired p = false → Completes (.ident q) s fun t => t.portState q = ptMiswired ∧
            t.rd F.PORT_EVT_miswired 0 q = 1 ∧ t.rd F.NET_EVT_miswire p = 1 ∧ SameMemory s t ∧ SameEngines s t))) ∧
    (s.manages q = true → exec (.pirResend q) s = .next (s.sendPir q)) ∧
    (s.portState q = ptTraining → s.rdB F.PORT_STS_phase_ident 0 q = true → pirGood (s.port q).pir = false →
      Completes (.pirTimeout q) s fun t => t.portState q = ptDown ∧ t.rd F.PORT_EVT_down 0 q = 1 ∧ SameMemory s t ∧
        SameEngines s t) ∧
    (32 ≤ (s.port q).badAt.length → s.portState q = ptUp ∨ s.portState q = ptUnplaced ∨ s.portState q = ptMiswired →
      Completes (.frameErrorLimit q) s fun t => t.portState q = ptTraining ∧ t.rd F.PORT_EVT_err_limit 0 q = 1 ∧
        t.rd F.PORT_EVT_retrain 0 q = 1 ∧ (t.port q).badAt = [] ∧ SameMemory s t ∧ SameEngines s t) ∧
    (1024 ≤ (s.port q).badRun → s.portState q ≠ ptDark → s.portState q ≠ ptDown → Completes (.portDown q) s fun t =>
      t.portState q = ptDown ∧ t.rd F.PORT_EVT_down 0 q = 1 ∧
      t.rd F.PORT_EVT_CNT_down_cnt 0 q = (s.rd F.PORT_EVT_CNT_down_cnt 0 q + 1) % 2 ^ 16 ∧ SameMemory s t ∧ SameEngines s t) ∧
    (s.portState q = ptDown → (s.port q).lit = true → s.fibre q ≠ fbDropped → Completes (.downRelight q) s fun t =>
      t.portState q = ptTraining ∧ t.fibre q = fbLocking ∧ (t.port q).rxFrames = 0 ∧ SameMemory s t ∧ SameEngines s t)

/-- The request packets complete with the effects of R356–R360. -/
def Obligations.PacketRequests : Prop :=
  ∀ (p : Fin 2) (dst : BitVec 24) (h : BitVec 512) (data : List (BitVec 512 × BitVec 16)) (s : State) (op : Nat) (i : Instr),
    (op = 2 ∧ i = .store p dst h data) ∨ (op = 3 ∧ data = [] ∧ i = .atomic p dst h) ∨
      (op = 4 ∧ data = [] ∧ i = .semsigPacket p dst h) ∨ (op = 1 ∧ data = [] ∧ i = .load p dst h) →
    let k := packetOf h data
    let src := k.srcEid / 1024
    let inn := s.e2eIn p src
    k.op = op → s.portsOf p ≠ [] → dst.toNat / 1024 = s.ownPix p →
    (k.dstSession ≠ 0 → k.dstSession ≠ (s.part p).session → exec i s = .next (s.nak p 255 k 1)) ∧
    (k.dstSession = 0 ∨ k.dstSession = (s.part p).session →
      ((inn.session ≠ k.srcSession ∧ k.flags.testBit 0 = false) ∨ s.stalePacket p k = true → exec i s = .next s) ∧
      (inn.session = k.srcSession → s.stalePacket p k = false →
        (op ≠ 1 → op ≠ 3 → k.seq ≤ inn.performed → exec i s = .next (s.sendAck p src)) ∧
        (op ≠ 1 → op ≠ 3 → inn.performed + 256 < k.seq → exec i s = .next s) ∧
        (op ≠ 1 → op ≠ 3 → inn.performed + 1 < k.seq → k.seq ≤ inn.performed + 256 → inn.window = [] →
          Completes i s fun t => (t.e2eIn p src).window = [k] ∧ (t.e2eIn p src).performed = inn.performed ∧
            t.out = s.out ∧ SameMemory s t ∧ SameEngines s t) ∧
        (op = 2 → k.seq = inn.performed + 1 → inn.window = [] → k.bytes = 0 → k.local % 64 = 0 → data ≠ [] →
          (∀ j, j < data.length → s.home p (k.local + 64 * j) = .sram (k.local + 64 * j)) → Completes i s fun t =>
            StoresBytes s t k.local (data.flatMap fun g => toLE 64 g.1.toNat) ∧
            (t.e2eIn p src).performed = k.seq ∧ (t.e2eIn p src).window = [] ∧ SameEngines s t) ∧
        (op = 2 → k.seq = inn.performed + 1 → inn.window = [] → 0 < k.bytes → k.local % k.bytes = 0 →
          k.local % 64 + k.bytes ≤ 64 → s.home p k.local = .sram k.local →
          (s.sramRead (k.local / 64 * 64)).2.ok = true → Completes i s fun t =>
            StoresBytes s t k.local (granBytes (data.headD (0, 0)).1 0 k.bytes) ∧
            (t.e2eIn p src).performed = k.seq ∧ SameEngines s t) ∧
        (op = 4 → k.seq = inn.performed + 1 → inn.window = [] → k.addr % 1024 < 64 → s.partOfCore (k.addr % 1024) = p →
          Completes i s fun t => (t.core (k.addr % 1024)).arriving =
              (s.core (k.addr % 1024)).arriving ++ [(bits k.opv 0 6, bits k.opv 6 16)] ∧
            (t.e2eIn p src).performed = k.seq ∧ SameMemory s t ∧ t.regs = s.regs) ∧
        (op = 3 → k.flags.testBit 2 = false → k.seq = inn.performed + 1 → inn.window = [] →
          Completes i s fun t => (t.e2eIn p src).performed = k.seq ∧ SameEngines s t) ∧
        (op = 1 → k.bytes = 0 → k.granules = 1 → k.local % 64 = 0 → s.home p k.local = .sram k.local →
          let r := s.sramRead k.local
          Completes i s fun t => (∃ rsp : Packet, .packet p src rsp ∈ t.out ∧ rsp.op = 5 ∧ rsp.tag = k.tag ∧
            rsp.data = [(r.2.data, r.2.check)]) ∧ SameMemory s t ∧ SameEngines s t)))

/-- The answer packets complete with the effects of R357, R361 and R362. -/
def Obligations.PacketAnswers : Prop :=
  (∀ (p : Fin 2) (dst : BitVec 24) (h : BitVec 512) (data : List (BitVec 512 × BitVec 16)) (s : State),
    let k := packetOf h data
    let e := packetOf h []
    let src := k.srcEid / 1024
    let ours := s.portsOf p ≠ [] ∧ dst.toNat / 1024 = s.ownPix p
    ours →
    (k.dstSession ≠ (s.part p).session → (k.op = 5 → exec (.loadRsp p dst h data) s = .next s) ∧
      (e.op = 6 → exec (.atomicRsp p dst h) s = .next s) ∧ (e.op = 7 → exec (.ack p dst h) s = .next s) ∧
      (e.op = 8 → exec (.nak p dst h) s = .next s)) ∧
    (k.dstSession = (s.part p).session →
      (∀ a x l t th c, k.op = 5 → s.waiting p k.tag 1 = some a → a.who = .thread x l t → s.thread? x l t = some th →
        th.access = some c → s.contained (s.partOfTile (x / 2)) = false → (∃ g rest, data = g :: rest ∧ g.2 = granCheck g.1) →
        Completes (.loadRsp p dst h data) s fun u =>
          (let v := bits ((data.headD (0, 0)).1.toNat) 0 (8 * max a.packet.bytes 8)
           u.thread? x l t = some { th with access := some { c with answer := some (.value v) } }) ∧
          (u.part p).awaits.length + 1 = (s.part p).awaits.length ∧ SameMemory s u ∧ u.regs = s.regs) ∧
      (∀ a x l t th c, e.op = 6 → s.waiting p e.tag 3 = some a → a.who = .thread x l t → s.thread? x l t = some th →
        th.access = some c → s.contained (s.partOfTile (x / 2)) = false → Completes (.atomicRsp p dst h) s fun u =>
          u.thread? x l t = some { th with access := some { c with answer := some (.value e.opv) } } ∧
          (u.part p).awaits.length + 1 = (s.part p).awaits.length ∧ SameMemory s u ∧ u.regs = s.regs) ∧
      (e.op = 7 → Completes (.ack p dst h) s fun t =>
        (t.e2eOut p src).acked = max (s.e2eOut p src).acked (min e.seq (s.e2eOut p src).issued) ∧
        (t.e2eOut p src).issued = (s.e2eOut p src).issued ∧
        (t.e2eOut p src).unacked = (s.e2eOut p src).unacked.filter (fun x => decide (min e.seq (s.e2eOut p src).issued < x.seq)) ∧
        (t.e2eOut p src).session = e.srcSession ∧ SameMemory s t ∧ t.regs = s.regs ∧ t.cores = s.cores) ∧
      (e.op = 8 → e.aux % 256 = 1 → Completes (.nak p dst h) s fun t => (t.e2eOut p src).unacked = [] ∧
        (t.e2eOut p src).lost = (s.e2eOut p src).lost ++ (s.e2eOut p src).unacked ∧ (t.e2eOut p src).sync = true ∧
        (t.e2eOut p src).session = e.opv % 2 ^ 32 ∧ t.rd F.NET_EVT_stale p = 1 ∧ SameMemory s t) ∧
      (∀ a x l t th c, e.op = 8 → e.aux % 256 ≠ 1 → e.aux % 256 ≠ 4 →
        (s.part p).awaits.find? (fun a => a.tag == e.tag && a.packet.seq == e.seq && decide (a.pix < 1024)) = some a →
        a.who = .thread x l t → s.thread? x l t = some th → th.access = some c → s.contained (s.partOfTile (x / 2)) = false →
        Completes (.nak p dst h) s fun u =>
          u.thread? x l t = some { th with access := some { c with answer := some (.failed .addrRange) } } ∧
          SameMemory s u ∧ u.regs = s.regs))) ∧
  (∀ (p : Fin 2) (pix : Nat) (s : State), (s.e2eIn p pix).ackSent < (s.e2eIn p pix).performed →
    Completes (.ackSend p pix) s fun t => (t.e2eIn p pix).ackSent = (s.e2eIn p pix).performed ∧
      (t.e2eIn p pix).performed = (s.e2eIn p pix).performed ∧
      (∃ k : Packet, .packet p pix k ∈ t.out ∧ k.op = 7 ∧ k.seq = (s.e2eIn p pix).performed) ∧ SameMemory s t ∧ SameEngines s t) ∧
  (∀ (p : Fin 2) (pix : Nat) (s : State), pix < 1024 → (s.e2eOut p pix).unacked ≠ [] →
    Completes (.e2eRetransmit p pix) s fun t => t.rd F.NET_EVT_retx p = 1 ∧
      t.rd F.NET_EVT_CNT1_retx_cnt p = (s.rd F.NET_EVT_CNT1_retx_cnt p + 1) % 2 ^ 16 ∧
      (∀ k ∈ (s.e2eOut p pix).unacked, ∃ r : Packet, .packet p pix r ∈ t.out ∧ r.seq = k.seq ∧ r.addr = k.addr ∧
        r.data = k.data ∧ r.flags.testBit 1 = true) ∧ (t.e2eOut p pix).unacked = (s.e2eOut p pix).unacked ∧ SameMemory s t ∧
      SameEngines s t)

/-- The multicast packets complete with the effects of R349–R352. -/
def Obligations.Multicasts : Prop :=
  ∀ (p : Fin 2) (dst : BitVec 24) (h : BitVec 512) (data : List (BitVec 512 × BitVec 16)) (s : State),
    let k := packetOf h data
    let e := packetOf h []
    let src := k.srcEid / 1024
    s.portsOf p ≠ [] → dst.toNat / 1024 = s.ownPix p →
    (k.op = 9 → (s.e2eIn p src).mcTags.contains k.tag = false → k.local % 64 = 0 → data ≠ [] →
      (∀ j, j < data.length → s.home p (k.local + 64 * j) = .sram (k.local + 64 * j)) →
      Completes (.mcAxis p dst h data) s fun t => StoresBytes s t k.local (data.flatMap fun g => toLE 64 g.1.toNat) ∧
        (t.e2eIn p src).mcTags.contains k.tag = true ∧ SameEngines s t ∧
        (∃ r : Packet, .packet p src r ∈ t.out ∧ r.op = 0x0B ∧ r.tag = k.tag) ∧
        (∀ nbr, 1 < bits k.opc 4 10 → s.neighbour p (bits k.opc 0 4) = some nbr →
          .packet p nbr { k with opc := bits k.opc 0 4 + (bits k.opc 4 10 - 1) * 2 ^ 4 } ∈ t.out)) ∧
    (k.op = 9 → (s.e2eIn p src).mcTags.contains k.tag = true → Completes (.mcAxis p dst h data) s fun t =>
      SameMemory s t ∧ SameEngines s t ∧ ∃ r : Packet, .packet p src r ∈ t.out ∧ r.op = 0x0B ∧ r.tag = k.tag) ∧
    (k.op = 0x0A → (s.part p).state = .armed ∨ (s.part p).state = .running → Completes (.mcMask p dst h data) s fun t =>
      t.rd F.NET_EVT_mcast_discard p = 1 ∧ t.out = s.out ∧ SameMemory s t ∧ SameEngines s t) ∧
    (∀ pl own d, k.op = 0x0A → (s.part p).state = .idle ∨ (s.part p).state = .loaded → (s.part p).placement = some pl →
      pl.self = some own → pl.member (bits k.opc 0 14) = some own → maskDims pl.topology = some d →
      (∀ a, a < 3 → own.coord a < pl.dim a) → k.aux = 1 → (s.e2eIn p src).mcTags.contains k.tag = false →
      k.local % 64 = 0 → data ≠ [] → (∀ j, j < data.length → s.home p (k.local + 64 * j) = .sram (k.local + 64 * j)) →
      Completes (.mcMask p dst h data) s fun t => StoresBytes s t k.local (data.flatMap fun g => toLE 64 g.1.toNat) ∧
        SameEngines s t ∧ ∃ r : Packet, .packet p src r ∈ t.out ∧ r.op = 0x0B ∧ r.tag = k.tag) ∧
    (k.op = 0x0A → (s.part p).state = .idle ∨ (s.part p).state = .loaded → k.aux = 0 → Completes (.mcMask p dst h data) s fun t =>
      SameMemory s t ∧ SameEngines s t) ∧
    (∀ m left, e.op = 0x0B → (s.part p).mcOut = [(m, left)] → m.tag = e.tag → Completes (.mcAck p dst h) s fun t =>
      (t.part p).mcOut = (if left.filter (· != src) = [] then [] else [(m, left.filter (· != src))]) ∧
      t.regs = s.regs ∧ SameMemory s t ∧ SameEngines s t)

/-- The incoming RDMA operations complete with the effects of R365 and R403. -/
def Obligations.RemoteMemoryAccess : Prop :=
  ∀ (p : Fin 2) (qp : BitVec 24) (rkey : BitVec 32) (va : BitVec 64) (s : State),
    let a := vaLocal va
    let told (e : Emit) (t : State) : Prop := t.out = s.out ++ [e]
    (∀ i, s.peer p qp = .far i →
      (∀ data, s.vaMemory p va data.length = false →
        exec (.rdmaWrite p qp rkey va data) s = .next (s.emit (.roceNak p qp.toNat 2))) ∧
      (∀ data, data.length = 64 → a % 64 = 0 → s.vaMemory p va 64 = true → s.home p a = .sram a →
        Completes (.rdmaWrite p qp rkey va data) s fun t => StoresBytes s t a data ∧
          told (.roceAck p qp.toNat) t ∧ SameEngines s t) ∧
      (s.vaMemory p va 64 = true → a % 64 = 0 → s.home p a = .sram a →
        let d := (s.sramRead a).2
        d.check = granCheck d.data → Completes (.rdmaRead p qp rkey va 64) s fun t =>
          told (.roceData p qp.toNat (toLE 64 d.data.toNat)) t ∧ SameMemory s t ∧ SameEngines s t) ∧
      (∀ n, s.vaMemory p va n = false → exec (.rdmaRead p qp rkey va n) s = .next (s.emit (.roceNak p qp.toNat 2))) ∧
      (va.toNat % 8 = 0 → s.vaMemory p va 8 = true → s.home p a = .sram a → s.home p (a / 64 * 64) = .sram (a / 64 * 64) →
        (s.sramRead (a / 64 * 64)).2.ok = true →
        let old := bits (s.sramRead (a / 64 * 64)).2.data.toNat (8 * (a % 64)) 64
        (∀ v : BitVec 64, Completes (.fetchAdd p qp va v) s fun t =>
          StoresBytes s t a (toLE 8 ((old + v.toNat) % 2 ^ 64)) ∧ told (.roceAtomic p qp.toNat old) t ∧ SameEngines s t) ∧
        (∀ c v : BitVec 64, Completes (.cmpSwap p qp va c v) s fun t =>
          StoresBytes s t a (toLE 8 (if old = c.toNat then v.toNat else old)) ∧ told (.roceAtomic p qp.toNat old) t ∧
          SameEngines s t)) ∧
      (va.toNat % 8 ≠ 0 → ∀ c v : BitVec 64,
        exec (.fetchAdd p qp va v) s = .next (s.emit (.roceNak p qp.toNat 1)) ∧
        exec (.cmpSwap p qp va c v) s = .next (s.emit (.roceNak p qp.toNat 1))) ∧
      (∀ h : BitVec 512, let k := packetOf h []
        k.op = 4 → k.addr % 1024 < 64 → s.partOfCore (k.addr % 1024) = p → Completes (.roceSend p qp h) s fun t =>
          (t.core (k.addr % 1024)).arriving =
            (s.core (k.addr % 1024)).arriving ++ [(bits k.opv 0 6, bits k.opv 6 16)] ∧
          (∃ r : Packet, told (.roceSend p qp.toNat r) t ∧ r.op = 7 ∧ r.tag = k.tag) ∧ t.regs = s.regs ∧ SameMemory s t)) ∧
    (∀ c, s.peer p qp = .host c →
      (∀ e v : BitVec 64, exec (.fetchAdd p qp va v) s = .next (s.emit (.roceNak p qp.toNat 1)) ∧
        exec (.cmpSwap p qp va e v) s = .next (s.emit (.roceNak p qp.toNat 1))) ∧
      (rkey.toNat ≠ (s.conn p c).regKey → rkey.toNat ≠ (s.conn p c).dbKey →
        (∀ data, exec (.rdmaWrite p qp rkey va data) s = .next (s.emit (.roceNak p qp.toNat 2))) ∧
        ∀ n, exec (.rdmaRead p qp rkey va n) s = .next (s.emit (.roceNak p qp.toNat 2))))

/-- The queue-pair and service port events complete with the effects of R364–R366, R412 and R452. -/
def Obligations.QueuePairEvents : Prop :=
  (∀ (p : Fin 2) (qp : BitVec 24) (seq : Nat) (s : State), let key := (s.peer p qp).key
    s.peer p qp ≠ .none → Completes (.roceAck p qp seq) s fun t =>
      (t.e2eOut p key).acked = max (s.e2eOut p key).acked (min seq (s.e2eOut p key).issued) ∧
      (t.e2eOut p key).issued = (s.e2eOut p key).issued ∧ t.cores = s.cores ∧ t.regs = s.regs ∧ SameMemory s t) ∧
  (∀ (p : Fin 2) (qp : BitVec 24) (data : List (BitVec 8)) (old : BitVec 64) (s : State) (i : Nat) (a : Await)
      (x l t : Nat) (th : Thread) (c : Narrow),
    s.peer p qp = .far i → a.who = .thread x l t → s.thread? x l t = some th → th.access = some c →
    s.contained (s.partOfTile (x / 2)) = false → (s.part p).awaits = [a] →
    (a.pix = 1024 + i → a.packet.op = 1 → data.length = 64 → a.packet.bytes = 8 →
      Completes (.rdmaReadResponse p qp data) s fun u => (u.part p).awaits = [] ∧ SameMemory s u ∧ u.regs = s.regs ∧
        u.thread? x l t = some { th with access := some { c with answer := some (.value (leAt data 0 8)) } }) ∧
    (a.pix = 1024 + i → a.packet.op = 3 → Completes (.atomicAcknowledge p qp old) s fun u =>
      (u.part p).awaits = [] ∧ SameMemory s u ∧ u.regs = s.regs ∧
      u.thread? x l t = some { th with access := some { c with answer := some (.value old.toNat) } })) ∧
  (∀ (p : Fin 2) (i : Fin 4096) (s : State), (s.farEntry p i).testBit 156 = true →
    Completes (.qpRetryExhaustion p i) s (fun t => (t.e2eOut p (1024 + i)).unacked = [] ∧
      (t.e2eOut p (1024 + i)).lost = (s.e2eOut p (1024 + i)).lost ++ (s.e2eOut p (1024 + i)).unacked ∧ (t.part p).raised ≠ []) ∧
    Completes (.congestionNotificationPacket p i) s (fun t =>
      let rate : Nat → Nat := fun _ => 2 ^ 32
      tabGet rate (t.part p).rates i ≤ tabGet rate (s.part p).rates i ∧
      (∀ j, j ≠ i.val → tabGet rate (t.part p).rates j = tabGet rate (s.part p).rates j) ∧ t.regs = s.regs ∧
      SameMemory s t ∧ SameEngines s t)) ∧
  (∀ (o lane : Fin 4) (s : State), s.spLit o = true → s.spLane o lane = true → Completes (.pcsLockGained o lane) s fun t =>
    (t.rd F.OE_SP_STS_pcs_lock 0 o).testBit lane = true ∧ SameMemory s t ∧ SameEngines s t) ∧
  (∀ (o lane : Fin 4) (s : State), (s.rd F.OE_SP_STS_pcs_lock 0 o).testBit lane = true →
    let left := s.rd F.OE_SP_STS_pcs_lock 0 o - 2 ^ lane.val
    let u := s.wr F.OE_SP_STS_pcs_lock left 0 o
    u.rd F.OE_SP_STS_pcs_lock 0 o = left ∧
    (left ≠ 0 → exec (.pcsLockLoss o lane) s = .next u ∧ SameMemory s u ∧ SameEngines s u) ∧
    (left = 0 → exec (.pcsLockLoss o lane) s = .next (u.portConnsFail o))) ∧
  (∀ (o : Fin 4) (prio : Fin 8) (pause : Bool) (s : State),
    (prio.val = s.spPriority o → Completes (.pfcPause o prio pause) s fun t =>
      (tabGet natDefault t.pfc o = if pause then 1 else 0) ∧
      (∀ j, j ≠ o.val → tabGet natDefault t.pfc j = tabGet natDefault s.pfc j) ∧ t.regs = s.regs ∧ SameMemory s t) ∧
    (prio.val ≠ s.spPriority o → exec (.pfcPause o prio pause) s = .next s)) ∧
  (∀ (o : Fin 4) (router : BitVec 128) (life : BitVec 16) (s : State), Completes (.routerAdvertisement o router life) s fun t =>
    tabGet routerDefault t.routers o = (if life.toNat = 0 then 0 else router) ∧
    (∀ j, j ≠ o.val → tabGet routerDefault t.routers j = tabGet routerDefault s.routers j) ∧ t.regs = s.regs ∧
    SameMemory s t ∧ SameEngines s t)

/-- Posting and firing complete with the effects of R381, R383 and R396. -/
def Obligations.CollectivePosts : Prop :=
  (∀ (e : Fin 4) (s : State),
    let p := s.partOfOe e
    let base := s.postBase p e
    let ring := base + 16384
    let x := s.coll e
    let w := s.sramBytes ring 16
    let d := w.1.sramBytes (base + 64 * (x.consumed % 256)) 64
    let desc := BitVec.ofNat 512 (ofLE d.2.1)
    let u := ((d.1.updColl e fun x => { x with consumed := x.consumed + 1 }).putBytes p (ring + 8) 2
      (toLE 8 (x.consumed + 1))).wr F.COL_STS_consumed (x.consumed + 1) 0 e
    let ahead := (leAt w.2.1 0 4 + 2 ^ 32 - x.consumed % 2 ^ 32) % 2 ^ 32
    base ≠ 0 → s.collClosed p = false → 0 < ahead → ahead < 2 ^ 31 → x.waiting.length + x.ops.length < 256 →
    d.2.2 = true → u.wordOk p (cdTrig desc) = true →
      (u.coll e).consumed = x.consumed + 1 ∧ u.rd F.COL_STS_consumed 0 e = (x.consumed + 1) % 2 ^ 22 ∧
      (base % 64 = 0 → s.home p ring = .sram ring → s.home p (ring + 8) = .sram (ring + 8) → (s.sramRead ring).2.ok = true →
        StoresBytes s u (ring + 8) (toLE 8 (x.consumed + 1))) ∧
      (u.collReady p desc = true → exec (.collectivePostTake e) s = .next (u.collFire p e desc true)) ∧
      (u.collReady p desc = false → Completes (.collectivePostTake e) s fun t =>
        t = u.updColl e (fun c => { c with waiting := c.waiting ++ [desc] }) ∧ (t.coll e).waiting = x.waiting ++ [desc])) ∧
  (∀ (e : Fin 4) (i : Nat) (d : BitVec 512) (s : State), let p := s.partOfOe e
    s.collClosed p = false →
    (∀ img, (s.part p).image = some img → (schedEnts img.groups)[i]? = some d → s.collEngine p (cdGid d) = e.val →
      s.running p = true → s.schedStopped p = false → exec (.triggerFire e true i) s = .next (s.collFire p e d false)) ∧
    ((s.coll e).waiting[i]? = some d → s.collReady p d = true →
      let u := s.updColl e fun x => { x with waiting := removeAt x.waiting i }
      exec (.triggerFire e false i) s = .next (u.collFire p e d true) ∧
      (∀ c, s.collCtx p (cdGid d) = some c → c.e = e.val → (s.collGroup e (cdGid d)).state ≠ 1 →
        let g := s.collGroup e (cdGid d)
        Completes (.triggerFire e false i) s fun t =>
          t.collGroup e (cdGid d) = { g with fired := g.fired + 1, state := 2, cause := 8, aborted := g.fired + 1 } ∧
          t.rd F.COL_ABORT_gid 0 e = cdGid d ∧ t.rd F.COL_ABORT_cause 0 e = 8 ∧
          t.rd F.COL_ABORT_seq 0 e = (g.fired + 1) % 2 ^ 32 ∧ t.rd F.COL_EVT_abort 0 e = 1)))

/-- The collective traffic events complete with the effects of R384–R389, R396 and R397. -/
def Obligations.CollectiveTraffic : Prop :=
  (∀ (p : Fin 2) (h : BitVec 512) (data : List (BitVec 512 × BitVec 16)) (s : State),
    let m := collMsgOf (bits h.toNat 42 14) h data
    let kind := bits h.toNat 0 16
    (s.collCtx p m.gid = none → (kind = 0x0C → exec (.collData p h data) s = .next s) ∧
      (kind = 0x10C → exec (.collCredit p h) s = .next s) ∧ (kind = 0x20C → exec (.collAbort p h) s = .next s)) ∧
    (∀ c, s.collCtx p m.gid = some c →
      let broken (t : State) (cause seq : Nat) : Prop := (t.collGroup c.e m.gid).state = 2 ∧
        (t.collGroup c.e m.gid).cause = cause ∧ (t.collGroup c.e m.gid).aborted = seq ∧ t.opOf c.e m.gid seq = none ∧
        t.rd F.COL_ABORT_cause 0 c.e = cause ∧ t.rd F.COL_EVT_abort 0 c.e = 1
      (kind = 0x0C → s.opOf c.e m.gid m.seq = none → (s.collGroup c.e m.gid).state = 1 →
        (s.collGroup c.e m.gid).fired < m.seq → Completes (.collData p h data) s fun t =>
          (t.coll c.e).early = (s.coll c.e).early ++ [m] ∧ (t.coll c.e).ops = (s.coll c.e).ops ∧ t.regs = s.regs ∧
          SameMemory s t ∧ SameEngines s t) ∧
      (∀ o, s.opOf c.e m.gid m.seq = some o → cdGid o.desc = m.gid → o.seq = m.seq →
        (kind = 0x0C → m.tag ≠ cdTag o.desc → Completes (.collData p h data) s fun t =>
          broken t 3 m.seq ∧ t.rd F.COL_EVT_mismatch 0 c.e = 1) ∧
        (kind = 0x0C → m.tag = cdTag o.desc → (∃ x ∈ data, x.2 ≠ granCheck x.1) →
          Completes (.collData p h data) s fun t => broken t 4 m.seq) ∧
        (kind = 0x0C → m.tag = cdTag o.desc → (∀ x ∈ data, x.2 = granCheck x.1) →
          exec (.collData p h data) s = .next (s.collDeliver c o m)) ∧
        (kind = 0x10C → o.outq = [] → let n := bits h.toNat 176 16
          Completes (.collCredit p h) s fun t => t.opOf c.e m.gid m.seq = some { o with
              spent := tabUpd collOpDefault o.spent m.phase (· - n)
              accepted := tabUpd collOpDefault o.accepted m.phase (· + n) } ∧
            t.regs = s.regs ∧ SameMemory s t ∧ SameEngines s t) ∧
        (kind = 0x20C → Completes (.collAbort p h) s fun t => broken t 6 m.seq)) ∧
      (kind = 0x20C → s.opOf c.e m.gid m.seq = none → m.seq ≤ (s.collGroup c.e m.gid).fired →
        exec (.collAbort p h) s = .next s))) ∧
  (∀ (e : Fin 4) (k : Nat) (o : CollOp) (c : CollCtx) (s : State), let p := s.partOfOe e
    (s.coll e).ops[k]? = some o → s.collCtx p o.gid = some c → c.p = p → c.e = e.val → cdGid o.desc = o.gid →
    Completes (.collTimeout e k) s (fun t => (t.collGroup e o.gid).state = 2 ∧ (t.collGroup e o.gid).cause = 1 ∧
      (t.collGroup e o.gid).aborted = o.seq ∧ t.opOf e o.gid o.seq = none ∧ t.rd F.COL_ABORT_cause 0 e = 1 ∧
      t.rd F.COL_EVT_abort 0 e = 1) ∧
    (s.collDone c o = true →
      let eid := cdF o.desc 384 24
      let silent := cdF o.desc 414 1 = 0 ∨ 64 ≤ eid % 1024
      let ended (t : State) : Prop := (t.coll e).ops = removeAt (s.coll e).ops k ∧ (t.collGroup e o.gid).completed = o.seq
      (cdDone o.desc = 0 → silent → Completes (.collectiveComplete e k) s fun t =>
        ended t ∧ t.regs = s.regs ∧ SameMemory s t ∧ SameEngines s t) ∧
      (∀ a, cdDone o.desc = a → a ≠ 0 → a % 8 = 0 → (∀ x, a ≤ x → x < a + 8 → s.home p x = .sram x) →
        s.home p (a / 64 * 64) = .sram (a / 64 * 64) → (s.sramRead (a / 64 * 64)).2.ok = true → silent →
        let old := bits (s.sramRead (a / 64 * 64)).2.data.toNat (8 * (a % 64)) 64
        Completes (.collectiveComplete e k) s fun t =>
          ended t ∧ StoresBytes s t a (toLE 8 ((old + 1) % 2 ^ 64)) ∧ SameEngines s t) ∧
      (∀ pl, cdDone o.desc = 0 → cdF o.desc 414 1 = 1 → eid % 1024 < 64 → (s.part p).placement = some pl →
        eid / 1024 = pl.own → eid / 1024 < 1024 → Completes (.collectiveComplete e k) s fun t => ended t ∧
          (t.core (eid % 1024)).arriving = (s.core (eid % 1024)).arriving ++ [(cdF o.desc 408 6, 1)] ∧
          t.regs = s.regs ∧ SameMemory s t)))

/-- The comet lane's events complete with the effects of R391–R393. -/
def Obligations.CometMessages : Prop :=
  (∀ (e : Fin 4) (m : CollMsg) (c : CollCtx) (port : Nat) (s : State), let p := s.partOfOe e
    (s.coll e).comets = [m] → s.collCtx p m.gid = some c → s.cometToward p m.pix = some port →
    Completes (.cometLaunch e) s fun t => (t.coll e).comets = [] ∧
      t.out = s.out ++ [.comet (s.busPorts port) (m.slot c.g.cmsg)] ∧ t.regs = s.regs ∧ SameMemory s t ∧ SameEngines s t) ∧
  (∀ (q : Fin 32) (w : BitVec 576) (s : State),
    let b := toLE 72 w.toNat
    let hdr := leAt b 0 1
    let sound := leAt b 68 4 = crc32C (b.take 68)
    let usable := s.portUp q = true ∧ s.cometOk q = true
    ((¬ usable ∨ ¬ sound ∨ (hdr % 4 ≠ 1 ∧ hdr % 4 ≠ 2)) → exec (.cometSlot q w) s = .next s) ∧
    (usable → sound → hdr % 4 = 1 →
      exec (.cometSlot q w) s = .next (s.emit (.cometNotice q (BitVec.ofNat 256 (leAt b 4 32))))) ∧
    (usable → sound → hdr % 4 = 2 → ∀ x, s.entryOf q = some x → let gid := leAt b 1 1
      let phase := bits hdr 2 4
      (s.collCtx (s.partOfPort q) gid = none → exec (.cometSlot q w) s = .next s) ∧
      (∀ c, s.collCtx (s.partOfPort q) gid = some c →
        (c.g.comet = false ∨ c.expects phase x.nbrPix = false ∨
          (gid, leAt b 2 2, phase, x.nbrPix) ∈ (s.coll c.e).taken) → exec (.cometSlot q w) s = .next s))) ∧
  (∀ (e : Fin 4) (k : Nat) (o : CollOp) (g : GroupEnt) (s : State), let p := s.partOfOe e
    (s.coll e).ops[k]? = some o → s.groupEnt? p o.gid = some g → g.sched = true → g.comet = true → s.running p = true →
    Completes (.cometMessageMissing e k) s fun t => t = s.slip p 4 ∧ t.rd F.SCH_EVT_slip p = 1 ∧ SameMemory s t ∧
      SameEngines s t)

/-- The service-port events of hosts complete with the effects of R401–R404 and R412. -/
def Obligations.HostConnections : Prop :=
  (∀ (o : Fin 4) (target : BitVec 8) (qpn : BitVec 24) (s : State), let p := s.partOfOe o
    s.spLocked o = true → (s.part p).state ≠ .cold →
    ((∀ c, c < 4 → (s.conn p c).up = true) → exec (.hostConnReq o target qpn) s = .next (s.emit (.cmRej o))) ∧
    (target.toNat ≠ p → exec (.hostConnReq o target qpn) s = .next (s.emit (.cmRej o))) ∧
    (∀ c, c < 4 → (s.conn p c).up = false → (∀ d, d < c → (s.conn p d).up = true) → target.toNat = p →
      Completes (.hostConnReq o target qpn) s fun t =>
        (t.conn p c).up = true ∧ (t.conn p c).sp = o.val ∧ (t.conn p c).hostQpn = qpn.toNat ∧
        (t.conn p c).regKey ≠ (t.conn p c).dbKey ∧ (t.conn p c).regKey < 2 ^ 32 ∧ (t.conn p c).dbKey < 2 ^ 32 ∧
        t.out = s.out ++ [.cmRep o p c (t.conn p c).regKey (t.conn p c).dbKey] ∧
        (∀ d, d ≠ c → t.conn p d = s.conn p d) ∧ t.regs = s.regs ∧ SameMemory s t ∧ SameEngines s t)) ∧
  (∀ (p : Fin 2) (c : Fin 4) (s : State), (s.conn p c).up = true → Completes (.hostConnLost p c) s fun t =>
    t.rd F.HIF_EVT_conn_lost p = 1 ∧
    ((∀ a ∈ (s.part p).awaits, a.pix ≠ hostKey c) → (t.conn p c).up = false ∧
      (∀ r, r < 64 → s.rd F.HIF_CR_CFG_conn p r = c.val → t.rd F.HIF_CR_CFG_enable p r = 0 ∧ t.fetchedOf p r = []) ∧
      (∀ r, r < 64 → s.rd F.HIF_CQ_CFG_conn p r = c.val → t.rd F.HIF_CQ_CFG_enable p r = 0) ∧
      SameMemory s t ∧ SameEngines s t)) ∧
  (∀ (o : Fin 4) (ip : BitVec 32) (s : State), let mine := s.spAnswers o = true ∧ ip.toNat = s.spIp4 o ∧ ip.toNat ≠ 0
    (mine → exec (.arpRequest o ip) s = .next (s.emit (.arpReply o ip.toNat))) ∧
    (¬ mine → exec (.arpRequest o ip) s = .next s)) ∧
  (∀ (o : Fin 4) (ip : BitVec 128) (data : List (BitVec 8)) (s : State),
    let six := s.spAnswers o = true ∧ ip.toNat ∈ s.spIp6 o
    let four := s.spAnswers o = true ∧ ip.toNat = s.spIp4 o ∧ ip.toNat ≠ 0
    (six → exec (.neighbourSolicitation o ip) s = .next (s.emit (.neighbourAdvert o ip.toNat))) ∧
    (¬ six → exec (.neighbourSolicitation o ip) s = .next s) ∧
    (six ∨ four → exec (.icmpEcho o ip data) s = .next (s.emit (.echoReply o ip.toNat data))) ∧
    (¬ (six ∨ four) → exec (.icmpEcho o ip data) s = .next s))

/-- The ring doorbells, enables and completion writes complete with the effects of R408–R411, R414 and R431. -/
def Obligations.RingTraffic : Prop :=
  (∀ (p : Fin 2) (r : Fin 64) (n : BitVec 32) (s : State),
    let P := s.rd F.HIF_CR_STS_producer p r
    let C := s.rd F.HIF_CR_STS_consumer p r
    let ahead := (n.toNat + 2 ^ 32 - P) % 2 ^ 32
    let held := (n.toNat + 2 ^ 32 - C) % 2 ^ 32
    let room := 2 ^ s.rd F.HIF_CR_CFG_log_size p r
    let on := s.rd F.HIF_CR_CFG_enable p r = 1
    let keeps (t : State) : Prop := SameMemory s t ∧ SameEngines s t ∧
      SameRegs s t [Reg.key .HIF_CR_CFG p r 0 0, Reg.key .HIF_CR_STS p r 0 0, Reg.key .HIF_EVT p 0 0 0, Reg.key .HIF_EVT_CNT0 p 0 0 0]
    (¬ on → exec (.commandDoorbell p r n) s = .next s) ∧
    (on → 2 ^ 31 ≤ ahead → Completes (.commandDoorbell p r n) s fun t =>
      t.rd F.HIF_EVT_stale_db p = 1 ∧ t.reg .HIF_CR_STS p r = s.reg .HIF_CR_STS p r ∧ keeps t) ∧
    (on → ahead < 2 ^ 31 → held ≤ room → Completes (.commandDoorbell p r n) s fun t =>
      t.rd F.HIF_CR_STS_producer p r = n.toNat ∧ t.rd F.HIF_CR_STS_consumer p r = C ∧ keeps t) ∧
    (on → ahead < 2 ^ 31 → room < held → Completes (.commandDoorbell p r n) s fun t =>
      t.rd F.HIF_CR_CFG_ring_err p r = 1 ∧ t.rd F.HIF_CR_CFG_stopped p r = 1 ∧ t.rd F.HIF_EVT_ring_err p = 1 ∧
      t.reg .HIF_CR_STS p r = s.reg .HIF_CR_STS p r ∧ keeps t)) ∧
  (∀ (p : Fin 2) (q : Fin 64) (n : BitVec 32) (s : State),
    let H := s.rd F.HIF_CQ_STS_host_consumed p q
    let W := s.rd F.HIF_CQ_STS_written p q
    let on := s.rd F.HIF_CQ_CFG_enable p q = 1
    let good := (n.toNat + 2 ^ 32 - H) % 2 ^ 32 ≤ (W + 2 ^ 32 - H) % 2 ^ 32
    (¬ on → exec (.completionDoorbell p q n) s = .next s) ∧
    (on → good → Completes (.completionDoorbell p q n) s fun t =>
      t.rd F.HIF_CQ_STS_host_consumed p q = n.toNat ∧ t.rd F.HIF_CQ_STS_written p q = W ∧
      SameRegs s t [Reg.key .HIF_CQ_STS p q 0 0] ∧ SameMemory s t ∧ SameEngines s t) ∧
    (on → ¬ good → Completes (.completionDoorbell p q n) s fun t =>
      t.rd F.HIF_EVT_stale_db p = 1 ∧ SameRegs s t [Reg.key .HIF_EVT p 0 0 0, Reg.key .HIF_EVT_CNT0 p 0 0 0] ∧
      SameMemory s t ∧ SameEngines s t)) ∧
  (∀ (p : Fin 2) (r : Fin 64) (s : State),
    let good := s.rd F.HIF_CR_CFG_log_size p r ≤ 16 ∧ s.rd F.HIF_CQ_CFG_enable p (s.rd F.HIF_CR_CFG_cq p r) = 1
    let off := s.rd F.HIF_CR_CFG_enable p r = 0
    (¬ off → exec (.commandRingEnable p r) s = .next s) ∧
    (off → good → Completes (.commandRingEnable p r) s fun t => t.rd F.HIF_CR_CFG_enable p r = 1 ∧
      t.rd F.HIF_CR_CFG_ring_err p r = 0 ∧ t.rd F.HIF_CR_CFG_stopped p r = 0 ∧ t.reg .HIF_CR_STS p r = 0 ∧
      t.fetchedOf p r = [] ∧ SameRegs s t [Reg.key .HIF_CR_CFG p r 0 0, Reg.key .HIF_CR_STS p r 0 0] ∧ SameMemory s t ∧
      SameEngines s t) ∧
    (off → ¬ good → Completes (.commandRingEnable p r) s fun t => t.rd F.HIF_CR_CFG_enable p r = 0 ∧
      t.rd F.HIF_CR_CFG_ring_err p r = 1 ∧ t.rd F.HIF_EVT_ring_err p = 1 ∧ SameMemory s t ∧ SameEngines s t) ∧
    (s.rd F.HIF_CQ_CFG_enable p r = 1 → exec (.completionRingEnable p r) s = .next s) ∧
    (s.rd F.HIF_CQ_CFG_enable p r = 0 → Completes (.completionRingEnable p r) s fun t =>
      t.rd F.HIF_CQ_CFG_enable p r = 1 ∧ t.reg .HIF_CQ_STS p r = 0 ∧
      SameRegs s t [Reg.key .HIF_CQ_CFG p r 0 0, Reg.key .HIF_CQ_STS p r 0 0] ∧ SameMemory s t ∧ SameEngines s t) ∧
    (s.rd F.HIF_CR_CFG_stopped p r = 0 → exec (.ringResume p r) s = .next s) ∧
    (s.rd F.HIF_CR_CFG_stopped p r = 1 → Completes (.ringResume p r) s fun t =>
      t.rd F.HIF_CR_CFG_stopped p r = 0 ∧ t.fetchedOf p r = [] ∧ SameRegs s t [Reg.key .HIF_CR_CFG p r 0 0] ∧
      SameMemory s t ∧ SameEngines s t)) ∧
  (∀ (p : Fin 2) (q : Fin 64) (c : CplRec) (s : State),
    let W := s.rd F.HIF_CQ_STS_written p q
    let n := 2 ^ s.rd F.HIF_CQ_CFG_log_size p q
    let H := s.rd F.HIF_CQ_STS_host_consumed p q
    (s.part p).records.find? (fun x => x.cq == q.val) = some c → s.rd F.HIF_CQ_CFG_enable p q = 1 →
    (s.conn p (s.rd F.HIF_CQ_CFG_conn p q)).up = true → (W + 2 ^ 32 - H) % 2 ^ 32 < n →
    Completes (.completionWrite p q) s fun t =>
      t.out = s.out ++ [.hostWrite p (s.rd F.HIF_CQ_CFG_conn p q) (s.rd F.HIF_CQ_CFG_rkey p q)
        ((s.reg .HIF_CQ_ADDR p q).toNat + 32 * (W % n)) (c.bytes (1 - W / n % 2))] ∧
      (c.ring < 64 ∨ c.stop = false → t.rd F.HIF_CQ_STS_written p q = (W + 1) % 2 ^ 32) ∧
      (t.part p).records = removeAt (s.part p).records ((s.part p).records.findIdx (· == c)) ∧
      (c.stop = true → t.rd F.HIF_CR_CFG_stopped p c.ring = 1) ∧
      (c.stop = false → SameRegs s t [Reg.key .HIF_CQ_STS p q 0 0]) ∧
      SameMemory s t ∧ SameEngines s t)

/-- Fetching and starting commands complete with the effects of R406, R409, R418 and R420. -/
def Obligations.CommandsStart : Prop :=
  (∀ (p : Fin 2) (r : Fin 64) (desc : List (BitVec 8)) (s : State), let l := s.fetchedOf p r
    let open' := if (s.openOf p (.ring r)).isSome then 1 else 0
    s.rd F.HIF_CR_CFG_enable p r = 1 → s.rd F.HIF_CR_CFG_stopped p r = 0 → (s.conn p (s.rd F.HIF_CR_CFG_conn p r)).up = true →
    desc.length = 64 → (s.part p).state ≠ .booting → l.length < 8 → l.length + open' <
      (s.rd F.HIF_CR_STS_producer p r + 2 ^ 32 - s.rd F.HIF_CR_STS_consumer p r) % 2 ^ 32 →
    Completes (.commandFetch p r desc) s fun t => t.fetchedOf p r = l ++ [desc] ∧
      (∀ j, j ≠ r.val → t.fetchedOf p j = s.fetchedOf p j) ∧ t.regs = s.regs ∧ SameMemory s t ∧ SameEngines s t) ∧
  (∀ (p : Fin 2) (i3c : Bool) (s : State),
    (s.rd F.HIF_MBOX_CTL_busy p = 1 → exec (.mailboxGo p i3c) s = .next s) ∧
    (s.rd F.HIF_MBOX_CTL_busy p = 0 → Completes (.mailboxGo p i3c) s fun t => t.rd F.HIF_MBOX_CTL_busy p = 1 ∧
      (∃ o, (t.part p).opens = (s.part p).opens ++ [o] ∧ o.src = .mailbox ∧ o.checked = false ∧ o.stage = 0 ∧
        o.desc = (List.range 8).flatMap fun i => toLE 8 (s.reg .HIF_MBOX_DESC p i).toNat) ∧
      SameRegs s t [Reg.key .HIF_MBOX_CTL p 0 0 0] ∧ SameMemory s t ∧ SameEngines s t)) ∧
  (∀ (p : Fin 2) (r : Fin 65) (ext : Option (List (BitVec 8))) (storeOk : Bool) (s u : State) (o : OpenCmd),
    (∃ d rest, r.val < 64 ∧ s.fetchedOf p r = d :: rest ∧ s.openOf p (srcOf r) = none ∧
      (∀ c ∈ (s.part p).records, c.ring ≠ r.val) ∧ s.rd F.HIF_CR_CFG_stopped p r = 0 ∧ (s.part p).state ≠ .booting ∧
      o = { src := srcOf r, desc := d, ext := [], checked := false, stage := 0, note := 0, orphan := false } ∧
      u = s.updPart p fun q => { q with
        fetched := tabSet (fun _ => []) q.fetched r rest
        opens := q.opens ++ [o] }) ∨
    (r.val = 64 ∧ s.openOf p .mailbox = some o ∧ o.checked = false ∧ o.note ≠ 1 ∧ u = s) →
    (∀ d, u.decodeFault p o = some d → Completes (.commandStart p r ext storeOk) s fun t => Closed t p o 0x02 d 0 0) ∧
    (u.decodeFault p o = none →
      (isControl o.opcode = true → (s.part p).slotHolder ≠ none ∨ (s.part p).slotWait ≠ [] →
        Completes (.commandStart p r ext storeOk) s fun t => t.openOf p o.src = some { o with note := 1 } ∧
          (t.part p).slotWait = (s.part p).slotWait ++ [o.src] ∧ t.regs = s.regs ∧ SameMemory s t) ∧
      (isControl o.opcode = true → (s.part p).slotHolder = none → (s.part p).slotWait = [] →
        Decides (.commandStart p r ext storeOk) s (u.updPart p fun q => { q with slotHolder := some o.src }) p o ext storeOk) ∧
      (isControl o.opcode = false → Decides (.commandStart p r ext storeOk) s u p o ext storeOk))) ∧
  (∀ (p : Fin 2) (ext : Option (List (BitVec 8))) (storeOk : Bool) (s : State) (o : OpenCmd) (rest : List CmdSrc),
    (s.part p).slotWait = o.src :: rest → (s.part p).slotHolder = none → s.openOf p o.src = some o →
    Decides (.controlSlotGrant p ext storeOk) s
      (s.updPart p fun q => { q with slotWait := rest, slotHolder := some o.src }) p o ext storeOk)

/-- The inspection and memory commands complete with the effects of R422. -/
def Obligations.InspectionAndMemory : Prop :=
  ∀ (p : Fin 2) (r : Fin 65) (s : State) (o : OpenCmd),
    let still (t : State) : Prop := (t.part p).state = (s.part p).state ∧ SameMemory s t ∧ SameEngines s t
    (s.readyCmd p r 0x00 o → Completes (.nopCommand p r) s fun t => Closed t p o 0 0 0 0 ∧ still t) ∧
    (s.readyCmd p r 0x01 o → let x := s.queryPage p (bits o.arg0 0 8)
      Completes (.query p r) s fun t => Closed t p o 0 0 x.1 x.2 ∧ still t) ∧
    (s.readyCmd p r 0x02 o → Completes (.readState p r) s fun t =>
      Closed t p o 0 0 (s.readReg p .SCH_STS 0 0 0) (s.part p).gtc ∧ still t) ∧
    (let n := bits o.arg1 0 32
     let win := bits o.arg2 0 8
     let off := 64 * bits o.arg2 8 56
     (s.readyCmd p r 0x03 o → ∀ data, let d := s.windowDetail p win off n false
       (d ≠ 0 → Completes (.writeMem p r data) s fun t => Closed t p o 0x06 d 0 0 ∧ still t) ∧
       (∀ a, d = 0 → s.placeOf p o.arg0 n = .outside a → Completes (.writeMem p r data) s fun t =>
         Closed t p o 0x16 0 a 0 ∧ still t) ∧
       (d = 0 → s.placeOf p o.arg0 n = .memory →
         (data = none → Completes (.writeMem p r data) s fun t => Closed t p o 0x06 1 0 0 ∧ still t) ∧
         (∀ b, data = some b → n = 64 → o.arg0 % 64 = 0 → s.home p o.arg0 = .sram o.arg0 →
           Completes (.writeMem p r data) s fun t => Closed t p o 0 0 64 0 ∧ StoresBytes s t o.arg0 (padTo 64 b) ∧
             SameEngines s t)) ∧
       (∀ w b, d = 0 → s.placeOf p o.arg0 n = .window w → data = some b →
         exec (.writeMem p r data) s = .next ((s.putWords p w (wordsOf (padTo n b))).complete p o.src 0 0 n 0))) ∧
     (s.readyCmd p r 0x04 o → let d := s.windowDetail p win off n true
       (d ≠ 0 → Completes (.readMem p r) s fun t => Closed t p o 0x06 d 0 0 ∧ still t ∧ t.out = s.out) ∧
       (∀ a, d = 0 → s.placeOf p o.arg0 n = .outside a → Completes (.readMem p r) s fun t =>
         Closed t p o 0x16 0 a 0 ∧ still t ∧ t.out = s.out) ∧
       (d = 0 → s.placeOf p o.arg0 n = .memory → n = 64 → o.arg0 % 64 = 0 → s.home p o.arg0 = .sram o.arg0 →
         let g := (s.sramRead o.arg0).2
         let w := s.windowPlace p win off
         (g.ok = true → Completes (.readMem p r) s fun t => Closed t p o 0 0 64 0 ∧ still t ∧
           t.out = s.out ++ [.hostWrite p w.1 w.2.1 w.2.2 (toLE 64 g.data.toNat)]) ∧
         (g.ok = false → Completes (.readMem p r) s fun t => Closed t p o 0x17 0 o.arg0 0 ∧ still t ∧ t.out = s.out)))) ∧
    (s.readyCmd p r 0x16 o → Completes (.clearFault p r) s fun t =>
      Closed t p o 0 0 (s.reg .SCH_SLIP p).toNat 0 ∧ (t.part p).state = .loaded ∧ (t.part p).freeze = none ∧
      t.reg .SCH_SLIP p = 0 ∧ t.rd F.FLT_STS_replay_ready p = 0 ∧ t.rd F.HIF_STS_state p = PState.loaded.code ∧
      SameMemory s t ∧ SameEngines s t)

/-- PORT_CTL, CAL_OPTICS and SET_POLICY complete with the effects of R305, R423 and R424. -/
def Obligations.PortsAndPolicies : Prop :=
  (∀ (p : Fin 2) (r : Fin 65) (s : State) (o : OpenCmd), s.readyCmd p r 0x21 o →
    let q := bits o.arg0 0 8
    let e := q - 0x40
    let k := bits o.arg1 4 5
    let port := q < 32
    let act := bits o.arg1 0 4
    let does (i : Instr) (u : State) : Prop := exec i s = .next (u.complete p o.src 0 0
      (if q < 32 then (u.reg .PORT_STS 0 q).toNat else (u.reg .OE_LASER_STS 0 e).toNat) 0)
    (act = 0 → (port → does (.portCtlDark p r) ((s.portDark q).updPort q fun t => { t with dark := true })) ∧
      (¬ port → does (.portCtlDark p r) (s.lightOff e))) ∧
    (act = 1 → let lit := s.updPort q fun t => { t with dark := false }
      let trains := (s.portState q = ptDark ∨ s.fibre q = fbProbe) ∧ s.spLit (q / 8) = true
      (port → trains → does (.portCtlLight p r) (lit.lightFibre q)) ∧
      (port → ¬ trains → does (.portCtlLight p r) lit) ∧
      (¬ port → does (.portCtlLight p r) (s.lightOn e))) ∧
    (act = 2 → (port → s.portState q = ptIncompatible → does (.portCtlRetrain p r) (s.startTraining q false)) ∧
      (port → s.portState q ≠ ptIncompatible → does (.portCtlRetrain p r) (s.retrainPort q 4 true))) ∧
    (act = 3 → port → does (.portCtlRestore p r)
      (((s.setLanes q 0x1F 0 0x1F 0x1F).startTraining q true).updPort q fun t => { t with restore := true })) ∧
    (act = 4 → let u := s.startBack q k
      (port → (u.port q).txLane ≠ k → does (.portCtlMoonReturn p r) u) ∧
      (port → (u.port q).txLane = k → does (.portCtlMoonReturn p r) (u.queueMgmt q (opticMsg 6 k 0 0))))) ∧
  (∀ (p : Fin 2) (r : Fin 65) (s : State) (o : OpenCmd), let ps := maskPorts (bits o.arg0 0 32)
    (s.readyCmd p r 0x22 o → Completes (.calOptics p r) s fun t => Waits t p o ∧ t = (ps.foldl State.calPort s).setOpen p
      { o with stage := 1 }) ∧
    (s.running? p r 0x22 = some o → o.stage = 1 → (s.part p).opens.filter (fun x => x.src == o.src) = [o] →
      (∀ q ∈ ps, q % 8 ∉ (s.oe (q / 8)).recal) →
      Completes (.calOptics p r) s fun t => ∃ m, Closed t p o 0 0 m 0 ∧
        (∀ q, m.testBit q = true ↔ (q ∈ ps ∧ q % 8 ∈ (s.oe (q / 8)).recalled)) ∧ SameMemory s t ∧ SameEngines s t)) ∧
  (∀ (p : Fin 2) (r : Fin 65) (s : State) (o : OpenCmd), s.readyCmd p r 0x23 o →
     let item := bits o.arg0 0 8
     let v := ofLE (o.ext.take 32)
     let zeros := allZero ((o.ext.drop 32).take 32) = true
     (item = 1 → Completes (.setPolicyOptical p r) s fun t => Closed t p o 0 0 0 0 ∧
       (∀ e, e < 4 → t.rd F.OE_POLICY_policy 0 e =
         if o.arg1.testBit e then bits o.arg1 4 1 else s.rd F.OE_POLICY_policy 0 e) ∧ SameMemory s t ∧ SameEngines s t) ∧
     (item = 2 → let u := (s.portsOf p).foldl (fun a q => a.sendPir q) (s.wr F.NET_CTL_aswired (bits o.arg1 0 1) p)
       u.rd F.NET_CTL_aswired p = bits o.arg1 0 1 ∧
       exec (.setPolicyAsWired p r) s = .next ((u.reidentify p).complete p o.src 0 0 0 0)) ∧
     (item = 3 → let i := bits o.arg1 0 12
       let good := zeros ∧ bits v 157 3 = 0 ∧ bits v 192 64 = 0
       (¬ good → Completes (.setPolicyFarDevice p r) s fun t => Closed t p o 0x02 0 0 0 ∧ (t.part p).far = (s.part p).far ∧
         SameMemory s t ∧ SameEngines s t) ∧
       (good → (s.farEntry p i).testBit 156 = false →
         Completes (.setPolicyFarDevice p r) s fun t => Closed t p o 0 0 0 0 ∧ t.farEntry p i = v % 2 ^ 256 ∧
           (∀ j, j ≠ i → t.farEntry p j = s.farEntry p j) ∧ SameMemory s t ∧ SameEngines s t)) ∧
     (item = 4 → let w := bits o.arg1 0 8
       let win (t : State) (j : Nat) : BitVec 256 := tabGet windowDefault (t.part p).windows j
       let good := zeros ∧ bits v 112 16 = 0 ∧ bits v 165 91 = 0 ∧ bits v 0 64 % 64 = 0 ∧ bits v 64 48 % 64 = 0
       (¬ good → Completes (.setPolicyHostWindow p r) s fun t => Closed t p o 0x02 0 0 0 ∧
         (t.part p).windows = (s.part p).windows ∧ SameMemory s t ∧ SameEngines s t) ∧
       (good → s.windowBusy p w = false → Completes (.setPolicyHostWindow p r) s fun t => Closed t p o 0 0 0 0 ∧
         win t w = BitVec.ofNat 256 v ∧ (∀ j, j ≠ w → win t j = win s j) ∧ SameMemory s t ∧ SameEngines s t)) ∧
     (item = 5 → Completes (.setPolicyEncryption p r) s fun t => Closed t p o 0 0 0 0 ∧
       (∀ h, h < 2 → (t.flash h).config =
         if h ∈ s.halves p then setEncryption (s.flash h).config p (o.arg1.testBit 0) else (s.flash h).config) ∧
       SameMemory s t ∧ SameEngines s t))

/-- The spare core swap completes with the effects of R478–R481. NO_SPARE is 0x14. -/
def Obligations.CoreSwap : Prop :=
  (∀ (p : Fin 2) (r : Fin 65) (s : State) (o : OpenCmd), s.readyCmd p r 0x20 o →
    let n := bits o.arg0 0 6
    let spare := s.rd F.TILE_LPMAP_spare_phys 0 (n / 4)
    let busy := ∃ e : Eng, (s.stream n e).code = 1 ∨ (s.stream n e).code = 2
    (spare = 7 → Completes (.swapCore p r) s fun t => Closed t p o 0x14 0 0 0 ∧ (t.part p).swap = (s.part p).swap ∧
      t.held = s.held ∧ SameMemory s t ∧ SameEngines s t) ∧
    (spare ≠ 7 → busy → Completes (.swapCore p r) s fun t => Closed t p o 0x15 0 0 0 ∧ (t.part p).swap = (s.part p).swap ∧
      t.held = s.held ∧ SameMemory s t ∧ SameEngines s t) ∧
    (spare ≠ 7 → ¬ busy → (s.part p).swap = none → Completes (.swapCore p r) s fun t => Waits t p o ∧ n / 4 ∈ t.held ∧
      (t.part p).swap = some { core := n, old := s.rd (lpField n) 0 (n / 4), spare := spare, phase := 0 } ∧
      t.regs = s.regs ∧ SameMemory s t ∧ SameEngines s t)) ∧
  (∀ (p : Fin 2) (ok : Bool) (s : State) (w : Swap), (s.part p).swap = some w →
    let t0 := w.core / 4
    (w.phase = 0 → s.swapOpen p = none → Completes (.spareSelfTestDone p ok) s fun t => (t.part p).swap = none ∧
      t0 ∉ t.held ∧ t.regs = s.regs ∧ SameMemory s t ∧ SameEngines s t) ∧
    (∀ o, w.phase = 0 → s.swapOpen p = some o → w.old < 5 → w.spare < 5 → w.core < 64 →
      (ok = true → Completes (.spareSelfTestDone p ok) s fun t => t.rd (lpField w.core) 0 t0 = w.spare ∧
        t.rd F.TILE_LPMAP_spare_phys 0 t0 = 7 ∧ (t.rd F.TILE_LPMAP_failed 0 t0).testBit w.old = true ∧
        (t.part p).swap = some { w with phase := 1 } ∧ t.openOf p o.src = s.openOf p o.src ∧ SameMemory s t) ∧
      (ok = false → (s.part p).opens.filter (fun x => x.src == o.src) = [o] →
        Completes (.spareSelfTestDone p ok) s fun t => Closed t p o 0x14 1 0 0 ∧
          t.rd (lpField w.core) 0 t0 = s.rd (lpField w.core) 0 t0 ∧ t.rd F.TILE_LPMAP_spare_phys 0 t0 = 7 ∧
          (t.rd F.TILE_LPMAP_failed 0 t0).testBit w.spare = true ∧
          (t.flash (t0 / 8)).perm = (s.flash (t0 / 8)).perm ++
            [{ type := 16, unitKind := 4, unit := 5 * t0 + w.spare, day := s.day, value0 := 0, value1 := 0 }] ∧
          SameMemory s t ∧ SameEngines s t)) ∧
    (w.phase = 1 → Completes (.tileRelease p) s fun t => t0 ∉ t.held ∧ (t.part p).swap = some { w with phase := 2 } ∧
      t.regs = s.regs ∧ SameMemory s t ∧ SameEngines s t) ∧
    (w.phase = 3 → Completes (.tileRelease p) s fun t => t0 ∉ t.held ∧ (t.part p).swap = none ∧ t.regs = s.regs ∧
      SameMemory s t ∧ SameEngines s t) ∧
    (w.phase = 2 →
      let entry : AgeEntry := { type := 16, unitKind := 4, unit := 5 * t0 + w.old, day := s.day, value0 := 0, value1 := 0 }
      (s.swapOpen p = none → Completes (.swapLogStored p) s fun t => (t.part p).swap = none ∧ t.regs = s.regs ∧
        (t.flash (t0 / 8)).perm = (s.flash (t0 / 8)).perm ++ [entry] ∧ SameMemory s t ∧ SameEngines s t) ∧
      (∀ o, s.swapOpen p = some o → (s.part p).opens.filter (fun x => x.src == o.src) = [o] →
        Completes (.swapLogStored p) s fun t => Closed t p o 0 0 (s.reg .TILE_LPMAP 0 t0).toNat 0 ∧ (t.part p).swap = none ∧
          (t.flash (t0 / 8)).perm = (s.flash (t0 / 8)).perm ++ [entry] ∧ SameMemory s t ∧ SameEngines s t)))

/-- The resets of RESET_UNIT complete with the effects of R423 and R442–R445. -/
def Obligations.UnitResets : Prop :=
  (∀ (p : Fin 2) (r : Fin 65) (s : State) (o : OpenCmd), s.readyCmd p r 0x33 o →
    let kind := bits o.arg0 0 4
    let u := bits o.arg1 0 10
    let waits (t : State) : Prop := ∃ b, t.openOf p o.src = some { o with stage := 1, orphan := b }
    let later (i : Instr) (unit : Nat) (also : State → Prop) : Prop :=
      ((s.part p).resetUnits.any (fun x => x.covers (resetUnitOf kind unit)) = true → Completes i s fun t =>
        Waits t p o ∧ t.regs = s.regs ∧ (t.part p).resets = (s.part p).resets ∧ SameMemory s t ∧ SameEngines s t) ∧
      ((s.part p).resetUnits.any (fun x => x.covers (resetUnitOf kind unit)) = false → Completes i s fun t =>
        waits t ∧ (kind, unit) ∈ (t.part p).resets ∧ t.rd F.RST_CAUSE_kind p = kind + 2 ∧ t.rd F.RST_CAUSE_unit p = unit ∧
        SameMemory s t ∧ also t)
    (kind = 0 → (o.src = .mailbox → (s.recordNow p o).isSome = true) ∧
      ∀ t, s.recordNow p o = some t → Completes (.resetUnitWarm p r) s fun v => v = t.warmReset p 1 ∧
        (v.part p).state = .booting ∧ v.rd F.RST_CAUSE_kind p = 2 ∧ v.rd F.RST_CAUSE_source p = 1 ∧
        v.rd F.RST_CAUSE_warm_cnt p = (t.rd F.RST_CAUSE_warm_cnt p + 1) % 2 ^ 16 ∧ SameMemory s v) ∧
    (kind = 1 → ∀ t, s.recordNow p o = some t →
      exec (.resetUnitHalf p r) s = .next (t.askPartial p 1 (bits o.arg1 0 1))) ∧
    (kind = 2 → later (.resetUnitOe p r) (bits o.arg1 0 2) fun _ => True) ∧
    (kind = 3 → later (.resetUnitTile p r) (bits o.arg1 0 4) fun t =>
      (∀ n, n / 4 = bits o.arg1 0 4 → t.core n = { nextTransfer := (s.core n).nextTransfer }) ∧
      (∀ g, g / 2 = bits o.arg1 0 4 → t.gather g = { nextLaunch := (s.gather g).nextLaunch }) ∧
      (∀ n, n / 4 ≠ bits o.arg1 0 4 → t.core n = s.core n)) ∧
    (kind = 4 → later (.resetUnitPort p r) (bits o.arg1 0 5) fun t => SameEngines s t) ∧
    (kind = 5 → Completes (.resetUnitEngine p r) s fun t => Closed t p o 0 0 0 0 ∧
      t.core (bits u 0 6) = (s.core (bits u 0 6)).clear (bits u 6 4) ∧ (∀ n, n ≠ bits u 0 6 → t.core n = s.core n) ∧
      (∀ i, i < 4 → (bits u 6 4).testBit i = true → t.reg .ENG_FAULT 0 (bits u 0 6) i = 0) ∧
      t.rd F.BOOT_EVT_partial_reset p = 1 ∧ t.rd F.RST_CAUSE_kind p = 7 ∧ t.rd F.RST_CAUSE_unit p = u ∧ SameMemory s t) ∧
    (kind = 6 → u < 4 → Completes (.resetUnitCollective p r) s fun t => Closed t p o 0 0 0 0 ∧ (t.coll u).ops = [] ∧
      (t.coll u).waiting = [] ∧ (t.coll u).comets = [] ∧ (∀ e, e ≠ u → t.coll e = s.coll e) ∧
      t.rd F.BOOT_EVT_partial_reset p = 1 ∧ t.rd F.RST_CAUSE_kind p = 8 ∧ SameMemory s t ∧ SameEngines s t) ∧
    (kind = 7 → Completes (.resetUnitGather p r) s fun t => Closed t p o 0 0 0 0 ∧
      t.gather u = { nextLaunch := (s.gather u).nextLaunch } ∧ (∀ g, g ≠ u → t.gather g = s.gather g) ∧ t.cores = s.cores ∧
      t.rd F.BOOT_EVT_partial_reset p = 1 ∧ t.rd F.RST_CAUSE_kind p = 9 ∧ SameMemory s t)) ∧
  (∀ (p : Fin 2) (k : Nat) (x : Nat × Nat) (s : State), (s.part p).resets[k]? = some x → Completes (.partialResetDone p k) s fun t =>
    (t.part p).resets = removeAt (s.part p).resets k ∧ t.rd F.BOOT_EVT_partial_reset p = 1 ∧
    ∀ o ∈ (s.part p).opens, o.checked = true → o.opcode = 0x33 → o.stage = 1 →
      (resetUnitOf x.1 x.2).covers (resetUnitOf (bits o.arg0 0 4) (bits o.arg1 0 10)) = true → t.openOf p o.src = none)

/-- Cold reset and the boot ROM's events complete with the effects of R433–R448. -/
def Obligations.ColdResetAndBootRom : Prop :=
  (∀ (power : Bool) (s : State), Completes (.coldReset power) s fun t =>
    (∀ p ∈ s.parts, t.rd F.RST_CAUSE_kind p = if power then 0 else 1) ∧
    (∀ r p i j k, Reg.key r p i j k ∉ [Reg.key .RST_CAUSE 0 0 0 0, Reg.key .RST_CAUSE 1 0 0 0] →
      t.reg r p i j k = State.reset.reg r p i j k) ∧
    t.cores = [] ∧ t.gathers = [] ∧ t.part0 = {} ∧ t.part1 = {} ∧ t.fuses = s.fuses ∧ t.flash0 = s.flash0 ∧
    t.flash1 = s.flash1 ∧ t.vault = { s.vault with consent := false } ∧ t.pending = s.pending ∧
    (power = false → SameMemory s t) ∧ (power = true → ∀ a, t.byte a = State.reset.byte a)) ∧
  (∀ (straps : BitVec 8) (s : State), (s.part 0).state = .cold → Completes (.coldResetRelease straps) s fun t =>
    let div := bits straps.toNat 0 2
    let src := bits straps.toNat 4 2
    let bad := 2 ≤ div ∨ (div = 0 ∧ s.fuses.gradeX = true) ∨ src = 3 ∨ (src = 1 ∧ straps.toNat.testBit 6 = true)
    t.straps = straps ∧ t.twoPart = straps.toNat.testBit 2 ∧
    (∀ p ∈ t.parts, (t.part p).state = .booting ∧ t.rd F.RST_CAUSE_kind p = s.rd F.RST_CAUSE_kind 0 ∧
      (bad → (t.part p).stopped = true ∧ t.rd F.BOOT_STS_strap_err p = 1) ∧
      (¬ bad → (t.part p).stopped = false ∧ t.rd F.BOOT_STS_strap_err p = 0) ∧
      0 < (t.part p).session ∧ (t.part p).session < 2 ^ 32) ∧
    (∀ o, o < 4 → t.rd F.OE_CTL_light_en 0 o = 1 - bits straps.toNat 6 1 ∧ t.rd F.OE_POLICY_policy 0 o = bits straps.toNat 3 1 ∧
      t.rd F.OE_SP_STS_mode 0 o = bits straps.toNat 7 1) ∧
    SameMemory s t ∧ SameEngines s t) ∧
  (∀ (h : Fin 2) (s : State), let p := s.partOfHalf h
    let src := bits s.straps.toNat 4 2
    let f := s.flash h
    (s.part p).state ≠ .cold → (s.part p).stopped = false → (s.mgp h).stage = 0 → s.rd F.CLK_STS_root_lock p = 1 →
    (1, h.val) ∉ (s.part p).resets →
    (src = 0 → Completes (.bootSlotSelect h) s fun t => (t.mgp h).stage = 1 ∧ (t.mgp h).slot = (t.flash h).active ∧
      (f.trial = false → t.flash h = f) ∧
      (f.trial = true → f.attempts < 2 → t.flash h = { f with attempts := f.attempts + 1, bootSeq := f.bootSeq + 1 }) ∧
      (f.trial = true → 2 ≤ f.attempts → t.flash h =
        { f with trial := false, attempts := f.attempts + 1, active := 1 - f.active, bootSeq := f.bootSeq + 1 }) ∧
      SameMemory s t ∧ SameEngines s t) ∧
    (src = 1 → Completes (.bootSlotSelect h) s fun t => (t.mgp h).stage = 1 ∧ (t.mgp h).slot = 2 ∧ SameMemory s t ∧
      SameEngines s t) ∧
    (2 ≤ src → Completes (.bootSlotSelect h) s fun t => (t.mgp h).stage = 7 ∧ SameEngines s t ∧
      ∀ a, t.byte a = if sramBase ≤ a ∧ (a - sramBase) / tileBytes = 8 * h then 0 else s.byte a)) ∧
  (∀ (h : Fin 2) (net : List (BitVec 8)) (s : State), let p := s.partOfHalf h
    let m := s.mgp h
    let img := s.bootImage h net
    let held (t : State) : Prop := (t.mgp h).stage = 7 ∧ (t.mgp h).fw = m.fw ∧ SameEngines s t
    (s.part p).state ≠ .cold → (m.stage = 1 ∧ m.slot ≠ 3) ∨ (m.stage = 2 ∧ m.slot = 3) →
    (s.fwFault p img = none → Completes (.firmwareVerified h net) s fun t => (t.mgp h).fw = some (firmwareOf img) ∧
      (t.mgp h).stage = 3 ∧ t.rd F.SEC_STS_uds_locked p = 1 ∧ SameMemory s t ∧ SameEngines s t) ∧
    (∀ d, s.fwFault p img = some d →
      (m.slot = 2 → exec (.firmwareVerified h net) s = .next s) ∧
      (m.slot = 3 → Completes (.firmwareVerified h net) s held) ∧
      (m.slot < 2 → m.second = false → Completes (.firmwareVerified h net) s fun t => (t.mgp h).slot = 1 - m.slot ∧
        (t.mgp h).second = true ∧ (t.mgp h).stage = m.stage ∧ t.rd F.SEC_EVT_boot_verify p = 1 ∧ SameMemory s t) ∧
      (m.slot < 2 → m.second = true → Completes (.firmwareVerified h net) s fun t => held t ∧
        t.rd F.SEC_EVT_boot_verify p = 1 ∧ (s.mgpOf p = h.val → t.rd F.BOOT_STS_boot_fail p = 1)))) ∧
  (∀ (h : Fin 2) (s : State), (s.part (s.partOfHalf h)).state ≠ .cold → (s.mgp h).stage = 1 → (s.mgp h).slot = 2 →
    Completes (.networkBootTimeout h) s fun t => (t.mgp h).stage = 7 ∧ SameEngines s t) ∧
  (∀ (p : Fin 2) (s : State), let holds := (s.part p).state = .booting ∧ s.rd F.BOOT_STS_stage p = 7
    (¬ holds → exec (.bootGo p) s = .next s) ∧
    (holds → Completes (.bootGo p) s fun t => t.rd F.BOOT_STS_stage p = 2 ∧
      (∀ h, h < 2 → t.mgp h = if h ∈ s.halves p ∧ (s.mgp h).stage = 7 then { s.mgp h with stage := 2, slot := 3, fw := none }
        else s.mgp h) ∧
      SameMemory s t ∧ SameEngines s t))

/-- The events of Mafin's boot complete with the effects of R436, R437 and R447. -/
def Obligations.MafinBoots : Prop :=
  ∀ (p : Fin 2) (s : State), s.hasPart p = true →
    (let short := ∃ t, t < 16 ∧ s.partOfTile t = p.val ∧ (s.goodCores t).length < 4
     (s.part p).state = .booting → s.rd F.BOOT_STS_stage p = 3 → (s.mgp (s.mgpOf p)).stage = 3 →
     (¬ short → Completes (.mafinStart p) s fun u => u.rd F.BOOT_STS_stage p = 4 ∧ (u.part p).state = .booting ∧
       (∀ t, t < 16 → s.partOfTile t = p.val → let g := s.goodCores t
         (∀ i, i < 4 → u.rd (lpField i) 0 t = g.getD i 7) ∧ u.rd F.TILE_LPMAP_spare_phys 0 t = g.getD 4 7) ∧
       u.rd F.MEM_STS_enc_active p = u.rd F.MEM_CTL_enc_en p ∧
       (∀ b, s.config? p = some b → u.rd F.MEM_CTL_enc_en p = bits (leAt b 0xE8 1) p 1) ∧
       SameMemory s u ∧ SameEngines s u) ∧
     (short → Completes (.mafinStart p) s fun u => (u.part p).state = .quarantined ∧ u.rd F.FLT_STS_q_cause p = 1 ∧
       SameMemory s u)) ∧
    ((s.part p).state = .booting ∨ (s.part p).state = .quarantined → s.rd F.BOOT_STS_stage p = 4 →
      (Completes (.stackTrainingDone p [] []) s fun u => u.rd F.BOOT_STS_stage p = 5 ∧
        (u.part p).filling = (s.bootWipes p || s.encOn p) ∧
        ((u.part p).filling = false → u.rd F.MEM_STS_ready p = 1) ∧ SameEngines s u ∧
        ∀ a, u.byte a = if s.bootWipes p = true ∧ sramBase ≤ a ∧ s.partOfTile ((a - sramBase) / tileBytes) = p.val then 0
          else s.byte a) ∧
      (∀ k : Fin 20, s.partOfHalf (k / 10) = p.val → (s.part p).state = .booting →
        Completes (.stackTrainingDone p [k] []) s fun u => u.rd F.MST_STS_failed 0 k = 1 ∧ u.rd F.MEM_EVT_chan_fail p = 1 ∧
          (u.part p).state = .quarantined ∧ u.rd F.FLT_STS_q_cause p = 2)) ∧
    ((s.part p).filling = true → Completes (.zeroFillDone p) s fun u => (u.part p).filling = false ∧ SameEngines s u ∧
      (∀ a, u.byte a = if a < sramBase ∧ s.partOfHalf (physChan (a / 64) / 320) = p.val then 0 else s.byte a) ∧
      ((∀ k, k < 20 → s.partOfHalf (k / 10) = p.val → s.rd F.MST_STS_failed 0 k = 0) → u.rd F.MEM_STS_ready p = 1)) ∧
    (∀ storeOk, (s.part p).state = .booting → s.rd F.BOOT_STS_stage p = 5 → (s.part p).filling = false →
      s.bridgesReady p = true → Completes (.bootComplete p storeOk) s fun u => (u.part p).state = .idle ∧
        u.rd F.BOOT_STS_stage p = 6 ∧ u.rd F.HIF_STS_state p = PState.idle.code ∧
        (∀ r ∈ lockRegs, (regInfo r).perPartition = true → (u.reg r p).toNat.testBit 31 = true) ∧
        (∀ h ∈ s.halves p, (u.flash h).trial = false ∧ (u.flash h).attempts = 0 ∧ (u.flash h).active = (s.flash h).active) ∧
        SameMemory s u ∧ SameEngines s u) ∧
    ((s.part p).state = .booting → 3 ≤ s.rd F.BOOT_STS_stage p → s.rd F.BOOT_STS_stage p ≤ 5 →
      Completes (.bootWatchdog p) s fun u => u = s.warmReset p 3 ∧ (u.part p).state = .booting ∧ u.rd F.RST_CAUSE_kind p = 2 ∧
        u.rd F.RST_CAUSE_source p = 3 ∧ u.rd F.BOOT_STS_stage p = 0 ∧ SameMemory s u)

/-- FW_STAGE and FW_COMMIT complete with the effects of R449 and R450. -/
def Obligations.FirmwareStaging : Prop :=
  ∀ (p : Fin 2) (r : Fin 65) (s : State) (o : OpenCmd),
    (s.readyCmd p r 0x38 o → ∀ (data : Option (List (BitVec 8))) (flashOk : Bool),
      let kind := bits o.arg2 8 8
      let n := bits o.arg1 0 32
      let other := s.staging p o.src = true
      let open' := s.windowDetail p (bits o.arg2 0 8) o.arg0 n false
      ∀ i, (kind = 0 ∧ i = .fwStageFirmware p r data flashOk) ∨ (kind = 1 ∧ i = .fwStageConfig p r data flashOk) →
      let most := if kind = 0 then 0x800000 else 1024
      let keeps (t : State) : Prop := t.flash0 = s.flash0 ∧ t.flash1 = s.flash1 ∧ SameMemory s t ∧ SameEngines s t
      (other → Completes i s fun t => Closed t p o 0x19 6 0 0 ∧ keeps t) ∧
      (¬ other → most < n → Completes i s fun t => Closed t p o 0x19 5 0 0 ∧ keeps t) ∧
      (¬ other → n ≤ most → open' ≠ 0 → Completes i s fun t => Closed t p o 0x06 open' 0 0 ∧ keeps t) ∧
      (¬ other → n ≤ most → open' = 0 → data = none → Completes i s fun t => Closed t p o 0x06 1 0 0 ∧ keeps t) ∧
      (∀ b, ¬ other → n ≤ most → open' = 0 → data = some b → let img := padTo n b
        (sha384 img ≠ o.ext.take 48 → Completes i s fun t => Closed t p o 0x19 2 0 0 ∧ keeps t) ∧
        (sha384 img = o.ext.take 48 →
          (∀ d, kind = 0 → s.fwFault p img = some d → Completes i s fun t => Closed t p o 0x19 d 0 0 ∧ keeps t) ∧
          (kind = 1 → configValid img = false → Completes i s fun t => Closed t p o 0x19 1 0 0 ∧ keeps t) ∧
          (kind = 0 → s.fwFault p img = none → Completes i s fun t =>
            t.openOf p o.src = some { o with stage := 1, ext := img } ∧
            (∀ h ∈ s.halves p, t.flash h = { (s.flash h).setInactive [] with staged := false }) ∧ SameMemory s t) ∧
          (kind = 1 → configValid img = true → Completes i s fun t =>
            t.openOf p o.src = some { o with stage := 1, ext := img } ∧ keeps t)))) ∧
    (s.running? p r 0x38 = some o → o.stage = 1 → (s.part p).opens.filter (fun x => x.src == o.src) = [o] →
      ∀ (data : Option (List (BitVec 8))), let kind := bits o.arg2 8 8
      let keeps (t : State) : Prop := t.flash0 = s.flash0 ∧ t.flash1 = s.flash1 ∧ SameMemory s t ∧ SameEngines s t
      (kind = 0 → (Completes (.fwStageFirmware p r data false) s fun t => Closed t p o 0x19 7 0 0 ∧ keeps t) ∧
        Completes (.fwStageFirmware p r data true) s fun t => Closed t p o 0 0 (leAt o.ext 0x10 8) (leAt o.ext 0xC 4) ∧
          (∀ h ∈ s.halves p, t.flash h = { (s.flash h).setInactive o.ext with staged := true }) ∧ SameMemory s t) ∧
      (kind = 1 → (Completes (.fwStageConfig p r data false) s fun t => Closed t p o 0x19 7 0 0 ∧ keeps t) ∧
        Completes (.fwStageConfig p r data true) s fun t => Closed t p o 0 0 0 0 ∧
          (∀ h ∈ s.halves p, t.flash h = { s.flash h with config := o.ext }) ∧ SameMemory s t)) ∧
    (s.readyCmd p r 0x39 o → let now := bits o.arg0 0 1
      let staged := (s.flash (s.mgpOf p)).staged = true
      let u := s.updFlashes p Flash.commit
      (∀ h ∈ s.halves p, (u.flash h).active = 1 - (s.flash h).active ∧ (u.flash h).trial = true ∧
        (u.flash h).attempts = 0 ∧ (u.flash h).staged = false) ∧
      (¬ staged → (now = 0 → Completes (.fwCommit p r) s fun t => Closed t p o 0x19 8 0 0 ∧ t.flash0 = s.flash0 ∧ t.flash1 = s.flash1) ∧
        (now = 1 → Completes (.fwCommitResetNow p r) s fun t => Closed t p o 0x19 8 0 0 ∧ t.flash0 = s.flash0 ∧
          t.flash1 = s.flash1)) ∧
      (staged → (now = 0 → Completes (.fwCommit p r) s fun t => Closed t p o 0 0 0 0 ∧ t.flash0 = u.flash0 ∧
          t.flash1 = u.flash1 ∧ SameMemory s t ∧ SameEngines s t) ∧
        (∀ t, now = 1 → u.recordNow p o = some t → Completes (.fwCommitResetNow p r) s fun v => v = t.warmReset p 2 ∧
          (v.part p).state = .booting ∧ v.rd F.RST_CAUSE_source p = 2 ∧ SameMemory s v)))

/-- KEY_ROTATE and ATTEST complete with the effects of R500–R506. -/
def Obligations.KeysAndReports : Prop :=
  (∀ (p : Fin 2) (r : Fin 65) (storeOk : Bool) (s : State) (o : OpenCmd), s.readyCmd p r 0x30 o →
    let action := bits o.arg0 0 8
    let same (t : State) : Prop := t.vault = s.vault ∧ SameMemory s t ∧ SameEngines s t
    let refused (i : Instr) (d : Nat) : Prop := Completes i s fun t => Closed t p o 0x1A d 0 0 ∧ same t
    let takes (i : Instr) : Prop :=
      (∀ d, s.newKey p o.ext = .error d → refused i d) ∧
      (∀ key, s.newKey p o.ext = .ok key →
        (2 ^ 32 ≤ s.keyGen p + 1 → refused i 8) ∧
        (s.keyGen p + 1 < 2 ^ 32 → storeOk = false → Completes i s fun t => Closed t p o 0x1A 8 0 0 ∧ same t ∧
          t.rd F.SEC_EVT_store_err p = 1) ∧
        (s.keyGen p + 1 < 2 ^ 32 → storeOk = true → Completes i s fun t =>
          Closed t p o 0 0 (s.keyGen p + 1) (leAt (hmacSha256 key (ascii "KCV")) 0 8) ∧ t.cmdKey p = some key ∧
          t.keyGen p = s.keyGen p + 1 ∧ t.cmdKey (1 - p) = s.cmdKey (1 - p) ∧ t.rd F.SEC_EVT_key_change p = 1 ∧
          SameMemory s t ∧ SameEngines s t))
    (action = 0 → let i : Instr := .keyRotateInstall p r storeOk
      (s.cmdKey p ≠ none → refused i 2) ∧
      (s.cmdKey p = none → ¬ (o.src = .mailbox ∧ o.i3c = true) → refused i 3) ∧
      (s.cmdKey p = none → o.src = .mailbox → o.i3c = true → (o.field 1 1).testBit 0 = true → refused i 9) ∧
      (s.cmdKey p = none → o.src = .mailbox → o.i3c = true → (o.field 1 1).testBit 0 = false → takes i)) ∧
    (action = 1 → (s.cmdKey p = none → refused (.keyRotateRotate p r storeOk) 1) ∧
      (s.cmdKey p ≠ none → takes (.keyRotateRotate p r storeOk))) ∧
    (action = 2 → let i : Instr := .keyRotateRelease p r storeOk
      (s.cmdKey p = none → refused i 1) ∧
      (s.cmdKey p ≠ none → storeOk = false → Completes i s fun t => Closed t p o 0x1A 8 0 0 ∧ same t ∧
        t.rd F.SEC_EVT_store_err p = 1) ∧
      (s.cmdKey p ≠ none → storeOk = true → Completes i s fun t => Closed t p o 0 0 0 0 ∧ t.cmdKey p = none ∧
        t.keyGen p = s.keyGen p ∧ t.cmdKey (1 - p) = s.cmdKey (1 - p) ∧ t.rd F.SEC_EVT_key_change p = 1 ∧ SameMemory s t ∧
        SameEngines s t))) ∧
  (∀ (p : Fin 2) (r : Fin 65) (s : State) (o : OpenCmd), s.readyCmd p r 0x31 o →
    let type := bits o.arg0 0 8
    let w := bits o.arg2 0 8
    let place := s.windowPlace p w o.arg1
    let writes (i : Instr) (b : List Byte) : Prop :=
      let d := s.windowDetail p w o.arg1 b.length true
      (d ≠ 0 → Completes i s fun t => Closed t p o 0x06 d 0 0 ∧ t.out = s.out ∧ SameMemory s t ∧ SameEngines s t) ∧
      (d = 0 → Completes i s fun t => Closed t p o 0 0 b.length 0 ∧
        t.out = s.out ++ [.hostWrite p place.1 place.2.1 place.2.2 b] ∧ SameMemory s t ∧ SameEngines s t)
    (type = 0 → let body := s.reportBody p (o.ext.take 32)
      ∃ k, 0 < k ∧ k < p384n ∧ writes (.attestReport p r) (body ++ ecdsaSign (s.part p).aliasKey k (sha384 body))) ∧
    (type = 1 → writes (.attestDeviceidCert p r) s.fuses.devCert) ∧
    (type = 2 → writes (.attestAliasCert p r) (s.part p).aliasCert))

/-- The partition mode commands complete with the effects of R507–R509. -/
def Obligations.PartitionModes : Prop :=
  (∀ (p : Fin 2) (r : Fin 65) (storeOk : Bool) (s : State) (o : OpenCmd), s.readyCmd p r 0x32 o →
    let action := bits o.arg0 0 2
    let v := s.vault
    let full := 2 ^ 32 ≤ v.mc5 + 1
    let refused (i : Instr) (d : Nat) : Prop := Completes i s fun t => Closed t p o 0x1A d 0 0 ∧ t.vault = v ∧
      t.twoPart = s.twoPart ∧ SameMemory s t ∧ SameEngines s t
    let boots (u : State) (q : Nat) : Prop := (u.part q).state = .booting ∧ (u.part q).wipe = true ∧
      u.rd F.RST_CAUSE_kind q = 2
    (action = 0 → let i : Instr := .partitionSplit p r storeOk
      (s.twoPart = true → refused i 7) ∧
      (s.twoPart = false → storeOk = false ∨ full → refused i 8) ∧
      (∀ t, s.twoPart = false → storeOk = true → ¬ full → s.recordNow p o = some t → Completes i s fun u =>
        u.twoPart = true ∧ boots u 0 ∧ boots u 1 ∧ u.vault.key0 = v.key0 ∧ u.vault.key1 = v.key0 ∧
        u.vault.mc2 = max v.mc2 v.mc1 ∧ u.vault.mc4 = max v.mc4 v.mc3 ∧ u.modeDue = true ∧ SameMemory s u)) ∧
    (action = 1 → let i : Instr := .partitionMerge p r storeOk
      let applies := s.twoPart = true ∧ p = 0 ∧ (s.part 1).state = .idle
      (¬ applies → refused i 7) ∧
      (applies → v.consent = false → refused i 6) ∧
      (applies → v.consent = true → storeOk = false ∨ full → refused i 8) ∧
      (∀ t, applies → v.consent = true → storeOk = true → ¬ full → s.recordNow p o = some t → Completes i s fun u =>
        u.twoPart = false ∧ boots u 0 ∧ u.vault.key0 = v.key0 ∧ u.vault.key1 = none ∧ u.vault.consent = false ∧
        u.modeDue = true ∧ SameMemory s u)) ∧
    (action = 2 → let i : Instr := .partitionConsent p r storeOk
      (s.twoPart = false ∨ p = 0 → refused i 7) ∧
      (s.twoPart = true → p = 1 → storeOk = false → refused i 8) ∧
      (s.twoPart = true → p = 1 → storeOk = true → Completes i s fun t => Closed t p o 0 0 0 0 ∧
        t.vault = { v with consent := true } ∧ SameMemory s t ∧ SameEngines s t))) ∧
  (∀ s : State, s.vault.consent = true →
    exec .consentExpiry s = .next { s with vault := { s.vault with consent := false } }) ∧
  (∀ (h : Fin 2) (s : State),
    (s.twoPart = false → exec (.seamSideband h) s = .next s) ∧
    (s.twoPart = true → Completes (.seamSideband h) s fun t =>
      let idle := (s.part h).state == .idle
      let consent := h == 1 && s.vault.consent
      t.rd F.SEC_STS_peer_idle (1 - h) = (if idle then 1 else 0) ∧
      (h = 1 → t.rd F.SEC_STS_consent 0 = if consent then 1 else 0) ∧
      t.out = s.out ++ [.seam h idle consent] ∧
      SameRegs s t [Reg.key .SEC_STS 0 0 0 0, Reg.key .SEC_STS 1 0 0 0] ∧ SameMemory s t ∧ SameEngines s t))

/-- The fault log, its ring and the ageing log's readback complete with the effects of R470–R474 and R492. -/
def Obligations.FaultLog : Prop :=
  (∀ (p : Fin 2) (x : Raised) (s : State), s.mafinRuns p = true → s.nextRaised p = some x →
    Completes (.faultRecordLog p) s fun t => let seq := s.rd F.FLT_STS_last_seq p + 1
      (∃ l d, (t.part p).log = l ++ [d] ∧ d.cls = x.cls ∧ d.seq = seq ∧ d.written = false ∧
        d.bytes = s.recordBytes p x seq (s.part p).lost ∧
        ((s.part p).log.length < 256 → l = (s.part p).log)) ∧
      (t.part p).raised = removeAt (s.part p).raised ((s.part p).raised.findIdx (· == x)) ∧
      t.rd F.FLT_STS_last_seq p = seq % 2 ^ 32 ∧ t.rd F.FLT_EVT_record p = 1 ∧
      (x.cls ≠ 0 → t.rd F.FLT_EVT_record_hi p = 1) ∧
      ((s.part p).log.length < 256 → (t.part p).lost = 0) ∧ SameMemory s t ∧ SameEngines s t) ∧
  (∀ (p : Fin 2) (x : Logged) (s : State), let k := s.rd F.FLT_RING_STS_written p
    let n := 2 ^ s.rd F.FLT_RING_CFG_log_size p
    let c := s.rd F.FLT_RING_CFG_conn p
    (s.part p).log.find? (fun y => !y.written) = some x → s.rd F.FLT_RING_CFG_enable p = 1 → (s.conn p c).up = true →
    (k + 2 ^ 32 - s.rd F.FLT_RING_STS_host_consumed p) % 2 ^ 32 < n →
    Completes (.faultRingWrite p) s fun t =>
      t.out = s.out ++ [.hostWrite p c (s.rd F.FLT_RING_CFG_rkey p) ((s.reg .FLT_RING_ADDR p).toNat + 64 * (k % n))
        (ringRecord x.bytes (1 - k / n % 2))] ∧
      t.rd F.FLT_RING_STS_written p = (k + 1) % 2 ^ 32 ∧
      (t.part p).log = updFirst (fun y => y.seq == x.seq) (fun y => { y with written := true }) (s.part p).log ∧
      SameRegs s t [Reg.key .FLT_RING_STS p 0 0 0] ∧ SameMemory s t ∧ SameEngines s t) ∧
  (∀ (p : Fin 2) (s : State), let size := s.rd F.FLT_RING_CFG_log_size p
    (s.rd F.FLT_RING_CFG_enable p = 1 → exec (.faultRingEnable p) s = .next s) ∧
    (s.rd F.FLT_RING_CFG_enable p = 0 → Completes (.faultRingEnable p) s fun t =>
      (16 < size → t.rd F.FLT_RING_CFG_enable p = 0) ∧
      (size ≤ 16 → t.rd F.FLT_RING_CFG_enable p = 1 ∧ t.reg .FLT_RING_STS p = 0) ∧
      SameRegs s t [Reg.key .FLT_RING_CFG p 0 0 0, Reg.key .FLT_RING_STS p 0 0 0] ∧ SameMemory s t ∧ SameEngines s t)) ∧
  (∀ (p : Fin 2) (n : BitVec 32) (s : State), let H := s.rd F.FLT_RING_STS_host_consumed p
    let good := (n.toNat + 2 ^ 32 - H) % 2 ^ 32 ≤ (s.rd F.FLT_RING_STS_written p + 2 ^ 32 - H) % 2 ^ 32
    (¬ good → exec (.faultRingConsumed p n) s = .next s) ∧
    (good → Completes (.faultRingConsumed p n) s fun t => t.rd F.FLT_RING_STS_host_consumed p = n.toNat ∧
      t.rd F.FLT_RING_STS_written p = s.rd F.FLT_RING_STS_written p ∧ SameRegs s t [Reg.key .FLT_RING_STS p 0 0 0] ∧
      SameMemory s t ∧ SameEngines s t)) ∧
  (∀ (p : Fin 2) (v : Word) (s : State),
    (Completes (.ageLogSelect p v) s fun t => t.reg .AGE_LOG_SEL p = BitVec.ofNat 64 (bits v.toNat 0 19) ∧
      t.rd F.AGE_LOG_SEL_ready p = 0 ∧ (t.part p).ageSel = true ∧ SameRegs s t [Reg.key .AGE_LOG_SEL p 0 0 0] ∧
      SameMemory s t ∧ SameEngines s t) ∧
    ((s.part p).ageSel = true → Completes (.ageLogReady p) s fun t => t.rd F.AGE_LOG_SEL_ready p = 1 ∧
      (t.part p).ageSel = false ∧
      (∀ i, i < 4 → (t.reg .AGE_LOG_DATA p i).toNat =
        match (s.ageEntries p (s.rd F.AGE_LOG_SEL_part p == 1))[s.rd F.AGE_LOG_SEL_index p]? with
        | some e => leAt e.bytes (8 * i) 8
        | none => 0) ∧
      SameMemory s t ∧ SameEngines s t))

/-- The integrity events complete with the effects of R465, R466, R482 and R483. -/
def Obligations.IntegrityAndQuarantine : Prop :=
  (∀ (t : Fin 16) (a : Nat) (rest : List Nat) (s : State), tabGet listDefault s.sramFix t = a :: rest →
    Completes (.sramRewrite t) s fun u => a ∉ tabGet listDefault u.sramFix t ∧
      ((ueWords (s.sramSide a).err).isEmpty = true → (u.sramSide a).err = 0) ∧ SameMemory s u ∧ SameEngines s u) ∧
  (∀ (t : Fin 16) (g : Fin 1572864) (flip : BitVec 600) (s : State),
    let a := sramBase + t * tileBytes + 64 * g
    let err := (s.sramSide a).err ^^^ flip
    (ceWords err = [] → ueWords err = [] → Completes (.sramScrub t g flip) s fun u =>
      u.regs = s.regs ∧ (u.sramSide a).err = err ∧ SameMemory s u ∧ SameEngines s u) ∧
    (ceWords err ≠ [] → ueWords err = [] → Completes (.sramScrub t g flip) s fun u =>
      u.rd F.SRM_STS_ce_cnt 0 t = (s.rd F.SRM_STS_ce_cnt 0 t + (ceWords err).length) % 2 ^ F.SRM_STS_ce_cnt.width ∧
      a ∈ tabGet listDefault u.sramFix t ∧ SameMemory s u ∧ SameEngines s u) ∧
    (ueWords err ≠ [] → (s.sramSide a).poison = false → Completes (.sramScrub t g flip) s fun u =>
      u.rd F.SRM_STS_ue_cnt 0 t = (s.rd F.SRM_STS_ue_cnt 0 t + 1) % 2 ^ F.SRM_STS_ue_cnt.width ∧
      (u.sramSide a).poison = true ∧ SameMemory s u ∧ SameEngines s u)) ∧
  (∀ (p : Fin 2) (unit : Fin 36) (s : State), let limit := s.rd F.FLT_CTL_ue_limit p
    let half := if unit.val < 16 then unit.val / 8 else (unit.val - 16) / 10
    let recent := (tabGet listDefault s.ueTicks unit).filter fun x => decide ((s.part p).gtc < x + 3600000 * s.msTicks)
    s.partOfHalf half = p.val → limit ≠ 0 → limit < recent.length → (s.part p).state ≠ .quarantined → (s.part p).state ≠ .cold →
    Completes (.ueLimit p unit) s fun u => (u.part p).state = .quarantined ∧ u.rd F.FLT_STS_q_cause p = 3 ∧
      u.rd F.FLT_EVT_quarantine p = 1 ∧ (∃ x ∈ (u.part p).raised, x.cls = 1 ∧ x.kind = 7 ∧ x.unit = unit.val) ∧
      SameMemory s u) ∧
  (∀ (p : Fin 2) (s : State), (s.part p).state = .quarantined → (∃ q ∈ s.portsOf p, (s.port q).dark = false) →
    Completes (.quarantineDark p) s fun u => ∀ q ∈ s.portsOf p, u.portState q = ptDark ∧ (u.port q).dark = true)

/-- The ageing, thermal and power events complete with the effects of R485–R490 and R515–R525. -/
def Obligations.AgeingAndPower : Prop :=
  (∀ (unit : Fin 640) (v : BitVec 16) (s : State), let d := s.die unit
    (unit.val < 40 → Completes (.ageingSample 0 unit v) s fun t =>
      t.die unit = { d with drift := v.toNat, driftSum := d.driftSum + sext 16 v.toNat, driftN := d.driftN + 1 } ∧
      t.regs = s.regs ∧ SameMemory s t ∧ SameEngines s t) ∧
    (unit.val < 36 → v.toNat < 64 → Completes (.ageingSample 1 unit v) s fun t =>
      (t.die unit).slack = v.toNat ∧ (t.die unit).sMin = some (min (d.sMin.getD v.toNat) v.toNat) ∧
      t.regs = s.regs ∧ SameMemory s t ∧ SameEngines s t) ∧
    Completes (.ageingSample 2 unit v) s fun t => (t.chan unit).eye = some v.toNat ∧
      (t.chan unit).eyeLow = some (min ((s.chan unit).eyeLow.getD v.toNat) v.toNat) ∧ t.regs = s.regs ∧ SameMemory s t ∧
      SameEngines s t) ∧
  (∀ s : State, (∃ h, h < 2 ∧ s.mafinRuns (s.partOfHalf h) = true) → Completes .ageingDailyEntry s fun t =>
    t.day = s.day + 1 ∧ t.regs = s.regs ∧ SameMemory s t ∧ SameEngines s t) ∧
  (∀ (p : Fin 2) (r : Fin 65) (s : State) (o : OpenCmd), s.readyCmd p r 0x34 o → Completes (.replanMargins p r) s fun t =>
    let gen := (s.rd F.AGE_PLAN_generation p + 1) % 2 ^ 32
    t.rd F.AGE_PLAN_generation p = gen ∧
    Closed t p o 0 0 (t.rd F.AGE_PLAN_changed p + t.rd F.AGE_PLAN_at_limit p * 2 ^ 8) gen ∧ SameMemory s t ∧ SameEngines s t) ∧
  (∀ (u : Fin 60) (c : BitVec 12) (s : State), let p := s.partOfSensor u
    let was := s.temp u
    let warn := 16 * warnTemp u
    let shut := 16 * shutTemp u
    (s.part p).state ≠ .cold →
    Completes (.dieTempSample u c) s fun t =>
      (t.temp u).now = c.toNat ∧ (t.temp u).max = max was.max c.toNat ∧
      (was.warn = false → warn ≤ c.toNat → t.rd F.PWR_EVT_temp_warn p = 1 ∧ (t.temp u).warn = true) ∧
      (shut ≤ c.toNat → was.now < shut → (t.part p).state = .quarantined ∧ t.rd F.PWR_EVT_temp_shut p = 1 ∧
        ((s.part p).state ≠ .quarantined → t.rd F.FLT_STS_q_cause p = 4)) ∧
      (c.toNat < shut → (t.part p).state = (s.part p).state) ∧
      (u.val < 40 → 2000 ≤ c.toNat → (if sensorHalf u = 1 then t.trip1 else t.trip0) = true) ∧ SameMemory s t) ∧
  (∀ (k : Fin 10) (mv : BitVec 16) (s : State), (s.part 0).state ≠ .cold → railOk k mv.toNat = false →
    Completes (.railFault k mv) s fun t => (t.rail k).faulted = true ∧ (t.rail k).mv = mv.toNat ∧ (t.rail k).inWin = false ∧
      (∀ p ∈ s.parts, t.rd F.PWR_EVT_rail_fault p = 1 ∧ ((s.part p).state ≠ .cold → (t.part p).state = .quarantined)) ∧
      SameMemory s t) ∧
  (∀ (w : BitVec 16) (rails : List (BitVec 16 × BitVec 16)) (s : State), (s.part 0).state ≠ .cold → rails.length = 10 →
    Completes (.powerSample w rails) s fun t =>
      t.rd F.PWR_STS_pkg_w 0 = w.toNat ∧ t.rd F.PWR_STS_pkg_max_w 0 = max w.toNat (s.rd F.PWR_STS_pkg_max_w 0) ∧
      (∀ k, k < 10 → (t.rail k).mv = ((rails.getD k (0, 0)).1).toNat ∧ (t.rail k).amps = ((rails.getD k (0, 0)).2).toNat) ∧
      (s.powerLimitW < w.toNat → (∀ p ∈ s.parts, s.running p = true → s.schedStopped p = false →
          t.rd F.SCH_EVT_slip p = 1) ∧
        ((∃ p ∈ s.parts, s.running p = false) → t.rd F.PWR_STS_throttle 0 = 1)) ∧
      (100 * w.toNat ≤ 97 * s.powerLimitW → t.rd F.PWR_STS_throttle 0 = 0 ∧ t.powerOver = false) ∧ SameMemory s t ∧
      SameEngines s t)

/-- The paths to the registers and the debug window complete with the effects of R405, R428–R430 and R453–R456. -/
def Obligations.RegisterPaths : Prop :=
  (∀ (p : Fin 2) (off : BitVec 26) (v : Word) (i3c : Bool) (s : State) (c : Instr),
    c = .registerWrite p off v i3c ∨ (c = .flagClear p off v ∧ i3c = false ∧ clearsFlag off.toNat v = true) ∨
      (c = .lockSet p off v ∧ i3c = false ∧ setsLock off.toNat v = true) →
    off.toNat % 8 = 0 →
    (decodeOffset off.toNat = none → exec c s = .next s) ∧
    (∀ r i j k, decodeOffset off.toNat = some (r, i, j, k) →
      (s.hasPart p = false ∨ s.seesReg p r i j = false → exec c s = .next s) ∧
      (s.hasPart p = true → s.seesReg p r i j = true →
        exec c s = .next (s.writeReg p r i j k v i3c) ∧
        (r ∉ [.BRG_CTL, .MTG_CTL, .OE_CTL, .OE_RINGTAB_DATA, .HIF_CR_ADDR, .HIF_CQ_ADDR, .HIF_CR_CFG, .HIF_CQ_CFG,
            .HIF_MBOX_DESC, .HIF_MBOX_CTL, .BOOT_CTL, .DBG_APER_BASE, .FLT_RING_ADDR, .FLT_RING_CFG, .FLT_RING_STS,
            .AGE_LOG_SEL] →
          Completes c s fun t =>
            (∀ f ∈ (regInfo r).fields,
              let was := bits (s.reg r p i j k).toNat f.lo f.width
              let new := bits v.toNat f.lo f.width
              bits (t.reg r p i j k).toNat f.lo f.width = match f.access with
                | .ro => was
                | .rw => new
                | .rwl => if s.regLocked p r i j then was else new
                | .w1c => was &&& (2 ^ f.width - 1 - new)
                | .w1s => was ||| new) ∧
            (∀ b, b < 64 → (∀ f ∈ (regInfo r).fields, ¬ (f.lo ≤ b ∧ b < f.lo + f.width)) →
              (t.reg r p i j k).toNat.testBit b = (s.reg r p i j k).toNat.testBit b) ∧
            SameRegs s t [Reg.key r p i j k] ∧ SameMemory s t ∧ SameEngines s t ∧ t.part0 = s.part0 ∧ t.part1 = s.part1)))) ∧
  (∀ (p : Fin 2) (off : BitVec 26) (v : Word) (s : State), 0x2000000 ≤ off.toNat → off.toNat % 8 = 0 → s.hasPart p = true →
    s.dbgServed p = false → exec (.debugRead p off) s = .next s ∧ exec (.debugWrite p off v) s = .next s) ∧
  (∀ (p : Fin 2) (off : BitVec 26) (s : State), 0x2000000 ≤ off.toNat → off.toNat % 8 = 0 →
    (s.hasPart p = true → s.dbgServed p = true) →
    (Completes (.debugRead p off) s fun t => SameMemory s t ∧ SameEngines s t ∧
      SameRegs s t [Reg.key .DBG_STS p 0 0 0] ∧ ∃ v, t.out = s.out ++ [.regValue p off.toNat v]) ∧
    (s.hasPart p = false → exec (.debugRead p off) s = .next (s.emit (.regValue p off.toNat 0))) ∧
    (0x3000000 ≤ off.toNat → s.hasPart p = true → let n := (off.toNat - 0x3000000) / 0x40000
      exec (.debugRead p off) s = .next (s.emit (.regValue p off.toNat
        (if s.partOfCore n = p.val then BitVec.ofNat 64 ((s.core n).word ((off.toNat - 0x3000000) % 0x40000)) else 0)))) ∧
    (∀ v : Word, s.hasPart p = true →
      (0x3000000 ≤ off.toNat → let n := (off.toNat - 0x3000000) / 0x40000
        (s.partOfCore n ≠ p.val → exec (.debugWrite p off v) s = .next s) ∧
        (s.partOfCore n = p.val → s.dbgEngineOk p n = true → Completes (.debugWrite p off v) s fun t =>
          t.core n = (s.core n).setWord ((off.toNat - 0x3000000) % 0x40000) v.toNat ∧
          (∀ m, m ≠ n → t.core m = s.core m) ∧ t.regs = s.regs ∧ SameMemory s t) ∧
        (s.partOfCore n = p.val → s.dbgEngineOk p n = false → Completes (.debugWrite p off v) s fun t =>
          t.rd F.BOOT_EVT_dbg_refused p = 1 ∧ SameMemory s t ∧ SameEngines s t)) ∧
      (off.toNat < 0x3000000 → s.rd F.DBG_APER_SEL_space p = 0 →
        let a := s.rd F.DBG_APER_BASE_base p + (off.toNat - 0x2000000)
        (s.dbgMemOk p a = false → Completes (.debugWrite p off v) s fun t =>
          t.rd F.BOOT_EVT_dbg_refused p = 1 ∧ SameMemory s t ∧ SameEngines s t) ∧
        (s.dbgMemOk p a = true → a % 8 = 0 → s.home p a = .sram a → s.home p (a / 64 * 64) = .sram (a / 64 * 64) →
          (s.sramRead (a / 64 * 64)).2.ok = true → Completes (.debugWrite p off v) s fun t =>
            StoresBytes s t a (toLE 8 v.toNat) ∧ SameEngines s t)))) ∧
  (∀ (h : Fin 2) (bytes : List (BitVec 8)) (s : State) (n op : Nat) (i : Instr),
    (n = 14 ∧ op = 2 ∧ i = .i3cRegisterWrite h bytes) ∨ (n = 6 ∧ op = 1 ∧ i = .i3cReadRequest h bytes) →
    s.i3cAnswers h = true → bytes.length = n → leAt bytes 0 1 = op →
    let crc := crc8 (bytes.take (n - 1)) = leAt bytes (n - 1) 1
    let off := leAt bytes 1 4
    let inside := off % 8 = 0 ∧ off < 2 ^ 26
    let told (k : Nat) : Prop := Completes i s fun t => (t.i3c h).status = k ∧ (t.i3c h).value = (s.i3c h).value ∧
      t.regs = s.regs ∧ t.part0 = s.part0 ∧ t.part1 = s.part1 ∧ t.out = s.out ∧ SameMemory s t ∧ SameEngines s t
    (s.i3cBusy h = true → told 3) ∧
    (s.i3cBusy h = false → ¬ crc → told 1) ∧
    (s.i3cBusy h = false → crc → ¬ inside → told 2) ∧
    (s.i3cBusy h = false → crc → inside →
      (op = 2 → exec i s = .next ((s.winWrite (s.partOfHalf h) off (BitVec.ofNat 64 (leAt bytes 5 8)) true).updI3c h
        fun t => { t with value := 0, status := 0 })) ∧
      (op = 1 → let r := s.winRead (s.partOfHalf h) off
        exec i s = .next (r.1.updI3c h fun t => { t with value := r.2, status := 0 })))) ∧
  (∀ (h : Fin 2) (addr : BitVec 7) (s : State), s.i3cAnswers h = true →
    let st := if s.i3cBusy h then 3 else (s.i3c h).status
    exec (.i3cPrivateRead h) s = .next (s.emit
      (.i3cAnswer h (s.i3c h).value st (crc8 (toLE 8 (s.i3c h).value.toNat ++ toLE 1 st)))) ∧
    Completes (.entdaa h addr) s fun t => (t.i3c h).dyn = some addr.toNat ∧ (t.i3c h).value = (s.i3c h).value ∧
      (t.i3c h).status = (s.i3c h).status ∧ t.regs = s.regs ∧ SameMemory s t ∧ SameEngines s t)
end

