-- ==== Sys2Proof/Laws/Tables.lean ====
section
/-! SUPPORT. The laws of the sparse tables and of bit fields: read after write, and the canonical form that every write
keeps. No law asks for the canonical form. -/

namespace Sys2Proof.Laws

open Sys2Proof.Machine

/-! ### Tables -/

theorem tabFind_tabDel {α : Type} (t : Tab α) (k q : Nat) :
    tabFind (tabDel t k) q = if q = k then none else tabFind t q := by
  induction t with
  | nil => simp [tabDel, tabFind]
  | cons x t ih =>
    obtain ⟨a, v⟩ := x
    by_cases h : k = a <;> by_cases g : q = k <;> by_cases e : q = a <;> simp_all [tabDel, tabFind]

theorem tabFind_tabIns {α : Type} (t : Tab α) (k q : Nat) (x : α) :
    tabFind (tabIns t k x) q = if q = k then some x else tabFind t q := by
  induction t with
  | nil => simp [tabIns, tabFind]
  | cons y t ih =>
    obtain ⟨a, v⟩ := y
    unfold tabIns
    split
    · simp only [tabFind]
    · split
      · next h => subst h; by_cases g : q = k <;> simp [tabFind, g]
      · by_cases g : q = k <;> by_cases e : q = a <;> simp_all [tabFind]

/-- Reading a table after a write: the value written at the key, the old value elsewhere. -/
theorem tabGet_tabSet {α : Type} [DecidableEq α] (d : Nat → α) (t : Tab α) (k q : Nat) (v : α) :
    tabGet d (tabSet d t k v) q = if q = k then v else tabGet d t q := by
  unfold tabGet tabSet
  by_cases h : v = d k <;> by_cases g : q = k <;> simp_all [tabFind_tabDel, tabFind_tabIns]

@[simp] theorem tabGet_tabSet_same {α : Type} [DecidableEq α] (d : Nat → α) (t : Tab α) (k : Nat) (v : α) :
    tabGet d (tabSet d t k v) k = v := by simp [tabGet_tabSet]

theorem tabGet_tabSet_ne {α : Type} [DecidableEq α] (d : Nat → α) (t : Tab α) (k q : Nat) (v : α) (h : q ≠ k) :
    tabGet d (tabSet d t k v) q = tabGet d t q := by simp [tabGet_tabSet, h]

theorem tabGet_tabUpd {α : Type} [DecidableEq α] (d : Nat → α) (t : Tab α) (k q : Nat) (f : α → α) :
    tabGet d (tabUpd d t k f) q = if q = k then f (tabGet d t k) else tabGet d t q := by
  simp [tabUpd, tabGet_tabSet]

@[simp] theorem tabGet_tabUpd_same {α : Type} [DecidableEq α] (d : Nat → α) (t : Tab α) (k : Nat) (f : α → α) :
    tabGet d (tabUpd d t k f) k = f (tabGet d t k) := by simp [tabGet_tabUpd]

theorem tabGet_tabUpd_ne {α : Type} [DecidableEq α] (d : Nat → α) (t : Tab α) (k q : Nat) (f : α → α) (h : q ≠ k) :
    tabGet d (tabUpd d t k f) q = tabGet d t q := by simp [tabGet_tabUpd, h]

/-! ### The canonical form -/

theorem tabWfFrom_mono {α : Type} [DecidableEq α] (d : Nat → α) {a b : Nat} (h : a ≤ b) :
    ∀ {t : Tab α}, tabWfFrom d b t = true → tabWfFrom d a t = true
  | [], _ => rfl
  | (k, v) :: t, w => by
    simp only [tabWfFrom, Bool.and_eq_true, decide_eq_true_eq] at w ⊢
    exact ⟨⟨by omega, w.1.2⟩, w.2⟩

theorem tabWfFrom_tabIns {α : Type} [DecidableEq α] (d : Nat → α) (q : Nat) (x : α) (hx : x ≠ d q) :
    ∀ (t : Tab α) (lo : Nat), lo ≤ q → tabWfFrom d lo t = true → tabWfFrom d lo (tabIns t q x) = true
  | [], lo, h, _ => by simp [tabIns, tabWfFrom, h, hx]
  | (k, v) :: t, lo, h, w => by
    simp only [tabWfFrom, Bool.and_eq_true, decide_eq_true_eq] at w
    unfold tabIns
    split
    · next g => simp [tabWfFrom, h, hx, w.1.2, w.2]; omega
    · split
      · next g => subst g; simp [tabWfFrom, h, hx, w.2]
      · next g e =>
        have := tabWfFrom_tabIns d q x hx t (k + 1) (by omega) w.2
        simp [tabWfFrom, w.1.1, w.1.2, this]

theorem tabWfFrom_tabDel {α : Type} [DecidableEq α] (d : Nat → α) (q : Nat) :
    ∀ (t : Tab α) (lo : Nat), tabWfFrom d lo t = true → tabWfFrom d lo (tabDel t q) = true
  | [], _, _ => rfl
  | (k, v) :: t, lo, w => by
    simp only [tabWfFrom, Bool.and_eq_true, decide_eq_true_eq] at w
    have ih := tabWfFrom_tabDel d q t (k + 1) w.2
    unfold tabDel
    split
    · exact tabWfFrom_mono d (by omega) ih
    · simp [tabWfFrom, w.1.1, w.1.2, ih]

/-- Every write keeps a table in its canonical form. -/
theorem tabWf_tabSet {α : Type} [DecidableEq α] (d : Nat → α) (t : Tab α) (k : Nat) (v : α) (w : tabWf d t = true) :
    tabWf d (tabSet d t k v) = true := by
  unfold tabSet
  split
  · exact tabWfFrom_tabDel d k t 0 w
  · next h => exact tabWfFrom_tabIns d k v h t 0 (Nat.zero_le _) w

theorem tabWf_tabUpd {α : Type} [DecidableEq α] (d : Nat → α) (t : Tab α) (k : Nat) (f : α → α) (w : tabWf d t = true) :
    tabWf d (tabUpd d t k f) = true := tabWf_tabSet d t k _ w

theorem tabWfFrom_filter {α : Type} [DecidableEq α] (d : Nat → α) (p : Nat × α → Bool) :
    ∀ (t : Tab α) (lo : Nat), tabWfFrom d lo t = true → tabWfFrom d lo (t.filter p) = true
  | [], _, _ => rfl
  | (k, v) :: t, lo, w => by
    simp only [tabWfFrom, Bool.and_eq_true, decide_eq_true_eq] at w
    have ih := tabWfFrom_filter d p t (k + 1) w.2
    simp only [List.filter_cons]
    split
    · simp [tabWfFrom, w.1.1, w.1.2, ih]
    · exact tabWfFrom_mono d (by omega) ih

/-- A table of which some entries are unlisted stays in its canonical form. -/
theorem tabWf_filter {α : Type} [DecidableEq α] (d : Nat → α) (t : Tab α) (p : Nat × α → Bool) (w : tabWf d t = true) :
    tabWf d (t.filter p) = true := tabWfFrom_filter d p t 0 w

/-! ### Bit fields -/

theorem bits_lt (x lo w : Nat) : bits x lo w < 2 ^ w := Nat.mod_lt _ (Nat.two_pow_pos w)

theorem testBit_bits (x lo w i : Nat) : (bits x lo w).testBit i = (decide (i < w) && x.testBit (lo + i)) := by
  simp [bits, Nat.testBit_mod_two_pow, Nat.testBit_shiftRight]

/-- A number with a field replaced, from its parts above, in and below the field. -/
theorem putBits_eq (x lo w v : Nat) :
    putBits x lo w v = (x >>> (lo + w)) * 2 ^ (lo + w) + (v % 2 ^ w) * 2 ^ lo + x % 2 ^ lo := by
  have h1 : x = 2 ^ lo * (x / 2 ^ lo) + x % 2 ^ lo := (Nat.div_add_mod x (2 ^ lo)).symm
  have h2 : x / 2 ^ lo = 2 ^ w * (x / 2 ^ lo / 2 ^ w) + x / 2 ^ lo % 2 ^ w := (Nat.div_add_mod _ _).symm
  have h3 : x / 2 ^ (lo + w) = x / 2 ^ lo / 2 ^ w := by rw [Nat.pow_add, Nat.div_div_eq_div_mul]
  unfold putBits bits
  rw [Nat.shiftRight_eq_div_pow, Nat.shiftRight_eq_div_pow, h3]
  generalize x / 2 ^ lo / 2 ^ w = hi at *
  generalize x / 2 ^ lo % 2 ^ w = mid at *
  generalize x % 2 ^ lo = low at *
  rw [h2] at h1
  have e : 2 ^ lo * (2 ^ w * hi + mid) = hi * 2 ^ (lo + w) + mid * 2 ^ lo := by
    rw [Nat.pow_add, Nat.mul_add, Nat.mul_comm (2 ^ lo) mid]
    congr 1
    rw [Nat.mul_comm hi, Nat.mul_assoc]
  rw [e] at h1
  omega

theorem testBit_putBits (x lo w v i : Nat) :
    (putBits x lo w v).testBit i = if lo ≤ i ∧ i < lo + w then v.testBit (i - lo) else x.testBit i := by
  rw [putBits_eq, Nat.add_assoc]
  have hlow : (v % 2 ^ w) * 2 ^ lo + x % 2 ^ lo < 2 ^ (lo + w) := by
    have a : v % 2 ^ w + 1 ≤ 2 ^ w := Nat.mod_lt _ (Nat.two_pow_pos w)
    have b : x % 2 ^ lo < 2 ^ lo := Nat.mod_lt _ (Nat.two_pow_pos lo)
    have c : (v % 2 ^ w + 1) * 2 ^ lo ≤ 2 ^ w * 2 ^ lo := Nat.mul_le_mul_right _ a
    rw [Nat.add_mul, Nat.one_mul, ← Nat.pow_add, Nat.add_comm w lo] at c
    omega
  have hb : x % 2 ^ lo < 2 ^ lo := Nat.mod_lt _ (Nat.two_pow_pos lo)
  rw [Nat.mul_comm (x >>> (lo + w)), Nat.testBit_two_pow_mul_add _ hlow]
  by_cases h : i < lo + w
  · rw [if_pos h, Nat.mul_comm, Nat.testBit_two_pow_mul_add _ hb]
    by_cases g : i < lo
    · have : ¬ (lo ≤ i ∧ i < lo + w) := by omega
      simp [g, this, Nat.testBit_mod_two_pow]
    · have : lo ≤ i ∧ i < lo + w := by omega
      have k : i - lo < w := by omega
      simp [g, this, k, Nat.testBit_mod_two_pow]
  · have : ¬ (lo ≤ i ∧ i < lo + w) := by omega
    rw [if_neg h, if_neg this, Nat.testBit_shiftRight]
    congr 1
    omega

/-- A field reads back as written, cut to its width. -/
@[simp] theorem bits_putBits_same (x lo w v : Nat) : bits (putBits x lo w v) lo w = v % 2 ^ w := by
  apply Nat.eq_of_testBit_eq
  intro i
  simp only [testBit_bits, testBit_putBits, Nat.testBit_mod_two_pow]
  by_cases h : i < w
  · have : lo ≤ lo + i ∧ lo + i < lo + w := by omega
    simp [h]
  · simp [h]

/-- Writing a field leaves a disjoint field as it was. -/
theorem bits_putBits_disjoint (x lo w v lo' w' : Nat) (h : lo' + w' ≤ lo ∨ lo + w ≤ lo') :
    bits (putBits x lo w v) lo' w' = bits x lo' w' := by
  apply Nat.eq_of_testBit_eq
  intro i
  simp only [testBit_bits, testBit_putBits]
  by_cases g : i < w'
  · have : ¬ (lo ≤ lo' + i ∧ lo' + i < lo + w) := by omega
    simp [g, this]
  · simp [g]

/-- A field inside the low n bits is not changed by cutting to n bits. -/
theorem bits_mod (x lo w n : Nat) (h : lo + w ≤ n) : bits (x % 2 ^ n) lo w = bits x lo w := by
  apply Nat.eq_of_testBit_eq
  intro i
  simp only [testBit_bits, Nat.testBit_mod_two_pow]
  by_cases g : i < w
  · have : lo + i < n := by omega
    simp [g, this]
  · simp [g]

end Sys2Proof.Laws
end

