-- ==== Sys2Proof/Laws/State.lean ====
section
/-! SUPPORT. What each named update of State leaves as it was, field by field, and what each view of State reads after
the update that writes it. -/

namespace Sys2Proof.Laws

open Sys2Proof.Machine

/-! ### A choice between two states -/

@[simp ↓] theorem ite_twoPart (c : Prop) {_ : Decidable c} (a b : State) :
    (if c then a else b).twoPart = if c then a.twoPart else b.twoPart := apply_ite State.twoPart c a b
@[simp ↓] theorem ite_straps (c : Prop) {_ : Decidable c} (a b : State) :
    (if c then a else b).straps = if c then a.straps else b.straps := apply_ite State.straps c a b
@[simp ↓] theorem ite_regs (c : Prop) {_ : Decidable c} (a b : State) :
    (if c then a else b).regs = if c then a.regs else b.regs := apply_ite State.regs c a b
@[simp ↓] theorem ite_mem (c : Prop) {_ : Decidable c} (a b : State) :
    (if c then a else b).mem = if c then a.mem else b.mem := apply_ite State.mem c a b
@[simp ↓] theorem ite_sram (c : Prop) {_ : Decidable c} (a b : State) :
    (if c then a else b).sram = if c then a.sram else b.sram := apply_ite State.sram c a b
@[simp ↓] theorem ite_hbmSide (c : Prop) {_ : Decidable c} (a b : State) :
    (if c then a else b).hbmSide = if c then a.hbmSide else b.hbmSide := apply_ite State.hbmSide c a b
@[simp ↓] theorem ite_hbmUsed (c : Prop) {_ : Decidable c} (a b : State) :
    (if c then a else b).hbmUsed = if c then a.hbmUsed else b.hbmUsed := apply_ite State.hbmUsed c a b
@[simp ↓] theorem ite_sides (c : Prop) {_ : Decidable c} (a b : State) :
    (if c then a else b).sides = if c then a.sides else b.sides := apply_ite State.sides c a b
@[simp ↓] theorem ite_cores (c : Prop) {_ : Decidable c} (a b : State) :
    (if c then a else b).cores = if c then a.cores else b.cores := apply_ite State.cores c a b
@[simp ↓] theorem ite_gathers (c : Prop) {_ : Decidable c} (a b : State) :
    (if c then a else b).gathers = if c then a.gathers else b.gathers := apply_ite State.gathers c a b
@[simp ↓] theorem ite_chans (c : Prop) {_ : Decidable c} (a b : State) :
    (if c then a else b).chans = if c then a.chans else b.chans := apply_ite State.chans c a b
@[simp ↓] theorem ite_ports (c : Prop) {_ : Decidable c} (a b : State) :
    (if c then a else b).ports = if c then a.ports else b.ports := apply_ite State.ports c a b
@[simp ↓] theorem ite_oes (c : Prop) {_ : Decidable c} (a b : State) :
    (if c then a else b).oes = if c then a.oes else b.oes := apply_ite State.oes c a b
@[simp ↓] theorem ite_colls (c : Prop) {_ : Decidable c} (a b : State) :
    (if c then a else b).colls = if c then a.colls else b.colls := apply_ite State.colls c a b
@[simp ↓] theorem ite_rings (c : Prop) {_ : Decidable c} (a b : State) :
    (if c then a else b).rings = if c then a.rings else b.rings := apply_ite State.rings c a b
@[simp ↓] theorem ite_heaters (c : Prop) {_ : Decidable c} (a b : State) :
    (if c then a else b).heaters = if c then a.heaters else b.heaters := apply_ite State.heaters c a b
@[simp ↓] theorem ite_dies (c : Prop) {_ : Decidable c} (a b : State) :
    (if c then a else b).dies = if c then a.dies else b.dies := apply_ite State.dies c a b
@[simp ↓] theorem ite_preBias (c : Prop) {_ : Decidable c} (a b : State) :
    (if c then a else b).preBias = if c then a.preBias else b.preBias := apply_ite State.preBias c a b
@[simp ↓] theorem ite_pfc (c : Prop) {_ : Decidable c} (a b : State) :
    (if c then a else b).pfc = if c then a.pfc else b.pfc := apply_ite State.pfc c a b
@[simp ↓] theorem ite_routers (c : Prop) {_ : Decidable c} (a b : State) :
    (if c then a else b).routers = if c then a.routers else b.routers := apply_ite State.routers c a b
@[simp ↓] theorem ite_sramFix (c : Prop) {_ : Decidable c} (a b : State) :
    (if c then a else b).sramFix = if c then a.sramFix else b.sramFix := apply_ite State.sramFix c a b
@[simp ↓] theorem ite_ueTicks (c : Prop) {_ : Decidable c} (a b : State) :
    (if c then a else b).ueTicks = if c then a.ueTicks else b.ueTicks := apply_ite State.ueTicks c a b
@[simp ↓] theorem ite_held (c : Prop) {_ : Decidable c} (a b : State) :
    (if c then a else b).held = if c then a.held else b.held := apply_ite State.held c a b
@[simp ↓] theorem ite_fuses (c : Prop) {_ : Decidable c} (a b : State) :
    (if c then a else b).fuses = if c then a.fuses else b.fuses := apply_ite State.fuses c a b
@[simp ↓] theorem ite_flash0 (c : Prop) {_ : Decidable c} (a b : State) :
    (if c then a else b).flash0 = if c then a.flash0 else b.flash0 := apply_ite State.flash0 c a b
@[simp ↓] theorem ite_flash1 (c : Prop) {_ : Decidable c} (a b : State) :
    (if c then a else b).flash1 = if c then a.flash1 else b.flash1 := apply_ite State.flash1 c a b
@[simp ↓] theorem ite_mgp0 (c : Prop) {_ : Decidable c} (a b : State) :
    (if c then a else b).mgp0 = if c then a.mgp0 else b.mgp0 := apply_ite State.mgp0 c a b
@[simp ↓] theorem ite_mgp1 (c : Prop) {_ : Decidable c} (a b : State) :
    (if c then a else b).mgp1 = if c then a.mgp1 else b.mgp1 := apply_ite State.mgp1 c a b
@[simp ↓] theorem ite_vault (c : Prop) {_ : Decidable c} (a b : State) :
    (if c then a else b).vault = if c then a.vault else b.vault := apply_ite State.vault c a b
@[simp ↓] theorem ite_i3c0 (c : Prop) {_ : Decidable c} (a b : State) :
    (if c then a else b).i3c0 = if c then a.i3c0 else b.i3c0 := apply_ite State.i3c0 c a b
@[simp ↓] theorem ite_i3c1 (c : Prop) {_ : Decidable c} (a b : State) :
    (if c then a else b).i3c1 = if c then a.i3c1 else b.i3c1 := apply_ite State.i3c1 c a b
@[simp ↓] theorem ite_rails (c : Prop) {_ : Decidable c} (a b : State) :
    (if c then a else b).rails = if c then a.rails else b.rails := apply_ite State.rails c a b
@[simp ↓] theorem ite_temps (c : Prop) {_ : Decidable c} (a b : State) :
    (if c then a else b).temps = if c then a.temps else b.temps := apply_ite State.temps c a b
@[simp ↓] theorem ite_trip0 (c : Prop) {_ : Decidable c} (a b : State) :
    (if c then a else b).trip0 = if c then a.trip0 else b.trip0 := apply_ite State.trip0 c a b
@[simp ↓] theorem ite_trip1 (c : Prop) {_ : Decidable c} (a b : State) :
    (if c then a else b).trip1 = if c then a.trip1 else b.trip1 := apply_ite State.trip1 c a b
@[simp ↓] theorem ite_day (c : Prop) {_ : Decidable c} (a b : State) :
    (if c then a else b).day = if c then a.day else b.day := apply_ite State.day c a b
@[simp ↓] theorem ite_modeDue (c : Prop) {_ : Decidable c} (a b : State) :
    (if c then a else b).modeDue = if c then a.modeDue else b.modeDue := apply_ite State.modeDue c a b
@[simp ↓] theorem ite_powerOver (c : Prop) {_ : Decidable c} (a b : State) :
    (if c then a else b).powerOver = if c then a.powerOver else b.powerOver := apply_ite State.powerOver c a b
@[simp ↓] theorem ite_part0 (c : Prop) {_ : Decidable c} (a b : State) :
    (if c then a else b).part0 = if c then a.part0 else b.part0 := apply_ite State.part0 c a b
@[simp ↓] theorem ite_part1 (c : Prop) {_ : Decidable c} (a b : State) :
    (if c then a else b).part1 = if c then a.part1 else b.part1 := apply_ite State.part1 c a b
@[simp ↓] theorem ite_out (c : Prop) {_ : Decidable c} (a b : State) :
    (if c then a else b).out = if c then a.out else b.out := apply_ite State.out c a b
@[simp ↓] theorem ite_free (c : Prop) {_ : Decidable c} (a b : State) :
    (if c then a else b).free = if c then a.free else b.free := apply_ite State.free c a b
@[simp ↓] theorem ite_pending (c : Prop) {_ : Decidable c} (a b : State) :
    (if c then a else b).pending = if c then a.pending else b.pending := apply_ite State.pending c a b
@[simp ↓] theorem ite_part (c : Prop) {_ : Decidable c} (a b : State) (q : Nat) :
    (if c then a else b).part q = if c then a.part q else b.part q := apply_ite (fun s : State => s.part q) c a b
@[simp ↓] theorem ite_core (c : Prop) {_ : Decidable c} (a b : State) (m : Nat) :
    (if c then a else b).core m = if c then a.core m else b.core m := apply_ite (fun s : State => s.core m) c a b
@[simp ↓] theorem ite_gather (c : Prop) {_ : Decidable c} (a b : State) (h : Nat) :
    (if c then a else b).gather h = if c then a.gather h else b.gather h := apply_ite (fun s : State => s.gather h) c a b
@[simp ↓] theorem ite_side (c : Prop) {_ : Decidable c} (a b : State) (b2 x2 : Nat) :
    (if c then a else b).side b2 x2 = if c then a.side b2 x2 else b.side b2 x2 := apply_ite (fun s : State => s.side b2 x2) c a b
@[simp ↓] theorem ite_chan (c : Prop) {_ : Decidable c} (a b : State) (c2 : Nat) :
    (if c then a else b).chan c2 = if c then a.chan c2 else b.chan c2 := apply_ite (fun s : State => s.chan c2) c a b
@[simp ↓] theorem ite_port (c : Prop) {_ : Decidable c} (a b : State) (q2 : Nat) :
    (if c then a else b).port q2 = if c then a.port q2 else b.port q2 := apply_ite (fun s : State => s.port q2) c a b
@[simp ↓] theorem ite_oe (c : Prop) {_ : Decidable c} (a b : State) (o2 : Nat) :
    (if c then a else b).oe o2 = if c then a.oe o2 else b.oe o2 := apply_ite (fun s : State => s.oe o2) c a b
@[simp ↓] theorem ite_coll (c : Prop) {_ : Decidable c} (a b : State) (e2 : Nat) :
    (if c then a else b).coll e2 = if c then a.coll e2 else b.coll e2 := apply_ite (fun s : State => s.coll e2) c a b
@[simp ↓] theorem ite_die (c : Prop) {_ : Decidable c} (a b : State) (d2 : Nat) :
    (if c then a else b).die d2 = if c then a.die d2 else b.die d2 := apply_ite (fun s : State => s.die d2) c a b
@[simp ↓] theorem ite_mgp (c : Prop) {_ : Decidable c} (a b : State) (h2 : Nat) :
    (if c then a else b).mgp h2 = if c then a.mgp h2 else b.mgp h2 := apply_ite (fun s : State => s.mgp h2) c a b
@[simp ↓] theorem ite_flash (c : Prop) {_ : Decidable c} (a b : State) (h2 : Nat) :
    (if c then a else b).flash h2 = if c then a.flash h2 else b.flash h2 := apply_ite (fun s : State => s.flash h2) c a b
@[simp ↓] theorem ite_reg (c : Prop) {_ : Decidable c} (a b : State) (r2 : Reg) (p2 i2 j2 k2 : Nat) :
    (if c then a else b).reg r2 p2 i2 j2 k2 = if c then a.reg r2 p2 i2 j2 k2 else b.reg r2 p2 i2 j2 k2 := apply_ite (fun s : State => s.reg r2 p2 i2 j2 k2) c a b
@[simp ↓] theorem ite_rd (c : Prop) {_ : Decidable c} (a b : State) (f2 : Fld) (p2 i2 j2 k2 : Nat) :
    (if c then a else b).rd f2 p2 i2 j2 k2 = if c then a.rd f2 p2 i2 j2 k2 else b.rd f2 p2 i2 j2 k2 := apply_ite (fun s : State => s.rd f2 p2 i2 j2 k2) c a b
@[simp ↓] theorem ite_byte (c : Prop) {_ : Decidable c} (a b : State) (a2 : Nat) :
    (if c then a else b).byte a2 = if c then a.byte a2 else b.byte a2 := apply_ite (fun s : State => s.byte a2) c a b

/-! ### updPart -/

@[simp ↓] theorem updPart_twoPart (s : State) (p : Nat) (f : Part → Part) : (s.updPart p f).twoPart = s.twoPart := by unfold State.updPart; split <;> rfl
@[simp ↓] theorem updPart_straps (s : State) (p : Nat) (f : Part → Part) : (s.updPart p f).straps = s.straps := by unfold State.updPart; split <;> rfl
@[simp ↓] theorem updPart_regs (s : State) (p : Nat) (f : Part → Part) : (s.updPart p f).regs = s.regs := by unfold State.updPart; split <;> rfl
@[simp ↓] theorem updPart_mem (s : State) (p : Nat) (f : Part → Part) : (s.updPart p f).mem = s.mem := by unfold State.updPart; split <;> rfl
@[simp ↓] theorem updPart_sram (s : State) (p : Nat) (f : Part → Part) : (s.updPart p f).sram = s.sram := by unfold State.updPart; split <;> rfl
@[simp ↓] theorem updPart_hbmSide (s : State) (p : Nat) (f : Part → Part) : (s.updPart p f).hbmSide = s.hbmSide := by unfold State.updPart; split <;> rfl
@[simp ↓] theorem updPart_hbmUsed (s : State) (p : Nat) (f : Part → Part) : (s.updPart p f).hbmUsed = s.hbmUsed := by unfold State.updPart; split <;> rfl
@[simp ↓] theorem updPart_sides (s : State) (p : Nat) (f : Part → Part) : (s.updPart p f).sides = s.sides := by unfold State.updPart; split <;> rfl
@[simp ↓] theorem updPart_cores (s : State) (p : Nat) (f : Part → Part) : (s.updPart p f).cores = s.cores := by unfold State.updPart; split <;> rfl
@[simp ↓] theorem updPart_gathers (s : State) (p : Nat) (f : Part → Part) : (s.updPart p f).gathers = s.gathers := by unfold State.updPart; split <;> rfl
@[simp ↓] theorem updPart_chans (s : State) (p : Nat) (f : Part → Part) : (s.updPart p f).chans = s.chans := by unfold State.updPart; split <;> rfl
@[simp ↓] theorem updPart_ports (s : State) (p : Nat) (f : Part → Part) : (s.updPart p f).ports = s.ports := by unfold State.updPart; split <;> rfl
@[simp ↓] theorem updPart_oes (s : State) (p : Nat) (f : Part → Part) : (s.updPart p f).oes = s.oes := by unfold State.updPart; split <;> rfl
@[simp ↓] theorem updPart_colls (s : State) (p : Nat) (f : Part → Part) : (s.updPart p f).colls = s.colls := by unfold State.updPart; split <;> rfl
@[simp ↓] theorem updPart_rings (s : State) (p : Nat) (f : Part → Part) : (s.updPart p f).rings = s.rings := by unfold State.updPart; split <;> rfl
@[simp ↓] theorem updPart_heaters (s : State) (p : Nat) (f : Part → Part) : (s.updPart p f).heaters = s.heaters := by unfold State.updPart; split <;> rfl
@[simp ↓] theorem updPart_dies (s : State) (p : Nat) (f : Part → Part) : (s.updPart p f).dies = s.dies := by unfold State.updPart; split <;> rfl
@[simp ↓] theorem updPart_preBias (s : State) (p : Nat) (f : Part → Part) : (s.updPart p f).preBias = s.preBias := by unfold State.updPart; split <;> rfl
@[simp ↓] theorem updPart_pfc (s : State) (p : Nat) (f : Part → Part) : (s.updPart p f).pfc = s.pfc := by unfold State.updPart; split <;> rfl
@[simp ↓] theorem updPart_routers (s : State) (p : Nat) (f : Part → Part) : (s.updPart p f).routers = s.routers := by unfold State.updPart; split <;> rfl
@[simp ↓] theorem updPart_sramFix (s : State) (p : Nat) (f : Part → Part) : (s.updPart p f).sramFix = s.sramFix := by unfold State.updPart; split <;> rfl
@[simp ↓] theorem updPart_ueTicks (s : State) (p : Nat) (f : Part → Part) : (s.updPart p f).ueTicks = s.ueTicks := by unfold State.updPart; split <;> rfl
@[simp ↓] theorem updPart_held (s : State) (p : Nat) (f : Part → Part) : (s.updPart p f).held = s.held := by unfold State.updPart; split <;> rfl
@[simp ↓] theorem updPart_fuses (s : State) (p : Nat) (f : Part → Part) : (s.updPart p f).fuses = s.fuses := by unfold State.updPart; split <;> rfl
@[simp ↓] theorem updPart_flash0 (s : State) (p : Nat) (f : Part → Part) : (s.updPart p f).flash0 = s.flash0 := by unfold State.updPart; split <;> rfl
@[simp ↓] theorem updPart_flash1 (s : State) (p : Nat) (f : Part → Part) : (s.updPart p f).flash1 = s.flash1 := by unfold State.updPart; split <;> rfl
@[simp ↓] theorem updPart_mgp0 (s : State) (p : Nat) (f : Part → Part) : (s.updPart p f).mgp0 = s.mgp0 := by unfold State.updPart; split <;> rfl
@[simp ↓] theorem updPart_mgp1 (s : State) (p : Nat) (f : Part → Part) : (s.updPart p f).mgp1 = s.mgp1 := by unfold State.updPart; split <;> rfl
@[simp ↓] theorem updPart_vault (s : State) (p : Nat) (f : Part → Part) : (s.updPart p f).vault = s.vault := by unfold State.updPart; split <;> rfl
@[simp ↓] theorem updPart_i3c0 (s : State) (p : Nat) (f : Part → Part) : (s.updPart p f).i3c0 = s.i3c0 := by unfold State.updPart; split <;> rfl
@[simp ↓] theorem updPart_i3c1 (s : State) (p : Nat) (f : Part → Part) : (s.updPart p f).i3c1 = s.i3c1 := by unfold State.updPart; split <;> rfl
@[simp ↓] theorem updPart_rails (s : State) (p : Nat) (f : Part → Part) : (s.updPart p f).rails = s.rails := by unfold State.updPart; split <;> rfl
@[simp ↓] theorem updPart_temps (s : State) (p : Nat) (f : Part → Part) : (s.updPart p f).temps = s.temps := by unfold State.updPart; split <;> rfl
@[simp ↓] theorem updPart_trip0 (s : State) (p : Nat) (f : Part → Part) : (s.updPart p f).trip0 = s.trip0 := by unfold State.updPart; split <;> rfl
@[simp ↓] theorem updPart_trip1 (s : State) (p : Nat) (f : Part → Part) : (s.updPart p f).trip1 = s.trip1 := by unfold State.updPart; split <;> rfl
@[simp ↓] theorem updPart_day (s : State) (p : Nat) (f : Part → Part) : (s.updPart p f).day = s.day := by unfold State.updPart; split <;> rfl
@[simp ↓] theorem updPart_modeDue (s : State) (p : Nat) (f : Part → Part) : (s.updPart p f).modeDue = s.modeDue := by unfold State.updPart; split <;> rfl
@[simp ↓] theorem updPart_powerOver (s : State) (p : Nat) (f : Part → Part) : (s.updPart p f).powerOver = s.powerOver := by unfold State.updPart; split <;> rfl
@[simp ↓] theorem updPart_out (s : State) (p : Nat) (f : Part → Part) : (s.updPart p f).out = s.out := by unfold State.updPart; split <;> rfl
@[simp ↓] theorem updPart_free (s : State) (p : Nat) (f : Part → Part) : (s.updPart p f).free = s.free := by unfold State.updPart; split <;> rfl
@[simp ↓] theorem updPart_pending (s : State) (p : Nat) (f : Part → Part) : (s.updPart p f).pending = s.pending := by unfold State.updPart; split <;> rfl
@[simp ↓] theorem updPart_core (s : State) (p : Nat) (f : Part → Part) (m : Nat) : (s.updPart p f).core m = s.core m := by simp [State.core]
@[simp ↓] theorem updPart_gather (s : State) (p : Nat) (f : Part → Part) (h : Nat) : (s.updPart p f).gather h = s.gather h := by simp [State.gather]
@[simp ↓] theorem updPart_side (s : State) (p : Nat) (f : Part → Part) (b2 x2 : Nat) : (s.updPart p f).side b2 x2 = s.side b2 x2 := by simp [State.side]
@[simp ↓] theorem updPart_chan (s : State) (p : Nat) (f : Part → Part) (c2 : Nat) : (s.updPart p f).chan c2 = s.chan c2 := by simp [State.chan]
@[simp ↓] theorem updPart_port (s : State) (p : Nat) (f : Part → Part) (q2 : Nat) : (s.updPart p f).port q2 = s.port q2 := by simp [State.port]
@[simp ↓] theorem updPart_oe (s : State) (p : Nat) (f : Part → Part) (o2 : Nat) : (s.updPart p f).oe o2 = s.oe o2 := by simp [State.oe]
@[simp ↓] theorem updPart_coll (s : State) (p : Nat) (f : Part → Part) (e2 : Nat) : (s.updPart p f).coll e2 = s.coll e2 := by simp [State.coll]
@[simp ↓] theorem updPart_die (s : State) (p : Nat) (f : Part → Part) (d2 : Nat) : (s.updPart p f).die d2 = s.die d2 := by simp [State.die]
@[simp ↓] theorem updPart_mgp (s : State) (p : Nat) (f : Part → Part) (h2 : Nat) : (s.updPart p f).mgp h2 = s.mgp h2 := by simp [State.mgp]
@[simp ↓] theorem updPart_flash (s : State) (p : Nat) (f : Part → Part) (h2 : Nat) : (s.updPart p f).flash h2 = s.flash h2 := by simp [State.flash]
@[simp ↓] theorem updPart_reg (s : State) (p : Nat) (f : Part → Part) (r2 : Reg) (p2 i2 j2 k2 : Nat) : (s.updPart p f).reg r2 p2 i2 j2 k2 = s.reg r2 p2 i2 j2 k2 := by simp [State.reg]
@[simp ↓] theorem updPart_rd (s : State) (p : Nat) (f : Part → Part) (f2 : Fld) (p2 i2 j2 k2 : Nat) : (s.updPart p f).rd f2 p2 i2 j2 k2 = s.rd f2 p2 i2 j2 k2 := by simp [State.rd, State.reg]
@[simp ↓] theorem updPart_byte (s : State) (p : Nat) (f : Part → Part) (a2 : Nat) : (s.updPart p f).byte a2 = s.byte a2 := by simp [State.byte]

/-! ### updCore -/

@[simp ↓] theorem updCore_twoPart (s : State) (n : Nat) (f : Core → Core) : (s.updCore n f).twoPart = s.twoPart := (rfl)
@[simp ↓] theorem updCore_straps (s : State) (n : Nat) (f : Core → Core) : (s.updCore n f).straps = s.straps := (rfl)
@[simp ↓] theorem updCore_regs (s : State) (n : Nat) (f : Core → Core) : (s.updCore n f).regs = s.regs := (rfl)
@[simp ↓] theorem updCore_mem (s : State) (n : Nat) (f : Core → Core) : (s.updCore n f).mem = s.mem := (rfl)
@[simp ↓] theorem updCore_sram (s : State) (n : Nat) (f : Core → Core) : (s.updCore n f).sram = s.sram := (rfl)
@[simp ↓] theorem updCore_hbmSide (s : State) (n : Nat) (f : Core → Core) : (s.updCore n f).hbmSide = s.hbmSide := (rfl)
@[simp ↓] theorem updCore_hbmUsed (s : State) (n : Nat) (f : Core → Core) : (s.updCore n f).hbmUsed = s.hbmUsed := (rfl)
@[simp ↓] theorem updCore_sides (s : State) (n : Nat) (f : Core → Core) : (s.updCore n f).sides = s.sides := (rfl)
@[simp ↓] theorem updCore_gathers (s : State) (n : Nat) (f : Core → Core) : (s.updCore n f).gathers = s.gathers := (rfl)
@[simp ↓] theorem updCore_chans (s : State) (n : Nat) (f : Core → Core) : (s.updCore n f).chans = s.chans := (rfl)
@[simp ↓] theorem updCore_ports (s : State) (n : Nat) (f : Core → Core) : (s.updCore n f).ports = s.ports := (rfl)
@[simp ↓] theorem updCore_oes (s : State) (n : Nat) (f : Core → Core) : (s.updCore n f).oes = s.oes := (rfl)
@[simp ↓] theorem updCore_colls (s : State) (n : Nat) (f : Core → Core) : (s.updCore n f).colls = s.colls := (rfl)
@[simp ↓] theorem updCore_rings (s : State) (n : Nat) (f : Core → Core) : (s.updCore n f).rings = s.rings := (rfl)
@[simp ↓] theorem updCore_heaters (s : State) (n : Nat) (f : Core → Core) : (s.updCore n f).heaters = s.heaters := (rfl)
@[simp ↓] theorem updCore_dies (s : State) (n : Nat) (f : Core → Core) : (s.updCore n f).dies = s.dies := (rfl)
@[simp ↓] theorem updCore_preBias (s : State) (n : Nat) (f : Core → Core) : (s.updCore n f).preBias = s.preBias := (rfl)
@[simp ↓] theorem updCore_pfc (s : State) (n : Nat) (f : Core → Core) : (s.updCore n f).pfc = s.pfc := (rfl)
@[simp ↓] theorem updCore_routers (s : State) (n : Nat) (f : Core → Core) : (s.updCore n f).routers = s.routers := (rfl)
@[simp ↓] theorem updCore_sramFix (s : State) (n : Nat) (f : Core → Core) : (s.updCore n f).sramFix = s.sramFix := (rfl)
@[simp ↓] theorem updCore_ueTicks (s : State) (n : Nat) (f : Core → Core) : (s.updCore n f).ueTicks = s.ueTicks := (rfl)
@[simp ↓] theorem updCore_held (s : State) (n : Nat) (f : Core → Core) : (s.updCore n f).held = s.held := (rfl)
@[simp ↓] theorem updCore_fuses (s : State) (n : Nat) (f : Core → Core) : (s.updCore n f).fuses = s.fuses := (rfl)
@[simp ↓] theorem updCore_flash0 (s : State) (n : Nat) (f : Core → Core) : (s.updCore n f).flash0 = s.flash0 := (rfl)
@[simp ↓] theorem updCore_flash1 (s : State) (n : Nat) (f : Core → Core) : (s.updCore n f).flash1 = s.flash1 := (rfl)
@[simp ↓] theorem updCore_mgp0 (s : State) (n : Nat) (f : Core → Core) : (s.updCore n f).mgp0 = s.mgp0 := (rfl)
@[simp ↓] theorem updCore_mgp1 (s : State) (n : Nat) (f : Core → Core) : (s.updCore n f).mgp1 = s.mgp1 := (rfl)
@[simp ↓] theorem updCore_vault (s : State) (n : Nat) (f : Core → Core) : (s.updCore n f).vault = s.vault := (rfl)
@[simp ↓] theorem updCore_i3c0 (s : State) (n : Nat) (f : Core → Core) : (s.updCore n f).i3c0 = s.i3c0 := (rfl)
@[simp ↓] theorem updCore_i3c1 (s : State) (n : Nat) (f : Core → Core) : (s.updCore n f).i3c1 = s.i3c1 := (rfl)
@[simp ↓] theorem updCore_rails (s : State) (n : Nat) (f : Core → Core) : (s.updCore n f).rails = s.rails := (rfl)
@[simp ↓] theorem updCore_temps (s : State) (n : Nat) (f : Core → Core) : (s.updCore n f).temps = s.temps := (rfl)
@[simp ↓] theorem updCore_trip0 (s : State) (n : Nat) (f : Core → Core) : (s.updCore n f).trip0 = s.trip0 := (rfl)
@[simp ↓] theorem updCore_trip1 (s : State) (n : Nat) (f : Core → Core) : (s.updCore n f).trip1 = s.trip1 := (rfl)
@[simp ↓] theorem updCore_day (s : State) (n : Nat) (f : Core → Core) : (s.updCore n f).day = s.day := (rfl)
@[simp ↓] theorem updCore_modeDue (s : State) (n : Nat) (f : Core → Core) : (s.updCore n f).modeDue = s.modeDue := (rfl)
@[simp ↓] theorem updCore_powerOver (s : State) (n : Nat) (f : Core → Core) : (s.updCore n f).powerOver = s.powerOver := (rfl)
@[simp ↓] theorem updCore_part0 (s : State) (n : Nat) (f : Core → Core) : (s.updCore n f).part0 = s.part0 := (rfl)
@[simp ↓] theorem updCore_part1 (s : State) (n : Nat) (f : Core → Core) : (s.updCore n f).part1 = s.part1 := (rfl)
@[simp ↓] theorem updCore_out (s : State) (n : Nat) (f : Core → Core) : (s.updCore n f).out = s.out := (rfl)
@[simp ↓] theorem updCore_free (s : State) (n : Nat) (f : Core → Core) : (s.updCore n f).free = s.free := (rfl)
@[simp ↓] theorem updCore_pending (s : State) (n : Nat) (f : Core → Core) : (s.updCore n f).pending = s.pending := (rfl)
@[simp ↓] theorem updCore_part (s : State) (n : Nat) (f : Core → Core) (q : Nat) : (s.updCore n f).part q = s.part q := (rfl)
@[simp ↓] theorem updCore_gather (s : State) (n : Nat) (f : Core → Core) (h : Nat) : (s.updCore n f).gather h = s.gather h := (rfl)
@[simp ↓] theorem updCore_side (s : State) (n : Nat) (f : Core → Core) (b2 x2 : Nat) : (s.updCore n f).side b2 x2 = s.side b2 x2 := (rfl)
@[simp ↓] theorem updCore_chan (s : State) (n : Nat) (f : Core → Core) (c2 : Nat) : (s.updCore n f).chan c2 = s.chan c2 := (rfl)
@[simp ↓] theorem updCore_port (s : State) (n : Nat) (f : Core → Core) (q2 : Nat) : (s.updCore n f).port q2 = s.port q2 := (rfl)
@[simp ↓] theorem updCore_oe (s : State) (n : Nat) (f : Core → Core) (o2 : Nat) : (s.updCore n f).oe o2 = s.oe o2 := (rfl)
@[simp ↓] theorem updCore_coll (s : State) (n : Nat) (f : Core → Core) (e2 : Nat) : (s.updCore n f).coll e2 = s.coll e2 := (rfl)
@[simp ↓] theorem updCore_die (s : State) (n : Nat) (f : Core → Core) (d2 : Nat) : (s.updCore n f).die d2 = s.die d2 := (rfl)
@[simp ↓] theorem updCore_mgp (s : State) (n : Nat) (f : Core → Core) (h2 : Nat) : (s.updCore n f).mgp h2 = s.mgp h2 := (rfl)
@[simp ↓] theorem updCore_flash (s : State) (n : Nat) (f : Core → Core) (h2 : Nat) : (s.updCore n f).flash h2 = s.flash h2 := (rfl)
@[simp ↓] theorem updCore_reg (s : State) (n : Nat) (f : Core → Core) (r2 : Reg) (p2 i2 j2 k2 : Nat) : (s.updCore n f).reg r2 p2 i2 j2 k2 = s.reg r2 p2 i2 j2 k2 := (rfl)
@[simp ↓] theorem updCore_rd (s : State) (n : Nat) (f : Core → Core) (f2 : Fld) (p2 i2 j2 k2 : Nat) : (s.updCore n f).rd f2 p2 i2 j2 k2 = s.rd f2 p2 i2 j2 k2 := (rfl)
@[simp ↓] theorem updCore_byte (s : State) (n : Nat) (f : Core → Core) (a2 : Nat) : (s.updCore n f).byte a2 = s.byte a2 := (rfl)

/-! ### updGather -/

@[simp ↓] theorem updGather_twoPart (s : State) (g : Nat) (f : Gather → Gather) : (s.updGather g f).twoPart = s.twoPart := (rfl)
@[simp ↓] theorem updGather_straps (s : State) (g : Nat) (f : Gather → Gather) : (s.updGather g f).straps = s.straps := (rfl)
@[simp ↓] theorem updGather_regs (s : State) (g : Nat) (f : Gather → Gather) : (s.updGather g f).regs = s.regs := (rfl)
@[simp ↓] theorem updGather_mem (s : State) (g : Nat) (f : Gather → Gather) : (s.updGather g f).mem = s.mem := (rfl)
@[simp ↓] theorem updGather_sram (s : State) (g : Nat) (f : Gather → Gather) : (s.updGather g f).sram = s.sram := (rfl)
@[simp ↓] theorem updGather_hbmSide (s : State) (g : Nat) (f : Gather → Gather) : (s.updGather g f).hbmSide = s.hbmSide := (rfl)
@[simp ↓] theorem updGather_hbmUsed (s : State) (g : Nat) (f : Gather → Gather) : (s.updGather g f).hbmUsed = s.hbmUsed := (rfl)
@[simp ↓] theorem updGather_sides (s : State) (g : Nat) (f : Gather → Gather) : (s.updGather g f).sides = s.sides := (rfl)
@[simp ↓] theorem updGather_cores (s : State) (g : Nat) (f : Gather → Gather) : (s.updGather g f).cores = s.cores := (rfl)
@[simp ↓] theorem updGather_chans (s : State) (g : Nat) (f : Gather → Gather) : (s.updGather g f).chans = s.chans := (rfl)
@[simp ↓] theorem updGather_ports (s : State) (g : Nat) (f : Gather → Gather) : (s.updGather g f).ports = s.ports := (rfl)
@[simp ↓] theorem updGather_oes (s : State) (g : Nat) (f : Gather → Gather) : (s.updGather g f).oes = s.oes := (rfl)
@[simp ↓] theorem updGather_colls (s : State) (g : Nat) (f : Gather → Gather) : (s.updGather g f).colls = s.colls := (rfl)
@[simp ↓] theorem updGather_rings (s : State) (g : Nat) (f : Gather → Gather) : (s.updGather g f).rings = s.rings := (rfl)
@[simp ↓] theorem updGather_heaters (s : State) (g : Nat) (f : Gather → Gather) : (s.updGather g f).heaters = s.heaters := (rfl)
@[simp ↓] theorem updGather_dies (s : State) (g : Nat) (f : Gather → Gather) : (s.updGather g f).dies = s.dies := (rfl)
@[simp ↓] theorem updGather_preBias (s : State) (g : Nat) (f : Gather → Gather) : (s.updGather g f).preBias = s.preBias := (rfl)
@[simp ↓] theorem updGather_pfc (s : State) (g : Nat) (f : Gather → Gather) : (s.updGather g f).pfc = s.pfc := (rfl)
@[simp ↓] theorem updGather_routers (s : State) (g : Nat) (f : Gather → Gather) : (s.updGather g f).routers = s.routers := (rfl)
@[simp ↓] theorem updGather_sramFix (s : State) (g : Nat) (f : Gather → Gather) : (s.updGather g f).sramFix = s.sramFix := (rfl)
@[simp ↓] theorem updGather_ueTicks (s : State) (g : Nat) (f : Gather → Gather) : (s.updGather g f).ueTicks = s.ueTicks := (rfl)
@[simp ↓] theorem updGather_held (s : State) (g : Nat) (f : Gather → Gather) : (s.updGather g f).held = s.held := (rfl)
@[simp ↓] theorem updGather_fuses (s : State) (g : Nat) (f : Gather → Gather) : (s.updGather g f).fuses = s.fuses := (rfl)
@[simp ↓] theorem updGather_flash0 (s : State) (g : Nat) (f : Gather → Gather) : (s.updGather g f).flash0 = s.flash0 := (rfl)
@[simp ↓] theorem updGather_flash1 (s : State) (g : Nat) (f : Gather → Gather) : (s.updGather g f).flash1 = s.flash1 := (rfl)
@[simp ↓] theorem updGather_mgp0 (s : State) (g : Nat) (f : Gather → Gather) : (s.updGather g f).mgp0 = s.mgp0 := (rfl)
@[simp ↓] theorem updGather_mgp1 (s : State) (g : Nat) (f : Gather → Gather) : (s.updGather g f).mgp1 = s.mgp1 := (rfl)
@[simp ↓] theorem updGather_vault (s : State) (g : Nat) (f : Gather → Gather) : (s.updGather g f).vault = s.vault := (rfl)
@[simp ↓] theorem updGather_i3c0 (s : State) (g : Nat) (f : Gather → Gather) : (s.updGather g f).i3c0 = s.i3c0 := (rfl)
@[simp ↓] theorem updGather_i3c1 (s : State) (g : Nat) (f : Gather → Gather) : (s.updGather g f).i3c1 = s.i3c1 := (rfl)
@[simp ↓] theorem updGather_rails (s : State) (g : Nat) (f : Gather → Gather) : (s.updGather g f).rails = s.rails := (rfl)
@[simp ↓] theorem updGather_temps (s : State) (g : Nat) (f : Gather → Gather) : (s.updGather g f).temps = s.temps := (rfl)
@[simp ↓] theorem updGather_trip0 (s : State) (g : Nat) (f : Gather → Gather) : (s.updGather g f).trip0 = s.trip0 := (rfl)
@[simp ↓] theorem updGather_trip1 (s : State) (g : Nat) (f : Gather → Gather) : (s.updGather g f).trip1 = s.trip1 := (rfl)
@[simp ↓] theorem updGather_day (s : State) (g : Nat) (f : Gather → Gather) : (s.updGather g f).day = s.day := (rfl)
@[simp ↓] theorem updGather_modeDue (s : State) (g : Nat) (f : Gather → Gather) : (s.updGather g f).modeDue = s.modeDue := (rfl)
@[simp ↓] theorem updGather_powerOver (s : State) (g : Nat) (f : Gather → Gather) : (s.updGather g f).powerOver = s.powerOver := (rfl)
@[simp ↓] theorem updGather_part0 (s : State) (g : Nat) (f : Gather → Gather) : (s.updGather g f).part0 = s.part0 := (rfl)
@[simp ↓] theorem updGather_part1 (s : State) (g : Nat) (f : Gather → Gather) : (s.updGather g f).part1 = s.part1 := (rfl)
@[simp ↓] theorem updGather_out (s : State) (g : Nat) (f : Gather → Gather) : (s.updGather g f).out = s.out := (rfl)
@[simp ↓] theorem updGather_free (s : State) (g : Nat) (f : Gather → Gather) : (s.updGather g f).free = s.free := (rfl)
@[simp ↓] theorem updGather_pending (s : State) (g : Nat) (f : Gather → Gather) : (s.updGather g f).pending = s.pending := (rfl)
@[simp ↓] theorem updGather_part (s : State) (g : Nat) (f : Gather → Gather) (q : Nat) : (s.updGather g f).part q = s.part q := (rfl)
@[simp ↓] theorem updGather_core (s : State) (g : Nat) (f : Gather → Gather) (m : Nat) : (s.updGather g f).core m = s.core m := (rfl)
@[simp ↓] theorem updGather_side (s : State) (g : Nat) (f : Gather → Gather) (b2 x2 : Nat) : (s.updGather g f).side b2 x2 = s.side b2 x2 := (rfl)
@[simp ↓] theorem updGather_chan (s : State) (g : Nat) (f : Gather → Gather) (c2 : Nat) : (s.updGather g f).chan c2 = s.chan c2 := (rfl)
@[simp ↓] theorem updGather_port (s : State) (g : Nat) (f : Gather → Gather) (q2 : Nat) : (s.updGather g f).port q2 = s.port q2 := (rfl)
@[simp ↓] theorem updGather_oe (s : State) (g : Nat) (f : Gather → Gather) (o2 : Nat) : (s.updGather g f).oe o2 = s.oe o2 := (rfl)
@[simp ↓] theorem updGather_coll (s : State) (g : Nat) (f : Gather → Gather) (e2 : Nat) : (s.updGather g f).coll e2 = s.coll e2 := (rfl)
@[simp ↓] theorem updGather_die (s : State) (g : Nat) (f : Gather → Gather) (d2 : Nat) : (s.updGather g f).die d2 = s.die d2 := (rfl)
@[simp ↓] theorem updGather_mgp (s : State) (g : Nat) (f : Gather → Gather) (h2 : Nat) : (s.updGather g f).mgp h2 = s.mgp h2 := (rfl)
@[simp ↓] theorem updGather_flash (s : State) (g : Nat) (f : Gather → Gather) (h2 : Nat) : (s.updGather g f).flash h2 = s.flash h2 := (rfl)
@[simp ↓] theorem updGather_reg (s : State) (g : Nat) (f : Gather → Gather) (r2 : Reg) (p2 i2 j2 k2 : Nat) : (s.updGather g f).reg r2 p2 i2 j2 k2 = s.reg r2 p2 i2 j2 k2 := (rfl)
@[simp ↓] theorem updGather_rd (s : State) (g : Nat) (f : Gather → Gather) (f2 : Fld) (p2 i2 j2 k2 : Nat) : (s.updGather g f).rd f2 p2 i2 j2 k2 = s.rd f2 p2 i2 j2 k2 := (rfl)
@[simp ↓] theorem updGather_byte (s : State) (g : Nat) (f : Gather → Gather) (a2 : Nat) : (s.updGather g f).byte a2 = s.byte a2 := (rfl)

/-! ### updSide -/

@[simp ↓] theorem updSide_twoPart (s : State) (b x : Nat) (f : Side → Side) : (s.updSide b x f).twoPart = s.twoPart := (rfl)
@[simp ↓] theorem updSide_straps (s : State) (b x : Nat) (f : Side → Side) : (s.updSide b x f).straps = s.straps := (rfl)
@[simp ↓] theorem updSide_regs (s : State) (b x : Nat) (f : Side → Side) : (s.updSide b x f).regs = s.regs := (rfl)
@[simp ↓] theorem updSide_mem (s : State) (b x : Nat) (f : Side → Side) : (s.updSide b x f).mem = s.mem := (rfl)
@[simp ↓] theorem updSide_sram (s : State) (b x : Nat) (f : Side → Side) : (s.updSide b x f).sram = s.sram := (rfl)
@[simp ↓] theorem updSide_hbmSide (s : State) (b x : Nat) (f : Side → Side) : (s.updSide b x f).hbmSide = s.hbmSide := (rfl)
@[simp ↓] theorem updSide_hbmUsed (s : State) (b x : Nat) (f : Side → Side) : (s.updSide b x f).hbmUsed = s.hbmUsed := (rfl)
@[simp ↓] theorem updSide_cores (s : State) (b x : Nat) (f : Side → Side) : (s.updSide b x f).cores = s.cores := (rfl)
@[simp ↓] theorem updSide_gathers (s : State) (b x : Nat) (f : Side → Side) : (s.updSide b x f).gathers = s.gathers := (rfl)
@[simp ↓] theorem updSide_chans (s : State) (b x : Nat) (f : Side → Side) : (s.updSide b x f).chans = s.chans := (rfl)
@[simp ↓] theorem updSide_ports (s : State) (b x : Nat) (f : Side → Side) : (s.updSide b x f).ports = s.ports := (rfl)
@[simp ↓] theorem updSide_oes (s : State) (b x : Nat) (f : Side → Side) : (s.updSide b x f).oes = s.oes := (rfl)
@[simp ↓] theorem updSide_colls (s : State) (b x : Nat) (f : Side → Side) : (s.updSide b x f).colls = s.colls := (rfl)
@[simp ↓] theorem updSide_rings (s : State) (b x : Nat) (f : Side → Side) : (s.updSide b x f).rings = s.rings := (rfl)
@[simp ↓] theorem updSide_heaters (s : State) (b x : Nat) (f : Side → Side) : (s.updSide b x f).heaters = s.heaters := (rfl)
@[simp ↓] theorem updSide_dies (s : State) (b x : Nat) (f : Side → Side) : (s.updSide b x f).dies = s.dies := (rfl)
@[simp ↓] theorem updSide_preBias (s : State) (b x : Nat) (f : Side → Side) : (s.updSide b x f).preBias = s.preBias := (rfl)
@[simp ↓] theorem updSide_pfc (s : State) (b x : Nat) (f : Side → Side) : (s.updSide b x f).pfc = s.pfc := (rfl)
@[simp ↓] theorem updSide_routers (s : State) (b x : Nat) (f : Side → Side) : (s.updSide b x f).routers = s.routers := (rfl)
@[simp ↓] theorem updSide_sramFix (s : State) (b x : Nat) (f : Side → Side) : (s.updSide b x f).sramFix = s.sramFix := (rfl)
@[simp ↓] theorem updSide_ueTicks (s : State) (b x : Nat) (f : Side → Side) : (s.updSide b x f).ueTicks = s.ueTicks := (rfl)
@[simp ↓] theorem updSide_held (s : State) (b x : Nat) (f : Side → Side) : (s.updSide b x f).held = s.held := (rfl)
@[simp ↓] theorem updSide_fuses (s : State) (b x : Nat) (f : Side → Side) : (s.updSide b x f).fuses = s.fuses := (rfl)
@[simp ↓] theorem updSide_flash0 (s : State) (b x : Nat) (f : Side → Side) : (s.updSide b x f).flash0 = s.flash0 := (rfl)
@[simp ↓] theorem updSide_flash1 (s : State) (b x : Nat) (f : Side → Side) : (s.updSide b x f).flash1 = s.flash1 := (rfl)
@[simp ↓] theorem updSide_mgp0 (s : State) (b x : Nat) (f : Side → Side) : (s.updSide b x f).mgp0 = s.mgp0 := (rfl)
@[simp ↓] theorem updSide_mgp1 (s : State) (b x : Nat) (f : Side → Side) : (s.updSide b x f).mgp1 = s.mgp1 := (rfl)
@[simp ↓] theorem updSide_vault (s : State) (b x : Nat) (f : Side → Side) : (s.updSide b x f).vault = s.vault := (rfl)
@[simp ↓] theorem updSide_i3c0 (s : State) (b x : Nat) (f : Side → Side) : (s.updSide b x f).i3c0 = s.i3c0 := (rfl)
@[simp ↓] theorem updSide_i3c1 (s : State) (b x : Nat) (f : Side → Side) : (s.updSide b x f).i3c1 = s.i3c1 := (rfl)
@[simp ↓] theorem updSide_rails (s : State) (b x : Nat) (f : Side → Side) : (s.updSide b x f).rails = s.rails := (rfl)
@[simp ↓] theorem updSide_temps (s : State) (b x : Nat) (f : Side → Side) : (s.updSide b x f).temps = s.temps := (rfl)
@[simp ↓] theorem updSide_trip0 (s : State) (b x : Nat) (f : Side → Side) : (s.updSide b x f).trip0 = s.trip0 := (rfl)
@[simp ↓] theorem updSide_trip1 (s : State) (b x : Nat) (f : Side → Side) : (s.updSide b x f).trip1 = s.trip1 := (rfl)
@[simp ↓] theorem updSide_day (s : State) (b x : Nat) (f : Side → Side) : (s.updSide b x f).day = s.day := (rfl)
@[simp ↓] theorem updSide_modeDue (s : State) (b x : Nat) (f : Side → Side) : (s.updSide b x f).modeDue = s.modeDue := (rfl)
@[simp ↓] theorem updSide_powerOver (s : State) (b x : Nat) (f : Side → Side) : (s.updSide b x f).powerOver = s.powerOver := (rfl)
@[simp ↓] theorem updSide_part0 (s : State) (b x : Nat) (f : Side → Side) : (s.updSide b x f).part0 = s.part0 := (rfl)
@[simp ↓] theorem updSide_part1 (s : State) (b x : Nat) (f : Side → Side) : (s.updSide b x f).part1 = s.part1 := (rfl)
@[simp ↓] theorem updSide_out (s : State) (b x : Nat) (f : Side → Side) : (s.updSide b x f).out = s.out := (rfl)
@[simp ↓] theorem updSide_free (s : State) (b x : Nat) (f : Side → Side) : (s.updSide b x f).free = s.free := (rfl)
@[simp ↓] theorem updSide_pending (s : State) (b x : Nat) (f : Side → Side) : (s.updSide b x f).pending = s.pending := (rfl)
@[simp ↓] theorem updSide_part (s : State) (b x : Nat) (f : Side → Side) (q : Nat) : (s.updSide b x f).part q = s.part q := (rfl)
@[simp ↓] theorem updSide_core (s : State) (b x : Nat) (f : Side → Side) (m : Nat) : (s.updSide b x f).core m = s.core m := (rfl)
@[simp ↓] theorem updSide_gather (s : State) (b x : Nat) (f : Side → Side) (h : Nat) : (s.updSide b x f).gather h = s.gather h := (rfl)
@[simp ↓] theorem updSide_chan (s : State) (b x : Nat) (f : Side → Side) (c2 : Nat) : (s.updSide b x f).chan c2 = s.chan c2 := (rfl)
@[simp ↓] theorem updSide_port (s : State) (b x : Nat) (f : Side → Side) (q2 : Nat) : (s.updSide b x f).port q2 = s.port q2 := (rfl)
@[simp ↓] theorem updSide_oe (s : State) (b x : Nat) (f : Side → Side) (o2 : Nat) : (s.updSide b x f).oe o2 = s.oe o2 := (rfl)
@[simp ↓] theorem updSide_coll (s : State) (b x : Nat) (f : Side → Side) (e2 : Nat) : (s.updSide b x f).coll e2 = s.coll e2 := (rfl)
@[simp ↓] theorem updSide_die (s : State) (b x : Nat) (f : Side → Side) (d2 : Nat) : (s.updSide b x f).die d2 = s.die d2 := (rfl)
@[simp ↓] theorem updSide_mgp (s : State) (b x : Nat) (f : Side → Side) (h2 : Nat) : (s.updSide b x f).mgp h2 = s.mgp h2 := (rfl)
@[simp ↓] theorem updSide_flash (s : State) (b x : Nat) (f : Side → Side) (h2 : Nat) : (s.updSide b x f).flash h2 = s.flash h2 := (rfl)
@[simp ↓] theorem updSide_reg (s : State) (b x : Nat) (f : Side → Side) (r2 : Reg) (p2 i2 j2 k2 : Nat) : (s.updSide b x f).reg r2 p2 i2 j2 k2 = s.reg r2 p2 i2 j2 k2 := (rfl)
@[simp ↓] theorem updSide_rd (s : State) (b x : Nat) (f : Side → Side) (f2 : Fld) (p2 i2 j2 k2 : Nat) : (s.updSide b x f).rd f2 p2 i2 j2 k2 = s.rd f2 p2 i2 j2 k2 := (rfl)
@[simp ↓] theorem updSide_byte (s : State) (b x : Nat) (f : Side → Side) (a2 : Nat) : (s.updSide b x f).byte a2 = s.byte a2 := (rfl)

/-! ### updChan -/

@[simp ↓] theorem updChan_twoPart (s : State) (c : Nat) (f : Chan → Chan) : (s.updChan c f).twoPart = s.twoPart := (rfl)
@[simp ↓] theorem updChan_straps (s : State) (c : Nat) (f : Chan → Chan) : (s.updChan c f).straps = s.straps := (rfl)
@[simp ↓] theorem updChan_regs (s : State) (c : Nat) (f : Chan → Chan) : (s.updChan c f).regs = s.regs := (rfl)
@[simp ↓] theorem updChan_mem (s : State) (c : Nat) (f : Chan → Chan) : (s.updChan c f).mem = s.mem := (rfl)
@[simp ↓] theorem updChan_sram (s : State) (c : Nat) (f : Chan → Chan) : (s.updChan c f).sram = s.sram := (rfl)
@[simp ↓] theorem updChan_hbmSide (s : State) (c : Nat) (f : Chan → Chan) : (s.updChan c f).hbmSide = s.hbmSide := (rfl)
@[simp ↓] theorem updChan_hbmUsed (s : State) (c : Nat) (f : Chan → Chan) : (s.updChan c f).hbmUsed = s.hbmUsed := (rfl)
@[simp ↓] theorem updChan_sides (s : State) (c : Nat) (f : Chan → Chan) : (s.updChan c f).sides = s.sides := (rfl)
@[simp ↓] theorem updChan_cores (s : State) (c : Nat) (f : Chan → Chan) : (s.updChan c f).cores = s.cores := (rfl)
@[simp ↓] theorem updChan_gathers (s : State) (c : Nat) (f : Chan → Chan) : (s.updChan c f).gathers = s.gathers := (rfl)
@[simp ↓] theorem updChan_ports (s : State) (c : Nat) (f : Chan → Chan) : (s.updChan c f).ports = s.ports := (rfl)
@[simp ↓] theorem updChan_oes (s : State) (c : Nat) (f : Chan → Chan) : (s.updChan c f).oes = s.oes := (rfl)
@[simp ↓] theorem updChan_colls (s : State) (c : Nat) (f : Chan → Chan) : (s.updChan c f).colls = s.colls := (rfl)
@[simp ↓] theorem updChan_rings (s : State) (c : Nat) (f : Chan → Chan) : (s.updChan c f).rings = s.rings := (rfl)
@[simp ↓] theorem updChan_heaters (s : State) (c : Nat) (f : Chan → Chan) : (s.updChan c f).heaters = s.heaters := (rfl)
@[simp ↓] theorem updChan_dies (s : State) (c : Nat) (f : Chan → Chan) : (s.updChan c f).dies = s.dies := (rfl)
@[simp ↓] theorem updChan_preBias (s : State) (c : Nat) (f : Chan → Chan) : (s.updChan c f).preBias = s.preBias := (rfl)
@[simp ↓] theorem updChan_pfc (s : State) (c : Nat) (f : Chan → Chan) : (s.updChan c f).pfc = s.pfc := (rfl)
@[simp ↓] theorem updChan_routers (s : State) (c : Nat) (f : Chan → Chan) : (s.updChan c f).routers = s.routers := (rfl)
@[simp ↓] theorem updChan_sramFix (s : State) (c : Nat) (f : Chan → Chan) : (s.updChan c f).sramFix = s.sramFix := (rfl)
@[simp ↓] theorem updChan_ueTicks (s : State) (c : Nat) (f : Chan → Chan) : (s.updChan c f).ueTicks = s.ueTicks := (rfl)
@[simp ↓] theorem updChan_held (s : State) (c : Nat) (f : Chan → Chan) : (s.updChan c f).held = s.held := (rfl)
@[simp ↓] theorem updChan_fuses (s : State) (c : Nat) (f : Chan → Chan) : (s.updChan c f).fuses = s.fuses := (rfl)
@[simp ↓] theorem updChan_flash0 (s : State) (c : Nat) (f : Chan → Chan) : (s.updChan c f).flash0 = s.flash0 := (rfl)
@[simp ↓] theorem updChan_flash1 (s : State) (c : Nat) (f : Chan → Chan) : (s.updChan c f).flash1 = s.flash1 := (rfl)
@[simp ↓] theorem updChan_mgp0 (s : State) (c : Nat) (f : Chan → Chan) : (s.updChan c f).mgp0 = s.mgp0 := (rfl)
@[simp ↓] theorem updChan_mgp1 (s : State) (c : Nat) (f : Chan → Chan) : (s.updChan c f).mgp1 = s.mgp1 := (rfl)
@[simp ↓] theorem updChan_vault (s : State) (c : Nat) (f : Chan → Chan) : (s.updChan c f).vault = s.vault := (rfl)
@[simp ↓] theorem updChan_i3c0 (s : State) (c : Nat) (f : Chan → Chan) : (s.updChan c f).i3c0 = s.i3c0 := (rfl)
@[simp ↓] theorem updChan_i3c1 (s : State) (c : Nat) (f : Chan → Chan) : (s.updChan c f).i3c1 = s.i3c1 := (rfl)
@[simp ↓] theorem updChan_rails (s : State) (c : Nat) (f : Chan → Chan) : (s.updChan c f).rails = s.rails := (rfl)
@[simp ↓] theorem updChan_temps (s : State) (c : Nat) (f : Chan → Chan) : (s.updChan c f).temps = s.temps := (rfl)
@[simp ↓] theorem updChan_trip0 (s : State) (c : Nat) (f : Chan → Chan) : (s.updChan c f).trip0 = s.trip0 := (rfl)
@[simp ↓] theorem updChan_trip1 (s : State) (c : Nat) (f : Chan → Chan) : (s.updChan c f).trip1 = s.trip1 := (rfl)
@[simp ↓] theorem updChan_day (s : State) (c : Nat) (f : Chan → Chan) : (s.updChan c f).day = s.day := (rfl)
@[simp ↓] theorem updChan_modeDue (s : State) (c : Nat) (f : Chan → Chan) : (s.updChan c f).modeDue = s.modeDue := (rfl)
@[simp ↓] theorem updChan_powerOver (s : State) (c : Nat) (f : Chan → Chan) : (s.updChan c f).powerOver = s.powerOver := (rfl)
@[simp ↓] theorem updChan_part0 (s : State) (c : Nat) (f : Chan → Chan) : (s.updChan c f).part0 = s.part0 := (rfl)
@[simp ↓] theorem updChan_part1 (s : State) (c : Nat) (f : Chan → Chan) : (s.updChan c f).part1 = s.part1 := (rfl)
@[simp ↓] theorem updChan_out (s : State) (c : Nat) (f : Chan → Chan) : (s.updChan c f).out = s.out := (rfl)
@[simp ↓] theorem updChan_free (s : State) (c : Nat) (f : Chan → Chan) : (s.updChan c f).free = s.free := (rfl)
@[simp ↓] theorem updChan_pending (s : State) (c : Nat) (f : Chan → Chan) : (s.updChan c f).pending = s.pending := (rfl)
@[simp ↓] theorem updChan_part (s : State) (c : Nat) (f : Chan → Chan) (q : Nat) : (s.updChan c f).part q = s.part q := (rfl)
@[simp ↓] theorem updChan_core (s : State) (c : Nat) (f : Chan → Chan) (m : Nat) : (s.updChan c f).core m = s.core m := (rfl)
@[simp ↓] theorem updChan_gather (s : State) (c : Nat) (f : Chan → Chan) (h : Nat) : (s.updChan c f).gather h = s.gather h := (rfl)
@[simp ↓] theorem updChan_side (s : State) (c : Nat) (f : Chan → Chan) (b2 x2 : Nat) : (s.updChan c f).side b2 x2 = s.side b2 x2 := (rfl)
@[simp ↓] theorem updChan_port (s : State) (c : Nat) (f : Chan → Chan) (q2 : Nat) : (s.updChan c f).port q2 = s.port q2 := (rfl)
@[simp ↓] theorem updChan_oe (s : State) (c : Nat) (f : Chan → Chan) (o2 : Nat) : (s.updChan c f).oe o2 = s.oe o2 := (rfl)
@[simp ↓] theorem updChan_coll (s : State) (c : Nat) (f : Chan → Chan) (e2 : Nat) : (s.updChan c f).coll e2 = s.coll e2 := (rfl)
@[simp ↓] theorem updChan_die (s : State) (c : Nat) (f : Chan → Chan) (d2 : Nat) : (s.updChan c f).die d2 = s.die d2 := (rfl)
@[simp ↓] theorem updChan_mgp (s : State) (c : Nat) (f : Chan → Chan) (h2 : Nat) : (s.updChan c f).mgp h2 = s.mgp h2 := (rfl)
@[simp ↓] theorem updChan_flash (s : State) (c : Nat) (f : Chan → Chan) (h2 : Nat) : (s.updChan c f).flash h2 = s.flash h2 := (rfl)
@[simp ↓] theorem updChan_reg (s : State) (c : Nat) (f : Chan → Chan) (r2 : Reg) (p2 i2 j2 k2 : Nat) : (s.updChan c f).reg r2 p2 i2 j2 k2 = s.reg r2 p2 i2 j2 k2 := (rfl)
@[simp ↓] theorem updChan_rd (s : State) (c : Nat) (f : Chan → Chan) (f2 : Fld) (p2 i2 j2 k2 : Nat) : (s.updChan c f).rd f2 p2 i2 j2 k2 = s.rd f2 p2 i2 j2 k2 := (rfl)
@[simp ↓] theorem updChan_byte (s : State) (c : Nat) (f : Chan → Chan) (a2 : Nat) : (s.updChan c f).byte a2 = s.byte a2 := (rfl)

/-! ### updPort -/

@[simp ↓] theorem updPort_twoPart (s : State) (q : Nat) (f : Port → Port) : (s.updPort q f).twoPart = s.twoPart := (rfl)
@[simp ↓] theorem updPort_straps (s : State) (q : Nat) (f : Port → Port) : (s.updPort q f).straps = s.straps := (rfl)
@[simp ↓] theorem updPort_regs (s : State) (q : Nat) (f : Port → Port) : (s.updPort q f).regs = s.regs := (rfl)
@[simp ↓] theorem updPort_mem (s : State) (q : Nat) (f : Port → Port) : (s.updPort q f).mem = s.mem := (rfl)
@[simp ↓] theorem updPort_sram (s : State) (q : Nat) (f : Port → Port) : (s.updPort q f).sram = s.sram := (rfl)
@[simp ↓] theorem updPort_hbmSide (s : State) (q : Nat) (f : Port → Port) : (s.updPort q f).hbmSide = s.hbmSide := (rfl)
@[simp ↓] theorem updPort_hbmUsed (s : State) (q : Nat) (f : Port → Port) : (s.updPort q f).hbmUsed = s.hbmUsed := (rfl)
@[simp ↓] theorem updPort_sides (s : State) (q : Nat) (f : Port → Port) : (s.updPort q f).sides = s.sides := (rfl)
@[simp ↓] theorem updPort_cores (s : State) (q : Nat) (f : Port → Port) : (s.updPort q f).cores = s.cores := (rfl)
@[simp ↓] theorem updPort_gathers (s : State) (q : Nat) (f : Port → Port) : (s.updPort q f).gathers = s.gathers := (rfl)
@[simp ↓] theorem updPort_chans (s : State) (q : Nat) (f : Port → Port) : (s.updPort q f).chans = s.chans := (rfl)
@[simp ↓] theorem updPort_oes (s : State) (q : Nat) (f : Port → Port) : (s.updPort q f).oes = s.oes := (rfl)
@[simp ↓] theorem updPort_colls (s : State) (q : Nat) (f : Port → Port) : (s.updPort q f).colls = s.colls := (rfl)
@[simp ↓] theorem updPort_rings (s : State) (q : Nat) (f : Port → Port) : (s.updPort q f).rings = s.rings := (rfl)
@[simp ↓] theorem updPort_heaters (s : State) (q : Nat) (f : Port → Port) : (s.updPort q f).heaters = s.heaters := (rfl)
@[simp ↓] theorem updPort_dies (s : State) (q : Nat) (f : Port → Port) : (s.updPort q f).dies = s.dies := (rfl)
@[simp ↓] theorem updPort_preBias (s : State) (q : Nat) (f : Port → Port) : (s.updPort q f).preBias = s.preBias := (rfl)
@[simp ↓] theorem updPort_pfc (s : State) (q : Nat) (f : Port → Port) : (s.updPort q f).pfc = s.pfc := (rfl)
@[simp ↓] theorem updPort_routers (s : State) (q : Nat) (f : Port → Port) : (s.updPort q f).routers = s.routers := (rfl)
@[simp ↓] theorem updPort_sramFix (s : State) (q : Nat) (f : Port → Port) : (s.updPort q f).sramFix = s.sramFix := (rfl)
@[simp ↓] theorem updPort_ueTicks (s : State) (q : Nat) (f : Port → Port) : (s.updPort q f).ueTicks = s.ueTicks := (rfl)
@[simp ↓] theorem updPort_held (s : State) (q : Nat) (f : Port → Port) : (s.updPort q f).held = s.held := (rfl)
@[simp ↓] theorem updPort_fuses (s : State) (q : Nat) (f : Port → Port) : (s.updPort q f).fuses = s.fuses := (rfl)
@[simp ↓] theorem updPort_flash0 (s : State) (q : Nat) (f : Port → Port) : (s.updPort q f).flash0 = s.flash0 := (rfl)
@[simp ↓] theorem updPort_flash1 (s : State) (q : Nat) (f : Port → Port) : (s.updPort q f).flash1 = s.flash1 := (rfl)
@[simp ↓] theorem updPort_mgp0 (s : State) (q : Nat) (f : Port → Port) : (s.updPort q f).mgp0 = s.mgp0 := (rfl)
@[simp ↓] theorem updPort_mgp1 (s : State) (q : Nat) (f : Port → Port) : (s.updPort q f).mgp1 = s.mgp1 := (rfl)
@[simp ↓] theorem updPort_vault (s : State) (q : Nat) (f : Port → Port) : (s.updPort q f).vault = s.vault := (rfl)
@[simp ↓] theorem updPort_i3c0 (s : State) (q : Nat) (f : Port → Port) : (s.updPort q f).i3c0 = s.i3c0 := (rfl)
@[simp ↓] theorem updPort_i3c1 (s : State) (q : Nat) (f : Port → Port) : (s.updPort q f).i3c1 = s.i3c1 := (rfl)
@[simp ↓] theorem updPort_rails (s : State) (q : Nat) (f : Port → Port) : (s.updPort q f).rails = s.rails := (rfl)
@[simp ↓] theorem updPort_temps (s : State) (q : Nat) (f : Port → Port) : (s.updPort q f).temps = s.temps := (rfl)
@[simp ↓] theorem updPort_trip0 (s : State) (q : Nat) (f : Port → Port) : (s.updPort q f).trip0 = s.trip0 := (rfl)
@[simp ↓] theorem updPort_trip1 (s : State) (q : Nat) (f : Port → Port) : (s.updPort q f).trip1 = s.trip1 := (rfl)
@[simp ↓] theorem updPort_day (s : State) (q : Nat) (f : Port → Port) : (s.updPort q f).day = s.day := (rfl)
@[simp ↓] theorem updPort_modeDue (s : State) (q : Nat) (f : Port → Port) : (s.updPort q f).modeDue = s.modeDue := (rfl)
@[simp ↓] theorem updPort_powerOver (s : State) (q : Nat) (f : Port → Port) : (s.updPort q f).powerOver = s.powerOver := (rfl)
@[simp ↓] theorem updPort_part0 (s : State) (q : Nat) (f : Port → Port) : (s.updPort q f).part0 = s.part0 := (rfl)
@[simp ↓] theorem updPort_part1 (s : State) (q : Nat) (f : Port → Port) : (s.updPort q f).part1 = s.part1 := (rfl)
@[simp ↓] theorem updPort_out (s : State) (q : Nat) (f : Port → Port) : (s.updPort q f).out = s.out := (rfl)
@[simp ↓] theorem updPort_free (s : State) (q : Nat) (f : Port → Port) : (s.updPort q f).free = s.free := (rfl)
@[simp ↓] theorem updPort_pending (s : State) (q : Nat) (f : Port → Port) : (s.updPort q f).pending = s.pending := (rfl)
@[simp ↓] theorem updPort_part (s : State) (q : Nat) (f : Port → Port) (q : Nat) : (s.updPort q f).part q = s.part q := (rfl)
@[simp ↓] theorem updPort_core (s : State) (q : Nat) (f : Port → Port) (m : Nat) : (s.updPort q f).core m = s.core m := (rfl)
@[simp ↓] theorem updPort_gather (s : State) (q : Nat) (f : Port → Port) (h : Nat) : (s.updPort q f).gather h = s.gather h := (rfl)
@[simp ↓] theorem updPort_side (s : State) (q : Nat) (f : Port → Port) (b2 x2 : Nat) : (s.updPort q f).side b2 x2 = s.side b2 x2 := (rfl)
@[simp ↓] theorem updPort_chan (s : State) (q : Nat) (f : Port → Port) (c2 : Nat) : (s.updPort q f).chan c2 = s.chan c2 := (rfl)
@[simp ↓] theorem updPort_oe (s : State) (q : Nat) (f : Port → Port) (o2 : Nat) : (s.updPort q f).oe o2 = s.oe o2 := (rfl)
@[simp ↓] theorem updPort_coll (s : State) (q : Nat) (f : Port → Port) (e2 : Nat) : (s.updPort q f).coll e2 = s.coll e2 := (rfl)
@[simp ↓] theorem updPort_die (s : State) (q : Nat) (f : Port → Port) (d2 : Nat) : (s.updPort q f).die d2 = s.die d2 := (rfl)
@[simp ↓] theorem updPort_mgp (s : State) (q : Nat) (f : Port → Port) (h2 : Nat) : (s.updPort q f).mgp h2 = s.mgp h2 := (rfl)
@[simp ↓] theorem updPort_flash (s : State) (q : Nat) (f : Port → Port) (h2 : Nat) : (s.updPort q f).flash h2 = s.flash h2 := (rfl)
@[simp ↓] theorem updPort_reg (s : State) (q : Nat) (f : Port → Port) (r2 : Reg) (p2 i2 j2 k2 : Nat) : (s.updPort q f).reg r2 p2 i2 j2 k2 = s.reg r2 p2 i2 j2 k2 := (rfl)
@[simp ↓] theorem updPort_rd (s : State) (q : Nat) (f : Port → Port) (f2 : Fld) (p2 i2 j2 k2 : Nat) : (s.updPort q f).rd f2 p2 i2 j2 k2 = s.rd f2 p2 i2 j2 k2 := (rfl)
@[simp ↓] theorem updPort_byte (s : State) (q : Nat) (f : Port → Port) (a2 : Nat) : (s.updPort q f).byte a2 = s.byte a2 := (rfl)

/-! ### updOe -/

@[simp ↓] theorem updOe_twoPart (s : State) (o : Nat) (f : Oe → Oe) : (s.updOe o f).twoPart = s.twoPart := (rfl)
@[simp ↓] theorem updOe_straps (s : State) (o : Nat) (f : Oe → Oe) : (s.updOe o f).straps = s.straps := (rfl)
@[simp ↓] theorem updOe_regs (s : State) (o : Nat) (f : Oe → Oe) : (s.updOe o f).regs = s.regs := (rfl)
@[simp ↓] theorem updOe_mem (s : State) (o : Nat) (f : Oe → Oe) : (s.updOe o f).mem = s.mem := (rfl)
@[simp ↓] theorem updOe_sram (s : State) (o : Nat) (f : Oe → Oe) : (s.updOe o f).sram = s.sram := (rfl)
@[simp ↓] theorem updOe_hbmSide (s : State) (o : Nat) (f : Oe → Oe) : (s.updOe o f).hbmSide = s.hbmSide := (rfl)
@[simp ↓] theorem updOe_hbmUsed (s : State) (o : Nat) (f : Oe → Oe) : (s.updOe o f).hbmUsed = s.hbmUsed := (rfl)
@[simp ↓] theorem updOe_sides (s : State) (o : Nat) (f : Oe → Oe) : (s.updOe o f).sides = s.sides := (rfl)
@[simp ↓] theorem updOe_cores (s : State) (o : Nat) (f : Oe → Oe) : (s.updOe o f).cores = s.cores := (rfl)
@[simp ↓] theorem updOe_gathers (s : State) (o : Nat) (f : Oe → Oe) : (s.updOe o f).gathers = s.gathers := (rfl)
@[simp ↓] theorem updOe_chans (s : State) (o : Nat) (f : Oe → Oe) : (s.updOe o f).chans = s.chans := (rfl)
@[simp ↓] theorem updOe_ports (s : State) (o : Nat) (f : Oe → Oe) : (s.updOe o f).ports = s.ports := (rfl)
@[simp ↓] theorem updOe_colls (s : State) (o : Nat) (f : Oe → Oe) : (s.updOe o f).colls = s.colls := (rfl)
@[simp ↓] theorem updOe_rings (s : State) (o : Nat) (f : Oe → Oe) : (s.updOe o f).rings = s.rings := (rfl)
@[simp ↓] theorem updOe_heaters (s : State) (o : Nat) (f : Oe → Oe) : (s.updOe o f).heaters = s.heaters := (rfl)
@[simp ↓] theorem updOe_dies (s : State) (o : Nat) (f : Oe → Oe) : (s.updOe o f).dies = s.dies := (rfl)
@[simp ↓] theorem updOe_preBias (s : State) (o : Nat) (f : Oe → Oe) : (s.updOe o f).preBias = s.preBias := (rfl)
@[simp ↓] theorem updOe_pfc (s : State) (o : Nat) (f : Oe → Oe) : (s.updOe o f).pfc = s.pfc := (rfl)
@[simp ↓] theorem updOe_routers (s : State) (o : Nat) (f : Oe → Oe) : (s.updOe o f).routers = s.routers := (rfl)
@[simp ↓] theorem updOe_sramFix (s : State) (o : Nat) (f : Oe → Oe) : (s.updOe o f).sramFix = s.sramFix := (rfl)
@[simp ↓] theorem updOe_ueTicks (s : State) (o : Nat) (f : Oe → Oe) : (s.updOe o f).ueTicks = s.ueTicks := (rfl)
@[simp ↓] theorem updOe_held (s : State) (o : Nat) (f : Oe → Oe) : (s.updOe o f).held = s.held := (rfl)
@[simp ↓] theorem updOe_fuses (s : State) (o : Nat) (f : Oe → Oe) : (s.updOe o f).fuses = s.fuses := (rfl)
@[simp ↓] theorem updOe_flash0 (s : State) (o : Nat) (f : Oe → Oe) : (s.updOe o f).flash0 = s.flash0 := (rfl)
@[simp ↓] theorem updOe_flash1 (s : State) (o : Nat) (f : Oe → Oe) : (s.updOe o f).flash1 = s.flash1 := (rfl)
@[simp ↓] theorem updOe_mgp0 (s : State) (o : Nat) (f : Oe → Oe) : (s.updOe o f).mgp0 = s.mgp0 := (rfl)
@[simp ↓] theorem updOe_mgp1 (s : State) (o : Nat) (f : Oe → Oe) : (s.updOe o f).mgp1 = s.mgp1 := (rfl)
@[simp ↓] theorem updOe_vault (s : State) (o : Nat) (f : Oe → Oe) : (s.updOe o f).vault = s.vault := (rfl)
@[simp ↓] theorem updOe_i3c0 (s : State) (o : Nat) (f : Oe → Oe) : (s.updOe o f).i3c0 = s.i3c0 := (rfl)
@[simp ↓] theorem updOe_i3c1 (s : State) (o : Nat) (f : Oe → Oe) : (s.updOe o f).i3c1 = s.i3c1 := (rfl)
@[simp ↓] theorem updOe_rails (s : State) (o : Nat) (f : Oe → Oe) : (s.updOe o f).rails = s.rails := (rfl)
@[simp ↓] theorem updOe_temps (s : State) (o : Nat) (f : Oe → Oe) : (s.updOe o f).temps = s.temps := (rfl)
@[simp ↓] theorem updOe_trip0 (s : State) (o : Nat) (f : Oe → Oe) : (s.updOe o f).trip0 = s.trip0 := (rfl)
@[simp ↓] theorem updOe_trip1 (s : State) (o : Nat) (f : Oe → Oe) : (s.updOe o f).trip1 = s.trip1 := (rfl)
@[simp ↓] theorem updOe_day (s : State) (o : Nat) (f : Oe → Oe) : (s.updOe o f).day = s.day := (rfl)
@[simp ↓] theorem updOe_modeDue (s : State) (o : Nat) (f : Oe → Oe) : (s.updOe o f).modeDue = s.modeDue := (rfl)
@[simp ↓] theorem updOe_powerOver (s : State) (o : Nat) (f : Oe → Oe) : (s.updOe o f).powerOver = s.powerOver := (rfl)
@[simp ↓] theorem updOe_part0 (s : State) (o : Nat) (f : Oe → Oe) : (s.updOe o f).part0 = s.part0 := (rfl)
@[simp ↓] theorem updOe_part1 (s : State) (o : Nat) (f : Oe → Oe) : (s.updOe o f).part1 = s.part1 := (rfl)
@[simp ↓] theorem updOe_out (s : State) (o : Nat) (f : Oe → Oe) : (s.updOe o f).out = s.out := (rfl)
@[simp ↓] theorem updOe_free (s : State) (o : Nat) (f : Oe → Oe) : (s.updOe o f).free = s.free := (rfl)
@[simp ↓] theorem updOe_pending (s : State) (o : Nat) (f : Oe → Oe) : (s.updOe o f).pending = s.pending := (rfl)
@[simp ↓] theorem updOe_part (s : State) (o : Nat) (f : Oe → Oe) (q : Nat) : (s.updOe o f).part q = s.part q := (rfl)
@[simp ↓] theorem updOe_core (s : State) (o : Nat) (f : Oe → Oe) (m : Nat) : (s.updOe o f).core m = s.core m := (rfl)
@[simp ↓] theorem updOe_gather (s : State) (o : Nat) (f : Oe → Oe) (h : Nat) : (s.updOe o f).gather h = s.gather h := (rfl)
@[simp ↓] theorem updOe_side (s : State) (o : Nat) (f : Oe → Oe) (b2 x2 : Nat) : (s.updOe o f).side b2 x2 = s.side b2 x2 := (rfl)
@[simp ↓] theorem updOe_chan (s : State) (o : Nat) (f : Oe → Oe) (c2 : Nat) : (s.updOe o f).chan c2 = s.chan c2 := (rfl)
@[simp ↓] theorem updOe_port (s : State) (o : Nat) (f : Oe → Oe) (q2 : Nat) : (s.updOe o f).port q2 = s.port q2 := (rfl)
@[simp ↓] theorem updOe_coll (s : State) (o : Nat) (f : Oe → Oe) (e2 : Nat) : (s.updOe o f).coll e2 = s.coll e2 := (rfl)
@[simp ↓] theorem updOe_die (s : State) (o : Nat) (f : Oe → Oe) (d2 : Nat) : (s.updOe o f).die d2 = s.die d2 := (rfl)
@[simp ↓] theorem updOe_mgp (s : State) (o : Nat) (f : Oe → Oe) (h2 : Nat) : (s.updOe o f).mgp h2 = s.mgp h2 := (rfl)
@[simp ↓] theorem updOe_flash (s : State) (o : Nat) (f : Oe → Oe) (h2 : Nat) : (s.updOe o f).flash h2 = s.flash h2 := (rfl)
@[simp ↓] theorem updOe_reg (s : State) (o : Nat) (f : Oe → Oe) (r2 : Reg) (p2 i2 j2 k2 : Nat) : (s.updOe o f).reg r2 p2 i2 j2 k2 = s.reg r2 p2 i2 j2 k2 := (rfl)
@[simp ↓] theorem updOe_rd (s : State) (o : Nat) (f : Oe → Oe) (f2 : Fld) (p2 i2 j2 k2 : Nat) : (s.updOe o f).rd f2 p2 i2 j2 k2 = s.rd f2 p2 i2 j2 k2 := (rfl)
@[simp ↓] theorem updOe_byte (s : State) (o : Nat) (f : Oe → Oe) (a2 : Nat) : (s.updOe o f).byte a2 = s.byte a2 := (rfl)

/-! ### updColl -/

@[simp ↓] theorem updColl_twoPart (s : State) (e : Nat) (f : CollEng → CollEng) : (s.updColl e f).twoPart = s.twoPart := (rfl)
@[simp ↓] theorem updColl_straps (s : State) (e : Nat) (f : CollEng → CollEng) : (s.updColl e f).straps = s.straps := (rfl)
@[simp ↓] theorem updColl_regs (s : State) (e : Nat) (f : CollEng → CollEng) : (s.updColl e f).regs = s.regs := (rfl)
@[simp ↓] theorem updColl_mem (s : State) (e : Nat) (f : CollEng → CollEng) : (s.updColl e f).mem = s.mem := (rfl)
@[simp ↓] theorem updColl_sram (s : State) (e : Nat) (f : CollEng → CollEng) : (s.updColl e f).sram = s.sram := (rfl)
@[simp ↓] theorem updColl_hbmSide (s : State) (e : Nat) (f : CollEng → CollEng) : (s.updColl e f).hbmSide = s.hbmSide := (rfl)
@[simp ↓] theorem updColl_hbmUsed (s : State) (e : Nat) (f : CollEng → CollEng) : (s.updColl e f).hbmUsed = s.hbmUsed := (rfl)
@[simp ↓] theorem updColl_sides (s : State) (e : Nat) (f : CollEng → CollEng) : (s.updColl e f).sides = s.sides := (rfl)
@[simp ↓] theorem updColl_cores (s : State) (e : Nat) (f : CollEng → CollEng) : (s.updColl e f).cores = s.cores := (rfl)
@[simp ↓] theorem updColl_gathers (s : State) (e : Nat) (f : CollEng → CollEng) : (s.updColl e f).gathers = s.gathers := (rfl)
@[simp ↓] theorem updColl_chans (s : State) (e : Nat) (f : CollEng → CollEng) : (s.updColl e f).chans = s.chans := (rfl)
@[simp ↓] theorem updColl_ports (s : State) (e : Nat) (f : CollEng → CollEng) : (s.updColl e f).ports = s.ports := (rfl)
@[simp ↓] theorem updColl_oes (s : State) (e : Nat) (f : CollEng → CollEng) : (s.updColl e f).oes = s.oes := (rfl)
@[simp ↓] theorem updColl_rings (s : State) (e : Nat) (f : CollEng → CollEng) : (s.updColl e f).rings = s.rings := (rfl)
@[simp ↓] theorem updColl_heaters (s : State) (e : Nat) (f : CollEng → CollEng) : (s.updColl e f).heaters = s.heaters := (rfl)
@[simp ↓] theorem updColl_dies (s : State) (e : Nat) (f : CollEng → CollEng) : (s.updColl e f).dies = s.dies := (rfl)
@[simp ↓] theorem updColl_preBias (s : State) (e : Nat) (f : CollEng → CollEng) : (s.updColl e f).preBias = s.preBias := (rfl)
@[simp ↓] theorem updColl_pfc (s : State) (e : Nat) (f : CollEng → CollEng) : (s.updColl e f).pfc = s.pfc := (rfl)
@[simp ↓] theorem updColl_routers (s : State) (e : Nat) (f : CollEng → CollEng) : (s.updColl e f).routers = s.routers := (rfl)
@[simp ↓] theorem updColl_sramFix (s : State) (e : Nat) (f : CollEng → CollEng) : (s.updColl e f).sramFix = s.sramFix := (rfl)
@[simp ↓] theorem updColl_ueTicks (s : State) (e : Nat) (f : CollEng → CollEng) : (s.updColl e f).ueTicks = s.ueTicks := (rfl)
@[simp ↓] theorem updColl_held (s : State) (e : Nat) (f : CollEng → CollEng) : (s.updColl e f).held = s.held := (rfl)
@[simp ↓] theorem updColl_fuses (s : State) (e : Nat) (f : CollEng → CollEng) : (s.updColl e f).fuses = s.fuses := (rfl)
@[simp ↓] theorem updColl_flash0 (s : State) (e : Nat) (f : CollEng → CollEng) : (s.updColl e f).flash0 = s.flash0 := (rfl)
@[simp ↓] theorem updColl_flash1 (s : State) (e : Nat) (f : CollEng → CollEng) : (s.updColl e f).flash1 = s.flash1 := (rfl)
@[simp ↓] theorem updColl_mgp0 (s : State) (e : Nat) (f : CollEng → CollEng) : (s.updColl e f).mgp0 = s.mgp0 := (rfl)
@[simp ↓] theorem updColl_mgp1 (s : State) (e : Nat) (f : CollEng → CollEng) : (s.updColl e f).mgp1 = s.mgp1 := (rfl)
@[simp ↓] theorem updColl_vault (s : State) (e : Nat) (f : CollEng → CollEng) : (s.updColl e f).vault = s.vault := (rfl)
@[simp ↓] theorem updColl_i3c0 (s : State) (e : Nat) (f : CollEng → CollEng) : (s.updColl e f).i3c0 = s.i3c0 := (rfl)
@[simp ↓] theorem updColl_i3c1 (s : State) (e : Nat) (f : CollEng → CollEng) : (s.updColl e f).i3c1 = s.i3c1 := (rfl)
@[simp ↓] theorem updColl_rails (s : State) (e : Nat) (f : CollEng → CollEng) : (s.updColl e f).rails = s.rails := (rfl)
@[simp ↓] theorem updColl_temps (s : State) (e : Nat) (f : CollEng → CollEng) : (s.updColl e f).temps = s.temps := (rfl)
@[simp ↓] theorem updColl_trip0 (s : State) (e : Nat) (f : CollEng → CollEng) : (s.updColl e f).trip0 = s.trip0 := (rfl)
@[simp ↓] theorem updColl_trip1 (s : State) (e : Nat) (f : CollEng → CollEng) : (s.updColl e f).trip1 = s.trip1 := (rfl)
@[simp ↓] theorem updColl_day (s : State) (e : Nat) (f : CollEng → CollEng) : (s.updColl e f).day = s.day := (rfl)
@[simp ↓] theorem updColl_modeDue (s : State) (e : Nat) (f : CollEng → CollEng) : (s.updColl e f).modeDue = s.modeDue := (rfl)
@[simp ↓] theorem updColl_powerOver (s : State) (e : Nat) (f : CollEng → CollEng) : (s.updColl e f).powerOver = s.powerOver := (rfl)
@[simp ↓] theorem updColl_part0 (s : State) (e : Nat) (f : CollEng → CollEng) : (s.updColl e f).part0 = s.part0 := (rfl)
@[simp ↓] theorem updColl_part1 (s : State) (e : Nat) (f : CollEng → CollEng) : (s.updColl e f).part1 = s.part1 := (rfl)
@[simp ↓] theorem updColl_out (s : State) (e : Nat) (f : CollEng → CollEng) : (s.updColl e f).out = s.out := (rfl)
@[simp ↓] theorem updColl_free (s : State) (e : Nat) (f : CollEng → CollEng) : (s.updColl e f).free = s.free := (rfl)
@[simp ↓] theorem updColl_pending (s : State) (e : Nat) (f : CollEng → CollEng) : (s.updColl e f).pending = s.pending := (rfl)
@[simp ↓] theorem updColl_part (s : State) (e : Nat) (f : CollEng → CollEng) (q : Nat) : (s.updColl e f).part q = s.part q := (rfl)
@[simp ↓] theorem updColl_core (s : State) (e : Nat) (f : CollEng → CollEng) (m : Nat) : (s.updColl e f).core m = s.core m := (rfl)
@[simp ↓] theorem updColl_gather (s : State) (e : Nat) (f : CollEng → CollEng) (h : Nat) : (s.updColl e f).gather h = s.gather h := (rfl)
@[simp ↓] theorem updColl_side (s : State) (e : Nat) (f : CollEng → CollEng) (b2 x2 : Nat) : (s.updColl e f).side b2 x2 = s.side b2 x2 := (rfl)
@[simp ↓] theorem updColl_chan (s : State) (e : Nat) (f : CollEng → CollEng) (c2 : Nat) : (s.updColl e f).chan c2 = s.chan c2 := (rfl)
@[simp ↓] theorem updColl_port (s : State) (e : Nat) (f : CollEng → CollEng) (q2 : Nat) : (s.updColl e f).port q2 = s.port q2 := (rfl)
@[simp ↓] theorem updColl_oe (s : State) (e : Nat) (f : CollEng → CollEng) (o2 : Nat) : (s.updColl e f).oe o2 = s.oe o2 := (rfl)
@[simp ↓] theorem updColl_die (s : State) (e : Nat) (f : CollEng → CollEng) (d2 : Nat) : (s.updColl e f).die d2 = s.die d2 := (rfl)
@[simp ↓] theorem updColl_mgp (s : State) (e : Nat) (f : CollEng → CollEng) (h2 : Nat) : (s.updColl e f).mgp h2 = s.mgp h2 := (rfl)
@[simp ↓] theorem updColl_flash (s : State) (e : Nat) (f : CollEng → CollEng) (h2 : Nat) : (s.updColl e f).flash h2 = s.flash h2 := (rfl)
@[simp ↓] theorem updColl_reg (s : State) (e : Nat) (f : CollEng → CollEng) (r2 : Reg) (p2 i2 j2 k2 : Nat) : (s.updColl e f).reg r2 p2 i2 j2 k2 = s.reg r2 p2 i2 j2 k2 := (rfl)
@[simp ↓] theorem updColl_rd (s : State) (e : Nat) (f : CollEng → CollEng) (f2 : Fld) (p2 i2 j2 k2 : Nat) : (s.updColl e f).rd f2 p2 i2 j2 k2 = s.rd f2 p2 i2 j2 k2 := (rfl)
@[simp ↓] theorem updColl_byte (s : State) (e : Nat) (f : CollEng → CollEng) (a2 : Nat) : (s.updColl e f).byte a2 = s.byte a2 := (rfl)

/-! ### updDie -/

@[simp ↓] theorem updDie_twoPart (s : State) (d : Nat) (f : Die → Die) : (s.updDie d f).twoPart = s.twoPart := (rfl)
@[simp ↓] theorem updDie_straps (s : State) (d : Nat) (f : Die → Die) : (s.updDie d f).straps = s.straps := (rfl)
@[simp ↓] theorem updDie_regs (s : State) (d : Nat) (f : Die → Die) : (s.updDie d f).regs = s.regs := (rfl)
@[simp ↓] theorem updDie_mem (s : State) (d : Nat) (f : Die → Die) : (s.updDie d f).mem = s.mem := (rfl)
@[simp ↓] theorem updDie_sram (s : State) (d : Nat) (f : Die → Die) : (s.updDie d f).sram = s.sram := (rfl)
@[simp ↓] theorem updDie_hbmSide (s : State) (d : Nat) (f : Die → Die) : (s.updDie d f).hbmSide = s.hbmSide := (rfl)
@[simp ↓] theorem updDie_hbmUsed (s : State) (d : Nat) (f : Die → Die) : (s.updDie d f).hbmUsed = s.hbmUsed := (rfl)
@[simp ↓] theorem updDie_sides (s : State) (d : Nat) (f : Die → Die) : (s.updDie d f).sides = s.sides := (rfl)
@[simp ↓] theorem updDie_cores (s : State) (d : Nat) (f : Die → Die) : (s.updDie d f).cores = s.cores := (rfl)
@[simp ↓] theorem updDie_gathers (s : State) (d : Nat) (f : Die → Die) : (s.updDie d f).gathers = s.gathers := (rfl)
@[simp ↓] theorem updDie_chans (s : State) (d : Nat) (f : Die → Die) : (s.updDie d f).chans = s.chans := (rfl)
@[simp ↓] theorem updDie_ports (s : State) (d : Nat) (f : Die → Die) : (s.updDie d f).ports = s.ports := (rfl)
@[simp ↓] theorem updDie_oes (s : State) (d : Nat) (f : Die → Die) : (s.updDie d f).oes = s.oes := (rfl)
@[simp ↓] theorem updDie_colls (s : State) (d : Nat) (f : Die → Die) : (s.updDie d f).colls = s.colls := (rfl)
@[simp ↓] theorem updDie_rings (s : State) (d : Nat) (f : Die → Die) : (s.updDie d f).rings = s.rings := (rfl)
@[simp ↓] theorem updDie_heaters (s : State) (d : Nat) (f : Die → Die) : (s.updDie d f).heaters = s.heaters := (rfl)
@[simp ↓] theorem updDie_preBias (s : State) (d : Nat) (f : Die → Die) : (s.updDie d f).preBias = s.preBias := (rfl)
@[simp ↓] theorem updDie_pfc (s : State) (d : Nat) (f : Die → Die) : (s.updDie d f).pfc = s.pfc := (rfl)
@[simp ↓] theorem updDie_routers (s : State) (d : Nat) (f : Die → Die) : (s.updDie d f).routers = s.routers := (rfl)
@[simp ↓] theorem updDie_sramFix (s : State) (d : Nat) (f : Die → Die) : (s.updDie d f).sramFix = s.sramFix := (rfl)
@[simp ↓] theorem updDie_ueTicks (s : State) (d : Nat) (f : Die → Die) : (s.updDie d f).ueTicks = s.ueTicks := (rfl)
@[simp ↓] theorem updDie_held (s : State) (d : Nat) (f : Die → Die) : (s.updDie d f).held = s.held := (rfl)
@[simp ↓] theorem updDie_fuses (s : State) (d : Nat) (f : Die → Die) : (s.updDie d f).fuses = s.fuses := (rfl)
@[simp ↓] theorem updDie_flash0 (s : State) (d : Nat) (f : Die → Die) : (s.updDie d f).flash0 = s.flash0 := (rfl)
@[simp ↓] theorem updDie_flash1 (s : State) (d : Nat) (f : Die → Die) : (s.updDie d f).flash1 = s.flash1 := (rfl)
@[simp ↓] theorem updDie_mgp0 (s : State) (d : Nat) (f : Die → Die) : (s.updDie d f).mgp0 = s.mgp0 := (rfl)
@[simp ↓] theorem updDie_mgp1 (s : State) (d : Nat) (f : Die → Die) : (s.updDie d f).mgp1 = s.mgp1 := (rfl)
@[simp ↓] theorem updDie_vault (s : State) (d : Nat) (f : Die → Die) : (s.updDie d f).vault = s.vault := (rfl)
@[simp ↓] theorem updDie_i3c0 (s : State) (d : Nat) (f : Die → Die) : (s.updDie d f).i3c0 = s.i3c0 := (rfl)
@[simp ↓] theorem updDie_i3c1 (s : State) (d : Nat) (f : Die → Die) : (s.updDie d f).i3c1 = s.i3c1 := (rfl)
@[simp ↓] theorem updDie_rails (s : State) (d : Nat) (f : Die → Die) : (s.updDie d f).rails = s.rails := (rfl)
@[simp ↓] theorem updDie_temps (s : State) (d : Nat) (f : Die → Die) : (s.updDie d f).temps = s.temps := (rfl)
@[simp ↓] theorem updDie_trip0 (s : State) (d : Nat) (f : Die → Die) : (s.updDie d f).trip0 = s.trip0 := (rfl)
@[simp ↓] theorem updDie_trip1 (s : State) (d : Nat) (f : Die → Die) : (s.updDie d f).trip1 = s.trip1 := (rfl)
@[simp ↓] theorem updDie_day (s : State) (d : Nat) (f : Die → Die) : (s.updDie d f).day = s.day := (rfl)
@[simp ↓] theorem updDie_modeDue (s : State) (d : Nat) (f : Die → Die) : (s.updDie d f).modeDue = s.modeDue := (rfl)
@[simp ↓] theorem updDie_powerOver (s : State) (d : Nat) (f : Die → Die) : (s.updDie d f).powerOver = s.powerOver := (rfl)
@[simp ↓] theorem updDie_part0 (s : State) (d : Nat) (f : Die → Die) : (s.updDie d f).part0 = s.part0 := (rfl)
@[simp ↓] theorem updDie_part1 (s : State) (d : Nat) (f : Die → Die) : (s.updDie d f).part1 = s.part1 := (rfl)
@[simp ↓] theorem updDie_out (s : State) (d : Nat) (f : Die → Die) : (s.updDie d f).out = s.out := (rfl)
@[simp ↓] theorem updDie_free (s : State) (d : Nat) (f : Die → Die) : (s.updDie d f).free = s.free := (rfl)
@[simp ↓] theorem updDie_pending (s : State) (d : Nat) (f : Die → Die) : (s.updDie d f).pending = s.pending := (rfl)
@[simp ↓] theorem updDie_part (s : State) (d : Nat) (f : Die → Die) (q : Nat) : (s.updDie d f).part q = s.part q := (rfl)
@[simp ↓] theorem updDie_core (s : State) (d : Nat) (f : Die → Die) (m : Nat) : (s.updDie d f).core m = s.core m := (rfl)
@[simp ↓] theorem updDie_gather (s : State) (d : Nat) (f : Die → Die) (h : Nat) : (s.updDie d f).gather h = s.gather h := (rfl)
@[simp ↓] theorem updDie_side (s : State) (d : Nat) (f : Die → Die) (b2 x2 : Nat) : (s.updDie d f).side b2 x2 = s.side b2 x2 := (rfl)
@[simp ↓] theorem updDie_chan (s : State) (d : Nat) (f : Die → Die) (c2 : Nat) : (s.updDie d f).chan c2 = s.chan c2 := (rfl)
@[simp ↓] theorem updDie_port (s : State) (d : Nat) (f : Die → Die) (q2 : Nat) : (s.updDie d f).port q2 = s.port q2 := (rfl)
@[simp ↓] theorem updDie_oe (s : State) (d : Nat) (f : Die → Die) (o2 : Nat) : (s.updDie d f).oe o2 = s.oe o2 := (rfl)
@[simp ↓] theorem updDie_coll (s : State) (d : Nat) (f : Die → Die) (e2 : Nat) : (s.updDie d f).coll e2 = s.coll e2 := (rfl)
@[simp ↓] theorem updDie_mgp (s : State) (d : Nat) (f : Die → Die) (h2 : Nat) : (s.updDie d f).mgp h2 = s.mgp h2 := (rfl)
@[simp ↓] theorem updDie_flash (s : State) (d : Nat) (f : Die → Die) (h2 : Nat) : (s.updDie d f).flash h2 = s.flash h2 := (rfl)
@[simp ↓] theorem updDie_reg (s : State) (d : Nat) (f : Die → Die) (r2 : Reg) (p2 i2 j2 k2 : Nat) : (s.updDie d f).reg r2 p2 i2 j2 k2 = s.reg r2 p2 i2 j2 k2 := (rfl)
@[simp ↓] theorem updDie_rd (s : State) (d : Nat) (f : Die → Die) (f2 : Fld) (p2 i2 j2 k2 : Nat) : (s.updDie d f).rd f2 p2 i2 j2 k2 = s.rd f2 p2 i2 j2 k2 := (rfl)
@[simp ↓] theorem updDie_byte (s : State) (d : Nat) (f : Die → Die) (a2 : Nat) : (s.updDie d f).byte a2 = s.byte a2 := (rfl)

/-! ### updMgp -/

@[simp ↓] theorem updMgp_twoPart (s : State) (h : Nat) (f : Mgp → Mgp) : (s.updMgp h f).twoPart = s.twoPart := by unfold State.updMgp; split <;> rfl
@[simp ↓] theorem updMgp_straps (s : State) (h : Nat) (f : Mgp → Mgp) : (s.updMgp h f).straps = s.straps := by unfold State.updMgp; split <;> rfl
@[simp ↓] theorem updMgp_regs (s : State) (h : Nat) (f : Mgp → Mgp) : (s.updMgp h f).regs = s.regs := by unfold State.updMgp; split <;> rfl
@[simp ↓] theorem updMgp_mem (s : State) (h : Nat) (f : Mgp → Mgp) : (s.updMgp h f).mem = s.mem := by unfold State.updMgp; split <;> rfl
@[simp ↓] theorem updMgp_sram (s : State) (h : Nat) (f : Mgp → Mgp) : (s.updMgp h f).sram = s.sram := by unfold State.updMgp; split <;> rfl
@[simp ↓] theorem updMgp_hbmSide (s : State) (h : Nat) (f : Mgp → Mgp) : (s.updMgp h f).hbmSide = s.hbmSide := by unfold State.updMgp; split <;> rfl
@[simp ↓] theorem updMgp_hbmUsed (s : State) (h : Nat) (f : Mgp → Mgp) : (s.updMgp h f).hbmUsed = s.hbmUsed := by unfold State.updMgp; split <;> rfl
@[simp ↓] theorem updMgp_sides (s : State) (h : Nat) (f : Mgp → Mgp) : (s.updMgp h f).sides = s.sides := by unfold State.updMgp; split <;> rfl
@[simp ↓] theorem updMgp_cores (s : State) (h : Nat) (f : Mgp → Mgp) : (s.updMgp h f).cores = s.cores := by unfold State.updMgp; split <;> rfl
@[simp ↓] theorem updMgp_gathers (s : State) (h : Nat) (f : Mgp → Mgp) : (s.updMgp h f).gathers = s.gathers := by unfold State.updMgp; split <;> rfl
@[simp ↓] theorem updMgp_chans (s : State) (h : Nat) (f : Mgp → Mgp) : (s.updMgp h f).chans = s.chans := by unfold State.updMgp; split <;> rfl
@[simp ↓] theorem updMgp_ports (s : State) (h : Nat) (f : Mgp → Mgp) : (s.updMgp h f).ports = s.ports := by unfold State.updMgp; split <;> rfl
@[simp ↓] theorem updMgp_oes (s : State) (h : Nat) (f : Mgp → Mgp) : (s.updMgp h f).oes = s.oes := by unfold State.updMgp; split <;> rfl
@[simp ↓] theorem updMgp_colls (s : State) (h : Nat) (f : Mgp → Mgp) : (s.updMgp h f).colls = s.colls := by unfold State.updMgp; split <;> rfl
@[simp ↓] theorem updMgp_rings (s : State) (h : Nat) (f : Mgp → Mgp) : (s.updMgp h f).rings = s.rings := by unfold State.updMgp; split <;> rfl
@[simp ↓] theorem updMgp_heaters (s : State) (h : Nat) (f : Mgp → Mgp) : (s.updMgp h f).heaters = s.heaters := by unfold State.updMgp; split <;> rfl
@[simp ↓] theorem updMgp_dies (s : State) (h : Nat) (f : Mgp → Mgp) : (s.updMgp h f).dies = s.dies := by unfold State.updMgp; split <;> rfl
@[simp ↓] theorem updMgp_preBias (s : State) (h : Nat) (f : Mgp → Mgp) : (s.updMgp h f).preBias = s.preBias := by unfold State.updMgp; split <;> rfl
@[simp ↓] theorem updMgp_pfc (s : State) (h : Nat) (f : Mgp → Mgp) : (s.updMgp h f).pfc = s.pfc := by unfold State.updMgp; split <;> rfl
@[simp ↓] theorem updMgp_routers (s : State) (h : Nat) (f : Mgp → Mgp) : (s.updMgp h f).routers = s.routers := by unfold State.updMgp; split <;> rfl
@[simp ↓] theorem updMgp_sramFix (s : State) (h : Nat) (f : Mgp → Mgp) : (s.updMgp h f).sramFix = s.sramFix := by unfold State.updMgp; split <;> rfl
@[simp ↓] theorem updMgp_ueTicks (s : State) (h : Nat) (f : Mgp → Mgp) : (s.updMgp h f).ueTicks = s.ueTicks := by unfold State.updMgp; split <;> rfl
@[simp ↓] theorem updMgp_held (s : State) (h : Nat) (f : Mgp → Mgp) : (s.updMgp h f).held = s.held := by unfold State.updMgp; split <;> rfl
@[simp ↓] theorem updMgp_fuses (s : State) (h : Nat) (f : Mgp → Mgp) : (s.updMgp h f).fuses = s.fuses := by unfold State.updMgp; split <;> rfl
@[simp ↓] theorem updMgp_flash0 (s : State) (h : Nat) (f : Mgp → Mgp) : (s.updMgp h f).flash0 = s.flash0 := by unfold State.updMgp; split <;> rfl
@[simp ↓] theorem updMgp_flash1 (s : State) (h : Nat) (f : Mgp → Mgp) : (s.updMgp h f).flash1 = s.flash1 := by unfold State.updMgp; split <;> rfl
@[simp ↓] theorem updMgp_vault (s : State) (h : Nat) (f : Mgp → Mgp) : (s.updMgp h f).vault = s.vault := by unfold State.updMgp; split <;> rfl
@[simp ↓] theorem updMgp_i3c0 (s : State) (h : Nat) (f : Mgp → Mgp) : (s.updMgp h f).i3c0 = s.i3c0 := by unfold State.updMgp; split <;> rfl
@[simp ↓] theorem updMgp_i3c1 (s : State) (h : Nat) (f : Mgp → Mgp) : (s.updMgp h f).i3c1 = s.i3c1 := by unfold State.updMgp; split <;> rfl
@[simp ↓] theorem updMgp_rails (s : State) (h : Nat) (f : Mgp → Mgp) : (s.updMgp h f).rails = s.rails := by unfold State.updMgp; split <;> rfl
@[simp ↓] theorem updMgp_temps (s : State) (h : Nat) (f : Mgp → Mgp) : (s.updMgp h f).temps = s.temps := by unfold State.updMgp; split <;> rfl
@[simp ↓] theorem updMgp_trip0 (s : State) (h : Nat) (f : Mgp → Mgp) : (s.updMgp h f).trip0 = s.trip0 := by unfold State.updMgp; split <;> rfl
@[simp ↓] theorem updMgp_trip1 (s : State) (h : Nat) (f : Mgp → Mgp) : (s.updMgp h f).trip1 = s.trip1 := by unfold State.updMgp; split <;> rfl
@[simp ↓] theorem updMgp_day (s : State) (h : Nat) (f : Mgp → Mgp) : (s.updMgp h f).day = s.day := by unfold State.updMgp; split <;> rfl
@[simp ↓] theorem updMgp_modeDue (s : State) (h : Nat) (f : Mgp → Mgp) : (s.updMgp h f).modeDue = s.modeDue := by unfold State.updMgp; split <;> rfl
@[simp ↓] theorem updMgp_powerOver (s : State) (h : Nat) (f : Mgp → Mgp) : (s.updMgp h f).powerOver = s.powerOver := by unfold State.updMgp; split <;> rfl
@[simp ↓] theorem updMgp_part0 (s : State) (h : Nat) (f : Mgp → Mgp) : (s.updMgp h f).part0 = s.part0 := by unfold State.updMgp; split <;> rfl
@[simp ↓] theorem updMgp_part1 (s : State) (h : Nat) (f : Mgp → Mgp) : (s.updMgp h f).part1 = s.part1 := by unfold State.updMgp; split <;> rfl
@[simp ↓] theorem updMgp_out (s : State) (h : Nat) (f : Mgp → Mgp) : (s.updMgp h f).out = s.out := by unfold State.updMgp; split <;> rfl
@[simp ↓] theorem updMgp_free (s : State) (h : Nat) (f : Mgp → Mgp) : (s.updMgp h f).free = s.free := by unfold State.updMgp; split <;> rfl
@[simp ↓] theorem updMgp_pending (s : State) (h : Nat) (f : Mgp → Mgp) : (s.updMgp h f).pending = s.pending := by unfold State.updMgp; split <;> rfl
@[simp ↓] theorem updMgp_part (s : State) (h : Nat) (f : Mgp → Mgp) (q : Nat) : (s.updMgp h f).part q = s.part q := by simp [State.part]
@[simp ↓] theorem updMgp_core (s : State) (h : Nat) (f : Mgp → Mgp) (m : Nat) : (s.updMgp h f).core m = s.core m := by simp [State.core]
@[simp ↓] theorem updMgp_gather (s : State) (h : Nat) (f : Mgp → Mgp) (h : Nat) : (s.updMgp h f).gather h = s.gather h := by simp [State.gather]
@[simp ↓] theorem updMgp_side (s : State) (h : Nat) (f : Mgp → Mgp) (b2 x2 : Nat) : (s.updMgp h f).side b2 x2 = s.side b2 x2 := by simp [State.side]
@[simp ↓] theorem updMgp_chan (s : State) (h : Nat) (f : Mgp → Mgp) (c2 : Nat) : (s.updMgp h f).chan c2 = s.chan c2 := by simp [State.chan]
@[simp ↓] theorem updMgp_port (s : State) (h : Nat) (f : Mgp → Mgp) (q2 : Nat) : (s.updMgp h f).port q2 = s.port q2 := by simp [State.port]
@[simp ↓] theorem updMgp_oe (s : State) (h : Nat) (f : Mgp → Mgp) (o2 : Nat) : (s.updMgp h f).oe o2 = s.oe o2 := by simp [State.oe]
@[simp ↓] theorem updMgp_coll (s : State) (h : Nat) (f : Mgp → Mgp) (e2 : Nat) : (s.updMgp h f).coll e2 = s.coll e2 := by simp [State.coll]
@[simp ↓] theorem updMgp_die (s : State) (h : Nat) (f : Mgp → Mgp) (d2 : Nat) : (s.updMgp h f).die d2 = s.die d2 := by simp [State.die]
@[simp ↓] theorem updMgp_flash (s : State) (h : Nat) (f : Mgp → Mgp) (h2 : Nat) : (s.updMgp h f).flash h2 = s.flash h2 := by simp [State.flash]
@[simp ↓] theorem updMgp_reg (s : State) (h : Nat) (f : Mgp → Mgp) (r2 : Reg) (p2 i2 j2 k2 : Nat) : (s.updMgp h f).reg r2 p2 i2 j2 k2 = s.reg r2 p2 i2 j2 k2 := by simp [State.reg]
@[simp ↓] theorem updMgp_rd (s : State) (h : Nat) (f : Mgp → Mgp) (f2 : Fld) (p2 i2 j2 k2 : Nat) : (s.updMgp h f).rd f2 p2 i2 j2 k2 = s.rd f2 p2 i2 j2 k2 := by simp [State.rd, State.reg]
@[simp ↓] theorem updMgp_byte (s : State) (h : Nat) (f : Mgp → Mgp) (a2 : Nat) : (s.updMgp h f).byte a2 = s.byte a2 := by simp [State.byte]

/-! ### updFlash -/

@[simp ↓] theorem updFlash_twoPart (s : State) (h : Nat) (f : Flash → Flash) : (s.updFlash h f).twoPart = s.twoPart := by unfold State.updFlash; split <;> rfl
@[simp ↓] theorem updFlash_straps (s : State) (h : Nat) (f : Flash → Flash) : (s.updFlash h f).straps = s.straps := by unfold State.updFlash; split <;> rfl
@[simp ↓] theorem updFlash_regs (s : State) (h : Nat) (f : Flash → Flash) : (s.updFlash h f).regs = s.regs := by unfold State.updFlash; split <;> rfl
@[simp ↓] theorem updFlash_mem (s : State) (h : Nat) (f : Flash → Flash) : (s.updFlash h f).mem = s.mem := by unfold State.updFlash; split <;> rfl
@[simp ↓] theorem updFlash_sram (s : State) (h : Nat) (f : Flash → Flash) : (s.updFlash h f).sram = s.sram := by unfold State.updFlash; split <;> rfl
@[simp ↓] theorem updFlash_hbmSide (s : State) (h : Nat) (f : Flash → Flash) : (s.updFlash h f).hbmSide = s.hbmSide := by unfold State.updFlash; split <;> rfl
@[simp ↓] theorem updFlash_hbmUsed (s : State) (h : Nat) (f : Flash → Flash) : (s.updFlash h f).hbmUsed = s.hbmUsed := by unfold State.updFlash; split <;> rfl
@[simp ↓] theorem updFlash_sides (s : State) (h : Nat) (f : Flash → Flash) : (s.updFlash h f).sides = s.sides := by unfold State.updFlash; split <;> rfl
@[simp ↓] theorem updFlash_cores (s : State) (h : Nat) (f : Flash → Flash) : (s.updFlash h f).cores = s.cores := by unfold State.updFlash; split <;> rfl
@[simp ↓] theorem updFlash_gathers (s : State) (h : Nat) (f : Flash → Flash) : (s.updFlash h f).gathers = s.gathers := by unfold State.updFlash; split <;> rfl
@[simp ↓] theorem updFlash_chans (s : State) (h : Nat) (f : Flash → Flash) : (s.updFlash h f).chans = s.chans := by unfold State.updFlash; split <;> rfl
@[simp ↓] theorem updFlash_ports (s : State) (h : Nat) (f : Flash → Flash) : (s.updFlash h f).ports = s.ports := by unfold State.updFlash; split <;> rfl
@[simp ↓] theorem updFlash_oes (s : State) (h : Nat) (f : Flash → Flash) : (s.updFlash h f).oes = s.oes := by unfold State.updFlash; split <;> rfl
@[simp ↓] theorem updFlash_colls (s : State) (h : Nat) (f : Flash → Flash) : (s.updFlash h f).colls = s.colls := by unfold State.updFlash; split <;> rfl
@[simp ↓] theorem updFlash_rings (s : State) (h : Nat) (f : Flash → Flash) : (s.updFlash h f).rings = s.rings := by unfold State.updFlash; split <;> rfl
@[simp ↓] theorem updFlash_heaters (s : State) (h : Nat) (f : Flash → Flash) : (s.updFlash h f).heaters = s.heaters := by unfold State.updFlash; split <;> rfl
@[simp ↓] theorem updFlash_dies (s : State) (h : Nat) (f : Flash → Flash) : (s.updFlash h f).dies = s.dies := by unfold State.updFlash; split <;> rfl
@[simp ↓] theorem updFlash_preBias (s : State) (h : Nat) (f : Flash → Flash) : (s.updFlash h f).preBias = s.preBias := by unfold State.updFlash; split <;> rfl
@[simp ↓] theorem updFlash_pfc (s : State) (h : Nat) (f : Flash → Flash) : (s.updFlash h f).pfc = s.pfc := by unfold State.updFlash; split <;> rfl
@[simp ↓] theorem updFlash_routers (s : State) (h : Nat) (f : Flash → Flash) : (s.updFlash h f).routers = s.routers := by unfold State.updFlash; split <;> rfl
@[simp ↓] theorem updFlash_sramFix (s : State) (h : Nat) (f : Flash → Flash) : (s.updFlash h f).sramFix = s.sramFix := by unfold State.updFlash; split <;> rfl
@[simp ↓] theorem updFlash_ueTicks (s : State) (h : Nat) (f : Flash → Flash) : (s.updFlash h f).ueTicks = s.ueTicks := by unfold State.updFlash; split <;> rfl
@[simp ↓] theorem updFlash_held (s : State) (h : Nat) (f : Flash → Flash) : (s.updFlash h f).held = s.held := by unfold State.updFlash; split <;> rfl
@[simp ↓] theorem updFlash_fuses (s : State) (h : Nat) (f : Flash → Flash) : (s.updFlash h f).fuses = s.fuses := by unfold State.updFlash; split <;> rfl
@[simp ↓] theorem updFlash_mgp0 (s : State) (h : Nat) (f : Flash → Flash) : (s.updFlash h f).mgp0 = s.mgp0 := by unfold State.updFlash; split <;> rfl
@[simp ↓] theorem updFlash_mgp1 (s : State) (h : Nat) (f : Flash → Flash) : (s.updFlash h f).mgp1 = s.mgp1 := by unfold State.updFlash; split <;> rfl
@[simp ↓] theorem updFlash_vault (s : State) (h : Nat) (f : Flash → Flash) : (s.updFlash h f).vault = s.vault := by unfold State.updFlash; split <;> rfl
@[simp ↓] theorem updFlash_i3c0 (s : State) (h : Nat) (f : Flash → Flash) : (s.updFlash h f).i3c0 = s.i3c0 := by unfold State.updFlash; split <;> rfl
@[simp ↓] theorem updFlash_i3c1 (s : State) (h : Nat) (f : Flash → Flash) : (s.updFlash h f).i3c1 = s.i3c1 := by unfold State.updFlash; split <;> rfl
@[simp ↓] theorem updFlash_rails (s : State) (h : Nat) (f : Flash → Flash) : (s.updFlash h f).rails = s.rails := by unfold State.updFlash; split <;> rfl
@[simp ↓] theorem updFlash_temps (s : State) (h : Nat) (f : Flash → Flash) : (s.updFlash h f).temps = s.temps := by unfold State.updFlash; split <;> rfl
@[simp ↓] theorem updFlash_trip0 (s : State) (h : Nat) (f : Flash → Flash) : (s.updFlash h f).trip0 = s.trip0 := by unfold State.updFlash; split <;> rfl
@[simp ↓] theorem updFlash_trip1 (s : State) (h : Nat) (f : Flash → Flash) : (s.updFlash h f).trip1 = s.trip1 := by unfold State.updFlash; split <;> rfl
@[simp ↓] theorem updFlash_day (s : State) (h : Nat) (f : Flash → Flash) : (s.updFlash h f).day = s.day := by unfold State.updFlash; split <;> rfl
@[simp ↓] theorem updFlash_modeDue (s : State) (h : Nat) (f : Flash → Flash) : (s.updFlash h f).modeDue = s.modeDue := by unfold State.updFlash; split <;> rfl
@[simp ↓] theorem updFlash_powerOver (s : State) (h : Nat) (f : Flash → Flash) : (s.updFlash h f).powerOver = s.powerOver := by unfold State.updFlash; split <;> rfl
@[simp ↓] theorem updFlash_part0 (s : State) (h : Nat) (f : Flash → Flash) : (s.updFlash h f).part0 = s.part0 := by unfold State.updFlash; split <;> rfl
@[simp ↓] theorem updFlash_part1 (s : State) (h : Nat) (f : Flash → Flash) : (s.updFlash h f).part1 = s.part1 := by unfold State.updFlash; split <;> rfl
@[simp ↓] theorem updFlash_out (s : State) (h : Nat) (f : Flash → Flash) : (s.updFlash h f).out = s.out := by unfold State.updFlash; split <;> rfl
@[simp ↓] theorem updFlash_free (s : State) (h : Nat) (f : Flash → Flash) : (s.updFlash h f).free = s.free := by unfold State.updFlash; split <;> rfl
@[simp ↓] theorem updFlash_pending (s : State) (h : Nat) (f : Flash → Flash) : (s.updFlash h f).pending = s.pending := by unfold State.updFlash; split <;> rfl
@[simp ↓] theorem updFlash_part (s : State) (h : Nat) (f : Flash → Flash) (q : Nat) : (s.updFlash h f).part q = s.part q := by simp [State.part]
@[simp ↓] theorem updFlash_core (s : State) (h : Nat) (f : Flash → Flash) (m : Nat) : (s.updFlash h f).core m = s.core m := by simp [State.core]
@[simp ↓] theorem updFlash_gather (s : State) (h : Nat) (f : Flash → Flash) (h : Nat) : (s.updFlash h f).gather h = s.gather h := by simp [State.gather]
@[simp ↓] theorem updFlash_side (s : State) (h : Nat) (f : Flash → Flash) (b2 x2 : Nat) : (s.updFlash h f).side b2 x2 = s.side b2 x2 := by simp [State.side]
@[simp ↓] theorem updFlash_chan (s : State) (h : Nat) (f : Flash → Flash) (c2 : Nat) : (s.updFlash h f).chan c2 = s.chan c2 := by simp [State.chan]
@[simp ↓] theorem updFlash_port (s : State) (h : Nat) (f : Flash → Flash) (q2 : Nat) : (s.updFlash h f).port q2 = s.port q2 := by simp [State.port]
@[simp ↓] theorem updFlash_oe (s : State) (h : Nat) (f : Flash → Flash) (o2 : Nat) : (s.updFlash h f).oe o2 = s.oe o2 := by simp [State.oe]
@[simp ↓] theorem updFlash_coll (s : State) (h : Nat) (f : Flash → Flash) (e2 : Nat) : (s.updFlash h f).coll e2 = s.coll e2 := by simp [State.coll]
@[simp ↓] theorem updFlash_die (s : State) (h : Nat) (f : Flash → Flash) (d2 : Nat) : (s.updFlash h f).die d2 = s.die d2 := by simp [State.die]
@[simp ↓] theorem updFlash_mgp (s : State) (h : Nat) (f : Flash → Flash) (h2 : Nat) : (s.updFlash h f).mgp h2 = s.mgp h2 := by simp [State.mgp]
@[simp ↓] theorem updFlash_reg (s : State) (h : Nat) (f : Flash → Flash) (r2 : Reg) (p2 i2 j2 k2 : Nat) : (s.updFlash h f).reg r2 p2 i2 j2 k2 = s.reg r2 p2 i2 j2 k2 := by simp [State.reg]
@[simp ↓] theorem updFlash_rd (s : State) (h : Nat) (f : Flash → Flash) (f2 : Fld) (p2 i2 j2 k2 : Nat) : (s.updFlash h f).rd f2 p2 i2 j2 k2 = s.rd f2 p2 i2 j2 k2 := by simp [State.rd, State.reg]
@[simp ↓] theorem updFlash_byte (s : State) (h : Nat) (f : Flash → Flash) (a2 : Nat) : (s.updFlash h f).byte a2 = s.byte a2 := by simp [State.byte]

/-! ### emit -/

@[simp ↓] theorem emit_twoPart (s : State) (e : Emit) : (s.emit e).twoPart = s.twoPart := (rfl)
@[simp ↓] theorem emit_straps (s : State) (e : Emit) : (s.emit e).straps = s.straps := (rfl)
@[simp ↓] theorem emit_regs (s : State) (e : Emit) : (s.emit e).regs = s.regs := (rfl)
@[simp ↓] theorem emit_mem (s : State) (e : Emit) : (s.emit e).mem = s.mem := (rfl)
@[simp ↓] theorem emit_sram (s : State) (e : Emit) : (s.emit e).sram = s.sram := (rfl)
@[simp ↓] theorem emit_hbmSide (s : State) (e : Emit) : (s.emit e).hbmSide = s.hbmSide := (rfl)
@[simp ↓] theorem emit_hbmUsed (s : State) (e : Emit) : (s.emit e).hbmUsed = s.hbmUsed := (rfl)
@[simp ↓] theorem emit_sides (s : State) (e : Emit) : (s.emit e).sides = s.sides := (rfl)
@[simp ↓] theorem emit_cores (s : State) (e : Emit) : (s.emit e).cores = s.cores := (rfl)
@[simp ↓] theorem emit_gathers (s : State) (e : Emit) : (s.emit e).gathers = s.gathers := (rfl)
@[simp ↓] theorem emit_chans (s : State) (e : Emit) : (s.emit e).chans = s.chans := (rfl)
@[simp ↓] theorem emit_ports (s : State) (e : Emit) : (s.emit e).ports = s.ports := (rfl)
@[simp ↓] theorem emit_oes (s : State) (e : Emit) : (s.emit e).oes = s.oes := (rfl)
@[simp ↓] theorem emit_colls (s : State) (e : Emit) : (s.emit e).colls = s.colls := (rfl)
@[simp ↓] theorem emit_rings (s : State) (e : Emit) : (s.emit e).rings = s.rings := (rfl)
@[simp ↓] theorem emit_heaters (s : State) (e : Emit) : (s.emit e).heaters = s.heaters := (rfl)
@[simp ↓] theorem emit_dies (s : State) (e : Emit) : (s.emit e).dies = s.dies := (rfl)
@[simp ↓] theorem emit_preBias (s : State) (e : Emit) : (s.emit e).preBias = s.preBias := (rfl)
@[simp ↓] theorem emit_pfc (s : State) (e : Emit) : (s.emit e).pfc = s.pfc := (rfl)
@[simp ↓] theorem emit_routers (s : State) (e : Emit) : (s.emit e).routers = s.routers := (rfl)
@[simp ↓] theorem emit_sramFix (s : State) (e : Emit) : (s.emit e).sramFix = s.sramFix := (rfl)
@[simp ↓] theorem emit_ueTicks (s : State) (e : Emit) : (s.emit e).ueTicks = s.ueTicks := (rfl)
@[simp ↓] theorem emit_held (s : State) (e : Emit) : (s.emit e).held = s.held := (rfl)
@[simp ↓] theorem emit_fuses (s : State) (e : Emit) : (s.emit e).fuses = s.fuses := (rfl)
@[simp ↓] theorem emit_flash0 (s : State) (e : Emit) : (s.emit e).flash0 = s.flash0 := (rfl)
@[simp ↓] theorem emit_flash1 (s : State) (e : Emit) : (s.emit e).flash1 = s.flash1 := (rfl)
@[simp ↓] theorem emit_mgp0 (s : State) (e : Emit) : (s.emit e).mgp0 = s.mgp0 := (rfl)
@[simp ↓] theorem emit_mgp1 (s : State) (e : Emit) : (s.emit e).mgp1 = s.mgp1 := (rfl)
@[simp ↓] theorem emit_vault (s : State) (e : Emit) : (s.emit e).vault = s.vault := (rfl)
@[simp ↓] theorem emit_i3c0 (s : State) (e : Emit) : (s.emit e).i3c0 = s.i3c0 := (rfl)
@[simp ↓] theorem emit_i3c1 (s : State) (e : Emit) : (s.emit e).i3c1 = s.i3c1 := (rfl)
@[simp ↓] theorem emit_rails (s : State) (e : Emit) : (s.emit e).rails = s.rails := (rfl)
@[simp ↓] theorem emit_temps (s : State) (e : Emit) : (s.emit e).temps = s.temps := (rfl)
@[simp ↓] theorem emit_trip0 (s : State) (e : Emit) : (s.emit e).trip0 = s.trip0 := (rfl)
@[simp ↓] theorem emit_trip1 (s : State) (e : Emit) : (s.emit e).trip1 = s.trip1 := (rfl)
@[simp ↓] theorem emit_day (s : State) (e : Emit) : (s.emit e).day = s.day := (rfl)
@[simp ↓] theorem emit_modeDue (s : State) (e : Emit) : (s.emit e).modeDue = s.modeDue := (rfl)
@[simp ↓] theorem emit_powerOver (s : State) (e : Emit) : (s.emit e).powerOver = s.powerOver := (rfl)
@[simp ↓] theorem emit_part0 (s : State) (e : Emit) : (s.emit e).part0 = s.part0 := (rfl)
@[simp ↓] theorem emit_part1 (s : State) (e : Emit) : (s.emit e).part1 = s.part1 := (rfl)
@[simp ↓] theorem emit_free (s : State) (e : Emit) : (s.emit e).free = s.free := (rfl)
@[simp ↓] theorem emit_pending (s : State) (e : Emit) : (s.emit e).pending = s.pending := (rfl)
@[simp ↓] theorem emit_part (s : State) (e : Emit) (q : Nat) : (s.emit e).part q = s.part q := (rfl)
@[simp ↓] theorem emit_core (s : State) (e : Emit) (m : Nat) : (s.emit e).core m = s.core m := (rfl)
@[simp ↓] theorem emit_gather (s : State) (e : Emit) (h : Nat) : (s.emit e).gather h = s.gather h := (rfl)
@[simp ↓] theorem emit_side (s : State) (e : Emit) (b2 x2 : Nat) : (s.emit e).side b2 x2 = s.side b2 x2 := (rfl)
@[simp ↓] theorem emit_chan (s : State) (e : Emit) (c2 : Nat) : (s.emit e).chan c2 = s.chan c2 := (rfl)
@[simp ↓] theorem emit_port (s : State) (e : Emit) (q2 : Nat) : (s.emit e).port q2 = s.port q2 := (rfl)
@[simp ↓] theorem emit_oe (s : State) (e : Emit) (o2 : Nat) : (s.emit e).oe o2 = s.oe o2 := (rfl)
@[simp ↓] theorem emit_coll (s : State) (e : Emit) (e2 : Nat) : (s.emit e).coll e2 = s.coll e2 := (rfl)
@[simp ↓] theorem emit_die (s : State) (e : Emit) (d2 : Nat) : (s.emit e).die d2 = s.die d2 := (rfl)
@[simp ↓] theorem emit_mgp (s : State) (e : Emit) (h2 : Nat) : (s.emit e).mgp h2 = s.mgp h2 := (rfl)
@[simp ↓] theorem emit_flash (s : State) (e : Emit) (h2 : Nat) : (s.emit e).flash h2 = s.flash h2 := (rfl)
@[simp ↓] theorem emit_reg (s : State) (e : Emit) (r2 : Reg) (p2 i2 j2 k2 : Nat) : (s.emit e).reg r2 p2 i2 j2 k2 = s.reg r2 p2 i2 j2 k2 := (rfl)
@[simp ↓] theorem emit_rd (s : State) (e : Emit) (f2 : Fld) (p2 i2 j2 k2 : Nat) : (s.emit e).rd f2 p2 i2 j2 k2 = s.rd f2 p2 i2 j2 k2 := (rfl)
@[simp ↓] theorem emit_byte (s : State) (e : Emit) (a2 : Nat) : (s.emit e).byte a2 = s.byte a2 := (rfl)

/-! ### emits -/

@[simp ↓] theorem emits_twoPart (s : State) (es : List Emit) : (s.emits es).twoPart = s.twoPart := (rfl)
@[simp ↓] theorem emits_straps (s : State) (es : List Emit) : (s.emits es).straps = s.straps := (rfl)
@[simp ↓] theorem emits_regs (s : State) (es : List Emit) : (s.emits es).regs = s.regs := (rfl)
@[simp ↓] theorem emits_mem (s : State) (es : List Emit) : (s.emits es).mem = s.mem := (rfl)
@[simp ↓] theorem emits_sram (s : State) (es : List Emit) : (s.emits es).sram = s.sram := (rfl)
@[simp ↓] theorem emits_hbmSide (s : State) (es : List Emit) : (s.emits es).hbmSide = s.hbmSide := (rfl)
@[simp ↓] theorem emits_hbmUsed (s : State) (es : List Emit) : (s.emits es).hbmUsed = s.hbmUsed := (rfl)
@[simp ↓] theorem emits_sides (s : State) (es : List Emit) : (s.emits es).sides = s.sides := (rfl)
@[simp ↓] theorem emits_cores (s : State) (es : List Emit) : (s.emits es).cores = s.cores := (rfl)
@[simp ↓] theorem emits_gathers (s : State) (es : List Emit) : (s.emits es).gathers = s.gathers := (rfl)
@[simp ↓] theorem emits_chans (s : State) (es : List Emit) : (s.emits es).chans = s.chans := (rfl)
@[simp ↓] theorem emits_ports (s : State) (es : List Emit) : (s.emits es).ports = s.ports := (rfl)
@[simp ↓] theorem emits_oes (s : State) (es : List Emit) : (s.emits es).oes = s.oes := (rfl)
@[simp ↓] theorem emits_colls (s : State) (es : List Emit) : (s.emits es).colls = s.colls := (rfl)
@[simp ↓] theorem emits_rings (s : State) (es : List Emit) : (s.emits es).rings = s.rings := (rfl)
@[simp ↓] theorem emits_heaters (s : State) (es : List Emit) : (s.emits es).heaters = s.heaters := (rfl)
@[simp ↓] theorem emits_dies (s : State) (es : List Emit) : (s.emits es).dies = s.dies := (rfl)
@[simp ↓] theorem emits_preBias (s : State) (es : List Emit) : (s.emits es).preBias = s.preBias := (rfl)
@[simp ↓] theorem emits_pfc (s : State) (es : List Emit) : (s.emits es).pfc = s.pfc := (rfl)
@[simp ↓] theorem emits_routers (s : State) (es : List Emit) : (s.emits es).routers = s.routers := (rfl)
@[simp ↓] theorem emits_sramFix (s : State) (es : List Emit) : (s.emits es).sramFix = s.sramFix := (rfl)
@[simp ↓] theorem emits_ueTicks (s : State) (es : List Emit) : (s.emits es).ueTicks = s.ueTicks := (rfl)
@[simp ↓] theorem emits_held (s : State) (es : List Emit) : (s.emits es).held = s.held := (rfl)
@[simp ↓] theorem emits_fuses (s : State) (es : List Emit) : (s.emits es).fuses = s.fuses := (rfl)
@[simp ↓] theorem emits_flash0 (s : State) (es : List Emit) : (s.emits es).flash0 = s.flash0 := (rfl)
@[simp ↓] theorem emits_flash1 (s : State) (es : List Emit) : (s.emits es).flash1 = s.flash1 := (rfl)
@[simp ↓] theorem emits_mgp0 (s : State) (es : List Emit) : (s.emits es).mgp0 = s.mgp0 := (rfl)
@[simp ↓] theorem emits_mgp1 (s : State) (es : List Emit) : (s.emits es).mgp1 = s.mgp1 := (rfl)
@[simp ↓] theorem emits_vault (s : State) (es : List Emit) : (s.emits es).vault = s.vault := (rfl)
@[simp ↓] theorem emits_i3c0 (s : State) (es : List Emit) : (s.emits es).i3c0 = s.i3c0 := (rfl)
@[simp ↓] theorem emits_i3c1 (s : State) (es : List Emit) : (s.emits es).i3c1 = s.i3c1 := (rfl)
@[simp ↓] theorem emits_rails (s : State) (es : List Emit) : (s.emits es).rails = s.rails := (rfl)
@[simp ↓] theorem emits_temps (s : State) (es : List Emit) : (s.emits es).temps = s.temps := (rfl)
@[simp ↓] theorem emits_trip0 (s : State) (es : List Emit) : (s.emits es).trip0 = s.trip0 := (rfl)
@[simp ↓] theorem emits_trip1 (s : State) (es : List Emit) : (s.emits es).trip1 = s.trip1 := (rfl)
@[simp ↓] theorem emits_day (s : State) (es : List Emit) : (s.emits es).day = s.day := (rfl)
@[simp ↓] theorem emits_modeDue (s : State) (es : List Emit) : (s.emits es).modeDue = s.modeDue := (rfl)
@[simp ↓] theorem emits_powerOver (s : State) (es : List Emit) : (s.emits es).powerOver = s.powerOver := (rfl)
@[simp ↓] theorem emits_part0 (s : State) (es : List Emit) : (s.emits es).part0 = s.part0 := (rfl)
@[simp ↓] theorem emits_part1 (s : State) (es : List Emit) : (s.emits es).part1 = s.part1 := (rfl)
@[simp ↓] theorem emits_free (s : State) (es : List Emit) : (s.emits es).free = s.free := (rfl)
@[simp ↓] theorem emits_pending (s : State) (es : List Emit) : (s.emits es).pending = s.pending := (rfl)
@[simp ↓] theorem emits_part (s : State) (es : List Emit) (q : Nat) : (s.emits es).part q = s.part q := (rfl)
@[simp ↓] theorem emits_core (s : State) (es : List Emit) (m : Nat) : (s.emits es).core m = s.core m := (rfl)
@[simp ↓] theorem emits_gather (s : State) (es : List Emit) (h : Nat) : (s.emits es).gather h = s.gather h := (rfl)
@[simp ↓] theorem emits_side (s : State) (es : List Emit) (b2 x2 : Nat) : (s.emits es).side b2 x2 = s.side b2 x2 := (rfl)
@[simp ↓] theorem emits_chan (s : State) (es : List Emit) (c2 : Nat) : (s.emits es).chan c2 = s.chan c2 := (rfl)
@[simp ↓] theorem emits_port (s : State) (es : List Emit) (q2 : Nat) : (s.emits es).port q2 = s.port q2 := (rfl)
@[simp ↓] theorem emits_oe (s : State) (es : List Emit) (o2 : Nat) : (s.emits es).oe o2 = s.oe o2 := (rfl)
@[simp ↓] theorem emits_coll (s : State) (es : List Emit) (e2 : Nat) : (s.emits es).coll e2 = s.coll e2 := (rfl)
@[simp ↓] theorem emits_die (s : State) (es : List Emit) (d2 : Nat) : (s.emits es).die d2 = s.die d2 := (rfl)
@[simp ↓] theorem emits_mgp (s : State) (es : List Emit) (h2 : Nat) : (s.emits es).mgp h2 = s.mgp h2 := (rfl)
@[simp ↓] theorem emits_flash (s : State) (es : List Emit) (h2 : Nat) : (s.emits es).flash h2 = s.flash h2 := (rfl)
@[simp ↓] theorem emits_reg (s : State) (es : List Emit) (r2 : Reg) (p2 i2 j2 k2 : Nat) : (s.emits es).reg r2 p2 i2 j2 k2 = s.reg r2 p2 i2 j2 k2 := (rfl)
@[simp ↓] theorem emits_rd (s : State) (es : List Emit) (f2 : Fld) (p2 i2 j2 k2 : Nat) : (s.emits es).rd f2 p2 i2 j2 k2 = s.rd f2 p2 i2 j2 k2 := (rfl)
@[simp ↓] theorem emits_byte (s : State) (es : List Emit) (a2 : Nat) : (s.emits es).byte a2 = s.byte a2 := (rfl)

/-! ### setReg -/

@[simp ↓] theorem setReg_twoPart (s : State) (r : Reg) (v : Word) (p i j k : Nat) : (s.setReg r v p i j k).twoPart = s.twoPart := (rfl)
@[simp ↓] theorem setReg_straps (s : State) (r : Reg) (v : Word) (p i j k : Nat) : (s.setReg r v p i j k).straps = s.straps := (rfl)
@[simp ↓] theorem setReg_mem (s : State) (r : Reg) (v : Word) (p i j k : Nat) : (s.setReg r v p i j k).mem = s.mem := (rfl)
@[simp ↓] theorem setReg_sram (s : State) (r : Reg) (v : Word) (p i j k : Nat) : (s.setReg r v p i j k).sram = s.sram := (rfl)
@[simp ↓] theorem setReg_hbmSide (s : State) (r : Reg) (v : Word) (p i j k : Nat) : (s.setReg r v p i j k).hbmSide = s.hbmSide := (rfl)
@[simp ↓] theorem setReg_hbmUsed (s : State) (r : Reg) (v : Word) (p i j k : Nat) : (s.setReg r v p i j k).hbmUsed = s.hbmUsed := (rfl)
@[simp ↓] theorem setReg_sides (s : State) (r : Reg) (v : Word) (p i j k : Nat) : (s.setReg r v p i j k).sides = s.sides := (rfl)
@[simp ↓] theorem setReg_cores (s : State) (r : Reg) (v : Word) (p i j k : Nat) : (s.setReg r v p i j k).cores = s.cores := (rfl)
@[simp ↓] theorem setReg_gathers (s : State) (r : Reg) (v : Word) (p i j k : Nat) : (s.setReg r v p i j k).gathers = s.gathers := (rfl)
@[simp ↓] theorem setReg_chans (s : State) (r : Reg) (v : Word) (p i j k : Nat) : (s.setReg r v p i j k).chans = s.chans := (rfl)
@[simp ↓] theorem setReg_ports (s : State) (r : Reg) (v : Word) (p i j k : Nat) : (s.setReg r v p i j k).ports = s.ports := (rfl)
@[simp ↓] theorem setReg_oes (s : State) (r : Reg) (v : Word) (p i j k : Nat) : (s.setReg r v p i j k).oes = s.oes := (rfl)
@[simp ↓] theorem setReg_colls (s : State) (r : Reg) (v : Word) (p i j k : Nat) : (s.setReg r v p i j k).colls = s.colls := (rfl)
@[simp ↓] theorem setReg_rings (s : State) (r : Reg) (v : Word) (p i j k : Nat) : (s.setReg r v p i j k).rings = s.rings := (rfl)
@[simp ↓] theorem setReg_heaters (s : State) (r : Reg) (v : Word) (p i j k : Nat) : (s.setReg r v p i j k).heaters = s.heaters := (rfl)
@[simp ↓] theorem setReg_dies (s : State) (r : Reg) (v : Word) (p i j k : Nat) : (s.setReg r v p i j k).dies = s.dies := (rfl)
@[simp ↓] theorem setReg_preBias (s : State) (r : Reg) (v : Word) (p i j k : Nat) : (s.setReg r v p i j k).preBias = s.preBias := (rfl)
@[simp ↓] theorem setReg_pfc (s : State) (r : Reg) (v : Word) (p i j k : Nat) : (s.setReg r v p i j k).pfc = s.pfc := (rfl)
@[simp ↓] theorem setReg_routers (s : State) (r : Reg) (v : Word) (p i j k : Nat) : (s.setReg r v p i j k).routers = s.routers := (rfl)
@[simp ↓] theorem setReg_sramFix (s : State) (r : Reg) (v : Word) (p i j k : Nat) : (s.setReg r v p i j k).sramFix = s.sramFix := (rfl)
@[simp ↓] theorem setReg_ueTicks (s : State) (r : Reg) (v : Word) (p i j k : Nat) : (s.setReg r v p i j k).ueTicks = s.ueTicks := (rfl)
@[simp ↓] theorem setReg_held (s : State) (r : Reg) (v : Word) (p i j k : Nat) : (s.setReg r v p i j k).held = s.held := (rfl)
@[simp ↓] theorem setReg_fuses (s : State) (r : Reg) (v : Word) (p i j k : Nat) : (s.setReg r v p i j k).fuses = s.fuses := (rfl)
@[simp ↓] theorem setReg_flash0 (s : State) (r : Reg) (v : Word) (p i j k : Nat) : (s.setReg r v p i j k).flash0 = s.flash0 := (rfl)
@[simp ↓] theorem setReg_flash1 (s : State) (r : Reg) (v : Word) (p i j k : Nat) : (s.setReg r v p i j k).flash1 = s.flash1 := (rfl)
@[simp ↓] theorem setReg_mgp0 (s : State) (r : Reg) (v : Word) (p i j k : Nat) : (s.setReg r v p i j k).mgp0 = s.mgp0 := (rfl)
@[simp ↓] theorem setReg_mgp1 (s : State) (r : Reg) (v : Word) (p i j k : Nat) : (s.setReg r v p i j k).mgp1 = s.mgp1 := (rfl)
@[simp ↓] theorem setReg_vault (s : State) (r : Reg) (v : Word) (p i j k : Nat) : (s.setReg r v p i j k).vault = s.vault := (rfl)
@[simp ↓] theorem setReg_i3c0 (s : State) (r : Reg) (v : Word) (p i j k : Nat) : (s.setReg r v p i j k).i3c0 = s.i3c0 := (rfl)
@[simp ↓] theorem setReg_i3c1 (s : State) (r : Reg) (v : Word) (p i j k : Nat) : (s.setReg r v p i j k).i3c1 = s.i3c1 := (rfl)
@[simp ↓] theorem setReg_rails (s : State) (r : Reg) (v : Word) (p i j k : Nat) : (s.setReg r v p i j k).rails = s.rails := (rfl)
@[simp ↓] theorem setReg_temps (s : State) (r : Reg) (v : Word) (p i j k : Nat) : (s.setReg r v p i j k).temps = s.temps := (rfl)
@[simp ↓] theorem setReg_trip0 (s : State) (r : Reg) (v : Word) (p i j k : Nat) : (s.setReg r v p i j k).trip0 = s.trip0 := (rfl)
@[simp ↓] theorem setReg_trip1 (s : State) (r : Reg) (v : Word) (p i j k : Nat) : (s.setReg r v p i j k).trip1 = s.trip1 := (rfl)
@[simp ↓] theorem setReg_day (s : State) (r : Reg) (v : Word) (p i j k : Nat) : (s.setReg r v p i j k).day = s.day := (rfl)
@[simp ↓] theorem setReg_modeDue (s : State) (r : Reg) (v : Word) (p i j k : Nat) : (s.setReg r v p i j k).modeDue = s.modeDue := (rfl)
@[simp ↓] theorem setReg_powerOver (s : State) (r : Reg) (v : Word) (p i j k : Nat) : (s.setReg r v p i j k).powerOver = s.powerOver := (rfl)
@[simp ↓] theorem setReg_part0 (s : State) (r : Reg) (v : Word) (p i j k : Nat) : (s.setReg r v p i j k).part0 = s.part0 := (rfl)
@[simp ↓] theorem setReg_part1 (s : State) (r : Reg) (v : Word) (p i j k : Nat) : (s.setReg r v p i j k).part1 = s.part1 := (rfl)
@[simp ↓] theorem setReg_out (s : State) (r : Reg) (v : Word) (p i j k : Nat) : (s.setReg r v p i j k).out = s.out := (rfl)
@[simp ↓] theorem setReg_free (s : State) (r : Reg) (v : Word) (p i j k : Nat) : (s.setReg r v p i j k).free = s.free := (rfl)
@[simp ↓] theorem setReg_pending (s : State) (r : Reg) (v : Word) (p i j k : Nat) : (s.setReg r v p i j k).pending = s.pending := (rfl)
@[simp ↓] theorem setReg_part (s : State) (r : Reg) (v : Word) (p i j k : Nat) (q : Nat) : (s.setReg r v p i j k).part q = s.part q := (rfl)
@[simp ↓] theorem setReg_core (s : State) (r : Reg) (v : Word) (p i j k : Nat) (m : Nat) : (s.setReg r v p i j k).core m = s.core m := (rfl)
@[simp ↓] theorem setReg_gather (s : State) (r : Reg) (v : Word) (p i j k : Nat) (h : Nat) : (s.setReg r v p i j k).gather h = s.gather h := (rfl)
@[simp ↓] theorem setReg_side (s : State) (r : Reg) (v : Word) (p i j k : Nat) (b2 x2 : Nat) : (s.setReg r v p i j k).side b2 x2 = s.side b2 x2 := (rfl)
@[simp ↓] theorem setReg_chan (s : State) (r : Reg) (v : Word) (p i j k : Nat) (c2 : Nat) : (s.setReg r v p i j k).chan c2 = s.chan c2 := (rfl)
@[simp ↓] theorem setReg_port (s : State) (r : Reg) (v : Word) (p i j k : Nat) (q2 : Nat) : (s.setReg r v p i j k).port q2 = s.port q2 := (rfl)
@[simp ↓] theorem setReg_oe (s : State) (r : Reg) (v : Word) (p i j k : Nat) (o2 : Nat) : (s.setReg r v p i j k).oe o2 = s.oe o2 := (rfl)
@[simp ↓] theorem setReg_coll (s : State) (r : Reg) (v : Word) (p i j k : Nat) (e2 : Nat) : (s.setReg r v p i j k).coll e2 = s.coll e2 := (rfl)
@[simp ↓] theorem setReg_die (s : State) (r : Reg) (v : Word) (p i j k : Nat) (d2 : Nat) : (s.setReg r v p i j k).die d2 = s.die d2 := (rfl)
@[simp ↓] theorem setReg_mgp (s : State) (r : Reg) (v : Word) (p i j k : Nat) (h2 : Nat) : (s.setReg r v p i j k).mgp h2 = s.mgp h2 := (rfl)
@[simp ↓] theorem setReg_flash (s : State) (r : Reg) (v : Word) (p i j k : Nat) (h2 : Nat) : (s.setReg r v p i j k).flash h2 = s.flash h2 := (rfl)
@[simp ↓] theorem setReg_byte (s : State) (r : Reg) (v : Word) (p i j k : Nat) (a2 : Nat) : (s.setReg r v p i j k).byte a2 = s.byte a2 := (rfl)

/-! ### wr -/

@[simp ↓] theorem wr_twoPart (s : State) (f : Fld) (v p i j k : Nat) : (s.wr f v p i j k).twoPart = s.twoPart := (rfl)
@[simp ↓] theorem wr_straps (s : State) (f : Fld) (v p i j k : Nat) : (s.wr f v p i j k).straps = s.straps := (rfl)
@[simp ↓] theorem wr_mem (s : State) (f : Fld) (v p i j k : Nat) : (s.wr f v p i j k).mem = s.mem := (rfl)
@[simp ↓] theorem wr_sram (s : State) (f : Fld) (v p i j k : Nat) : (s.wr f v p i j k).sram = s.sram := (rfl)
@[simp ↓] theorem wr_hbmSide (s : State) (f : Fld) (v p i j k : Nat) : (s.wr f v p i j k).hbmSide = s.hbmSide := (rfl)
@[simp ↓] theorem wr_hbmUsed (s : State) (f : Fld) (v p i j k : Nat) : (s.wr f v p i j k).hbmUsed = s.hbmUsed := (rfl)
@[simp ↓] theorem wr_sides (s : State) (f : Fld) (v p i j k : Nat) : (s.wr f v p i j k).sides = s.sides := (rfl)
@[simp ↓] theorem wr_cores (s : State) (f : Fld) (v p i j k : Nat) : (s.wr f v p i j k).cores = s.cores := (rfl)
@[simp ↓] theorem wr_gathers (s : State) (f : Fld) (v p i j k : Nat) : (s.wr f v p i j k).gathers = s.gathers := (rfl)
@[simp ↓] theorem wr_chans (s : State) (f : Fld) (v p i j k : Nat) : (s.wr f v p i j k).chans = s.chans := (rfl)
@[simp ↓] theorem wr_ports (s : State) (f : Fld) (v p i j k : Nat) : (s.wr f v p i j k).ports = s.ports := (rfl)
@[simp ↓] theorem wr_oes (s : State) (f : Fld) (v p i j k : Nat) : (s.wr f v p i j k).oes = s.oes := (rfl)
@[simp ↓] theorem wr_colls (s : State) (f : Fld) (v p i j k : Nat) : (s.wr f v p i j k).colls = s.colls := (rfl)
@[simp ↓] theorem wr_rings (s : State) (f : Fld) (v p i j k : Nat) : (s.wr f v p i j k).rings = s.rings := (rfl)
@[simp ↓] theorem wr_heaters (s : State) (f : Fld) (v p i j k : Nat) : (s.wr f v p i j k).heaters = s.heaters := (rfl)
@[simp ↓] theorem wr_dies (s : State) (f : Fld) (v p i j k : Nat) : (s.wr f v p i j k).dies = s.dies := (rfl)
@[simp ↓] theorem wr_preBias (s : State) (f : Fld) (v p i j k : Nat) : (s.wr f v p i j k).preBias = s.preBias := (rfl)
@[simp ↓] theorem wr_pfc (s : State) (f : Fld) (v p i j k : Nat) : (s.wr f v p i j k).pfc = s.pfc := (rfl)
@[simp ↓] theorem wr_routers (s : State) (f : Fld) (v p i j k : Nat) : (s.wr f v p i j k).routers = s.routers := (rfl)
@[simp ↓] theorem wr_sramFix (s : State) (f : Fld) (v p i j k : Nat) : (s.wr f v p i j k).sramFix = s.sramFix := (rfl)
@[simp ↓] theorem wr_ueTicks (s : State) (f : Fld) (v p i j k : Nat) : (s.wr f v p i j k).ueTicks = s.ueTicks := (rfl)
@[simp ↓] theorem wr_held (s : State) (f : Fld) (v p i j k : Nat) : (s.wr f v p i j k).held = s.held := (rfl)
@[simp ↓] theorem wr_fuses (s : State) (f : Fld) (v p i j k : Nat) : (s.wr f v p i j k).fuses = s.fuses := (rfl)
@[simp ↓] theorem wr_flash0 (s : State) (f : Fld) (v p i j k : Nat) : (s.wr f v p i j k).flash0 = s.flash0 := (rfl)
@[simp ↓] theorem wr_flash1 (s : State) (f : Fld) (v p i j k : Nat) : (s.wr f v p i j k).flash1 = s.flash1 := (rfl)
@[simp ↓] theorem wr_mgp0 (s : State) (f : Fld) (v p i j k : Nat) : (s.wr f v p i j k).mgp0 = s.mgp0 := (rfl)
@[simp ↓] theorem wr_mgp1 (s : State) (f : Fld) (v p i j k : Nat) : (s.wr f v p i j k).mgp1 = s.mgp1 := (rfl)
@[simp ↓] theorem wr_vault (s : State) (f : Fld) (v p i j k : Nat) : (s.wr f v p i j k).vault = s.vault := (rfl)
@[simp ↓] theorem wr_i3c0 (s : State) (f : Fld) (v p i j k : Nat) : (s.wr f v p i j k).i3c0 = s.i3c0 := (rfl)
@[simp ↓] theorem wr_i3c1 (s : State) (f : Fld) (v p i j k : Nat) : (s.wr f v p i j k).i3c1 = s.i3c1 := (rfl)
@[simp ↓] theorem wr_rails (s : State) (f : Fld) (v p i j k : Nat) : (s.wr f v p i j k).rails = s.rails := (rfl)
@[simp ↓] theorem wr_temps (s : State) (f : Fld) (v p i j k : Nat) : (s.wr f v p i j k).temps = s.temps := (rfl)
@[simp ↓] theorem wr_trip0 (s : State) (f : Fld) (v p i j k : Nat) : (s.wr f v p i j k).trip0 = s.trip0 := (rfl)
@[simp ↓] theorem wr_trip1 (s : State) (f : Fld) (v p i j k : Nat) : (s.wr f v p i j k).trip1 = s.trip1 := (rfl)
@[simp ↓] theorem wr_day (s : State) (f : Fld) (v p i j k : Nat) : (s.wr f v p i j k).day = s.day := (rfl)
@[simp ↓] theorem wr_modeDue (s : State) (f : Fld) (v p i j k : Nat) : (s.wr f v p i j k).modeDue = s.modeDue := (rfl)
@[simp ↓] theorem wr_powerOver (s : State) (f : Fld) (v p i j k : Nat) : (s.wr f v p i j k).powerOver = s.powerOver := (rfl)
@[simp ↓] theorem wr_part0 (s : State) (f : Fld) (v p i j k : Nat) : (s.wr f v p i j k).part0 = s.part0 := (rfl)
@[simp ↓] theorem wr_part1 (s : State) (f : Fld) (v p i j k : Nat) : (s.wr f v p i j k).part1 = s.part1 := (rfl)
@[simp ↓] theorem wr_out (s : State) (f : Fld) (v p i j k : Nat) : (s.wr f v p i j k).out = s.out := (rfl)
@[simp ↓] theorem wr_free (s : State) (f : Fld) (v p i j k : Nat) : (s.wr f v p i j k).free = s.free := (rfl)
@[simp ↓] theorem wr_pending (s : State) (f : Fld) (v p i j k : Nat) : (s.wr f v p i j k).pending = s.pending := (rfl)
@[simp ↓] theorem wr_part (s : State) (f : Fld) (v p i j k : Nat) (q : Nat) : (s.wr f v p i j k).part q = s.part q := (rfl)
@[simp ↓] theorem wr_core (s : State) (f : Fld) (v p i j k : Nat) (m : Nat) : (s.wr f v p i j k).core m = s.core m := (rfl)
@[simp ↓] theorem wr_gather (s : State) (f : Fld) (v p i j k : Nat) (h : Nat) : (s.wr f v p i j k).gather h = s.gather h := (rfl)
@[simp ↓] theorem wr_side (s : State) (f : Fld) (v p i j k : Nat) (b2 x2 : Nat) : (s.wr f v p i j k).side b2 x2 = s.side b2 x2 := (rfl)
@[simp ↓] theorem wr_chan (s : State) (f : Fld) (v p i j k : Nat) (c2 : Nat) : (s.wr f v p i j k).chan c2 = s.chan c2 := (rfl)
@[simp ↓] theorem wr_port (s : State) (f : Fld) (v p i j k : Nat) (q2 : Nat) : (s.wr f v p i j k).port q2 = s.port q2 := (rfl)
@[simp ↓] theorem wr_oe (s : State) (f : Fld) (v p i j k : Nat) (o2 : Nat) : (s.wr f v p i j k).oe o2 = s.oe o2 := (rfl)
@[simp ↓] theorem wr_coll (s : State) (f : Fld) (v p i j k : Nat) (e2 : Nat) : (s.wr f v p i j k).coll e2 = s.coll e2 := (rfl)
@[simp ↓] theorem wr_die (s : State) (f : Fld) (v p i j k : Nat) (d2 : Nat) : (s.wr f v p i j k).die d2 = s.die d2 := (rfl)
@[simp ↓] theorem wr_mgp (s : State) (f : Fld) (v p i j k : Nat) (h2 : Nat) : (s.wr f v p i j k).mgp h2 = s.mgp h2 := (rfl)
@[simp ↓] theorem wr_flash (s : State) (f : Fld) (v p i j k : Nat) (h2 : Nat) : (s.wr f v p i j k).flash h2 = s.flash h2 := (rfl)
@[simp ↓] theorem wr_byte (s : State) (f : Fld) (v p i j k : Nat) (a2 : Nat) : (s.wr f v p i j k).byte a2 = s.byte a2 := (rfl)

/-! ### count -/

@[simp ↓] theorem count_twoPart (s : State) (f : Fld) (n p i j k : Nat) : (s.count f n p i j k).twoPart = s.twoPart := (rfl)
@[simp ↓] theorem count_straps (s : State) (f : Fld) (n p i j k : Nat) : (s.count f n p i j k).straps = s.straps := (rfl)
@[simp ↓] theorem count_mem (s : State) (f : Fld) (n p i j k : Nat) : (s.count f n p i j k).mem = s.mem := (rfl)
@[simp ↓] theorem count_sram (s : State) (f : Fld) (n p i j k : Nat) : (s.count f n p i j k).sram = s.sram := (rfl)
@[simp ↓] theorem count_hbmSide (s : State) (f : Fld) (n p i j k : Nat) : (s.count f n p i j k).hbmSide = s.hbmSide := (rfl)
@[simp ↓] theorem count_hbmUsed (s : State) (f : Fld) (n p i j k : Nat) : (s.count f n p i j k).hbmUsed = s.hbmUsed := (rfl)
@[simp ↓] theorem count_sides (s : State) (f : Fld) (n p i j k : Nat) : (s.count f n p i j k).sides = s.sides := (rfl)
@[simp ↓] theorem count_cores (s : State) (f : Fld) (n p i j k : Nat) : (s.count f n p i j k).cores = s.cores := (rfl)
@[simp ↓] theorem count_gathers (s : State) (f : Fld) (n p i j k : Nat) : (s.count f n p i j k).gathers = s.gathers := (rfl)
@[simp ↓] theorem count_chans (s : State) (f : Fld) (n p i j k : Nat) : (s.count f n p i j k).chans = s.chans := (rfl)
@[simp ↓] theorem count_ports (s : State) (f : Fld) (n p i j k : Nat) : (s.count f n p i j k).ports = s.ports := (rfl)
@[simp ↓] theorem count_oes (s : State) (f : Fld) (n p i j k : Nat) : (s.count f n p i j k).oes = s.oes := (rfl)
@[simp ↓] theorem count_colls (s : State) (f : Fld) (n p i j k : Nat) : (s.count f n p i j k).colls = s.colls := (rfl)
@[simp ↓] theorem count_rings (s : State) (f : Fld) (n p i j k : Nat) : (s.count f n p i j k).rings = s.rings := (rfl)
@[simp ↓] theorem count_heaters (s : State) (f : Fld) (n p i j k : Nat) : (s.count f n p i j k).heaters = s.heaters := (rfl)
@[simp ↓] theorem count_dies (s : State) (f : Fld) (n p i j k : Nat) : (s.count f n p i j k).dies = s.dies := (rfl)
@[simp ↓] theorem count_preBias (s : State) (f : Fld) (n p i j k : Nat) : (s.count f n p i j k).preBias = s.preBias := (rfl)
@[simp ↓] theorem count_pfc (s : State) (f : Fld) (n p i j k : Nat) : (s.count f n p i j k).pfc = s.pfc := (rfl)
@[simp ↓] theorem count_routers (s : State) (f : Fld) (n p i j k : Nat) : (s.count f n p i j k).routers = s.routers := (rfl)
@[simp ↓] theorem count_sramFix (s : State) (f : Fld) (n p i j k : Nat) : (s.count f n p i j k).sramFix = s.sramFix := (rfl)
@[simp ↓] theorem count_ueTicks (s : State) (f : Fld) (n p i j k : Nat) : (s.count f n p i j k).ueTicks = s.ueTicks := (rfl)
@[simp ↓] theorem count_held (s : State) (f : Fld) (n p i j k : Nat) : (s.count f n p i j k).held = s.held := (rfl)
@[simp ↓] theorem count_fuses (s : State) (f : Fld) (n p i j k : Nat) : (s.count f n p i j k).fuses = s.fuses := (rfl)
@[simp ↓] theorem count_flash0 (s : State) (f : Fld) (n p i j k : Nat) : (s.count f n p i j k).flash0 = s.flash0 := (rfl)
@[simp ↓] theorem count_flash1 (s : State) (f : Fld) (n p i j k : Nat) : (s.count f n p i j k).flash1 = s.flash1 := (rfl)
@[simp ↓] theorem count_mgp0 (s : State) (f : Fld) (n p i j k : Nat) : (s.count f n p i j k).mgp0 = s.mgp0 := (rfl)
@[simp ↓] theorem count_mgp1 (s : State) (f : Fld) (n p i j k : Nat) : (s.count f n p i j k).mgp1 = s.mgp1 := (rfl)
@[simp ↓] theorem count_vault (s : State) (f : Fld) (n p i j k : Nat) : (s.count f n p i j k).vault = s.vault := (rfl)
@[simp ↓] theorem count_i3c0 (s : State) (f : Fld) (n p i j k : Nat) : (s.count f n p i j k).i3c0 = s.i3c0 := (rfl)
@[simp ↓] theorem count_i3c1 (s : State) (f : Fld) (n p i j k : Nat) : (s.count f n p i j k).i3c1 = s.i3c1 := (rfl)
@[simp ↓] theorem count_rails (s : State) (f : Fld) (n p i j k : Nat) : (s.count f n p i j k).rails = s.rails := (rfl)
@[simp ↓] theorem count_temps (s : State) (f : Fld) (n p i j k : Nat) : (s.count f n p i j k).temps = s.temps := (rfl)
@[simp ↓] theorem count_trip0 (s : State) (f : Fld) (n p i j k : Nat) : (s.count f n p i j k).trip0 = s.trip0 := (rfl)
@[simp ↓] theorem count_trip1 (s : State) (f : Fld) (n p i j k : Nat) : (s.count f n p i j k).trip1 = s.trip1 := (rfl)
@[simp ↓] theorem count_day (s : State) (f : Fld) (n p i j k : Nat) : (s.count f n p i j k).day = s.day := (rfl)
@[simp ↓] theorem count_modeDue (s : State) (f : Fld) (n p i j k : Nat) : (s.count f n p i j k).modeDue = s.modeDue := (rfl)
@[simp ↓] theorem count_powerOver (s : State) (f : Fld) (n p i j k : Nat) : (s.count f n p i j k).powerOver = s.powerOver := (rfl)
@[simp ↓] theorem count_part0 (s : State) (f : Fld) (n p i j k : Nat) : (s.count f n p i j k).part0 = s.part0 := (rfl)
@[simp ↓] theorem count_part1 (s : State) (f : Fld) (n p i j k : Nat) : (s.count f n p i j k).part1 = s.part1 := (rfl)
@[simp ↓] theorem count_out (s : State) (f : Fld) (n p i j k : Nat) : (s.count f n p i j k).out = s.out := (rfl)
@[simp ↓] theorem count_free (s : State) (f : Fld) (n p i j k : Nat) : (s.count f n p i j k).free = s.free := (rfl)
@[simp ↓] theorem count_pending (s : State) (f : Fld) (n p i j k : Nat) : (s.count f n p i j k).pending = s.pending := (rfl)
@[simp ↓] theorem count_part (s : State) (f : Fld) (n p i j k : Nat) (q : Nat) : (s.count f n p i j k).part q = s.part q := (rfl)
@[simp ↓] theorem count_core (s : State) (f : Fld) (n p i j k : Nat) (m : Nat) : (s.count f n p i j k).core m = s.core m := (rfl)
@[simp ↓] theorem count_gather (s : State) (f : Fld) (n p i j k : Nat) (h : Nat) : (s.count f n p i j k).gather h = s.gather h := (rfl)
@[simp ↓] theorem count_side (s : State) (f : Fld) (n p i j k : Nat) (b2 x2 : Nat) : (s.count f n p i j k).side b2 x2 = s.side b2 x2 := (rfl)
@[simp ↓] theorem count_chan (s : State) (f : Fld) (n p i j k : Nat) (c2 : Nat) : (s.count f n p i j k).chan c2 = s.chan c2 := (rfl)
@[simp ↓] theorem count_port (s : State) (f : Fld) (n p i j k : Nat) (q2 : Nat) : (s.count f n p i j k).port q2 = s.port q2 := (rfl)
@[simp ↓] theorem count_oe (s : State) (f : Fld) (n p i j k : Nat) (o2 : Nat) : (s.count f n p i j k).oe o2 = s.oe o2 := (rfl)
@[simp ↓] theorem count_coll (s : State) (f : Fld) (n p i j k : Nat) (e2 : Nat) : (s.count f n p i j k).coll e2 = s.coll e2 := (rfl)
@[simp ↓] theorem count_die (s : State) (f : Fld) (n p i j k : Nat) (d2 : Nat) : (s.count f n p i j k).die d2 = s.die d2 := (rfl)
@[simp ↓] theorem count_mgp (s : State) (f : Fld) (n p i j k : Nat) (h2 : Nat) : (s.count f n p i j k).mgp h2 = s.mgp h2 := (rfl)
@[simp ↓] theorem count_flash (s : State) (f : Fld) (n p i j k : Nat) (h2 : Nat) : (s.count f n p i j k).flash h2 = s.flash h2 := (rfl)
@[simp ↓] theorem count_byte (s : State) (f : Fld) (n p i j k : Nat) (a2 : Nat) : (s.count f n p i j k).byte a2 = s.byte a2 := (rfl)

/-! ### countSat -/

@[simp ↓] theorem countSat_twoPart (s : State) (f : Fld) (n p i j k : Nat) : (s.countSat f n p i j k).twoPart = s.twoPart := (rfl)
@[simp ↓] theorem countSat_straps (s : State) (f : Fld) (n p i j k : Nat) : (s.countSat f n p i j k).straps = s.straps := (rfl)
@[simp ↓] theorem countSat_mem (s : State) (f : Fld) (n p i j k : Nat) : (s.countSat f n p i j k).mem = s.mem := (rfl)
@[simp ↓] theorem countSat_sram (s : State) (f : Fld) (n p i j k : Nat) : (s.countSat f n p i j k).sram = s.sram := (rfl)
@[simp ↓] theorem countSat_hbmSide (s : State) (f : Fld) (n p i j k : Nat) : (s.countSat f n p i j k).hbmSide = s.hbmSide := (rfl)
@[simp ↓] theorem countSat_hbmUsed (s : State) (f : Fld) (n p i j k : Nat) : (s.countSat f n p i j k).hbmUsed = s.hbmUsed := (rfl)
@[simp ↓] theorem countSat_sides (s : State) (f : Fld) (n p i j k : Nat) : (s.countSat f n p i j k).sides = s.sides := (rfl)
@[simp ↓] theorem countSat_cores (s : State) (f : Fld) (n p i j k : Nat) : (s.countSat f n p i j k).cores = s.cores := (rfl)
@[simp ↓] theorem countSat_gathers (s : State) (f : Fld) (n p i j k : Nat) : (s.countSat f n p i j k).gathers = s.gathers := (rfl)
@[simp ↓] theorem countSat_chans (s : State) (f : Fld) (n p i j k : Nat) : (s.countSat f n p i j k).chans = s.chans := (rfl)
@[simp ↓] theorem countSat_ports (s : State) (f : Fld) (n p i j k : Nat) : (s.countSat f n p i j k).ports = s.ports := (rfl)
@[simp ↓] theorem countSat_oes (s : State) (f : Fld) (n p i j k : Nat) : (s.countSat f n p i j k).oes = s.oes := (rfl)
@[simp ↓] theorem countSat_colls (s : State) (f : Fld) (n p i j k : Nat) : (s.countSat f n p i j k).colls = s.colls := (rfl)
@[simp ↓] theorem countSat_rings (s : State) (f : Fld) (n p i j k : Nat) : (s.countSat f n p i j k).rings = s.rings := (rfl)
@[simp ↓] theorem countSat_heaters (s : State) (f : Fld) (n p i j k : Nat) : (s.countSat f n p i j k).heaters = s.heaters := (rfl)
@[simp ↓] theorem countSat_dies (s : State) (f : Fld) (n p i j k : Nat) : (s.countSat f n p i j k).dies = s.dies := (rfl)
@[simp ↓] theorem countSat_preBias (s : State) (f : Fld) (n p i j k : Nat) : (s.countSat f n p i j k).preBias = s.preBias := (rfl)
@[simp ↓] theorem countSat_pfc (s : State) (f : Fld) (n p i j k : Nat) : (s.countSat f n p i j k).pfc = s.pfc := (rfl)
@[simp ↓] theorem countSat_routers (s : State) (f : Fld) (n p i j k : Nat) : (s.countSat f n p i j k).routers = s.routers := (rfl)
@[simp ↓] theorem countSat_sramFix (s : State) (f : Fld) (n p i j k : Nat) : (s.countSat f n p i j k).sramFix = s.sramFix := (rfl)
@[simp ↓] theorem countSat_ueTicks (s : State) (f : Fld) (n p i j k : Nat) : (s.countSat f n p i j k).ueTicks = s.ueTicks := (rfl)
@[simp ↓] theorem countSat_held (s : State) (f : Fld) (n p i j k : Nat) : (s.countSat f n p i j k).held = s.held := (rfl)
@[simp ↓] theorem countSat_fuses (s : State) (f : Fld) (n p i j k : Nat) : (s.countSat f n p i j k).fuses = s.fuses := (rfl)
@[simp ↓] theorem countSat_flash0 (s : State) (f : Fld) (n p i j k : Nat) : (s.countSat f n p i j k).flash0 = s.flash0 := (rfl)
@[simp ↓] theorem countSat_flash1 (s : State) (f : Fld) (n p i j k : Nat) : (s.countSat f n p i j k).flash1 = s.flash1 := (rfl)
@[simp ↓] theorem countSat_mgp0 (s : State) (f : Fld) (n p i j k : Nat) : (s.countSat f n p i j k).mgp0 = s.mgp0 := (rfl)
@[simp ↓] theorem countSat_mgp1 (s : State) (f : Fld) (n p i j k : Nat) : (s.countSat f n p i j k).mgp1 = s.mgp1 := (rfl)
@[simp ↓] theorem countSat_vault (s : State) (f : Fld) (n p i j k : Nat) : (s.countSat f n p i j k).vault = s.vault := (rfl)
@[simp ↓] theorem countSat_i3c0 (s : State) (f : Fld) (n p i j k : Nat) : (s.countSat f n p i j k).i3c0 = s.i3c0 := (rfl)
@[simp ↓] theorem countSat_i3c1 (s : State) (f : Fld) (n p i j k : Nat) : (s.countSat f n p i j k).i3c1 = s.i3c1 := (rfl)
@[simp ↓] theorem countSat_rails (s : State) (f : Fld) (n p i j k : Nat) : (s.countSat f n p i j k).rails = s.rails := (rfl)
@[simp ↓] theorem countSat_temps (s : State) (f : Fld) (n p i j k : Nat) : (s.countSat f n p i j k).temps = s.temps := (rfl)
@[simp ↓] theorem countSat_trip0 (s : State) (f : Fld) (n p i j k : Nat) : (s.countSat f n p i j k).trip0 = s.trip0 := (rfl)
@[simp ↓] theorem countSat_trip1 (s : State) (f : Fld) (n p i j k : Nat) : (s.countSat f n p i j k).trip1 = s.trip1 := (rfl)
@[simp ↓] theorem countSat_day (s : State) (f : Fld) (n p i j k : Nat) : (s.countSat f n p i j k).day = s.day := (rfl)
@[simp ↓] theorem countSat_modeDue (s : State) (f : Fld) (n p i j k : Nat) : (s.countSat f n p i j k).modeDue = s.modeDue := (rfl)
@[simp ↓] theorem countSat_powerOver (s : State) (f : Fld) (n p i j k : Nat) : (s.countSat f n p i j k).powerOver = s.powerOver := (rfl)
@[simp ↓] theorem countSat_part0 (s : State) (f : Fld) (n p i j k : Nat) : (s.countSat f n p i j k).part0 = s.part0 := (rfl)
@[simp ↓] theorem countSat_part1 (s : State) (f : Fld) (n p i j k : Nat) : (s.countSat f n p i j k).part1 = s.part1 := (rfl)
@[simp ↓] theorem countSat_out (s : State) (f : Fld) (n p i j k : Nat) : (s.countSat f n p i j k).out = s.out := (rfl)
@[simp ↓] theorem countSat_free (s : State) (f : Fld) (n p i j k : Nat) : (s.countSat f n p i j k).free = s.free := (rfl)
@[simp ↓] theorem countSat_pending (s : State) (f : Fld) (n p i j k : Nat) : (s.countSat f n p i j k).pending = s.pending := (rfl)
@[simp ↓] theorem countSat_part (s : State) (f : Fld) (n p i j k : Nat) (q : Nat) : (s.countSat f n p i j k).part q = s.part q := (rfl)
@[simp ↓] theorem countSat_core (s : State) (f : Fld) (n p i j k : Nat) (m : Nat) : (s.countSat f n p i j k).core m = s.core m := (rfl)
@[simp ↓] theorem countSat_gather (s : State) (f : Fld) (n p i j k : Nat) (h : Nat) : (s.countSat f n p i j k).gather h = s.gather h := (rfl)
@[simp ↓] theorem countSat_side (s : State) (f : Fld) (n p i j k : Nat) (b2 x2 : Nat) : (s.countSat f n p i j k).side b2 x2 = s.side b2 x2 := (rfl)
@[simp ↓] theorem countSat_chan (s : State) (f : Fld) (n p i j k : Nat) (c2 : Nat) : (s.countSat f n p i j k).chan c2 = s.chan c2 := (rfl)
@[simp ↓] theorem countSat_port (s : State) (f : Fld) (n p i j k : Nat) (q2 : Nat) : (s.countSat f n p i j k).port q2 = s.port q2 := (rfl)
@[simp ↓] theorem countSat_oe (s : State) (f : Fld) (n p i j k : Nat) (o2 : Nat) : (s.countSat f n p i j k).oe o2 = s.oe o2 := (rfl)
@[simp ↓] theorem countSat_coll (s : State) (f : Fld) (n p i j k : Nat) (e2 : Nat) : (s.countSat f n p i j k).coll e2 = s.coll e2 := (rfl)
@[simp ↓] theorem countSat_die (s : State) (f : Fld) (n p i j k : Nat) (d2 : Nat) : (s.countSat f n p i j k).die d2 = s.die d2 := (rfl)
@[simp ↓] theorem countSat_mgp (s : State) (f : Fld) (n p i j k : Nat) (h2 : Nat) : (s.countSat f n p i j k).mgp h2 = s.mgp h2 := (rfl)
@[simp ↓] theorem countSat_flash (s : State) (f : Fld) (n p i j k : Nat) (h2 : Nat) : (s.countSat f n p i j k).flash h2 = s.flash h2 := (rfl)
@[simp ↓] theorem countSat_byte (s : State) (f : Fld) (n p i j k : Nat) (a2 : Nat) : (s.countSat f n p i j k).byte a2 = s.byte a2 := (rfl)

/-! ### flag -/

@[simp ↓] theorem flag_twoPart (s : State) (f c : Fld) (p i j : Nat) : (s.flag f c p i j).twoPart = s.twoPart := (rfl)
@[simp ↓] theorem flag_straps (s : State) (f c : Fld) (p i j : Nat) : (s.flag f c p i j).straps = s.straps := (rfl)
@[simp ↓] theorem flag_mem (s : State) (f c : Fld) (p i j : Nat) : (s.flag f c p i j).mem = s.mem := (rfl)
@[simp ↓] theorem flag_sram (s : State) (f c : Fld) (p i j : Nat) : (s.flag f c p i j).sram = s.sram := (rfl)
@[simp ↓] theorem flag_hbmSide (s : State) (f c : Fld) (p i j : Nat) : (s.flag f c p i j).hbmSide = s.hbmSide := (rfl)
@[simp ↓] theorem flag_hbmUsed (s : State) (f c : Fld) (p i j : Nat) : (s.flag f c p i j).hbmUsed = s.hbmUsed := (rfl)
@[simp ↓] theorem flag_sides (s : State) (f c : Fld) (p i j : Nat) : (s.flag f c p i j).sides = s.sides := (rfl)
@[simp ↓] theorem flag_cores (s : State) (f c : Fld) (p i j : Nat) : (s.flag f c p i j).cores = s.cores := (rfl)
@[simp ↓] theorem flag_gathers (s : State) (f c : Fld) (p i j : Nat) : (s.flag f c p i j).gathers = s.gathers := (rfl)
@[simp ↓] theorem flag_chans (s : State) (f c : Fld) (p i j : Nat) : (s.flag f c p i j).chans = s.chans := (rfl)
@[simp ↓] theorem flag_ports (s : State) (f c : Fld) (p i j : Nat) : (s.flag f c p i j).ports = s.ports := (rfl)
@[simp ↓] theorem flag_oes (s : State) (f c : Fld) (p i j : Nat) : (s.flag f c p i j).oes = s.oes := (rfl)
@[simp ↓] theorem flag_colls (s : State) (f c : Fld) (p i j : Nat) : (s.flag f c p i j).colls = s.colls := (rfl)
@[simp ↓] theorem flag_rings (s : State) (f c : Fld) (p i j : Nat) : (s.flag f c p i j).rings = s.rings := (rfl)
@[simp ↓] theorem flag_heaters (s : State) (f c : Fld) (p i j : Nat) : (s.flag f c p i j).heaters = s.heaters := (rfl)
@[simp ↓] theorem flag_dies (s : State) (f c : Fld) (p i j : Nat) : (s.flag f c p i j).dies = s.dies := (rfl)
@[simp ↓] theorem flag_preBias (s : State) (f c : Fld) (p i j : Nat) : (s.flag f c p i j).preBias = s.preBias := (rfl)
@[simp ↓] theorem flag_pfc (s : State) (f c : Fld) (p i j : Nat) : (s.flag f c p i j).pfc = s.pfc := (rfl)
@[simp ↓] theorem flag_routers (s : State) (f c : Fld) (p i j : Nat) : (s.flag f c p i j).routers = s.routers := (rfl)
@[simp ↓] theorem flag_sramFix (s : State) (f c : Fld) (p i j : Nat) : (s.flag f c p i j).sramFix = s.sramFix := (rfl)
@[simp ↓] theorem flag_ueTicks (s : State) (f c : Fld) (p i j : Nat) : (s.flag f c p i j).ueTicks = s.ueTicks := (rfl)
@[simp ↓] theorem flag_held (s : State) (f c : Fld) (p i j : Nat) : (s.flag f c p i j).held = s.held := (rfl)
@[simp ↓] theorem flag_fuses (s : State) (f c : Fld) (p i j : Nat) : (s.flag f c p i j).fuses = s.fuses := (rfl)
@[simp ↓] theorem flag_flash0 (s : State) (f c : Fld) (p i j : Nat) : (s.flag f c p i j).flash0 = s.flash0 := (rfl)
@[simp ↓] theorem flag_flash1 (s : State) (f c : Fld) (p i j : Nat) : (s.flag f c p i j).flash1 = s.flash1 := (rfl)
@[simp ↓] theorem flag_mgp0 (s : State) (f c : Fld) (p i j : Nat) : (s.flag f c p i j).mgp0 = s.mgp0 := (rfl)
@[simp ↓] theorem flag_mgp1 (s : State) (f c : Fld) (p i j : Nat) : (s.flag f c p i j).mgp1 = s.mgp1 := (rfl)
@[simp ↓] theorem flag_vault (s : State) (f c : Fld) (p i j : Nat) : (s.flag f c p i j).vault = s.vault := (rfl)
@[simp ↓] theorem flag_i3c0 (s : State) (f c : Fld) (p i j : Nat) : (s.flag f c p i j).i3c0 = s.i3c0 := (rfl)
@[simp ↓] theorem flag_i3c1 (s : State) (f c : Fld) (p i j : Nat) : (s.flag f c p i j).i3c1 = s.i3c1 := (rfl)
@[simp ↓] theorem flag_rails (s : State) (f c : Fld) (p i j : Nat) : (s.flag f c p i j).rails = s.rails := (rfl)
@[simp ↓] theorem flag_temps (s : State) (f c : Fld) (p i j : Nat) : (s.flag f c p i j).temps = s.temps := (rfl)
@[simp ↓] theorem flag_trip0 (s : State) (f c : Fld) (p i j : Nat) : (s.flag f c p i j).trip0 = s.trip0 := (rfl)
@[simp ↓] theorem flag_trip1 (s : State) (f c : Fld) (p i j : Nat) : (s.flag f c p i j).trip1 = s.trip1 := (rfl)
@[simp ↓] theorem flag_day (s : State) (f c : Fld) (p i j : Nat) : (s.flag f c p i j).day = s.day := (rfl)
@[simp ↓] theorem flag_modeDue (s : State) (f c : Fld) (p i j : Nat) : (s.flag f c p i j).modeDue = s.modeDue := (rfl)
@[simp ↓] theorem flag_powerOver (s : State) (f c : Fld) (p i j : Nat) : (s.flag f c p i j).powerOver = s.powerOver := (rfl)
@[simp ↓] theorem flag_part0 (s : State) (f c : Fld) (p i j : Nat) : (s.flag f c p i j).part0 = s.part0 := (rfl)
@[simp ↓] theorem flag_part1 (s : State) (f c : Fld) (p i j : Nat) : (s.flag f c p i j).part1 = s.part1 := (rfl)
@[simp ↓] theorem flag_out (s : State) (f c : Fld) (p i j : Nat) : (s.flag f c p i j).out = s.out := (rfl)
@[simp ↓] theorem flag_free (s : State) (f c : Fld) (p i j : Nat) : (s.flag f c p i j).free = s.free := (rfl)
@[simp ↓] theorem flag_pending (s : State) (f c : Fld) (p i j : Nat) : (s.flag f c p i j).pending = s.pending := (rfl)
@[simp ↓] theorem flag_part (s : State) (f c : Fld) (p i j : Nat) (q : Nat) : (s.flag f c p i j).part q = s.part q := (rfl)
@[simp ↓] theorem flag_core (s : State) (f c : Fld) (p i j : Nat) (m : Nat) : (s.flag f c p i j).core m = s.core m := (rfl)
@[simp ↓] theorem flag_gather (s : State) (f c : Fld) (p i j : Nat) (h : Nat) : (s.flag f c p i j).gather h = s.gather h := (rfl)
@[simp ↓] theorem flag_side (s : State) (f c : Fld) (p i j : Nat) (b2 x2 : Nat) : (s.flag f c p i j).side b2 x2 = s.side b2 x2 := (rfl)
@[simp ↓] theorem flag_chan (s : State) (f c : Fld) (p i j : Nat) (c2 : Nat) : (s.flag f c p i j).chan c2 = s.chan c2 := (rfl)
@[simp ↓] theorem flag_port (s : State) (f c : Fld) (p i j : Nat) (q2 : Nat) : (s.flag f c p i j).port q2 = s.port q2 := (rfl)
@[simp ↓] theorem flag_oe (s : State) (f c : Fld) (p i j : Nat) (o2 : Nat) : (s.flag f c p i j).oe o2 = s.oe o2 := (rfl)
@[simp ↓] theorem flag_coll (s : State) (f c : Fld) (p i j : Nat) (e2 : Nat) : (s.flag f c p i j).coll e2 = s.coll e2 := (rfl)
@[simp ↓] theorem flag_die (s : State) (f c : Fld) (p i j : Nat) (d2 : Nat) : (s.flag f c p i j).die d2 = s.die d2 := (rfl)
@[simp ↓] theorem flag_mgp (s : State) (f c : Fld) (p i j : Nat) (h2 : Nat) : (s.flag f c p i j).mgp h2 = s.mgp h2 := (rfl)
@[simp ↓] theorem flag_flash (s : State) (f c : Fld) (p i j : Nat) (h2 : Nat) : (s.flag f c p i j).flash h2 = s.flash h2 := (rfl)
@[simp ↓] theorem flag_byte (s : State) (f c : Fld) (p i j : Nat) (a2 : Nat) : (s.flag f c p i j).byte a2 = s.byte a2 := (rfl)

/-! ### enter -/

@[simp ↓] theorem enter_twoPart (s : State) (p : Nat) (st : PState) : (s.enter p st).twoPart = s.twoPart := by unfold State.enter; split <;> simp only [wr_twoPart, updPart_twoPart]
@[simp ↓] theorem enter_straps (s : State) (p : Nat) (st : PState) : (s.enter p st).straps = s.straps := by unfold State.enter; split <;> simp only [wr_straps, updPart_straps]
@[simp ↓] theorem enter_mem (s : State) (p : Nat) (st : PState) : (s.enter p st).mem = s.mem := by unfold State.enter; split <;> simp only [wr_mem, updPart_mem]
@[simp ↓] theorem enter_sram (s : State) (p : Nat) (st : PState) : (s.enter p st).sram = s.sram := by unfold State.enter; split <;> simp only [wr_sram, updPart_sram]
@[simp ↓] theorem enter_hbmSide (s : State) (p : Nat) (st : PState) : (s.enter p st).hbmSide = s.hbmSide := by unfold State.enter; split <;> simp only [wr_hbmSide, updPart_hbmSide]
@[simp ↓] theorem enter_hbmUsed (s : State) (p : Nat) (st : PState) : (s.enter p st).hbmUsed = s.hbmUsed := by unfold State.enter; split <;> simp only [wr_hbmUsed, updPart_hbmUsed]
@[simp ↓] theorem enter_sides (s : State) (p : Nat) (st : PState) : (s.enter p st).sides = s.sides := by unfold State.enter; split <;> simp only [wr_sides, updPart_sides]
@[simp ↓] theorem enter_cores (s : State) (p : Nat) (st : PState) : (s.enter p st).cores = s.cores := by unfold State.enter; split <;> simp only [wr_cores, updPart_cores]
@[simp ↓] theorem enter_gathers (s : State) (p : Nat) (st : PState) : (s.enter p st).gathers = s.gathers := by unfold State.enter; split <;> simp only [wr_gathers, updPart_gathers]
@[simp ↓] theorem enter_chans (s : State) (p : Nat) (st : PState) : (s.enter p st).chans = s.chans := by unfold State.enter; split <;> simp only [wr_chans, updPart_chans]
@[simp ↓] theorem enter_ports (s : State) (p : Nat) (st : PState) : (s.enter p st).ports = s.ports := by unfold State.enter; split <;> simp only [wr_ports, updPart_ports]
@[simp ↓] theorem enter_oes (s : State) (p : Nat) (st : PState) : (s.enter p st).oes = s.oes := by unfold State.enter; split <;> simp only [wr_oes, updPart_oes]
@[simp ↓] theorem enter_colls (s : State) (p : Nat) (st : PState) : (s.enter p st).colls = s.colls := by unfold State.enter; split <;> simp only [wr_colls, updPart_colls]
@[simp ↓] theorem enter_rings (s : State) (p : Nat) (st : PState) : (s.enter p st).rings = s.rings := by unfold State.enter; split <;> simp only [wr_rings, updPart_rings]
@[simp ↓] theorem enter_heaters (s : State) (p : Nat) (st : PState) : (s.enter p st).heaters = s.heaters := by unfold State.enter; split <;> simp only [wr_heaters, updPart_heaters]
@[simp ↓] theorem enter_dies (s : State) (p : Nat) (st : PState) : (s.enter p st).dies = s.dies := by unfold State.enter; split <;> simp only [wr_dies, updPart_dies]
@[simp ↓] theorem enter_preBias (s : State) (p : Nat) (st : PState) : (s.enter p st).preBias = s.preBias := by unfold State.enter; split <;> simp only [wr_preBias, updPart_preBias]
@[simp ↓] theorem enter_pfc (s : State) (p : Nat) (st : PState) : (s.enter p st).pfc = s.pfc := by unfold State.enter; split <;> simp only [wr_pfc, updPart_pfc]
@[simp ↓] theorem enter_routers (s : State) (p : Nat) (st : PState) : (s.enter p st).routers = s.routers := by unfold State.enter; split <;> simp only [wr_routers, updPart_routers]
@[simp ↓] theorem enter_sramFix (s : State) (p : Nat) (st : PState) : (s.enter p st).sramFix = s.sramFix := by unfold State.enter; split <;> simp only [wr_sramFix, updPart_sramFix]
@[simp ↓] theorem enter_ueTicks (s : State) (p : Nat) (st : PState) : (s.enter p st).ueTicks = s.ueTicks := by unfold State.enter; split <;> simp only [wr_ueTicks, updPart_ueTicks]
@[simp ↓] theorem enter_held (s : State) (p : Nat) (st : PState) : (s.enter p st).held = s.held := by unfold State.enter; split <;> simp only [wr_held, updPart_held]
@[simp ↓] theorem enter_fuses (s : State) (p : Nat) (st : PState) : (s.enter p st).fuses = s.fuses := by unfold State.enter; split <;> simp only [wr_fuses, updPart_fuses]
@[simp ↓] theorem enter_flash0 (s : State) (p : Nat) (st : PState) : (s.enter p st).flash0 = s.flash0 := by unfold State.enter; split <;> simp only [wr_flash0, updPart_flash0]
@[simp ↓] theorem enter_flash1 (s : State) (p : Nat) (st : PState) : (s.enter p st).flash1 = s.flash1 := by unfold State.enter; split <;> simp only [wr_flash1, updPart_flash1]
@[simp ↓] theorem enter_mgp0 (s : State) (p : Nat) (st : PState) : (s.enter p st).mgp0 = s.mgp0 := by unfold State.enter; split <;> simp only [wr_mgp0, updPart_mgp0]
@[simp ↓] theorem enter_mgp1 (s : State) (p : Nat) (st : PState) : (s.enter p st).mgp1 = s.mgp1 := by unfold State.enter; split <;> simp only [wr_mgp1, updPart_mgp1]
@[simp ↓] theorem enter_i3c0 (s : State) (p : Nat) (st : PState) : (s.enter p st).i3c0 = s.i3c0 := by unfold State.enter; split <;> simp only [wr_i3c0, updPart_i3c0]
@[simp ↓] theorem enter_i3c1 (s : State) (p : Nat) (st : PState) : (s.enter p st).i3c1 = s.i3c1 := by unfold State.enter; split <;> simp only [wr_i3c1, updPart_i3c1]
@[simp ↓] theorem enter_rails (s : State) (p : Nat) (st : PState) : (s.enter p st).rails = s.rails := by unfold State.enter; split <;> simp only [wr_rails, updPart_rails]
@[simp ↓] theorem enter_temps (s : State) (p : Nat) (st : PState) : (s.enter p st).temps = s.temps := by unfold State.enter; split <;> simp only [wr_temps, updPart_temps]
@[simp ↓] theorem enter_trip0 (s : State) (p : Nat) (st : PState) : (s.enter p st).trip0 = s.trip0 := by unfold State.enter; split <;> simp only [wr_trip0, updPart_trip0]
@[simp ↓] theorem enter_trip1 (s : State) (p : Nat) (st : PState) : (s.enter p st).trip1 = s.trip1 := by unfold State.enter; split <;> simp only [wr_trip1, updPart_trip1]
@[simp ↓] theorem enter_day (s : State) (p : Nat) (st : PState) : (s.enter p st).day = s.day := by unfold State.enter; split <;> simp only [wr_day, updPart_day]
@[simp ↓] theorem enter_modeDue (s : State) (p : Nat) (st : PState) : (s.enter p st).modeDue = s.modeDue := by unfold State.enter; split <;> simp only [wr_modeDue, updPart_modeDue]
@[simp ↓] theorem enter_powerOver (s : State) (p : Nat) (st : PState) : (s.enter p st).powerOver = s.powerOver := by unfold State.enter; split <;> simp only [wr_powerOver, updPart_powerOver]
@[simp ↓] theorem enter_out (s : State) (p : Nat) (st : PState) : (s.enter p st).out = s.out := by unfold State.enter; split <;> simp only [wr_out, updPart_out]
@[simp ↓] theorem enter_free (s : State) (p : Nat) (st : PState) : (s.enter p st).free = s.free := by unfold State.enter; split <;> simp only [wr_free, updPart_free]
@[simp ↓] theorem enter_pending (s : State) (p : Nat) (st : PState) : (s.enter p st).pending = s.pending := by unfold State.enter; split <;> simp only [wr_pending, updPart_pending]
@[simp ↓] theorem enter_core (s : State) (p : Nat) (st : PState) (m : Nat) : (s.enter p st).core m = s.core m := by simp [State.core]
@[simp ↓] theorem enter_gather (s : State) (p : Nat) (st : PState) (h : Nat) : (s.enter p st).gather h = s.gather h := by simp [State.gather]
@[simp ↓] theorem enter_side (s : State) (p : Nat) (st : PState) (b2 x2 : Nat) : (s.enter p st).side b2 x2 = s.side b2 x2 := by simp [State.side]
@[simp ↓] theorem enter_chan (s : State) (p : Nat) (st : PState) (c2 : Nat) : (s.enter p st).chan c2 = s.chan c2 := by simp [State.chan]
@[simp ↓] theorem enter_port (s : State) (p : Nat) (st : PState) (q2 : Nat) : (s.enter p st).port q2 = s.port q2 := by simp [State.port]
@[simp ↓] theorem enter_oe (s : State) (p : Nat) (st : PState) (o2 : Nat) : (s.enter p st).oe o2 = s.oe o2 := by simp [State.oe]
@[simp ↓] theorem enter_coll (s : State) (p : Nat) (st : PState) (e2 : Nat) : (s.enter p st).coll e2 = s.coll e2 := by simp [State.coll]
@[simp ↓] theorem enter_die (s : State) (p : Nat) (st : PState) (d2 : Nat) : (s.enter p st).die d2 = s.die d2 := by simp [State.die]
@[simp ↓] theorem enter_mgp (s : State) (p : Nat) (st : PState) (h2 : Nat) : (s.enter p st).mgp h2 = s.mgp h2 := by simp [State.mgp]
@[simp ↓] theorem enter_flash (s : State) (p : Nat) (st : PState) (h2 : Nat) : (s.enter p st).flash h2 = s.flash h2 := by simp [State.flash]
@[simp ↓] theorem enter_byte (s : State) (p : Nat) (st : PState) (a2 : Nat) : (s.enter p st).byte a2 = s.byte a2 := by simp [State.byte]

/-! ### record -/

@[simp ↓] theorem record_twoPart (s : State) (p cls kind unit die eid addr info0 info1 : Nat) (ch : Bool) : (s.record p cls kind unit die eid addr info0 info1 ch).twoPart = s.twoPart := by unfold State.record State.updPart; split <;> rfl
@[simp ↓] theorem record_straps (s : State) (p cls kind unit die eid addr info0 info1 : Nat) (ch : Bool) : (s.record p cls kind unit die eid addr info0 info1 ch).straps = s.straps := by unfold State.record State.updPart; split <;> rfl
@[simp ↓] theorem record_regs (s : State) (p cls kind unit die eid addr info0 info1 : Nat) (ch : Bool) : (s.record p cls kind unit die eid addr info0 info1 ch).regs = s.regs := by unfold State.record State.updPart; split <;> rfl
@[simp ↓] theorem record_mem (s : State) (p cls kind unit die eid addr info0 info1 : Nat) (ch : Bool) : (s.record p cls kind unit die eid addr info0 info1 ch).mem = s.mem := by unfold State.record State.updPart; split <;> rfl
@[simp ↓] theorem record_sram (s : State) (p cls kind unit die eid addr info0 info1 : Nat) (ch : Bool) : (s.record p cls kind unit die eid addr info0 info1 ch).sram = s.sram := by unfold State.record State.updPart; split <;> rfl
@[simp ↓] theorem record_hbmSide (s : State) (p cls kind unit die eid addr info0 info1 : Nat) (ch : Bool) : (s.record p cls kind unit die eid addr info0 info1 ch).hbmSide = s.hbmSide := by unfold State.record State.updPart; split <;> rfl
@[simp ↓] theorem record_hbmUsed (s : State) (p cls kind unit die eid addr info0 info1 : Nat) (ch : Bool) : (s.record p cls kind unit die eid addr info0 info1 ch).hbmUsed = s.hbmUsed := by unfold State.record State.updPart; split <;> rfl
@[simp ↓] theorem record_sides (s : State) (p cls kind unit die eid addr info0 info1 : Nat) (ch : Bool) : (s.record p cls kind unit die eid addr info0 info1 ch).sides = s.sides := by unfold State.record State.updPart; split <;> rfl
@[simp ↓] theorem record_cores (s : State) (p cls kind unit die eid addr info0 info1 : Nat) (ch : Bool) : (s.record p cls kind unit die eid addr info0 info1 ch).cores = s.cores := by unfold State.record State.updPart; split <;> rfl
@[simp ↓] theorem record_gathers (s : State) (p cls kind unit die eid addr info0 info1 : Nat) (ch : Bool) : (s.record p cls kind unit die eid addr info0 info1 ch).gathers = s.gathers := by unfold State.record State.updPart; split <;> rfl
@[simp ↓] theorem record_chans (s : State) (p cls kind unit die eid addr info0 info1 : Nat) (ch : Bool) : (s.record p cls kind unit die eid addr info0 info1 ch).chans = s.chans := by unfold State.record State.updPart; split <;> rfl
@[simp ↓] theorem record_ports (s : State) (p cls kind unit die eid addr info0 info1 : Nat) (ch : Bool) : (s.record p cls kind unit die eid addr info0 info1 ch).ports = s.ports := by unfold State.record State.updPart; split <;> rfl
@[simp ↓] theorem record_oes (s : State) (p cls kind unit die eid addr info0 info1 : Nat) (ch : Bool) : (s.record p cls kind unit die eid addr info0 info1 ch).oes = s.oes := by unfold State.record State.updPart; split <;> rfl
@[simp ↓] theorem record_colls (s : State) (p cls kind unit die eid addr info0 info1 : Nat) (ch : Bool) : (s.record p cls kind unit die eid addr info0 info1 ch).colls = s.colls := by unfold State.record State.updPart; split <;> rfl
@[simp ↓] theorem record_rings (s : State) (p cls kind unit die eid addr info0 info1 : Nat) (ch : Bool) : (s.record p cls kind unit die eid addr info0 info1 ch).rings = s.rings := by unfold State.record State.updPart; split <;> rfl
@[simp ↓] theorem record_heaters (s : State) (p cls kind unit die eid addr info0 info1 : Nat) (ch : Bool) : (s.record p cls kind unit die eid addr info0 info1 ch).heaters = s.heaters := by unfold State.record State.updPart; split <;> rfl
@[simp ↓] theorem record_dies (s : State) (p cls kind unit die eid addr info0 info1 : Nat) (ch : Bool) : (s.record p cls kind unit die eid addr info0 info1 ch).dies = s.dies := by unfold State.record State.updPart; split <;> rfl
@[simp ↓] theorem record_preBias (s : State) (p cls kind unit die eid addr info0 info1 : Nat) (ch : Bool) : (s.record p cls kind unit die eid addr info0 info1 ch).preBias = s.preBias := by unfold State.record State.updPart; split <;> rfl
@[simp ↓] theorem record_pfc (s : State) (p cls kind unit die eid addr info0 info1 : Nat) (ch : Bool) : (s.record p cls kind unit die eid addr info0 info1 ch).pfc = s.pfc := by unfold State.record State.updPart; split <;> rfl
@[simp ↓] theorem record_routers (s : State) (p cls kind unit die eid addr info0 info1 : Nat) (ch : Bool) : (s.record p cls kind unit die eid addr info0 info1 ch).routers = s.routers := by unfold State.record State.updPart; split <;> rfl
@[simp ↓] theorem record_sramFix (s : State) (p cls kind unit die eid addr info0 info1 : Nat) (ch : Bool) : (s.record p cls kind unit die eid addr info0 info1 ch).sramFix = s.sramFix := by unfold State.record State.updPart; split <;> rfl
@[simp ↓] theorem record_ueTicks (s : State) (p cls kind unit die eid addr info0 info1 : Nat) (ch : Bool) : (s.record p cls kind unit die eid addr info0 info1 ch).ueTicks = s.ueTicks := by unfold State.record State.updPart; split <;> rfl
@[simp ↓] theorem record_held (s : State) (p cls kind unit die eid addr info0 info1 : Nat) (ch : Bool) : (s.record p cls kind unit die eid addr info0 info1 ch).held = s.held := by unfold State.record State.updPart; split <;> rfl
@[simp ↓] theorem record_fuses (s : State) (p cls kind unit die eid addr info0 info1 : Nat) (ch : Bool) : (s.record p cls kind unit die eid addr info0 info1 ch).fuses = s.fuses := by unfold State.record State.updPart; split <;> rfl
@[simp ↓] theorem record_flash0 (s : State) (p cls kind unit die eid addr info0 info1 : Nat) (ch : Bool) : (s.record p cls kind unit die eid addr info0 info1 ch).flash0 = s.flash0 := by unfold State.record State.updPart; split <;> rfl
@[simp ↓] theorem record_flash1 (s : State) (p cls kind unit die eid addr info0 info1 : Nat) (ch : Bool) : (s.record p cls kind unit die eid addr info0 info1 ch).flash1 = s.flash1 := by unfold State.record State.updPart; split <;> rfl
@[simp ↓] theorem record_mgp0 (s : State) (p cls kind unit die eid addr info0 info1 : Nat) (ch : Bool) : (s.record p cls kind unit die eid addr info0 info1 ch).mgp0 = s.mgp0 := by unfold State.record State.updPart; split <;> rfl
@[simp ↓] theorem record_mgp1 (s : State) (p cls kind unit die eid addr info0 info1 : Nat) (ch : Bool) : (s.record p cls kind unit die eid addr info0 info1 ch).mgp1 = s.mgp1 := by unfold State.record State.updPart; split <;> rfl
@[simp ↓] theorem record_vault (s : State) (p cls kind unit die eid addr info0 info1 : Nat) (ch : Bool) : (s.record p cls kind unit die eid addr info0 info1 ch).vault = s.vault := by unfold State.record State.updPart; split <;> rfl
@[simp ↓] theorem record_i3c0 (s : State) (p cls kind unit die eid addr info0 info1 : Nat) (ch : Bool) : (s.record p cls kind unit die eid addr info0 info1 ch).i3c0 = s.i3c0 := by unfold State.record State.updPart; split <;> rfl
@[simp ↓] theorem record_i3c1 (s : State) (p cls kind unit die eid addr info0 info1 : Nat) (ch : Bool) : (s.record p cls kind unit die eid addr info0 info1 ch).i3c1 = s.i3c1 := by unfold State.record State.updPart; split <;> rfl
@[simp ↓] theorem record_rails (s : State) (p cls kind unit die eid addr info0 info1 : Nat) (ch : Bool) : (s.record p cls kind unit die eid addr info0 info1 ch).rails = s.rails := by unfold State.record State.updPart; split <;> rfl
@[simp ↓] theorem record_temps (s : State) (p cls kind unit die eid addr info0 info1 : Nat) (ch : Bool) : (s.record p cls kind unit die eid addr info0 info1 ch).temps = s.temps := by unfold State.record State.updPart; split <;> rfl
@[simp ↓] theorem record_trip0 (s : State) (p cls kind unit die eid addr info0 info1 : Nat) (ch : Bool) : (s.record p cls kind unit die eid addr info0 info1 ch).trip0 = s.trip0 := by unfold State.record State.updPart; split <;> rfl
@[simp ↓] theorem record_trip1 (s : State) (p cls kind unit die eid addr info0 info1 : Nat) (ch : Bool) : (s.record p cls kind unit die eid addr info0 info1 ch).trip1 = s.trip1 := by unfold State.record State.updPart; split <;> rfl
@[simp ↓] theorem record_day (s : State) (p cls kind unit die eid addr info0 info1 : Nat) (ch : Bool) : (s.record p cls kind unit die eid addr info0 info1 ch).day = s.day := by unfold State.record State.updPart; split <;> rfl
@[simp ↓] theorem record_modeDue (s : State) (p cls kind unit die eid addr info0 info1 : Nat) (ch : Bool) : (s.record p cls kind unit die eid addr info0 info1 ch).modeDue = s.modeDue := by unfold State.record State.updPart; split <;> rfl
@[simp ↓] theorem record_powerOver (s : State) (p cls kind unit die eid addr info0 info1 : Nat) (ch : Bool) : (s.record p cls kind unit die eid addr info0 info1 ch).powerOver = s.powerOver := by unfold State.record State.updPart; split <;> rfl
@[simp ↓] theorem record_out (s : State) (p cls kind unit die eid addr info0 info1 : Nat) (ch : Bool) : (s.record p cls kind unit die eid addr info0 info1 ch).out = s.out := by unfold State.record State.updPart; split <;> rfl
@[simp ↓] theorem record_free (s : State) (p cls kind unit die eid addr info0 info1 : Nat) (ch : Bool) : (s.record p cls kind unit die eid addr info0 info1 ch).free = s.free := by unfold State.record State.updPart; split <;> rfl
@[simp ↓] theorem record_pending (s : State) (p cls kind unit die eid addr info0 info1 : Nat) (ch : Bool) : (s.record p cls kind unit die eid addr info0 info1 ch).pending = s.pending := by unfold State.record State.updPart; split <;> rfl
@[simp ↓] theorem record_core (s : State) (p cls kind unit die eid addr info0 info1 : Nat) (ch : Bool) (m : Nat) : (s.record p cls kind unit die eid addr info0 info1 ch).core m = s.core m := by simp [State.core]
@[simp ↓] theorem record_gather (s : State) (p cls kind unit die eid addr info0 info1 : Nat) (ch : Bool) (h : Nat) : (s.record p cls kind unit die eid addr info0 info1 ch).gather h = s.gather h := by simp [State.gather]
@[simp ↓] theorem record_side (s : State) (p cls kind unit die eid addr info0 info1 : Nat) (ch : Bool) (b2 x2 : Nat) : (s.record p cls kind unit die eid addr info0 info1 ch).side b2 x2 = s.side b2 x2 := by simp [State.side]
@[simp ↓] theorem record_chan (s : State) (p cls kind unit die eid addr info0 info1 : Nat) (ch : Bool) (c2 : Nat) : (s.record p cls kind unit die eid addr info0 info1 ch).chan c2 = s.chan c2 := by simp [State.chan]
@[simp ↓] theorem record_port (s : State) (p cls kind unit die eid addr info0 info1 : Nat) (ch : Bool) (q2 : Nat) : (s.record p cls kind unit die eid addr info0 info1 ch).port q2 = s.port q2 := by simp [State.port]
@[simp ↓] theorem record_oe (s : State) (p cls kind unit die eid addr info0 info1 : Nat) (ch : Bool) (o2 : Nat) : (s.record p cls kind unit die eid addr info0 info1 ch).oe o2 = s.oe o2 := by simp [State.oe]
@[simp ↓] theorem record_coll (s : State) (p cls kind unit die eid addr info0 info1 : Nat) (ch : Bool) (e2 : Nat) : (s.record p cls kind unit die eid addr info0 info1 ch).coll e2 = s.coll e2 := by simp [State.coll]
@[simp ↓] theorem record_die (s : State) (p cls kind unit die eid addr info0 info1 : Nat) (ch : Bool) (d2 : Nat) : (s.record p cls kind unit die eid addr info0 info1 ch).die d2 = s.die d2 := by simp [State.die]
@[simp ↓] theorem record_mgp (s : State) (p cls kind unit die eid addr info0 info1 : Nat) (ch : Bool) (h2 : Nat) : (s.record p cls kind unit die eid addr info0 info1 ch).mgp h2 = s.mgp h2 := by simp [State.mgp]
@[simp ↓] theorem record_flash (s : State) (p cls kind unit die eid addr info0 info1 : Nat) (ch : Bool) (h2 : Nat) : (s.record p cls kind unit die eid addr info0 info1 ch).flash h2 = s.flash h2 := by simp [State.flash]
@[simp ↓] theorem record_reg (s : State) (p cls kind unit die eid addr info0 info1 : Nat) (ch : Bool) (r2 : Reg) (p2 i2 j2 k2 : Nat) : (s.record p cls kind unit die eid addr info0 info1 ch).reg r2 p2 i2 j2 k2 = s.reg r2 p2 i2 j2 k2 := by simp [State.reg]
@[simp ↓] theorem record_rd (s : State) (p cls kind unit die eid addr info0 info1 : Nat) (ch : Bool) (f2 : Fld) (p2 i2 j2 k2 : Nat) : (s.record p cls kind unit die eid addr info0 info1 ch).rd f2 p2 i2 j2 k2 = s.rd f2 p2 i2 j2 k2 := by simp [State.rd, State.reg]
@[simp ↓] theorem record_byte (s : State) (p cls kind unit die eid addr info0 info1 : Nat) (ch : Bool) (a2 : Nat) : (s.record p cls kind unit die eid addr info0 info1 ch).byte a2 = s.byte a2 := by simp [State.byte]

/-! ### ownFreeze -/

@[simp ↓] theorem ownFreeze_twoPart (s : State) (p c h : Nat) : (s.ownFreeze p c h).twoPart = s.twoPart := by simp only [State.ownFreeze, wr_twoPart, setReg_twoPart, updPart_twoPart]
@[simp ↓] theorem ownFreeze_straps (s : State) (p c h : Nat) : (s.ownFreeze p c h).straps = s.straps := by simp only [State.ownFreeze, wr_straps, setReg_straps, updPart_straps]
@[simp ↓] theorem ownFreeze_mem (s : State) (p c h : Nat) : (s.ownFreeze p c h).mem = s.mem := by simp only [State.ownFreeze, wr_mem, setReg_mem, updPart_mem]
@[simp ↓] theorem ownFreeze_sram (s : State) (p c h : Nat) : (s.ownFreeze p c h).sram = s.sram := by simp only [State.ownFreeze, wr_sram, setReg_sram, updPart_sram]
@[simp ↓] theorem ownFreeze_hbmSide (s : State) (p c h : Nat) : (s.ownFreeze p c h).hbmSide = s.hbmSide := by simp only [State.ownFreeze, wr_hbmSide, setReg_hbmSide, updPart_hbmSide]
@[simp ↓] theorem ownFreeze_hbmUsed (s : State) (p c h : Nat) : (s.ownFreeze p c h).hbmUsed = s.hbmUsed := by simp only [State.ownFreeze, wr_hbmUsed, setReg_hbmUsed, updPart_hbmUsed]
@[simp ↓] theorem ownFreeze_sides (s : State) (p c h : Nat) : (s.ownFreeze p c h).sides = s.sides := by simp only [State.ownFreeze, wr_sides, setReg_sides, updPart_sides]
@[simp ↓] theorem ownFreeze_cores (s : State) (p c h : Nat) : (s.ownFreeze p c h).cores = s.cores := by simp only [State.ownFreeze, wr_cores, setReg_cores, updPart_cores]
@[simp ↓] theorem ownFreeze_gathers (s : State) (p c h : Nat) : (s.ownFreeze p c h).gathers = s.gathers := by simp only [State.ownFreeze, wr_gathers, setReg_gathers, updPart_gathers]
@[simp ↓] theorem ownFreeze_chans (s : State) (p c h : Nat) : (s.ownFreeze p c h).chans = s.chans := by simp only [State.ownFreeze, wr_chans, setReg_chans, updPart_chans]
@[simp ↓] theorem ownFreeze_ports (s : State) (p c h : Nat) : (s.ownFreeze p c h).ports = s.ports := by simp only [State.ownFreeze, wr_ports, setReg_ports, updPart_ports]
@[simp ↓] theorem ownFreeze_oes (s : State) (p c h : Nat) : (s.ownFreeze p c h).oes = s.oes := by simp only [State.ownFreeze, wr_oes, setReg_oes, updPart_oes]
@[simp ↓] theorem ownFreeze_colls (s : State) (p c h : Nat) : (s.ownFreeze p c h).colls = s.colls := by simp only [State.ownFreeze, wr_colls, setReg_colls, updPart_colls]
@[simp ↓] theorem ownFreeze_rings (s : State) (p c h : Nat) : (s.ownFreeze p c h).rings = s.rings := by simp only [State.ownFreeze, wr_rings, setReg_rings, updPart_rings]
@[simp ↓] theorem ownFreeze_heaters (s : State) (p c h : Nat) : (s.ownFreeze p c h).heaters = s.heaters := by simp only [State.ownFreeze, wr_heaters, setReg_heaters, updPart_heaters]
@[simp ↓] theorem ownFreeze_dies (s : State) (p c h : Nat) : (s.ownFreeze p c h).dies = s.dies := by simp only [State.ownFreeze, wr_dies, setReg_dies, updPart_dies]
@[simp ↓] theorem ownFreeze_preBias (s : State) (p c h : Nat) : (s.ownFreeze p c h).preBias = s.preBias := by simp only [State.ownFreeze, wr_preBias, setReg_preBias, updPart_preBias]
@[simp ↓] theorem ownFreeze_pfc (s : State) (p c h : Nat) : (s.ownFreeze p c h).pfc = s.pfc := by simp only [State.ownFreeze, wr_pfc, setReg_pfc, updPart_pfc]
@[simp ↓] theorem ownFreeze_routers (s : State) (p c h : Nat) : (s.ownFreeze p c h).routers = s.routers := by simp only [State.ownFreeze, wr_routers, setReg_routers, updPart_routers]
@[simp ↓] theorem ownFreeze_sramFix (s : State) (p c h : Nat) : (s.ownFreeze p c h).sramFix = s.sramFix := by simp only [State.ownFreeze, wr_sramFix, setReg_sramFix, updPart_sramFix]
@[simp ↓] theorem ownFreeze_ueTicks (s : State) (p c h : Nat) : (s.ownFreeze p c h).ueTicks = s.ueTicks := by simp only [State.ownFreeze, wr_ueTicks, setReg_ueTicks, updPart_ueTicks]
@[simp ↓] theorem ownFreeze_held (s : State) (p c h : Nat) : (s.ownFreeze p c h).held = s.held := by simp only [State.ownFreeze, wr_held, setReg_held, updPart_held]
@[simp ↓] theorem ownFreeze_fuses (s : State) (p c h : Nat) : (s.ownFreeze p c h).fuses = s.fuses := by simp only [State.ownFreeze, wr_fuses, setReg_fuses, updPart_fuses]
@[simp ↓] theorem ownFreeze_flash0 (s : State) (p c h : Nat) : (s.ownFreeze p c h).flash0 = s.flash0 := by simp only [State.ownFreeze, wr_flash0, setReg_flash0, updPart_flash0]
@[simp ↓] theorem ownFreeze_flash1 (s : State) (p c h : Nat) : (s.ownFreeze p c h).flash1 = s.flash1 := by simp only [State.ownFreeze, wr_flash1, setReg_flash1, updPart_flash1]
@[simp ↓] theorem ownFreeze_mgp0 (s : State) (p c h : Nat) : (s.ownFreeze p c h).mgp0 = s.mgp0 := by simp only [State.ownFreeze, wr_mgp0, setReg_mgp0, updPart_mgp0]
@[simp ↓] theorem ownFreeze_mgp1 (s : State) (p c h : Nat) : (s.ownFreeze p c h).mgp1 = s.mgp1 := by simp only [State.ownFreeze, wr_mgp1, setReg_mgp1, updPart_mgp1]
@[simp ↓] theorem ownFreeze_vault (s : State) (p c h : Nat) : (s.ownFreeze p c h).vault = s.vault := by simp only [State.ownFreeze, wr_vault, setReg_vault, updPart_vault]
@[simp ↓] theorem ownFreeze_i3c0 (s : State) (p c h : Nat) : (s.ownFreeze p c h).i3c0 = s.i3c0 := by simp only [State.ownFreeze, wr_i3c0, setReg_i3c0, updPart_i3c0]
@[simp ↓] theorem ownFreeze_i3c1 (s : State) (p c h : Nat) : (s.ownFreeze p c h).i3c1 = s.i3c1 := by simp only [State.ownFreeze, wr_i3c1, setReg_i3c1, updPart_i3c1]
@[simp ↓] theorem ownFreeze_rails (s : State) (p c h : Nat) : (s.ownFreeze p c h).rails = s.rails := by simp only [State.ownFreeze, wr_rails, setReg_rails, updPart_rails]
@[simp ↓] theorem ownFreeze_temps (s : State) (p c h : Nat) : (s.ownFreeze p c h).temps = s.temps := by simp only [State.ownFreeze, wr_temps, setReg_temps, updPart_temps]
@[simp ↓] theorem ownFreeze_trip0 (s : State) (p c h : Nat) : (s.ownFreeze p c h).trip0 = s.trip0 := by simp only [State.ownFreeze, wr_trip0, setReg_trip0, updPart_trip0]
@[simp ↓] theorem ownFreeze_trip1 (s : State) (p c h : Nat) : (s.ownFreeze p c h).trip1 = s.trip1 := by simp only [State.ownFreeze, wr_trip1, setReg_trip1, updPart_trip1]
@[simp ↓] theorem ownFreeze_day (s : State) (p c h : Nat) : (s.ownFreeze p c h).day = s.day := by simp only [State.ownFreeze, wr_day, setReg_day, updPart_day]
@[simp ↓] theorem ownFreeze_modeDue (s : State) (p c h : Nat) : (s.ownFreeze p c h).modeDue = s.modeDue := by simp only [State.ownFreeze, wr_modeDue, setReg_modeDue, updPart_modeDue]
@[simp ↓] theorem ownFreeze_powerOver (s : State) (p c h : Nat) : (s.ownFreeze p c h).powerOver = s.powerOver := by simp only [State.ownFreeze, wr_powerOver, setReg_powerOver, updPart_powerOver]
@[simp ↓] theorem ownFreeze_out (s : State) (p c h : Nat) : (s.ownFreeze p c h).out = s.out := by simp only [State.ownFreeze, wr_out, setReg_out, updPart_out]
@[simp ↓] theorem ownFreeze_free (s : State) (p c h : Nat) : (s.ownFreeze p c h).free = s.free := by simp only [State.ownFreeze, wr_free, setReg_free, updPart_free]
@[simp ↓] theorem ownFreeze_pending (s : State) (p c h : Nat) : (s.ownFreeze p c h).pending = s.pending := by simp only [State.ownFreeze, wr_pending, setReg_pending, updPart_pending]
@[simp ↓] theorem ownFreeze_core (s : State) (p c h : Nat) (m : Nat) : (s.ownFreeze p c h).core m = s.core m := by simp [State.core]
@[simp ↓] theorem ownFreeze_gather (s : State) (p c h : Nat) (h : Nat) : (s.ownFreeze p c h).gather h = s.gather h := by simp [State.gather]
@[simp ↓] theorem ownFreeze_side (s : State) (p c h : Nat) (b2 x2 : Nat) : (s.ownFreeze p c h).side b2 x2 = s.side b2 x2 := by simp [State.side]
@[simp ↓] theorem ownFreeze_chan (s : State) (p c h : Nat) (c2 : Nat) : (s.ownFreeze p c h).chan c2 = s.chan c2 := by simp [State.chan]
@[simp ↓] theorem ownFreeze_port (s : State) (p c h : Nat) (q2 : Nat) : (s.ownFreeze p c h).port q2 = s.port q2 := by simp [State.port]
@[simp ↓] theorem ownFreeze_oe (s : State) (p c h : Nat) (o2 : Nat) : (s.ownFreeze p c h).oe o2 = s.oe o2 := by simp [State.oe]
@[simp ↓] theorem ownFreeze_coll (s : State) (p c h : Nat) (e2 : Nat) : (s.ownFreeze p c h).coll e2 = s.coll e2 := by simp [State.coll]
@[simp ↓] theorem ownFreeze_die (s : State) (p c h : Nat) (d2 : Nat) : (s.ownFreeze p c h).die d2 = s.die d2 := by simp [State.die]
@[simp ↓] theorem ownFreeze_mgp (s : State) (p c h : Nat) (h2 : Nat) : (s.ownFreeze p c h).mgp h2 = s.mgp h2 := by simp [State.mgp]
@[simp ↓] theorem ownFreeze_flash (s : State) (p c h : Nat) (h2 : Nat) : (s.ownFreeze p c h).flash h2 = s.flash h2 := by simp [State.flash]
@[simp ↓] theorem ownFreeze_byte (s : State) (p c h : Nat) (a2 : Nat) : (s.ownFreeze p c h).byte a2 = s.byte a2 := by simp [State.byte]

/-! ### slip -/

@[simp ↓] theorem slip_twoPart (s : State) (p c : Nat) : (s.slip p c).twoPart = s.twoPart := by unfold State.slip; split <;> simp only [ownFreeze_twoPart, flag_twoPart]
@[simp ↓] theorem slip_straps (s : State) (p c : Nat) : (s.slip p c).straps = s.straps := by unfold State.slip; split <;> simp only [ownFreeze_straps, flag_straps]
@[simp ↓] theorem slip_mem (s : State) (p c : Nat) : (s.slip p c).mem = s.mem := by unfold State.slip; split <;> simp only [ownFreeze_mem, flag_mem]
@[simp ↓] theorem slip_sram (s : State) (p c : Nat) : (s.slip p c).sram = s.sram := by unfold State.slip; split <;> simp only [ownFreeze_sram, flag_sram]
@[simp ↓] theorem slip_hbmSide (s : State) (p c : Nat) : (s.slip p c).hbmSide = s.hbmSide := by unfold State.slip; split <;> simp only [ownFreeze_hbmSide, flag_hbmSide]
@[simp ↓] theorem slip_hbmUsed (s : State) (p c : Nat) : (s.slip p c).hbmUsed = s.hbmUsed := by unfold State.slip; split <;> simp only [ownFreeze_hbmUsed, flag_hbmUsed]
@[simp ↓] theorem slip_sides (s : State) (p c : Nat) : (s.slip p c).sides = s.sides := by unfold State.slip; split <;> simp only [ownFreeze_sides, flag_sides]
@[simp ↓] theorem slip_cores (s : State) (p c : Nat) : (s.slip p c).cores = s.cores := by unfold State.slip; split <;> simp only [ownFreeze_cores, flag_cores]
@[simp ↓] theorem slip_gathers (s : State) (p c : Nat) : (s.slip p c).gathers = s.gathers := by unfold State.slip; split <;> simp only [ownFreeze_gathers, flag_gathers]
@[simp ↓] theorem slip_chans (s : State) (p c : Nat) : (s.slip p c).chans = s.chans := by unfold State.slip; split <;> simp only [ownFreeze_chans, flag_chans]
@[simp ↓] theorem slip_ports (s : State) (p c : Nat) : (s.slip p c).ports = s.ports := by unfold State.slip; split <;> simp only [ownFreeze_ports, flag_ports]
@[simp ↓] theorem slip_oes (s : State) (p c : Nat) : (s.slip p c).oes = s.oes := by unfold State.slip; split <;> simp only [ownFreeze_oes, flag_oes]
@[simp ↓] theorem slip_colls (s : State) (p c : Nat) : (s.slip p c).colls = s.colls := by unfold State.slip; split <;> simp only [ownFreeze_colls, flag_colls]
@[simp ↓] theorem slip_rings (s : State) (p c : Nat) : (s.slip p c).rings = s.rings := by unfold State.slip; split <;> simp only [ownFreeze_rings, flag_rings]
@[simp ↓] theorem slip_heaters (s : State) (p c : Nat) : (s.slip p c).heaters = s.heaters := by unfold State.slip; split <;> simp only [ownFreeze_heaters, flag_heaters]
@[simp ↓] theorem slip_dies (s : State) (p c : Nat) : (s.slip p c).dies = s.dies := by unfold State.slip; split <;> simp only [ownFreeze_dies, flag_dies]
@[simp ↓] theorem slip_preBias (s : State) (p c : Nat) : (s.slip p c).preBias = s.preBias := by unfold State.slip; split <;> simp only [ownFreeze_preBias, flag_preBias]
@[simp ↓] theorem slip_pfc (s : State) (p c : Nat) : (s.slip p c).pfc = s.pfc := by unfold State.slip; split <;> simp only [ownFreeze_pfc, flag_pfc]
@[simp ↓] theorem slip_routers (s : State) (p c : Nat) : (s.slip p c).routers = s.routers := by unfold State.slip; split <;> simp only [ownFreeze_routers, flag_routers]
@[simp ↓] theorem slip_sramFix (s : State) (p c : Nat) : (s.slip p c).sramFix = s.sramFix := by unfold State.slip; split <;> simp only [ownFreeze_sramFix, flag_sramFix]
@[simp ↓] theorem slip_ueTicks (s : State) (p c : Nat) : (s.slip p c).ueTicks = s.ueTicks := by unfold State.slip; split <;> simp only [ownFreeze_ueTicks, flag_ueTicks]
@[simp ↓] theorem slip_held (s : State) (p c : Nat) : (s.slip p c).held = s.held := by unfold State.slip; split <;> simp only [ownFreeze_held, flag_held]
@[simp ↓] theorem slip_fuses (s : State) (p c : Nat) : (s.slip p c).fuses = s.fuses := by unfold State.slip; split <;> simp only [ownFreeze_fuses, flag_fuses]
@[simp ↓] theorem slip_flash0 (s : State) (p c : Nat) : (s.slip p c).flash0 = s.flash0 := by unfold State.slip; split <;> simp only [ownFreeze_flash0, flag_flash0]
@[simp ↓] theorem slip_flash1 (s : State) (p c : Nat) : (s.slip p c).flash1 = s.flash1 := by unfold State.slip; split <;> simp only [ownFreeze_flash1, flag_flash1]
@[simp ↓] theorem slip_mgp0 (s : State) (p c : Nat) : (s.slip p c).mgp0 = s.mgp0 := by unfold State.slip; split <;> simp only [ownFreeze_mgp0, flag_mgp0]
@[simp ↓] theorem slip_mgp1 (s : State) (p c : Nat) : (s.slip p c).mgp1 = s.mgp1 := by unfold State.slip; split <;> simp only [ownFreeze_mgp1, flag_mgp1]
@[simp ↓] theorem slip_vault (s : State) (p c : Nat) : (s.slip p c).vault = s.vault := by unfold State.slip; split <;> simp only [ownFreeze_vault, flag_vault]
@[simp ↓] theorem slip_i3c0 (s : State) (p c : Nat) : (s.slip p c).i3c0 = s.i3c0 := by unfold State.slip; split <;> simp only [ownFreeze_i3c0, flag_i3c0]
@[simp ↓] theorem slip_i3c1 (s : State) (p c : Nat) : (s.slip p c).i3c1 = s.i3c1 := by unfold State.slip; split <;> simp only [ownFreeze_i3c1, flag_i3c1]
@[simp ↓] theorem slip_rails (s : State) (p c : Nat) : (s.slip p c).rails = s.rails := by unfold State.slip; split <;> simp only [ownFreeze_rails, flag_rails]
@[simp ↓] theorem slip_temps (s : State) (p c : Nat) : (s.slip p c).temps = s.temps := by unfold State.slip; split <;> simp only [ownFreeze_temps, flag_temps]
@[simp ↓] theorem slip_trip0 (s : State) (p c : Nat) : (s.slip p c).trip0 = s.trip0 := by unfold State.slip; split <;> simp only [ownFreeze_trip0, flag_trip0]
@[simp ↓] theorem slip_trip1 (s : State) (p c : Nat) : (s.slip p c).trip1 = s.trip1 := by unfold State.slip; split <;> simp only [ownFreeze_trip1, flag_trip1]
@[simp ↓] theorem slip_day (s : State) (p c : Nat) : (s.slip p c).day = s.day := by unfold State.slip; split <;> simp only [ownFreeze_day, flag_day]
@[simp ↓] theorem slip_modeDue (s : State) (p c : Nat) : (s.slip p c).modeDue = s.modeDue := by unfold State.slip; split <;> simp only [ownFreeze_modeDue, flag_modeDue]
@[simp ↓] theorem slip_powerOver (s : State) (p c : Nat) : (s.slip p c).powerOver = s.powerOver := by unfold State.slip; split <;> simp only [ownFreeze_powerOver, flag_powerOver]
@[simp ↓] theorem slip_out (s : State) (p c : Nat) : (s.slip p c).out = s.out := by unfold State.slip; split <;> simp only [ownFreeze_out, flag_out]
@[simp ↓] theorem slip_free (s : State) (p c : Nat) : (s.slip p c).free = s.free := by unfold State.slip; split <;> simp only [ownFreeze_free, flag_free]
@[simp ↓] theorem slip_pending (s : State) (p c : Nat) : (s.slip p c).pending = s.pending := by unfold State.slip; split <;> simp only [ownFreeze_pending, flag_pending]
@[simp ↓] theorem slip_core (s : State) (p c : Nat) (m : Nat) : (s.slip p c).core m = s.core m := by simp [State.core]
@[simp ↓] theorem slip_gather (s : State) (p c : Nat) (h : Nat) : (s.slip p c).gather h = s.gather h := by simp [State.gather]
@[simp ↓] theorem slip_side (s : State) (p c : Nat) (b2 x2 : Nat) : (s.slip p c).side b2 x2 = s.side b2 x2 := by simp [State.side]
@[simp ↓] theorem slip_chan (s : State) (p c : Nat) (c2 : Nat) : (s.slip p c).chan c2 = s.chan c2 := by simp [State.chan]
@[simp ↓] theorem slip_port (s : State) (p c : Nat) (q2 : Nat) : (s.slip p c).port q2 = s.port q2 := by simp [State.port]
@[simp ↓] theorem slip_oe (s : State) (p c : Nat) (o2 : Nat) : (s.slip p c).oe o2 = s.oe o2 := by simp [State.oe]
@[simp ↓] theorem slip_coll (s : State) (p c : Nat) (e2 : Nat) : (s.slip p c).coll e2 = s.coll e2 := by simp [State.coll]
@[simp ↓] theorem slip_die (s : State) (p c : Nat) (d2 : Nat) : (s.slip p c).die d2 = s.die d2 := by simp [State.die]
@[simp ↓] theorem slip_mgp (s : State) (p c : Nat) (h2 : Nat) : (s.slip p c).mgp h2 = s.mgp h2 := by simp [State.mgp]
@[simp ↓] theorem slip_flash (s : State) (p c : Nat) (h2 : Nat) : (s.slip p c).flash h2 = s.flash h2 := by simp [State.flash]
@[simp ↓] theorem slip_byte (s : State) (p c : Nat) (a2 : Nat) : (s.slip p c).byte a2 = s.byte a2 := by simp [State.byte]

/-! ### slipIfRunning -/

@[simp ↓] theorem slipIfRunning_twoPart (s : State) (p c : Nat) : (s.slipIfRunning p c).twoPart = s.twoPart := by unfold State.slipIfRunning; split <;> simp only [slip_twoPart]
@[simp ↓] theorem slipIfRunning_straps (s : State) (p c : Nat) : (s.slipIfRunning p c).straps = s.straps := by unfold State.slipIfRunning; split <;> simp only [slip_straps]
@[simp ↓] theorem slipIfRunning_mem (s : State) (p c : Nat) : (s.slipIfRunning p c).mem = s.mem := by unfold State.slipIfRunning; split <;> simp only [slip_mem]
@[simp ↓] theorem slipIfRunning_sram (s : State) (p c : Nat) : (s.slipIfRunning p c).sram = s.sram := by unfold State.slipIfRunning; split <;> simp only [slip_sram]
@[simp ↓] theorem slipIfRunning_hbmSide (s : State) (p c : Nat) : (s.slipIfRunning p c).hbmSide = s.hbmSide := by unfold State.slipIfRunning; split <;> simp only [slip_hbmSide]
@[simp ↓] theorem slipIfRunning_hbmUsed (s : State) (p c : Nat) : (s.slipIfRunning p c).hbmUsed = s.hbmUsed := by unfold State.slipIfRunning; split <;> simp only [slip_hbmUsed]
@[simp ↓] theorem slipIfRunning_sides (s : State) (p c : Nat) : (s.slipIfRunning p c).sides = s.sides := by unfold State.slipIfRunning; split <;> simp only [slip_sides]
@[simp ↓] theorem slipIfRunning_cores (s : State) (p c : Nat) : (s.slipIfRunning p c).cores = s.cores := by unfold State.slipIfRunning; split <;> simp only [slip_cores]
@[simp ↓] theorem slipIfRunning_gathers (s : State) (p c : Nat) : (s.slipIfRunning p c).gathers = s.gathers := by unfold State.slipIfRunning; split <;> simp only [slip_gathers]
@[simp ↓] theorem slipIfRunning_chans (s : State) (p c : Nat) : (s.slipIfRunning p c).chans = s.chans := by unfold State.slipIfRunning; split <;> simp only [slip_chans]
@[simp ↓] theorem slipIfRunning_ports (s : State) (p c : Nat) : (s.slipIfRunning p c).ports = s.ports := by unfold State.slipIfRunning; split <;> simp only [slip_ports]
@[simp ↓] theorem slipIfRunning_oes (s : State) (p c : Nat) : (s.slipIfRunning p c).oes = s.oes := by unfold State.slipIfRunning; split <;> simp only [slip_oes]
@[simp ↓] theorem slipIfRunning_colls (s : State) (p c : Nat) : (s.slipIfRunning p c).colls = s.colls := by unfold State.slipIfRunning; split <;> simp only [slip_colls]
@[simp ↓] theorem slipIfRunning_rings (s : State) (p c : Nat) : (s.slipIfRunning p c).rings = s.rings := by unfold State.slipIfRunning; split <;> simp only [slip_rings]
@[simp ↓] theorem slipIfRunning_heaters (s : State) (p c : Nat) : (s.slipIfRunning p c).heaters = s.heaters := by unfold State.slipIfRunning; split <;> simp only [slip_heaters]
@[simp ↓] theorem slipIfRunning_dies (s : State) (p c : Nat) : (s.slipIfRunning p c).dies = s.dies := by unfold State.slipIfRunning; split <;> simp only [slip_dies]
@[simp ↓] theorem slipIfRunning_preBias (s : State) (p c : Nat) : (s.slipIfRunning p c).preBias = s.preBias := by unfold State.slipIfRunning; split <;> simp only [slip_preBias]
@[simp ↓] theorem slipIfRunning_pfc (s : State) (p c : Nat) : (s.slipIfRunning p c).pfc = s.pfc := by unfold State.slipIfRunning; split <;> simp only [slip_pfc]
@[simp ↓] theorem slipIfRunning_routers (s : State) (p c : Nat) : (s.slipIfRunning p c).routers = s.routers := by unfold State.slipIfRunning; split <;> simp only [slip_routers]
@[simp ↓] theorem slipIfRunning_sramFix (s : State) (p c : Nat) : (s.slipIfRunning p c).sramFix = s.sramFix := by unfold State.slipIfRunning; split <;> simp only [slip_sramFix]
@[simp ↓] theorem slipIfRunning_ueTicks (s : State) (p c : Nat) : (s.slipIfRunning p c).ueTicks = s.ueTicks := by unfold State.slipIfRunning; split <;> simp only [slip_ueTicks]
@[simp ↓] theorem slipIfRunning_held (s : State) (p c : Nat) : (s.slipIfRunning p c).held = s.held := by unfold State.slipIfRunning; split <;> simp only [slip_held]
@[simp ↓] theorem slipIfRunning_fuses (s : State) (p c : Nat) : (s.slipIfRunning p c).fuses = s.fuses := by unfold State.slipIfRunning; split <;> simp only [slip_fuses]
@[simp ↓] theorem slipIfRunning_flash0 (s : State) (p c : Nat) : (s.slipIfRunning p c).flash0 = s.flash0 := by unfold State.slipIfRunning; split <;> simp only [slip_flash0]
@[simp ↓] theorem slipIfRunning_flash1 (s : State) (p c : Nat) : (s.slipIfRunning p c).flash1 = s.flash1 := by unfold State.slipIfRunning; split <;> simp only [slip_flash1]
@[simp ↓] theorem slipIfRunning_mgp0 (s : State) (p c : Nat) : (s.slipIfRunning p c).mgp0 = s.mgp0 := by unfold State.slipIfRunning; split <;> simp only [slip_mgp0]
@[simp ↓] theorem slipIfRunning_mgp1 (s : State) (p c : Nat) : (s.slipIfRunning p c).mgp1 = s.mgp1 := by unfold State.slipIfRunning; split <;> simp only [slip_mgp1]
@[simp ↓] theorem slipIfRunning_vault (s : State) (p c : Nat) : (s.slipIfRunning p c).vault = s.vault := by unfold State.slipIfRunning; split <;> simp only [slip_vault]
@[simp ↓] theorem slipIfRunning_i3c0 (s : State) (p c : Nat) : (s.slipIfRunning p c).i3c0 = s.i3c0 := by unfold State.slipIfRunning; split <;> simp only [slip_i3c0]
@[simp ↓] theorem slipIfRunning_i3c1 (s : State) (p c : Nat) : (s.slipIfRunning p c).i3c1 = s.i3c1 := by unfold State.slipIfRunning; split <;> simp only [slip_i3c1]
@[simp ↓] theorem slipIfRunning_rails (s : State) (p c : Nat) : (s.slipIfRunning p c).rails = s.rails := by unfold State.slipIfRunning; split <;> simp only [slip_rails]
@[simp ↓] theorem slipIfRunning_temps (s : State) (p c : Nat) : (s.slipIfRunning p c).temps = s.temps := by unfold State.slipIfRunning; split <;> simp only [slip_temps]
@[simp ↓] theorem slipIfRunning_trip0 (s : State) (p c : Nat) : (s.slipIfRunning p c).trip0 = s.trip0 := by unfold State.slipIfRunning; split <;> simp only [slip_trip0]
@[simp ↓] theorem slipIfRunning_trip1 (s : State) (p c : Nat) : (s.slipIfRunning p c).trip1 = s.trip1 := by unfold State.slipIfRunning; split <;> simp only [slip_trip1]
@[simp ↓] theorem slipIfRunning_day (s : State) (p c : Nat) : (s.slipIfRunning p c).day = s.day := by unfold State.slipIfRunning; split <;> simp only [slip_day]
@[simp ↓] theorem slipIfRunning_modeDue (s : State) (p c : Nat) : (s.slipIfRunning p c).modeDue = s.modeDue := by unfold State.slipIfRunning; split <;> simp only [slip_modeDue]
@[simp ↓] theorem slipIfRunning_powerOver (s : State) (p c : Nat) : (s.slipIfRunning p c).powerOver = s.powerOver := by unfold State.slipIfRunning; split <;> simp only [slip_powerOver]
@[simp ↓] theorem slipIfRunning_out (s : State) (p c : Nat) : (s.slipIfRunning p c).out = s.out := by unfold State.slipIfRunning; split <;> simp only [slip_out]
@[simp ↓] theorem slipIfRunning_free (s : State) (p c : Nat) : (s.slipIfRunning p c).free = s.free := by unfold State.slipIfRunning; split <;> simp only [slip_free]
@[simp ↓] theorem slipIfRunning_pending (s : State) (p c : Nat) : (s.slipIfRunning p c).pending = s.pending := by unfold State.slipIfRunning; split <;> simp only [slip_pending]
@[simp ↓] theorem slipIfRunning_core (s : State) (p c : Nat) (m : Nat) : (s.slipIfRunning p c).core m = s.core m := by simp [State.core]
@[simp ↓] theorem slipIfRunning_gather (s : State) (p c : Nat) (h : Nat) : (s.slipIfRunning p c).gather h = s.gather h := by simp [State.gather]
@[simp ↓] theorem slipIfRunning_side (s : State) (p c : Nat) (b2 x2 : Nat) : (s.slipIfRunning p c).side b2 x2 = s.side b2 x2 := by simp [State.side]
@[simp ↓] theorem slipIfRunning_chan (s : State) (p c : Nat) (c2 : Nat) : (s.slipIfRunning p c).chan c2 = s.chan c2 := by simp [State.chan]
@[simp ↓] theorem slipIfRunning_port (s : State) (p c : Nat) (q2 : Nat) : (s.slipIfRunning p c).port q2 = s.port q2 := by simp [State.port]
@[simp ↓] theorem slipIfRunning_oe (s : State) (p c : Nat) (o2 : Nat) : (s.slipIfRunning p c).oe o2 = s.oe o2 := by simp [State.oe]
@[simp ↓] theorem slipIfRunning_coll (s : State) (p c : Nat) (e2 : Nat) : (s.slipIfRunning p c).coll e2 = s.coll e2 := by simp [State.coll]
@[simp ↓] theorem slipIfRunning_die (s : State) (p c : Nat) (d2 : Nat) : (s.slipIfRunning p c).die d2 = s.die d2 := by simp [State.die]
@[simp ↓] theorem slipIfRunning_mgp (s : State) (p c : Nat) (h2 : Nat) : (s.slipIfRunning p c).mgp h2 = s.mgp h2 := by simp [State.mgp]
@[simp ↓] theorem slipIfRunning_flash (s : State) (p c : Nat) (h2 : Nat) : (s.slipIfRunning p c).flash h2 = s.flash h2 := by simp [State.flash]
@[simp ↓] theorem slipIfRunning_byte (s : State) (p c : Nat) (a2 : Nat) : (s.slipIfRunning p c).byte a2 = s.byte a2 := by simp [State.byte]

/-! ### ageLog -/

@[simp ↓] theorem ageLog_twoPart (s : State) (half type kind unit v0 v1 : Nat) : (s.ageLog half type kind unit v0 v1).twoPart = s.twoPart := by unfold State.ageLog; split <;> rfl
@[simp ↓] theorem ageLog_straps (s : State) (half type kind unit v0 v1 : Nat) : (s.ageLog half type kind unit v0 v1).straps = s.straps := by unfold State.ageLog; split <;> rfl
@[simp ↓] theorem ageLog_regs (s : State) (half type kind unit v0 v1 : Nat) : (s.ageLog half type kind unit v0 v1).regs = s.regs := by unfold State.ageLog; split <;> rfl
@[simp ↓] theorem ageLog_mem (s : State) (half type kind unit v0 v1 : Nat) : (s.ageLog half type kind unit v0 v1).mem = s.mem := by unfold State.ageLog; split <;> rfl
@[simp ↓] theorem ageLog_sram (s : State) (half type kind unit v0 v1 : Nat) : (s.ageLog half type kind unit v0 v1).sram = s.sram := by unfold State.ageLog; split <;> rfl
@[simp ↓] theorem ageLog_hbmSide (s : State) (half type kind unit v0 v1 : Nat) : (s.ageLog half type kind unit v0 v1).hbmSide = s.hbmSide := by unfold State.ageLog; split <;> rfl
@[simp ↓] theorem ageLog_hbmUsed (s : State) (half type kind unit v0 v1 : Nat) : (s.ageLog half type kind unit v0 v1).hbmUsed = s.hbmUsed := by unfold State.ageLog; split <;> rfl
@[simp ↓] theorem ageLog_sides (s : State) (half type kind unit v0 v1 : Nat) : (s.ageLog half type kind unit v0 v1).sides = s.sides := by unfold State.ageLog; split <;> rfl
@[simp ↓] theorem ageLog_cores (s : State) (half type kind unit v0 v1 : Nat) : (s.ageLog half type kind unit v0 v1).cores = s.cores := by unfold State.ageLog; split <;> rfl
@[simp ↓] theorem ageLog_gathers (s : State) (half type kind unit v0 v1 : Nat) : (s.ageLog half type kind unit v0 v1).gathers = s.gathers := by unfold State.ageLog; split <;> rfl
@[simp ↓] theorem ageLog_chans (s : State) (half type kind unit v0 v1 : Nat) : (s.ageLog half type kind unit v0 v1).chans = s.chans := by unfold State.ageLog; split <;> rfl
@[simp ↓] theorem ageLog_ports (s : State) (half type kind unit v0 v1 : Nat) : (s.ageLog half type kind unit v0 v1).ports = s.ports := by unfold State.ageLog; split <;> rfl
@[simp ↓] theorem ageLog_oes (s : State) (half type kind unit v0 v1 : Nat) : (s.ageLog half type kind unit v0 v1).oes = s.oes := by unfold State.ageLog; split <;> rfl
@[simp ↓] theorem ageLog_colls (s : State) (half type kind unit v0 v1 : Nat) : (s.ageLog half type kind unit v0 v1).colls = s.colls := by unfold State.ageLog; split <;> rfl
@[simp ↓] theorem ageLog_rings (s : State) (half type kind unit v0 v1 : Nat) : (s.ageLog half type kind unit v0 v1).rings = s.rings := by unfold State.ageLog; split <;> rfl
@[simp ↓] theorem ageLog_heaters (s : State) (half type kind unit v0 v1 : Nat) : (s.ageLog half type kind unit v0 v1).heaters = s.heaters := by unfold State.ageLog; split <;> rfl
@[simp ↓] theorem ageLog_dies (s : State) (half type kind unit v0 v1 : Nat) : (s.ageLog half type kind unit v0 v1).dies = s.dies := by unfold State.ageLog; split <;> rfl
@[simp ↓] theorem ageLog_preBias (s : State) (half type kind unit v0 v1 : Nat) : (s.ageLog half type kind unit v0 v1).preBias = s.preBias := by unfold State.ageLog; split <;> rfl
@[simp ↓] theorem ageLog_pfc (s : State) (half type kind unit v0 v1 : Nat) : (s.ageLog half type kind unit v0 v1).pfc = s.pfc := by unfold State.ageLog; split <;> rfl
@[simp ↓] theorem ageLog_routers (s : State) (half type kind unit v0 v1 : Nat) : (s.ageLog half type kind unit v0 v1).routers = s.routers := by unfold State.ageLog; split <;> rfl
@[simp ↓] theorem ageLog_sramFix (s : State) (half type kind unit v0 v1 : Nat) : (s.ageLog half type kind unit v0 v1).sramFix = s.sramFix := by unfold State.ageLog; split <;> rfl
@[simp ↓] theorem ageLog_ueTicks (s : State) (half type kind unit v0 v1 : Nat) : (s.ageLog half type kind unit v0 v1).ueTicks = s.ueTicks := by unfold State.ageLog; split <;> rfl
@[simp ↓] theorem ageLog_held (s : State) (half type kind unit v0 v1 : Nat) : (s.ageLog half type kind unit v0 v1).held = s.held := by unfold State.ageLog; split <;> rfl
@[simp ↓] theorem ageLog_fuses (s : State) (half type kind unit v0 v1 : Nat) : (s.ageLog half type kind unit v0 v1).fuses = s.fuses := by unfold State.ageLog; split <;> rfl
@[simp ↓] theorem ageLog_mgp0 (s : State) (half type kind unit v0 v1 : Nat) : (s.ageLog half type kind unit v0 v1).mgp0 = s.mgp0 := by unfold State.ageLog; split <;> rfl
@[simp ↓] theorem ageLog_mgp1 (s : State) (half type kind unit v0 v1 : Nat) : (s.ageLog half type kind unit v0 v1).mgp1 = s.mgp1 := by unfold State.ageLog; split <;> rfl
@[simp ↓] theorem ageLog_vault (s : State) (half type kind unit v0 v1 : Nat) : (s.ageLog half type kind unit v0 v1).vault = s.vault := by unfold State.ageLog; split <;> rfl
@[simp ↓] theorem ageLog_i3c0 (s : State) (half type kind unit v0 v1 : Nat) : (s.ageLog half type kind unit v0 v1).i3c0 = s.i3c0 := by unfold State.ageLog; split <;> rfl
@[simp ↓] theorem ageLog_i3c1 (s : State) (half type kind unit v0 v1 : Nat) : (s.ageLog half type kind unit v0 v1).i3c1 = s.i3c1 := by unfold State.ageLog; split <;> rfl
@[simp ↓] theorem ageLog_rails (s : State) (half type kind unit v0 v1 : Nat) : (s.ageLog half type kind unit v0 v1).rails = s.rails := by unfold State.ageLog; split <;> rfl
@[simp ↓] theorem ageLog_temps (s : State) (half type kind unit v0 v1 : Nat) : (s.ageLog half type kind unit v0 v1).temps = s.temps := by unfold State.ageLog; split <;> rfl
@[simp ↓] theorem ageLog_trip0 (s : State) (half type kind unit v0 v1 : Nat) : (s.ageLog half type kind unit v0 v1).trip0 = s.trip0 := by unfold State.ageLog; split <;> rfl
@[simp ↓] theorem ageLog_trip1 (s : State) (half type kind unit v0 v1 : Nat) : (s.ageLog half type kind unit v0 v1).trip1 = s.trip1 := by unfold State.ageLog; split <;> rfl
@[simp ↓] theorem ageLog_day (s : State) (half type kind unit v0 v1 : Nat) : (s.ageLog half type kind unit v0 v1).day = s.day := by unfold State.ageLog; split <;> rfl
@[simp ↓] theorem ageLog_modeDue (s : State) (half type kind unit v0 v1 : Nat) : (s.ageLog half type kind unit v0 v1).modeDue = s.modeDue := by unfold State.ageLog; split <;> rfl
@[simp ↓] theorem ageLog_powerOver (s : State) (half type kind unit v0 v1 : Nat) : (s.ageLog half type kind unit v0 v1).powerOver = s.powerOver := by unfold State.ageLog; split <;> rfl
@[simp ↓] theorem ageLog_part0 (s : State) (half type kind unit v0 v1 : Nat) : (s.ageLog half type kind unit v0 v1).part0 = s.part0 := by unfold State.ageLog; split <;> rfl
@[simp ↓] theorem ageLog_part1 (s : State) (half type kind unit v0 v1 : Nat) : (s.ageLog half type kind unit v0 v1).part1 = s.part1 := by unfold State.ageLog; split <;> rfl
@[simp ↓] theorem ageLog_out (s : State) (half type kind unit v0 v1 : Nat) : (s.ageLog half type kind unit v0 v1).out = s.out := by unfold State.ageLog; split <;> rfl
@[simp ↓] theorem ageLog_free (s : State) (half type kind unit v0 v1 : Nat) : (s.ageLog half type kind unit v0 v1).free = s.free := by unfold State.ageLog; split <;> rfl
@[simp ↓] theorem ageLog_pending (s : State) (half type kind unit v0 v1 : Nat) : (s.ageLog half type kind unit v0 v1).pending = s.pending := by unfold State.ageLog; split <;> rfl
@[simp ↓] theorem ageLog_part (s : State) (half type kind unit v0 v1 : Nat) (q : Nat) : (s.ageLog half type kind unit v0 v1).part q = s.part q := by simp [State.part]
@[simp ↓] theorem ageLog_core (s : State) (half type kind unit v0 v1 : Nat) (m : Nat) : (s.ageLog half type kind unit v0 v1).core m = s.core m := by simp [State.core]
@[simp ↓] theorem ageLog_gather (s : State) (half type kind unit v0 v1 : Nat) (h : Nat) : (s.ageLog half type kind unit v0 v1).gather h = s.gather h := by simp [State.gather]
@[simp ↓] theorem ageLog_side (s : State) (half type kind unit v0 v1 : Nat) (b2 x2 : Nat) : (s.ageLog half type kind unit v0 v1).side b2 x2 = s.side b2 x2 := by simp [State.side]
@[simp ↓] theorem ageLog_chan (s : State) (half type kind unit v0 v1 : Nat) (c2 : Nat) : (s.ageLog half type kind unit v0 v1).chan c2 = s.chan c2 := by simp [State.chan]
@[simp ↓] theorem ageLog_port (s : State) (half type kind unit v0 v1 : Nat) (q2 : Nat) : (s.ageLog half type kind unit v0 v1).port q2 = s.port q2 := by simp [State.port]
@[simp ↓] theorem ageLog_oe (s : State) (half type kind unit v0 v1 : Nat) (o2 : Nat) : (s.ageLog half type kind unit v0 v1).oe o2 = s.oe o2 := by simp [State.oe]
@[simp ↓] theorem ageLog_coll (s : State) (half type kind unit v0 v1 : Nat) (e2 : Nat) : (s.ageLog half type kind unit v0 v1).coll e2 = s.coll e2 := by simp [State.coll]
@[simp ↓] theorem ageLog_die (s : State) (half type kind unit v0 v1 : Nat) (d2 : Nat) : (s.ageLog half type kind unit v0 v1).die d2 = s.die d2 := by simp [State.die]
@[simp ↓] theorem ageLog_mgp (s : State) (half type kind unit v0 v1 : Nat) (h2 : Nat) : (s.ageLog half type kind unit v0 v1).mgp h2 = s.mgp h2 := by simp [State.mgp]
@[simp ↓] theorem ageLog_reg (s : State) (half type kind unit v0 v1 : Nat) (r2 : Reg) (p2 i2 j2 k2 : Nat) : (s.ageLog half type kind unit v0 v1).reg r2 p2 i2 j2 k2 = s.reg r2 p2 i2 j2 k2 := by simp [State.reg]
@[simp ↓] theorem ageLog_rd (s : State) (half type kind unit v0 v1 : Nat) (f2 : Fld) (p2 i2 j2 k2 : Nat) : (s.ageLog half type kind unit v0 v1).rd f2 p2 i2 j2 k2 = s.rd f2 p2 i2 j2 k2 := by simp [State.rd, State.reg]
@[simp ↓] theorem ageLog_byte (s : State) (half type kind unit v0 v1 : Nat) (a2 : Nat) : (s.ageLog half type kind unit v0 v1).byte a2 = s.byte a2 := by simp [State.byte]

/-! ### updStream -/

@[simp ↓] theorem updStream_twoPart (s : State) (n : Nat) (e : Eng) (f : Stream → Stream) : (s.updStream n e f).twoPart = s.twoPart := (rfl)
@[simp ↓] theorem updStream_straps (s : State) (n : Nat) (e : Eng) (f : Stream → Stream) : (s.updStream n e f).straps = s.straps := (rfl)
@[simp ↓] theorem updStream_regs (s : State) (n : Nat) (e : Eng) (f : Stream → Stream) : (s.updStream n e f).regs = s.regs := (rfl)
@[simp ↓] theorem updStream_mem (s : State) (n : Nat) (e : Eng) (f : Stream → Stream) : (s.updStream n e f).mem = s.mem := (rfl)
@[simp ↓] theorem updStream_sram (s : State) (n : Nat) (e : Eng) (f : Stream → Stream) : (s.updStream n e f).sram = s.sram := (rfl)
@[simp ↓] theorem updStream_hbmSide (s : State) (n : Nat) (e : Eng) (f : Stream → Stream) : (s.updStream n e f).hbmSide = s.hbmSide := (rfl)
@[simp ↓] theorem updStream_hbmUsed (s : State) (n : Nat) (e : Eng) (f : Stream → Stream) : (s.updStream n e f).hbmUsed = s.hbmUsed := (rfl)
@[simp ↓] theorem updStream_sides (s : State) (n : Nat) (e : Eng) (f : Stream → Stream) : (s.updStream n e f).sides = s.sides := (rfl)
@[simp ↓] theorem updStream_gathers (s : State) (n : Nat) (e : Eng) (f : Stream → Stream) : (s.updStream n e f).gathers = s.gathers := (rfl)
@[simp ↓] theorem updStream_chans (s : State) (n : Nat) (e : Eng) (f : Stream → Stream) : (s.updStream n e f).chans = s.chans := (rfl)
@[simp ↓] theorem updStream_ports (s : State) (n : Nat) (e : Eng) (f : Stream → Stream) : (s.updStream n e f).ports = s.ports := (rfl)
@[simp ↓] theorem updStream_oes (s : State) (n : Nat) (e : Eng) (f : Stream → Stream) : (s.updStream n e f).oes = s.oes := (rfl)
@[simp ↓] theorem updStream_colls (s : State) (n : Nat) (e : Eng) (f : Stream → Stream) : (s.updStream n e f).colls = s.colls := (rfl)
@[simp ↓] theorem updStream_rings (s : State) (n : Nat) (e : Eng) (f : Stream → Stream) : (s.updStream n e f).rings = s.rings := (rfl)
@[simp ↓] theorem updStream_heaters (s : State) (n : Nat) (e : Eng) (f : Stream → Stream) : (s.updStream n e f).heaters = s.heaters := (rfl)
@[simp ↓] theorem updStream_dies (s : State) (n : Nat) (e : Eng) (f : Stream → Stream) : (s.updStream n e f).dies = s.dies := (rfl)
@[simp ↓] theorem updStream_preBias (s : State) (n : Nat) (e : Eng) (f : Stream → Stream) : (s.updStream n e f).preBias = s.preBias := (rfl)
@[simp ↓] theorem updStream_pfc (s : State) (n : Nat) (e : Eng) (f : Stream → Stream) : (s.updStream n e f).pfc = s.pfc := (rfl)
@[simp ↓] theorem updStream_routers (s : State) (n : Nat) (e : Eng) (f : Stream → Stream) : (s.updStream n e f).routers = s.routers := (rfl)
@[simp ↓] theorem updStream_sramFix (s : State) (n : Nat) (e : Eng) (f : Stream → Stream) : (s.updStream n e f).sramFix = s.sramFix := (rfl)
@[simp ↓] theorem updStream_ueTicks (s : State) (n : Nat) (e : Eng) (f : Stream → Stream) : (s.updStream n e f).ueTicks = s.ueTicks := (rfl)
@[simp ↓] theorem updStream_held (s : State) (n : Nat) (e : Eng) (f : Stream → Stream) : (s.updStream n e f).held = s.held := (rfl)
@[simp ↓] theorem updStream_fuses (s : State) (n : Nat) (e : Eng) (f : Stream → Stream) : (s.updStream n e f).fuses = s.fuses := (rfl)
@[simp ↓] theorem updStream_flash0 (s : State) (n : Nat) (e : Eng) (f : Stream → Stream) : (s.updStream n e f).flash0 = s.flash0 := (rfl)
@[simp ↓] theorem updStream_flash1 (s : State) (n : Nat) (e : Eng) (f : Stream → Stream) : (s.updStream n e f).flash1 = s.flash1 := (rfl)
@[simp ↓] theorem updStream_mgp0 (s : State) (n : Nat) (e : Eng) (f : Stream → Stream) : (s.updStream n e f).mgp0 = s.mgp0 := (rfl)
@[simp ↓] theorem updStream_mgp1 (s : State) (n : Nat) (e : Eng) (f : Stream → Stream) : (s.updStream n e f).mgp1 = s.mgp1 := (rfl)
@[simp ↓] theorem updStream_vault (s : State) (n : Nat) (e : Eng) (f : Stream → Stream) : (s.updStream n e f).vault = s.vault := (rfl)
@[simp ↓] theorem updStream_i3c0 (s : State) (n : Nat) (e : Eng) (f : Stream → Stream) : (s.updStream n e f).i3c0 = s.i3c0 := (rfl)
@[simp ↓] theorem updStream_i3c1 (s : State) (n : Nat) (e : Eng) (f : Stream → Stream) : (s.updStream n e f).i3c1 = s.i3c1 := (rfl)
@[simp ↓] theorem updStream_rails (s : State) (n : Nat) (e : Eng) (f : Stream → Stream) : (s.updStream n e f).rails = s.rails := (rfl)
@[simp ↓] theorem updStream_temps (s : State) (n : Nat) (e : Eng) (f : Stream → Stream) : (s.updStream n e f).temps = s.temps := (rfl)
@[simp ↓] theorem updStream_trip0 (s : State) (n : Nat) (e : Eng) (f : Stream → Stream) : (s.updStream n e f).trip0 = s.trip0 := (rfl)
@[simp ↓] theorem updStream_trip1 (s : State) (n : Nat) (e : Eng) (f : Stream → Stream) : (s.updStream n e f).trip1 = s.trip1 := (rfl)
@[simp ↓] theorem updStream_day (s : State) (n : Nat) (e : Eng) (f : Stream → Stream) : (s.updStream n e f).day = s.day := (rfl)
@[simp ↓] theorem updStream_modeDue (s : State) (n : Nat) (e : Eng) (f : Stream → Stream) : (s.updStream n e f).modeDue = s.modeDue := (rfl)
@[simp ↓] theorem updStream_powerOver (s : State) (n : Nat) (e : Eng) (f : Stream → Stream) : (s.updStream n e f).powerOver = s.powerOver := (rfl)
@[simp ↓] theorem updStream_part0 (s : State) (n : Nat) (e : Eng) (f : Stream → Stream) : (s.updStream n e f).part0 = s.part0 := (rfl)
@[simp ↓] theorem updStream_part1 (s : State) (n : Nat) (e : Eng) (f : Stream → Stream) : (s.updStream n e f).part1 = s.part1 := (rfl)
@[simp ↓] theorem updStream_out (s : State) (n : Nat) (e : Eng) (f : Stream → Stream) : (s.updStream n e f).out = s.out := (rfl)
@[simp ↓] theorem updStream_free (s : State) (n : Nat) (e : Eng) (f : Stream → Stream) : (s.updStream n e f).free = s.free := (rfl)
@[simp ↓] theorem updStream_pending (s : State) (n : Nat) (e : Eng) (f : Stream → Stream) : (s.updStream n e f).pending = s.pending := (rfl)
@[simp ↓] theorem updStream_part (s : State) (n : Nat) (e : Eng) (f : Stream → Stream) (q : Nat) : (s.updStream n e f).part q = s.part q := (rfl)
@[simp ↓] theorem updStream_gather (s : State) (n : Nat) (e : Eng) (f : Stream → Stream) (h : Nat) : (s.updStream n e f).gather h = s.gather h := (rfl)
@[simp ↓] theorem updStream_side (s : State) (n : Nat) (e : Eng) (f : Stream → Stream) (b2 x2 : Nat) : (s.updStream n e f).side b2 x2 = s.side b2 x2 := (rfl)
@[simp ↓] theorem updStream_chan (s : State) (n : Nat) (e : Eng) (f : Stream → Stream) (c2 : Nat) : (s.updStream n e f).chan c2 = s.chan c2 := (rfl)
@[simp ↓] theorem updStream_port (s : State) (n : Nat) (e : Eng) (f : Stream → Stream) (q2 : Nat) : (s.updStream n e f).port q2 = s.port q2 := (rfl)
@[simp ↓] theorem updStream_oe (s : State) (n : Nat) (e : Eng) (f : Stream → Stream) (o2 : Nat) : (s.updStream n e f).oe o2 = s.oe o2 := (rfl)
@[simp ↓] theorem updStream_coll (s : State) (n : Nat) (e : Eng) (f : Stream → Stream) (e2 : Nat) : (s.updStream n e f).coll e2 = s.coll e2 := (rfl)
@[simp ↓] theorem updStream_die (s : State) (n : Nat) (e : Eng) (f : Stream → Stream) (d2 : Nat) : (s.updStream n e f).die d2 = s.die d2 := (rfl)
@[simp ↓] theorem updStream_mgp (s : State) (n : Nat) (e : Eng) (f : Stream → Stream) (h2 : Nat) : (s.updStream n e f).mgp h2 = s.mgp h2 := (rfl)
@[simp ↓] theorem updStream_flash (s : State) (n : Nat) (e : Eng) (f : Stream → Stream) (h2 : Nat) : (s.updStream n e f).flash h2 = s.flash h2 := (rfl)
@[simp ↓] theorem updStream_reg (s : State) (n : Nat) (e : Eng) (f : Stream → Stream) (r2 : Reg) (p2 i2 j2 k2 : Nat) : (s.updStream n e f).reg r2 p2 i2 j2 k2 = s.reg r2 p2 i2 j2 k2 := (rfl)
@[simp ↓] theorem updStream_rd (s : State) (n : Nat) (e : Eng) (f : Stream → Stream) (f2 : Fld) (p2 i2 j2 k2 : Nat) : (s.updStream n e f).rd f2 p2 i2 j2 k2 = s.rd f2 p2 i2 j2 k2 := (rfl)
@[simp ↓] theorem updStream_byte (s : State) (n : Nat) (e : Eng) (f : Stream → Stream) (a2 : Nat) : (s.updStream n e f).byte a2 = s.byte a2 := (rfl)

/-! ### putRaw -/

@[simp ↓] theorem putRaw_twoPart (s : State) (a : Nat) (g : Gran) : (s.putRaw a g).twoPart = s.twoPart := (rfl)
@[simp ↓] theorem putRaw_straps (s : State) (a : Nat) (g : Gran) : (s.putRaw a g).straps = s.straps := (rfl)
@[simp ↓] theorem putRaw_regs (s : State) (a : Nat) (g : Gran) : (s.putRaw a g).regs = s.regs := (rfl)
@[simp ↓] theorem putRaw_sram (s : State) (a : Nat) (g : Gran) : (s.putRaw a g).sram = s.sram := (rfl)
@[simp ↓] theorem putRaw_hbmSide (s : State) (a : Nat) (g : Gran) : (s.putRaw a g).hbmSide = s.hbmSide := (rfl)
@[simp ↓] theorem putRaw_hbmUsed (s : State) (a : Nat) (g : Gran) : (s.putRaw a g).hbmUsed = s.hbmUsed := (rfl)
@[simp ↓] theorem putRaw_sides (s : State) (a : Nat) (g : Gran) : (s.putRaw a g).sides = s.sides := (rfl)
@[simp ↓] theorem putRaw_cores (s : State) (a : Nat) (g : Gran) : (s.putRaw a g).cores = s.cores := (rfl)
@[simp ↓] theorem putRaw_gathers (s : State) (a : Nat) (g : Gran) : (s.putRaw a g).gathers = s.gathers := (rfl)
@[simp ↓] theorem putRaw_chans (s : State) (a : Nat) (g : Gran) : (s.putRaw a g).chans = s.chans := (rfl)
@[simp ↓] theorem putRaw_ports (s : State) (a : Nat) (g : Gran) : (s.putRaw a g).ports = s.ports := (rfl)
@[simp ↓] theorem putRaw_oes (s : State) (a : Nat) (g : Gran) : (s.putRaw a g).oes = s.oes := (rfl)
@[simp ↓] theorem putRaw_colls (s : State) (a : Nat) (g : Gran) : (s.putRaw a g).colls = s.colls := (rfl)
@[simp ↓] theorem putRaw_rings (s : State) (a : Nat) (g : Gran) : (s.putRaw a g).rings = s.rings := (rfl)
@[simp ↓] theorem putRaw_heaters (s : State) (a : Nat) (g : Gran) : (s.putRaw a g).heaters = s.heaters := (rfl)
@[simp ↓] theorem putRaw_dies (s : State) (a : Nat) (g : Gran) : (s.putRaw a g).dies = s.dies := (rfl)
@[simp ↓] theorem putRaw_preBias (s : State) (a : Nat) (g : Gran) : (s.putRaw a g).preBias = s.preBias := (rfl)
@[simp ↓] theorem putRaw_pfc (s : State) (a : Nat) (g : Gran) : (s.putRaw a g).pfc = s.pfc := (rfl)
@[simp ↓] theorem putRaw_routers (s : State) (a : Nat) (g : Gran) : (s.putRaw a g).routers = s.routers := (rfl)
@[simp ↓] theorem putRaw_sramFix (s : State) (a : Nat) (g : Gran) : (s.putRaw a g).sramFix = s.sramFix := (rfl)
@[simp ↓] theorem putRaw_ueTicks (s : State) (a : Nat) (g : Gran) : (s.putRaw a g).ueTicks = s.ueTicks := (rfl)
@[simp ↓] theorem putRaw_held (s : State) (a : Nat) (g : Gran) : (s.putRaw a g).held = s.held := (rfl)
@[simp ↓] theorem putRaw_fuses (s : State) (a : Nat) (g : Gran) : (s.putRaw a g).fuses = s.fuses := (rfl)
@[simp ↓] theorem putRaw_flash0 (s : State) (a : Nat) (g : Gran) : (s.putRaw a g).flash0 = s.flash0 := (rfl)
@[simp ↓] theorem putRaw_flash1 (s : State) (a : Nat) (g : Gran) : (s.putRaw a g).flash1 = s.flash1 := (rfl)
@[simp ↓] theorem putRaw_mgp0 (s : State) (a : Nat) (g : Gran) : (s.putRaw a g).mgp0 = s.mgp0 := (rfl)
@[simp ↓] theorem putRaw_mgp1 (s : State) (a : Nat) (g : Gran) : (s.putRaw a g).mgp1 = s.mgp1 := (rfl)
@[simp ↓] theorem putRaw_vault (s : State) (a : Nat) (g : Gran) : (s.putRaw a g).vault = s.vault := (rfl)
@[simp ↓] theorem putRaw_i3c0 (s : State) (a : Nat) (g : Gran) : (s.putRaw a g).i3c0 = s.i3c0 := (rfl)
@[simp ↓] theorem putRaw_i3c1 (s : State) (a : Nat) (g : Gran) : (s.putRaw a g).i3c1 = s.i3c1 := (rfl)
@[simp ↓] theorem putRaw_rails (s : State) (a : Nat) (g : Gran) : (s.putRaw a g).rails = s.rails := (rfl)
@[simp ↓] theorem putRaw_temps (s : State) (a : Nat) (g : Gran) : (s.putRaw a g).temps = s.temps := (rfl)
@[simp ↓] theorem putRaw_trip0 (s : State) (a : Nat) (g : Gran) : (s.putRaw a g).trip0 = s.trip0 := (rfl)
@[simp ↓] theorem putRaw_trip1 (s : State) (a : Nat) (g : Gran) : (s.putRaw a g).trip1 = s.trip1 := (rfl)
@[simp ↓] theorem putRaw_day (s : State) (a : Nat) (g : Gran) : (s.putRaw a g).day = s.day := (rfl)
@[simp ↓] theorem putRaw_modeDue (s : State) (a : Nat) (g : Gran) : (s.putRaw a g).modeDue = s.modeDue := (rfl)
@[simp ↓] theorem putRaw_powerOver (s : State) (a : Nat) (g : Gran) : (s.putRaw a g).powerOver = s.powerOver := (rfl)
@[simp ↓] theorem putRaw_part0 (s : State) (a : Nat) (g : Gran) : (s.putRaw a g).part0 = s.part0 := (rfl)
@[simp ↓] theorem putRaw_part1 (s : State) (a : Nat) (g : Gran) : (s.putRaw a g).part1 = s.part1 := (rfl)
@[simp ↓] theorem putRaw_out (s : State) (a : Nat) (g : Gran) : (s.putRaw a g).out = s.out := (rfl)
@[simp ↓] theorem putRaw_free (s : State) (a : Nat) (g : Gran) : (s.putRaw a g).free = s.free := (rfl)
@[simp ↓] theorem putRaw_pending (s : State) (a : Nat) (g : Gran) : (s.putRaw a g).pending = s.pending := (rfl)
@[simp ↓] theorem putRaw_part (s : State) (a : Nat) (g : Gran) (q : Nat) : (s.putRaw a g).part q = s.part q := (rfl)
@[simp ↓] theorem putRaw_core (s : State) (a : Nat) (g : Gran) (m : Nat) : (s.putRaw a g).core m = s.core m := (rfl)
@[simp ↓] theorem putRaw_gather (s : State) (a : Nat) (g : Gran) (h : Nat) : (s.putRaw a g).gather h = s.gather h := (rfl)
@[simp ↓] theorem putRaw_side (s : State) (a : Nat) (g : Gran) (b2 x2 : Nat) : (s.putRaw a g).side b2 x2 = s.side b2 x2 := (rfl)
@[simp ↓] theorem putRaw_chan (s : State) (a : Nat) (g : Gran) (c2 : Nat) : (s.putRaw a g).chan c2 = s.chan c2 := (rfl)
@[simp ↓] theorem putRaw_port (s : State) (a : Nat) (g : Gran) (q2 : Nat) : (s.putRaw a g).port q2 = s.port q2 := (rfl)
@[simp ↓] theorem putRaw_oe (s : State) (a : Nat) (g : Gran) (o2 : Nat) : (s.putRaw a g).oe o2 = s.oe o2 := (rfl)
@[simp ↓] theorem putRaw_coll (s : State) (a : Nat) (g : Gran) (e2 : Nat) : (s.putRaw a g).coll e2 = s.coll e2 := (rfl)
@[simp ↓] theorem putRaw_die (s : State) (a : Nat) (g : Gran) (d2 : Nat) : (s.putRaw a g).die d2 = s.die d2 := (rfl)
@[simp ↓] theorem putRaw_mgp (s : State) (a : Nat) (g : Gran) (h2 : Nat) : (s.putRaw a g).mgp h2 = s.mgp h2 := (rfl)
@[simp ↓] theorem putRaw_flash (s : State) (a : Nat) (g : Gran) (h2 : Nat) : (s.putRaw a g).flash h2 = s.flash h2 := (rfl)
@[simp ↓] theorem putRaw_reg (s : State) (a : Nat) (g : Gran) (r2 : Reg) (p2 i2 j2 k2 : Nat) : (s.putRaw a g).reg r2 p2 i2 j2 k2 = s.reg r2 p2 i2 j2 k2 := (rfl)
@[simp ↓] theorem putRaw_rd (s : State) (a : Nat) (g : Gran) (f2 : Fld) (p2 i2 j2 k2 : Nat) : (s.putRaw a g).rd f2 p2 i2 j2 k2 = s.rd f2 p2 i2 j2 k2 := (rfl)

/-! ### setSramSide -/

@[simp ↓] theorem setSramSide_twoPart (s : State) (a : Nat) (d : SramSide) : (s.setSramSide a d).twoPart = s.twoPart := (rfl)
@[simp ↓] theorem setSramSide_straps (s : State) (a : Nat) (d : SramSide) : (s.setSramSide a d).straps = s.straps := (rfl)
@[simp ↓] theorem setSramSide_regs (s : State) (a : Nat) (d : SramSide) : (s.setSramSide a d).regs = s.regs := (rfl)
@[simp ↓] theorem setSramSide_mem (s : State) (a : Nat) (d : SramSide) : (s.setSramSide a d).mem = s.mem := (rfl)
@[simp ↓] theorem setSramSide_hbmSide (s : State) (a : Nat) (d : SramSide) : (s.setSramSide a d).hbmSide = s.hbmSide := (rfl)
@[simp ↓] theorem setSramSide_hbmUsed (s : State) (a : Nat) (d : SramSide) : (s.setSramSide a d).hbmUsed = s.hbmUsed := (rfl)
@[simp ↓] theorem setSramSide_sides (s : State) (a : Nat) (d : SramSide) : (s.setSramSide a d).sides = s.sides := (rfl)
@[simp ↓] theorem setSramSide_cores (s : State) (a : Nat) (d : SramSide) : (s.setSramSide a d).cores = s.cores := (rfl)
@[simp ↓] theorem setSramSide_gathers (s : State) (a : Nat) (d : SramSide) : (s.setSramSide a d).gathers = s.gathers := (rfl)
@[simp ↓] theorem setSramSide_chans (s : State) (a : Nat) (d : SramSide) : (s.setSramSide a d).chans = s.chans := (rfl)
@[simp ↓] theorem setSramSide_ports (s : State) (a : Nat) (d : SramSide) : (s.setSramSide a d).ports = s.ports := (rfl)
@[simp ↓] theorem setSramSide_oes (s : State) (a : Nat) (d : SramSide) : (s.setSramSide a d).oes = s.oes := (rfl)
@[simp ↓] theorem setSramSide_colls (s : State) (a : Nat) (d : SramSide) : (s.setSramSide a d).colls = s.colls := (rfl)
@[simp ↓] theorem setSramSide_rings (s : State) (a : Nat) (d : SramSide) : (s.setSramSide a d).rings = s.rings := (rfl)
@[simp ↓] theorem setSramSide_heaters (s : State) (a : Nat) (d : SramSide) : (s.setSramSide a d).heaters = s.heaters := (rfl)
@[simp ↓] theorem setSramSide_dies (s : State) (a : Nat) (d : SramSide) : (s.setSramSide a d).dies = s.dies := (rfl)
@[simp ↓] theorem setSramSide_preBias (s : State) (a : Nat) (d : SramSide) : (s.setSramSide a d).preBias = s.preBias := (rfl)
@[simp ↓] theorem setSramSide_pfc (s : State) (a : Nat) (d : SramSide) : (s.setSramSide a d).pfc = s.pfc := (rfl)
@[simp ↓] theorem setSramSide_routers (s : State) (a : Nat) (d : SramSide) : (s.setSramSide a d).routers = s.routers := (rfl)
@[simp ↓] theorem setSramSide_sramFix (s : State) (a : Nat) (d : SramSide) : (s.setSramSide a d).sramFix = s.sramFix := (rfl)
@[simp ↓] theorem setSramSide_ueTicks (s : State) (a : Nat) (d : SramSide) : (s.setSramSide a d).ueTicks = s.ueTicks := (rfl)
@[simp ↓] theorem setSramSide_held (s : State) (a : Nat) (d : SramSide) : (s.setSramSide a d).held = s.held := (rfl)
@[simp ↓] theorem setSramSide_fuses (s : State) (a : Nat) (d : SramSide) : (s.setSramSide a d).fuses = s.fuses := (rfl)
@[simp ↓] theorem setSramSide_flash0 (s : State) (a : Nat) (d : SramSide) : (s.setSramSide a d).flash0 = s.flash0 := (rfl)
@[simp ↓] theorem setSramSide_flash1 (s : State) (a : Nat) (d : SramSide) : (s.setSramSide a d).flash1 = s.flash1 := (rfl)
@[simp ↓] theorem setSramSide_mgp0 (s : State) (a : Nat) (d : SramSide) : (s.setSramSide a d).mgp0 = s.mgp0 := (rfl)
@[simp ↓] theorem setSramSide_mgp1 (s : State) (a : Nat) (d : SramSide) : (s.setSramSide a d).mgp1 = s.mgp1 := (rfl)
@[simp ↓] theorem setSramSide_vault (s : State) (a : Nat) (d : SramSide) : (s.setSramSide a d).vault = s.vault := (rfl)
@[simp ↓] theorem setSramSide_i3c0 (s : State) (a : Nat) (d : SramSide) : (s.setSramSide a d).i3c0 = s.i3c0 := (rfl)
@[simp ↓] theorem setSramSide_i3c1 (s : State) (a : Nat) (d : SramSide) : (s.setSramSide a d).i3c1 = s.i3c1 := (rfl)
@[simp ↓] theorem setSramSide_rails (s : State) (a : Nat) (d : SramSide) : (s.setSramSide a d).rails = s.rails := (rfl)
@[simp ↓] theorem setSramSide_temps (s : State) (a : Nat) (d : SramSide) : (s.setSramSide a d).temps = s.temps := (rfl)
@[simp ↓] theorem setSramSide_trip0 (s : State) (a : Nat) (d : SramSide) : (s.setSramSide a d).trip0 = s.trip0 := (rfl)
@[simp ↓] theorem setSramSide_trip1 (s : State) (a : Nat) (d : SramSide) : (s.setSramSide a d).trip1 = s.trip1 := (rfl)
@[simp ↓] theorem setSramSide_day (s : State) (a : Nat) (d : SramSide) : (s.setSramSide a d).day = s.day := (rfl)
@[simp ↓] theorem setSramSide_modeDue (s : State) (a : Nat) (d : SramSide) : (s.setSramSide a d).modeDue = s.modeDue := (rfl)
@[simp ↓] theorem setSramSide_powerOver (s : State) (a : Nat) (d : SramSide) : (s.setSramSide a d).powerOver = s.powerOver := (rfl)
@[simp ↓] theorem setSramSide_part0 (s : State) (a : Nat) (d : SramSide) : (s.setSramSide a d).part0 = s.part0 := (rfl)
@[simp ↓] theorem setSramSide_part1 (s : State) (a : Nat) (d : SramSide) : (s.setSramSide a d).part1 = s.part1 := (rfl)
@[simp ↓] theorem setSramSide_out (s : State) (a : Nat) (d : SramSide) : (s.setSramSide a d).out = s.out := (rfl)
@[simp ↓] theorem setSramSide_free (s : State) (a : Nat) (d : SramSide) : (s.setSramSide a d).free = s.free := (rfl)
@[simp ↓] theorem setSramSide_pending (s : State) (a : Nat) (d : SramSide) : (s.setSramSide a d).pending = s.pending := (rfl)
@[simp ↓] theorem setSramSide_part (s : State) (a : Nat) (d : SramSide) (q : Nat) : (s.setSramSide a d).part q = s.part q := (rfl)
@[simp ↓] theorem setSramSide_core (s : State) (a : Nat) (d : SramSide) (m : Nat) : (s.setSramSide a d).core m = s.core m := (rfl)
@[simp ↓] theorem setSramSide_gather (s : State) (a : Nat) (d : SramSide) (h : Nat) : (s.setSramSide a d).gather h = s.gather h := (rfl)
@[simp ↓] theorem setSramSide_side (s : State) (a : Nat) (d : SramSide) (b2 x2 : Nat) : (s.setSramSide a d).side b2 x2 = s.side b2 x2 := (rfl)
@[simp ↓] theorem setSramSide_chan (s : State) (a : Nat) (d : SramSide) (c2 : Nat) : (s.setSramSide a d).chan c2 = s.chan c2 := (rfl)
@[simp ↓] theorem setSramSide_port (s : State) (a : Nat) (d : SramSide) (q2 : Nat) : (s.setSramSide a d).port q2 = s.port q2 := (rfl)
@[simp ↓] theorem setSramSide_oe (s : State) (a : Nat) (d : SramSide) (o2 : Nat) : (s.setSramSide a d).oe o2 = s.oe o2 := (rfl)
@[simp ↓] theorem setSramSide_coll (s : State) (a : Nat) (d : SramSide) (e2 : Nat) : (s.setSramSide a d).coll e2 = s.coll e2 := (rfl)
@[simp ↓] theorem setSramSide_die (s : State) (a : Nat) (d : SramSide) (d2 : Nat) : (s.setSramSide a d).die d2 = s.die d2 := (rfl)
@[simp ↓] theorem setSramSide_mgp (s : State) (a : Nat) (d : SramSide) (h2 : Nat) : (s.setSramSide a d).mgp h2 = s.mgp h2 := (rfl)
@[simp ↓] theorem setSramSide_flash (s : State) (a : Nat) (d : SramSide) (h2 : Nat) : (s.setSramSide a d).flash h2 = s.flash h2 := (rfl)
@[simp ↓] theorem setSramSide_reg (s : State) (a : Nat) (d : SramSide) (r2 : Reg) (p2 i2 j2 k2 : Nat) : (s.setSramSide a d).reg r2 p2 i2 j2 k2 = s.reg r2 p2 i2 j2 k2 := (rfl)
@[simp ↓] theorem setSramSide_rd (s : State) (a : Nat) (d : SramSide) (f2 : Fld) (p2 i2 j2 k2 : Nat) : (s.setSramSide a d).rd f2 p2 i2 j2 k2 = s.rd f2 p2 i2 j2 k2 := (rfl)
@[simp ↓] theorem setSramSide_byte (s : State) (a : Nat) (d : SramSide) (a2 : Nat) : (s.setSramSide a d).byte a2 = s.byte a2 := (rfl)

/-! ### sramWrite -/

@[simp ↓] theorem sramWrite_twoPart (s : State) (a : Nat) (g : Gran) (c : BitVec 16) : (s.sramWrite a g c).twoPart = s.twoPart := (rfl)
@[simp ↓] theorem sramWrite_straps (s : State) (a : Nat) (g : Gran) (c : BitVec 16) : (s.sramWrite a g c).straps = s.straps := (rfl)
@[simp ↓] theorem sramWrite_regs (s : State) (a : Nat) (g : Gran) (c : BitVec 16) : (s.sramWrite a g c).regs = s.regs := (rfl)
@[simp ↓] theorem sramWrite_hbmSide (s : State) (a : Nat) (g : Gran) (c : BitVec 16) : (s.sramWrite a g c).hbmSide = s.hbmSide := (rfl)
@[simp ↓] theorem sramWrite_hbmUsed (s : State) (a : Nat) (g : Gran) (c : BitVec 16) : (s.sramWrite a g c).hbmUsed = s.hbmUsed := (rfl)
@[simp ↓] theorem sramWrite_sides (s : State) (a : Nat) (g : Gran) (c : BitVec 16) : (s.sramWrite a g c).sides = s.sides := (rfl)
@[simp ↓] theorem sramWrite_cores (s : State) (a : Nat) (g : Gran) (c : BitVec 16) : (s.sramWrite a g c).cores = s.cores := (rfl)
@[simp ↓] theorem sramWrite_gathers (s : State) (a : Nat) (g : Gran) (c : BitVec 16) : (s.sramWrite a g c).gathers = s.gathers := (rfl)
@[simp ↓] theorem sramWrite_chans (s : State) (a : Nat) (g : Gran) (c : BitVec 16) : (s.sramWrite a g c).chans = s.chans := (rfl)
@[simp ↓] theorem sramWrite_ports (s : State) (a : Nat) (g : Gran) (c : BitVec 16) : (s.sramWrite a g c).ports = s.ports := (rfl)
@[simp ↓] theorem sramWrite_oes (s : State) (a : Nat) (g : Gran) (c : BitVec 16) : (s.sramWrite a g c).oes = s.oes := (rfl)
@[simp ↓] theorem sramWrite_colls (s : State) (a : Nat) (g : Gran) (c : BitVec 16) : (s.sramWrite a g c).colls = s.colls := (rfl)
@[simp ↓] theorem sramWrite_rings (s : State) (a : Nat) (g : Gran) (c : BitVec 16) : (s.sramWrite a g c).rings = s.rings := (rfl)
@[simp ↓] theorem sramWrite_heaters (s : State) (a : Nat) (g : Gran) (c : BitVec 16) : (s.sramWrite a g c).heaters = s.heaters := (rfl)
@[simp ↓] theorem sramWrite_dies (s : State) (a : Nat) (g : Gran) (c : BitVec 16) : (s.sramWrite a g c).dies = s.dies := (rfl)
@[simp ↓] theorem sramWrite_preBias (s : State) (a : Nat) (g : Gran) (c : BitVec 16) : (s.sramWrite a g c).preBias = s.preBias := (rfl)
@[simp ↓] theorem sramWrite_pfc (s : State) (a : Nat) (g : Gran) (c : BitVec 16) : (s.sramWrite a g c).pfc = s.pfc := (rfl)
@[simp ↓] theorem sramWrite_routers (s : State) (a : Nat) (g : Gran) (c : BitVec 16) : (s.sramWrite a g c).routers = s.routers := (rfl)
@[simp ↓] theorem sramWrite_sramFix (s : State) (a : Nat) (g : Gran) (c : BitVec 16) : (s.sramWrite a g c).sramFix = s.sramFix := (rfl)
@[simp ↓] theorem sramWrite_ueTicks (s : State) (a : Nat) (g : Gran) (c : BitVec 16) : (s.sramWrite a g c).ueTicks = s.ueTicks := (rfl)
@[simp ↓] theorem sramWrite_held (s : State) (a : Nat) (g : Gran) (c : BitVec 16) : (s.sramWrite a g c).held = s.held := (rfl)
@[simp ↓] theorem sramWrite_fuses (s : State) (a : Nat) (g : Gran) (c : BitVec 16) : (s.sramWrite a g c).fuses = s.fuses := (rfl)
@[simp ↓] theorem sramWrite_flash0 (s : State) (a : Nat) (g : Gran) (c : BitVec 16) : (s.sramWrite a g c).flash0 = s.flash0 := (rfl)
@[simp ↓] theorem sramWrite_flash1 (s : State) (a : Nat) (g : Gran) (c : BitVec 16) : (s.sramWrite a g c).flash1 = s.flash1 := (rfl)
@[simp ↓] theorem sramWrite_mgp0 (s : State) (a : Nat) (g : Gran) (c : BitVec 16) : (s.sramWrite a g c).mgp0 = s.mgp0 := (rfl)
@[simp ↓] theorem sramWrite_mgp1 (s : State) (a : Nat) (g : Gran) (c : BitVec 16) : (s.sramWrite a g c).mgp1 = s.mgp1 := (rfl)
@[simp ↓] theorem sramWrite_vault (s : State) (a : Nat) (g : Gran) (c : BitVec 16) : (s.sramWrite a g c).vault = s.vault := (rfl)
@[simp ↓] theorem sramWrite_i3c0 (s : State) (a : Nat) (g : Gran) (c : BitVec 16) : (s.sramWrite a g c).i3c0 = s.i3c0 := (rfl)
@[simp ↓] theorem sramWrite_i3c1 (s : State) (a : Nat) (g : Gran) (c : BitVec 16) : (s.sramWrite a g c).i3c1 = s.i3c1 := (rfl)
@[simp ↓] theorem sramWrite_rails (s : State) (a : Nat) (g : Gran) (c : BitVec 16) : (s.sramWrite a g c).rails = s.rails := (rfl)
@[simp ↓] theorem sramWrite_temps (s : State) (a : Nat) (g : Gran) (c : BitVec 16) : (s.sramWrite a g c).temps = s.temps := (rfl)
@[simp ↓] theorem sramWrite_trip0 (s : State) (a : Nat) (g : Gran) (c : BitVec 16) : (s.sramWrite a g c).trip0 = s.trip0 := (rfl)
@[simp ↓] theorem sramWrite_trip1 (s : State) (a : Nat) (g : Gran) (c : BitVec 16) : (s.sramWrite a g c).trip1 = s.trip1 := (rfl)
@[simp ↓] theorem sramWrite_day (s : State) (a : Nat) (g : Gran) (c : BitVec 16) : (s.sramWrite a g c).day = s.day := (rfl)
@[simp ↓] theorem sramWrite_modeDue (s : State) (a : Nat) (g : Gran) (c : BitVec 16) : (s.sramWrite a g c).modeDue = s.modeDue := (rfl)
@[simp ↓] theorem sramWrite_powerOver (s : State) (a : Nat) (g : Gran) (c : BitVec 16) : (s.sramWrite a g c).powerOver = s.powerOver := (rfl)
@[simp ↓] theorem sramWrite_part0 (s : State) (a : Nat) (g : Gran) (c : BitVec 16) : (s.sramWrite a g c).part0 = s.part0 := (rfl)
@[simp ↓] theorem sramWrite_part1 (s : State) (a : Nat) (g : Gran) (c : BitVec 16) : (s.sramWrite a g c).part1 = s.part1 := (rfl)
@[simp ↓] theorem sramWrite_out (s : State) (a : Nat) (g : Gran) (c : BitVec 16) : (s.sramWrite a g c).out = s.out := (rfl)
@[simp ↓] theorem sramWrite_free (s : State) (a : Nat) (g : Gran) (c : BitVec 16) : (s.sramWrite a g c).free = s.free := (rfl)
@[simp ↓] theorem sramWrite_pending (s : State) (a : Nat) (g : Gran) (c : BitVec 16) : (s.sramWrite a g c).pending = s.pending := (rfl)
@[simp ↓] theorem sramWrite_part (s : State) (a : Nat) (g : Gran) (c : BitVec 16) (q : Nat) : (s.sramWrite a g c).part q = s.part q := (rfl)
@[simp ↓] theorem sramWrite_core (s : State) (a : Nat) (g : Gran) (c : BitVec 16) (m : Nat) : (s.sramWrite a g c).core m = s.core m := (rfl)
@[simp ↓] theorem sramWrite_gather (s : State) (a : Nat) (g : Gran) (c : BitVec 16) (h : Nat) : (s.sramWrite a g c).gather h = s.gather h := (rfl)
@[simp ↓] theorem sramWrite_side (s : State) (a : Nat) (g : Gran) (c : BitVec 16) (b2 x2 : Nat) : (s.sramWrite a g c).side b2 x2 = s.side b2 x2 := (rfl)
@[simp ↓] theorem sramWrite_chan (s : State) (a : Nat) (g : Gran) (c : BitVec 16) (c2 : Nat) : (s.sramWrite a g c).chan c2 = s.chan c2 := (rfl)
@[simp ↓] theorem sramWrite_port (s : State) (a : Nat) (g : Gran) (c : BitVec 16) (q2 : Nat) : (s.sramWrite a g c).port q2 = s.port q2 := (rfl)
@[simp ↓] theorem sramWrite_oe (s : State) (a : Nat) (g : Gran) (c : BitVec 16) (o2 : Nat) : (s.sramWrite a g c).oe o2 = s.oe o2 := (rfl)
@[simp ↓] theorem sramWrite_coll (s : State) (a : Nat) (g : Gran) (c : BitVec 16) (e2 : Nat) : (s.sramWrite a g c).coll e2 = s.coll e2 := (rfl)
@[simp ↓] theorem sramWrite_die (s : State) (a : Nat) (g : Gran) (c : BitVec 16) (d2 : Nat) : (s.sramWrite a g c).die d2 = s.die d2 := (rfl)
@[simp ↓] theorem sramWrite_mgp (s : State) (a : Nat) (g : Gran) (c : BitVec 16) (h2 : Nat) : (s.sramWrite a g c).mgp h2 = s.mgp h2 := (rfl)
@[simp ↓] theorem sramWrite_flash (s : State) (a : Nat) (g : Gran) (c : BitVec 16) (h2 : Nat) : (s.sramWrite a g c).flash h2 = s.flash h2 := (rfl)
@[simp ↓] theorem sramWrite_reg (s : State) (a : Nat) (g : Gran) (c : BitVec 16) (r2 : Reg) (p2 i2 j2 k2 : Nat) : (s.sramWrite a g c).reg r2 p2 i2 j2 k2 = s.reg r2 p2 i2 j2 k2 := (rfl)
@[simp ↓] theorem sramWrite_rd (s : State) (a : Nat) (g : Gran) (c : BitVec 16) (f2 : Fld) (p2 i2 j2 k2 : Nat) : (s.sramWrite a g c).rd f2 p2 i2 j2 k2 = s.rd f2 p2 i2 j2 k2 := (rfl)

/-! ### setHbmSide -/

@[simp ↓] theorem setHbmSide_twoPart (s : State) (ph : Nat) (v : BitVec 128) : (s.setHbmSide ph v).twoPart = s.twoPart := (rfl)
@[simp ↓] theorem setHbmSide_straps (s : State) (ph : Nat) (v : BitVec 128) : (s.setHbmSide ph v).straps = s.straps := (rfl)
@[simp ↓] theorem setHbmSide_regs (s : State) (ph : Nat) (v : BitVec 128) : (s.setHbmSide ph v).regs = s.regs := (rfl)
@[simp ↓] theorem setHbmSide_mem (s : State) (ph : Nat) (v : BitVec 128) : (s.setHbmSide ph v).mem = s.mem := (rfl)
@[simp ↓] theorem setHbmSide_sram (s : State) (ph : Nat) (v : BitVec 128) : (s.setHbmSide ph v).sram = s.sram := (rfl)
@[simp ↓] theorem setHbmSide_hbmUsed (s : State) (ph : Nat) (v : BitVec 128) : (s.setHbmSide ph v).hbmUsed = s.hbmUsed := (rfl)
@[simp ↓] theorem setHbmSide_sides (s : State) (ph : Nat) (v : BitVec 128) : (s.setHbmSide ph v).sides = s.sides := (rfl)
@[simp ↓] theorem setHbmSide_cores (s : State) (ph : Nat) (v : BitVec 128) : (s.setHbmSide ph v).cores = s.cores := (rfl)
@[simp ↓] theorem setHbmSide_gathers (s : State) (ph : Nat) (v : BitVec 128) : (s.setHbmSide ph v).gathers = s.gathers := (rfl)
@[simp ↓] theorem setHbmSide_chans (s : State) (ph : Nat) (v : BitVec 128) : (s.setHbmSide ph v).chans = s.chans := (rfl)
@[simp ↓] theorem setHbmSide_ports (s : State) (ph : Nat) (v : BitVec 128) : (s.setHbmSide ph v).ports = s.ports := (rfl)
@[simp ↓] theorem setHbmSide_oes (s : State) (ph : Nat) (v : BitVec 128) : (s.setHbmSide ph v).oes = s.oes := (rfl)
@[simp ↓] theorem setHbmSide_colls (s : State) (ph : Nat) (v : BitVec 128) : (s.setHbmSide ph v).colls = s.colls := (rfl)
@[simp ↓] theorem setHbmSide_rings (s : State) (ph : Nat) (v : BitVec 128) : (s.setHbmSide ph v).rings = s.rings := (rfl)
@[simp ↓] theorem setHbmSide_heaters (s : State) (ph : Nat) (v : BitVec 128) : (s.setHbmSide ph v).heaters = s.heaters := (rfl)
@[simp ↓] theorem setHbmSide_dies (s : State) (ph : Nat) (v : BitVec 128) : (s.setHbmSide ph v).dies = s.dies := (rfl)
@[simp ↓] theorem setHbmSide_preBias (s : State) (ph : Nat) (v : BitVec 128) : (s.setHbmSide ph v).preBias = s.preBias := (rfl)
@[simp ↓] theorem setHbmSide_pfc (s : State) (ph : Nat) (v : BitVec 128) : (s.setHbmSide ph v).pfc = s.pfc := (rfl)
@[simp ↓] theorem setHbmSide_routers (s : State) (ph : Nat) (v : BitVec 128) : (s.setHbmSide ph v).routers = s.routers := (rfl)
@[simp ↓] theorem setHbmSide_sramFix (s : State) (ph : Nat) (v : BitVec 128) : (s.setHbmSide ph v).sramFix = s.sramFix := (rfl)
@[simp ↓] theorem setHbmSide_ueTicks (s : State) (ph : Nat) (v : BitVec 128) : (s.setHbmSide ph v).ueTicks = s.ueTicks := (rfl)
@[simp ↓] theorem setHbmSide_held (s : State) (ph : Nat) (v : BitVec 128) : (s.setHbmSide ph v).held = s.held := (rfl)
@[simp ↓] theorem setHbmSide_fuses (s : State) (ph : Nat) (v : BitVec 128) : (s.setHbmSide ph v).fuses = s.fuses := (rfl)
@[simp ↓] theorem setHbmSide_flash0 (s : State) (ph : Nat) (v : BitVec 128) : (s.setHbmSide ph v).flash0 = s.flash0 := (rfl)
@[simp ↓] theorem setHbmSide_flash1 (s : State) (ph : Nat) (v : BitVec 128) : (s.setHbmSide ph v).flash1 = s.flash1 := (rfl)
@[simp ↓] theorem setHbmSide_mgp0 (s : State) (ph : Nat) (v : BitVec 128) : (s.setHbmSide ph v).mgp0 = s.mgp0 := (rfl)
@[simp ↓] theorem setHbmSide_mgp1 (s : State) (ph : Nat) (v : BitVec 128) : (s.setHbmSide ph v).mgp1 = s.mgp1 := (rfl)
@[simp ↓] theorem setHbmSide_vault (s : State) (ph : Nat) (v : BitVec 128) : (s.setHbmSide ph v).vault = s.vault := (rfl)
@[simp ↓] theorem setHbmSide_i3c0 (s : State) (ph : Nat) (v : BitVec 128) : (s.setHbmSide ph v).i3c0 = s.i3c0 := (rfl)
@[simp ↓] theorem setHbmSide_i3c1 (s : State) (ph : Nat) (v : BitVec 128) : (s.setHbmSide ph v).i3c1 = s.i3c1 := (rfl)
@[simp ↓] theorem setHbmSide_rails (s : State) (ph : Nat) (v : BitVec 128) : (s.setHbmSide ph v).rails = s.rails := (rfl)
@[simp ↓] theorem setHbmSide_temps (s : State) (ph : Nat) (v : BitVec 128) : (s.setHbmSide ph v).temps = s.temps := (rfl)
@[simp ↓] theorem setHbmSide_trip0 (s : State) (ph : Nat) (v : BitVec 128) : (s.setHbmSide ph v).trip0 = s.trip0 := (rfl)
@[simp ↓] theorem setHbmSide_trip1 (s : State) (ph : Nat) (v : BitVec 128) : (s.setHbmSide ph v).trip1 = s.trip1 := (rfl)
@[simp ↓] theorem setHbmSide_day (s : State) (ph : Nat) (v : BitVec 128) : (s.setHbmSide ph v).day = s.day := (rfl)
@[simp ↓] theorem setHbmSide_modeDue (s : State) (ph : Nat) (v : BitVec 128) : (s.setHbmSide ph v).modeDue = s.modeDue := (rfl)
@[simp ↓] theorem setHbmSide_powerOver (s : State) (ph : Nat) (v : BitVec 128) : (s.setHbmSide ph v).powerOver = s.powerOver := (rfl)
@[simp ↓] theorem setHbmSide_part0 (s : State) (ph : Nat) (v : BitVec 128) : (s.setHbmSide ph v).part0 = s.part0 := (rfl)
@[simp ↓] theorem setHbmSide_part1 (s : State) (ph : Nat) (v : BitVec 128) : (s.setHbmSide ph v).part1 = s.part1 := (rfl)
@[simp ↓] theorem setHbmSide_out (s : State) (ph : Nat) (v : BitVec 128) : (s.setHbmSide ph v).out = s.out := (rfl)
@[simp ↓] theorem setHbmSide_free (s : State) (ph : Nat) (v : BitVec 128) : (s.setHbmSide ph v).free = s.free := (rfl)
@[simp ↓] theorem setHbmSide_pending (s : State) (ph : Nat) (v : BitVec 128) : (s.setHbmSide ph v).pending = s.pending := (rfl)
@[simp ↓] theorem setHbmSide_part (s : State) (ph : Nat) (v : BitVec 128) (q : Nat) : (s.setHbmSide ph v).part q = s.part q := (rfl)
@[simp ↓] theorem setHbmSide_core (s : State) (ph : Nat) (v : BitVec 128) (m : Nat) : (s.setHbmSide ph v).core m = s.core m := (rfl)
@[simp ↓] theorem setHbmSide_gather (s : State) (ph : Nat) (v : BitVec 128) (h : Nat) : (s.setHbmSide ph v).gather h = s.gather h := (rfl)
@[simp ↓] theorem setHbmSide_side (s : State) (ph : Nat) (v : BitVec 128) (b2 x2 : Nat) : (s.setHbmSide ph v).side b2 x2 = s.side b2 x2 := (rfl)
@[simp ↓] theorem setHbmSide_chan (s : State) (ph : Nat) (v : BitVec 128) (c2 : Nat) : (s.setHbmSide ph v).chan c2 = s.chan c2 := (rfl)
@[simp ↓] theorem setHbmSide_port (s : State) (ph : Nat) (v : BitVec 128) (q2 : Nat) : (s.setHbmSide ph v).port q2 = s.port q2 := (rfl)
@[simp ↓] theorem setHbmSide_oe (s : State) (ph : Nat) (v : BitVec 128) (o2 : Nat) : (s.setHbmSide ph v).oe o2 = s.oe o2 := (rfl)
@[simp ↓] theorem setHbmSide_coll (s : State) (ph : Nat) (v : BitVec 128) (e2 : Nat) : (s.setHbmSide ph v).coll e2 = s.coll e2 := (rfl)
@[simp ↓] theorem setHbmSide_die (s : State) (ph : Nat) (v : BitVec 128) (d2 : Nat) : (s.setHbmSide ph v).die d2 = s.die d2 := (rfl)
@[simp ↓] theorem setHbmSide_mgp (s : State) (ph : Nat) (v : BitVec 128) (h2 : Nat) : (s.setHbmSide ph v).mgp h2 = s.mgp h2 := (rfl)
@[simp ↓] theorem setHbmSide_flash (s : State) (ph : Nat) (v : BitVec 128) (h2 : Nat) : (s.setHbmSide ph v).flash h2 = s.flash h2 := (rfl)
@[simp ↓] theorem setHbmSide_reg (s : State) (ph : Nat) (v : BitVec 128) (r2 : Reg) (p2 i2 j2 k2 : Nat) : (s.setHbmSide ph v).reg r2 p2 i2 j2 k2 = s.reg r2 p2 i2 j2 k2 := (rfl)
@[simp ↓] theorem setHbmSide_rd (s : State) (ph : Nat) (v : BitVec 128) (f2 : Fld) (p2 i2 j2 k2 : Nat) : (s.setHbmSide ph v).rd f2 p2 i2 j2 k2 = s.rd f2 p2 i2 j2 k2 := (rfl)
@[simp ↓] theorem setHbmSide_byte (s : State) (ph : Nat) (v : BitVec 128) (a2 : Nat) : (s.setHbmSide ph v).byte a2 = s.byte a2 := (rfl)

/-! ### What a view reads after its own update -/

@[simp ↓] theorem part_updPart_same (s : State) (p : Nat) (f : Part → Part) : (s.updPart p f).part p = f (s.part p) := by
  unfold State.updPart State.part; split <;> simp_all

theorem part_updPart (s : State) (p q : Nat) (f : Part → Part) :
    (s.updPart p f).part q = if (p = 1 ↔ q = 1) then f (s.part q) else s.part q := by
  unfold State.updPart State.part
  by_cases h : p = 1 <;> by_cases g : q = 1 <;> simp [h, g]

@[simp ↓] theorem mgp_updMgp_same (s : State) (h : Nat) (f : Mgp → Mgp) : (s.updMgp h f).mgp h = f (s.mgp h) := by
  unfold State.updMgp State.mgp; split <;> simp_all

@[simp ↓] theorem flash_updFlash_same (s : State) (h : Nat) (f : Flash → Flash) :
    (s.updFlash h f).flash h = f (s.flash h) := by
  unfold State.updFlash State.flash; split <;> simp_all

theorem core_updCore (s : State) (n m : Nat) (f : Core → Core) :
    (s.updCore n f).core m = if m = n then f (s.core n) else s.core m := tabGet_tabUpd coreDefault _ n m f

@[simp ↓] theorem core_updCore_same (s : State) (n : Nat) (f : Core → Core) : (s.updCore n f).core n = f (s.core n) := by
  simp [core_updCore]

theorem gather_updGather (s : State) (n m : Nat) (f : Gather → Gather) :
    (s.updGather n f).gather m = if m = n then f (s.gather n) else s.gather m := tabGet_tabUpd gatherDefault _ n m f

@[simp ↓] theorem gather_updGather_same (s : State) (n : Nat) (f : Gather → Gather) : (s.updGather n f).gather n = f (s.gather n) := by
  simp [gather_updGather]

theorem chan_updChan (s : State) (n m : Nat) (f : Chan → Chan) :
    (s.updChan n f).chan m = if m = n then f (s.chan n) else s.chan m := tabGet_tabUpd chanDefault _ n m f

@[simp ↓] theorem chan_updChan_same (s : State) (n : Nat) (f : Chan → Chan) : (s.updChan n f).chan n = f (s.chan n) := by
  simp [chan_updChan]

theorem port_updPort (s : State) (n m : Nat) (f : Port → Port) :
    (s.updPort n f).port m = if m = n then f (s.port n) else s.port m := tabGet_tabUpd portDefault _ n m f

@[simp ↓] theorem port_updPort_same (s : State) (n : Nat) (f : Port → Port) : (s.updPort n f).port n = f (s.port n) := by
  simp [port_updPort]

theorem oe_updOe (s : State) (n m : Nat) (f : Oe → Oe) :
    (s.updOe n f).oe m = if m = n then f (s.oe n) else s.oe m := tabGet_tabUpd oeDefault _ n m f

@[simp ↓] theorem oe_updOe_same (s : State) (n : Nat) (f : Oe → Oe) : (s.updOe n f).oe n = f (s.oe n) := by
  simp [oe_updOe]

theorem coll_updColl (s : State) (n m : Nat) (f : CollEng → CollEng) :
    (s.updColl n f).coll m = if m = n then f (s.coll n) else s.coll m := tabGet_tabUpd collDefault _ n m f

@[simp ↓] theorem coll_updColl_same (s : State) (n : Nat) (f : CollEng → CollEng) : (s.updColl n f).coll n = f (s.coll n) := by
  simp [coll_updColl]

theorem die_updDie (s : State) (n m : Nat) (f : Die → Die) :
    (s.updDie n f).die m = if m = n then f (s.die n) else s.die m := tabGet_tabUpd dieDefault _ n m f

@[simp ↓] theorem die_updDie_same (s : State) (n : Nat) (f : Die → Die) : (s.updDie n f).die n = f (s.die n) := by
  simp [die_updDie]

theorem side_updSide (s : State) (b x b2 x2 : Nat) (f : Side → Side) :
    (s.updSide b x f).side b2 x2 = if 2 * b2 + x2 = 2 * b + x then f (s.side b x) else s.side b2 x2 :=
  tabGet_tabUpd sideDefault _ _ _ f

@[simp ↓] theorem side_updSide_same (s : State) (b x : Nat) (f : Side → Side) :
    (s.updSide b x f).side b x = f (s.side b x) := by simp [side_updSide]

@[simp ↓] theorem stream_updStream_same (s : State) (n : Nat) (e : Eng) (f : Stream → Stream) :
    (s.updStream n e f).stream n e = f (s.stream n e) := by
  simp only [State.updStream, State.stream, core_updCore_same]
  cases e <;> rfl

@[simp ↓] theorem out_emit (s : State) (e : Emit) : (s.emit e).out = s.out ++ [e] := rfl

@[simp ↓] theorem out_emits (s : State) (es : List Emit) : (s.emits es).out = s.out ++ es := rfl

@[simp ↓] theorem reg_setReg_same (s : State) (r : Reg) (v : Word) (p i j k : Nat) :
    (s.setReg r v p i j k).reg r p i j k = v := tabGet_tabSet_same regDefault _ _ _

/-- A write of one register leaves every other as it was. -/
theorem reg_setReg_ne (s : State) (r r' : Reg) (v : Word) (p i j k p' i' j' k' : Nat)
    (h : r'.key p' i' j' k' ≠ r.key p i j k) : (s.setReg r v p i j k).reg r' p' i' j' k' = s.reg r' p' i' j' k' :=
  tabGet_tabSet_ne regDefault _ _ _ _ h

/-- A field reads back as the hardware wrote it. -/
theorem rd_wr_same (s : State) (f : Fld) (v p i j k : Nat) (h : f.lo + f.width ≤ 64) :
    (s.wr f v p i j k).rd f p i j k = v % 2 ^ f.width := by
  simp only [State.rd, State.wr, reg_setReg_same, BitVec.toNat_ofNat]
  rw [bits_mod _ _ _ _ h, bits_putBits_same]

/-- Writing a field leaves a disjoint field of the same register instance as it was. -/
theorem rd_wr_disjoint (s : State) (f g : Fld) (v p i j k : Nat) (r : g.reg = f.reg)
    (h : g.lo + g.width ≤ f.lo ∨ f.lo + f.width ≤ g.lo) (w : g.lo + g.width ≤ 64) :
    (s.wr f v p i j k).rd g p i j k = s.rd g p i j k := by
  simp only [State.rd, State.wr, r, reg_setReg_same, BitVec.toNat_ofNat]
  rw [bits_mod _ _ _ _ w, bits_putBits_disjoint _ _ _ _ _ _ h]

/-- Writing a field of another register instance leaves a field as it was. -/
theorem rd_wr_ne (s : State) (f g : Fld) (v p i j k p' i' j' k' : Nat)
    (h : g.reg.key p' i' j' k' ≠ f.reg.key p i j k) : (s.wr f v p i j k).rd g p' i' j' k' = s.rd g p' i' j' k' := by
  simp only [State.rd, State.wr]
  rw [reg_setReg_ne _ _ _ _ _ _ _ _ _ _ _ _ h]

theorem rd_setReg_ne (s : State) (r : Reg) (v : Word) (g : Fld) (p i j k p' i' j' k' : Nat)
    (h : g.reg.key p' i' j' k' ≠ r.key p i j k) : (s.setReg r v p i j k).rd g p' i' j' k' = s.rd g p' i' j' k' := by
  simp only [State.rd]
  rw [reg_setReg_ne _ _ _ _ _ _ _ _ _ _ _ _ h]

/-- A flag that the hardware sets reads 1, its counter one more, wrapping (R9), where the two fields are apart. -/
theorem rd_flag_same (s : State) (f c : Fld) (p i j : Nat) (w : f.lo + f.width ≤ 64)
    (h : f.reg.key p i j 0 ≠ c.reg.key p i j 0) : (s.flag f c p i j).rd f p i j = 1 % 2 ^ f.width := by
  unfold State.flag State.count
  rw [rd_wr_ne _ _ _ _ _ _ _ _ _ _ _ _ h, rd_wr_same _ _ _ _ _ _ _ w]

end Sys2Proof.Laws
end

