-- ==== Sys2Proof/Laws/Memory.lean ====
section
/-! SUPPORT. Memory: what a byte reads after a write, that every memory operation keeps the canonical form, and that reading
storage in which nothing is listed changes nothing and passes its check. -/

namespace Sys2Proof.Laws

open Sys2Proof.Machine

/-! ### Bytes -/

theorem tabGet_memPut (q : Nat) : ∀ (bs : List Byte) (m : List Host.Cell) (a : Nat),
    tabGet byteDefault (memPut m a bs) q = if a ≤ q ∧ q < a + bs.length then bs.getD (q - a) 0 else tabGet byteDefault m q
  | [], m, a => by rw [memPut, List.length_nil, if_neg (by omega)]
  | b :: bs, m, a => by
    rw [memPut, tabGet_memPut q bs, tabGet_tabSet]
    by_cases h : q = a
    · subst h
      rw [if_neg (by omega), if_pos rfl, if_pos (by simp)]
      simp
    · by_cases g : a + 1 ≤ q ∧ q < a + 1 + bs.length
      · rw [if_pos g, if_pos (by simp; omega), show q - a = q - (a + 1) + 1 by omega]; simp
      · rw [if_neg g, if_neg h, if_neg (fun x => g ⟨by omega, by simp at x; omega⟩)]

/-- Storing a granule changes its 64 bytes and no other. -/
theorem byte_putRaw (s : State) (a q : Nat) (g : Gran) :
    (s.putRaw a g).byte q =
      if a ≤ q ∧ q < a + (toLE 64 g.toNat).length then (toLE 64 g.toNat).getD (q - a) 0 else s.byte q :=
  tabGet_memPut q _ _ a

/-! ### The canonical form -/

theorem wf_memPut : ∀ (bs : List Byte) (m : List Host.Cell) (a : Nat), Memory.wf m → Memory.wf (memPut m a bs)
  | [], _, _, w => w
  | b :: bs, m, a, w => wf_memPut bs _ (a + 1) (tabWf_tabSet byteDefault m a b w)

theorem wf_filter (m : List Host.Cell) (p : Host.Cell → Bool) (w : Memory.wf m) : Memory.wf (m.filter p) :=
  tabWf_filter byteDefault m p w

theorem wf_putRaw (s : State) (a : Nat) (g : Gran) (w : Memory.wf s.mem) : Memory.wf (s.putRaw a g).mem :=
  wf_memPut _ _ a w

theorem mem_srmLast (s : State) (a w : Nat) (u : Bool) : (s.srmLast a w u).mem = s.mem := by simp [State.srmLast]

theorem mem_noteUe (s : State) (p u : Nat) : (s.noteUe p u).mem = s.mem := (rfl)

/-- A choice between two states with one memory. -/
theorem mem_ite {c : Prop} {_ : Decidable c} {a b : State} {m : List Host.Cell} (x : a.mem = m) (y : b.mem = m) :
    (if c then a else b).mem = m := by split <;> assumption

theorem mem_ite_fst {c : Prop} {_ : Decidable c} {a b : State × Delivered} {m : List Host.Cell} (x : a.1.mem = m)
    (y : b.1.mem = m) : (if c then a else b).1.mem = m := by split <;> assumption

theorem mem_sramRead (s : State) (a : Nat) : (s.sramRead a).1.mem = s.mem := by
  have e (t : State) (f : Tab (List Nat)) : ({ t with sramFix := f } : State).mem = t.mem := rfl
  unfold State.sramRead
  dsimp only
  split
  · split <;> exact mem_ite rfl (by rw [record_mem, e, mem_srmLast, count_mem])
  · split
    · exact mem_ite rfl (by rw [record_mem, e, mem_srmLast, count_mem])
    · dsimp only
      rw [record_mem, mem_noteUe, mem_srmLast, count_mem, setSramSide_mem]
      exact mem_ite rfl (by rw [record_mem, e, mem_srmLast, count_mem])

theorem mem_hbmCe (s : State) (p ph n : Nat) : (s.hbmCe p ph n).mem = s.mem := by
  unfold State.hbmCe
  dsimp only
  exact mem_ite (by rw [record_mem, count_mem, flag_mem, flag_mem])
    (by rw [updChan_mem, ageLog_mem, setReg_mem, flag_mem, record_mem, count_mem, flag_mem, flag_mem])

theorem mem_hbmUe (s : State) (p ph a : Nat) : (s.hbmUe p ph a).mem = s.mem := by
  unfold State.hbmUe
  dsimp only
  rw [record_mem, mem_noteUe, setReg_mem, flag_mem, flag_mem]

theorem mem_hbmRead (s : State) (p a ph : Nat) : (s.hbmRead p a ph).1.mem = s.mem := by
  unfold State.hbmRead
  split
  · exact mem_ite_fst (by rw [flag_mem]) (mem_hbmUe _ _ _ _)
  · next st n _ =>
    have c : (if n = 0 then s else s.hbmCe p ph n).mem = s.mem := mem_ite rfl (mem_hbmCe _ _ _ _)
    dsimp only
    exact mem_ite_fst (by rw [flag_mem]; exact c) (mem_ite_fst c (mem_ite_fst c (by rw [flag_mem]; exact c)))

theorem mem_readGran {s t : State} {p a : Nat} {d : Delivered} (h : s.readGran p a = some (t, d)) : t.mem = s.mem := by
  unfold State.readGran at h
  split at h
  · exact (congrArg (fun x => x.1.mem) (Option.some.inj h)).symm.trans (mem_sramRead s _)
  · exact (congrArg (fun x => x.1.mem) (Option.some.inj h)).symm.trans (mem_hbmRead s _ _ _)
  · cases h
  · cases h

theorem mem_landed (s : State) (p a : Nat) : (s.landed p a).mem = s.mem := by
  unfold State.landed
  split
  · rfl
  · split
    · rfl
    · split
      · rw [countSat_mem]
      · rw [wr_mem, flag_mem]

/-- A whole-granule write keeps the canonical form. -/
theorem wf_writeGran {s t : State} {p a : Nat} {g : Gran} {c : BitVec 16} (w : Memory.wf s.mem)
    (h : s.writeGran p a g c = some t) : Memory.wf t.mem := by
  unfold State.writeGran at h
  split at h
  · rw [← Option.some.inj h, mem_landed]; exact wf_putRaw s _ g w
  · rw [← Option.some.inj h, State.hbmWrite, updChan_mem]; exact wf_putRaw s _ _ w
  · cases h
  · cases h

/-- A write of part of a granule keeps the canonical form. -/
theorem wf_writePart {s t : State} {p a : Nat} {bs : List Byte} {ok : Bool} (w : Memory.wf s.mem)
    (h : s.writePart p a bs = some (t, ok)) : Memory.wf t.mem := by
  unfold State.writePart at h
  split at h
  · cases h
  · next s' d r =>
    split at h
    · cases h; rw [mem_readGran r]; exact w
    · rw [Option.map_eq_some_iff] at h
      obtain ⟨u, hu, e⟩ := h
      cases e
      exact wf_writeGran (by rw [mem_readGran r]; exact w) hu

/-- An atomic keeps the canonical form. -/
theorem wf_atomic {s t : State} {p a op v c : Nat} {w8 : Bool} {o : Option Nat} (w : Memory.wf s.mem)
    (h : s.atomic p a op w8 v c = some (t, o)) : Memory.wf t.mem := by
  unfold State.atomic at h
  split at h
  · cases h
  · next s' d r =>
    split at h
    · cases h; rw [mem_readGran r]; exact w
    · dsimp only at h
      rw [Option.map_eq_some_iff] at h
      obtain ⟨u, hu, e⟩ := h
      cases e
      exact wf_writeGran (by rw [mem_readGran r]; exact w) hu

theorem wf_reset : Memory.wf State.reset.mem := rfl

/-! ### Storage in which nothing is listed -/

theorem clean_words : ceWords (0 : BitVec 600) = [] ∧ ueWords (0 : BitVec 600) = [] := by decide +kernel

theorem rawGran_clean (s : State) (m : s.mem = []) (a : Nat) : s.rawGran a = 0 := by
  have e : ∀ b, s.byte b = 0 := fun b => by simp only [State.byte, m, tabGet, tabFind]; rfl
  simp only [State.rawGran, e]
  rw [show ((List.range 64).map fun _ => (0 : Byte)) = List.replicate 64 0 by decide]
  decide +kernel

theorem delivered_clean : ({ data := 0, check := 0, poisoned := false } : Delivered).ok = true := by decide +kernel

theorem sramRead_clean (s : State) (h : s.sram = []) (m : s.mem = []) (a : Nat) :
    (s.sramRead a).1 = s ∧ (s.sramRead a).2.ok = true := by
  have e : s.sramSide a = { check := 0, poison := false, err := 0 } := by simp only [State.sramSide, h, tabGet, tabFind]; rfl
  have r : s.sramRead a = (s, { data := 0, check := 0, poisoned := false }) := by
    simp only [State.sramRead, e, clean_words.1, clean_words.2, rawGran_clean s m]
    rfl
  rw [r]; exact ⟨rfl, delivered_clean⟩

theorem readGrans_clean (s : State) (h : s.sram = []) (m : s.mem = []) (n : Nat) :
    ∀ a, (s.readGrans a n).1 = s ∧ (s.readGrans a n).2.2.1 = true := by
  induction n with
  | zero => exact fun a => ⟨rfl, rfl⟩
  | succ n ih =>
    intro a
    have c := sramRead_clean s h m a
    simp only [State.readGrans, c.1, c.2, (ih (a + 64)).1, (ih (a + 64)).2, Bool.and_self, and_self]

/-- An operand read of clean storage succeeds and changes nothing. -/
theorem readOp_clean (s : State) (h : s.sram = []) (m : s.mem = []) (a n : Nat) :
    (s.readOp a n).s = s ∧ (s.readOp a n).ok = true := readGrans_clean s h m _ a

end Sys2Proof.Laws
end

