-- ==== Sys2Proof/Laws/Regs.lean ====
section
/-! SUPPORT. The place of every register's instances in the register table, as arithmetic, so that two of them can be told
apart by omega. -/

namespace Sys2Proof.Laws

open Sys2Proof.Machine

theorem key_own {r : Reg} {b s1 s2 s3 : Nat} (p i j k : Nat) (h : (regInfo r).perPartition = false) (hb : (regInfo r).base = b)
    (h1 : (regInfo r).s1 = s1) (h2 : (regInfo r).s2 = s2) (h3 : (regInfo r).s3 = s3) :
    r.key p i j k = b + i * s1 + j * s2 + k * s3 := by
  subst hb h1 h2 h3
  simp [Reg.key, h]

theorem key_part {r : Reg} {b s1 s2 s3 : Nat} (p i j k : Nat) (h : (regInfo r).perPartition = true) (hb : (regInfo r).base = b)
    (h1 : (regInfo r).s1 = s1) (h2 : (regInfo r).s2 = s2) (h3 : (regInfo r).s3 = s3) :
    r.key p i j k = p * 0x4000000 + b + i * s1 + j * s2 + k * s3 := by
  subst hb h1 h2 h3
  simp [Reg.key, h]

theorem key_ID_DEVICE (p i j k : Nat) : Reg.key .ID_DEVICE p i j k = p * 0x4000000 + 0x0 + i * 0 + j * 0 + k * 0 :=
  key_part p i j k rfl rfl rfl rfl rfl
theorem key_ID_SERIAL (p i j k : Nat) : Reg.key .ID_SERIAL p i j k = 0x8 + i * 0 + j * 0 + k * 0 :=
  key_own p i j k rfl rfl rfl rfl rfl
theorem key_ID_FL_STS (p i j k : Nat) : Reg.key .ID_FL_STS p i j k = p * 0x4000000 + 0x10 + i * 0 + j * 0 + k * 0 :=
  key_part p i j k rfl rfl rfl rfl rfl
theorem key_ID_DIE (p i j k : Nat) : Reg.key .ID_DIE p i j k = 0x100 + i * 0x8 + j * 0 + k * 0 :=
  key_own p i j k rfl rfl rfl rfl rfl
theorem key_BRG_CTL (p i j k : Nat) : Reg.key .BRG_CTL p i j k = 0x10000 + i * 0x100 + j * 0x80 + k * 0 :=
  key_own p i j k rfl rfl rfl rfl rfl
theorem key_BRG_WIDTH_STS (p i j k : Nat) : Reg.key .BRG_WIDTH_STS p i j k = 0x10008 + i * 0x100 + j * 0x80 + k * 0 :=
  key_own p i j k rfl rfl rfl rfl rfl
theorem key_BRG_MASK (p i j k : Nat) : Reg.key .BRG_MASK p i j k = 0x10010 + i * 0x100 + j * 0x80 + k * 0 :=
  key_own p i j k rfl rfl rfl rfl rfl
theorem key_BRG_EVT (p i j k : Nat) : Reg.key .BRG_EVT p i j k = 0x10018 + i * 0x100 + j * 0x80 + k * 0 :=
  key_own p i j k rfl rfl rfl rfl rfl
theorem key_BRG_EVT_CNT (p i j k : Nat) : Reg.key .BRG_EVT_CNT p i j k = 0x10020 + i * 0x100 + j * 0x80 + k * 0 :=
  key_own p i j k rfl rfl rfl rfl rfl
theorem key_BRG_GROUP_SEL (p i j k : Nat) : Reg.key .BRG_GROUP_SEL p i j k = 0x10028 + i * 0x100 + j * 0x80 + k * 0 :=
  key_own p i j k rfl rfl rfl rfl rfl
theorem key_BRG_GROUP_STS (p i j k : Nat) : Reg.key .BRG_GROUP_STS p i j k = 0x10030 + i * 0x100 + j * 0x80 + k * 0 :=
  key_own p i j k rfl rfl rfl rfl rfl
theorem key_TILE_LPMAP (p i j k : Nat) : Reg.key .TILE_LPMAP p i j k = 0x20000 + i * 0x8 + j * 0 + k * 0 :=
  key_own p i j k rfl rfl rfl rfl rfl
theorem key_CLK_STS (p i j k : Nat) : Reg.key .CLK_STS p i j k = p * 0x4000000 + 0x30000 + i * 0 + j * 0 + k * 0 :=
  key_part p i j k rfl rfl rfl rfl rfl
theorem key_CLK_EVT (p i j k : Nat) : Reg.key .CLK_EVT p i j k = p * 0x4000000 + 0x30008 + i * 0 + j * 0 + k * 0 :=
  key_part p i j k rfl rfl rfl rfl rfl
theorem key_CLK_EVT_CNT (p i j k : Nat) : Reg.key .CLK_EVT_CNT p i j k = p * 0x4000000 + 0x30010 + i * 0 + j * 0 + k * 0 :=
  key_part p i j k rfl rfl rfl rfl rfl
theorem key_GTC_VALUE (p i j k : Nat) : Reg.key .GTC_VALUE p i j k = p * 0x4000000 + 0x30018 + i * 0 + j * 0 + k * 0 :=
  key_part p i j k rfl rfl rfl rfl rfl
theorem key_GTC_CTL (p i j k : Nat) : Reg.key .GTC_CTL p i j k = p * 0x4000000 + 0x30020 + i * 0 + j * 0 + k * 0 :=
  key_part p i j k rfl rfl rfl rfl rfl
theorem key_GTC_ALIGN_STS (p i j k : Nat) : Reg.key .GTC_ALIGN_STS p i j k = p * 0x4000000 + 0x30028 + i * 0 + j * 0 + k * 0 :=
  key_part p i j k rfl rfl rfl rfl rfl
theorem key_LDLY_STS (p i j k : Nat) : Reg.key .LDLY_STS p i j k = 0x31000 + i * 0x20 + j * 0 + k * 0 :=
  key_own p i j k rfl rfl rfl rfl rfl
theorem key_LDLY_ASYM (p i j k : Nat) : Reg.key .LDLY_ASYM p i j k = 0x31008 + i * 0x20 + j * 0 + k * 0 :=
  key_own p i j k rfl rfl rfl rfl rfl
theorem key_CORE_CTL (p i j k : Nat) : Reg.key .CORE_CTL p i j k = 0x100000 + i * 0x1000 + j * 0 + k * 0 :=
  key_own p i j k rfl rfl rfl rfl rfl
theorem key_CORE_STS (p i j k : Nat) : Reg.key .CORE_STS p i j k = 0x100008 + i * 0x1000 + j * 0 + k * 0 :=
  key_own p i j k rfl rfl rfl rfl rfl
theorem key_ENG_FAULT (p i j k : Nat) : Reg.key .ENG_FAULT p i j k = 0x100010 + i * 0x1000 + j * 0x8 + k * 0 :=
  key_own p i j k rfl rfl rfl rfl rfl
theorem key_CORE_EVT (p i j k : Nat) : Reg.key .CORE_EVT p i j k = 0x100030 + i * 0x1000 + j * 0 + k * 0 :=
  key_own p i j k rfl rfl rfl rfl rfl
theorem key_CORE_EVT_CNT (p i j k : Nat) : Reg.key .CORE_EVT_CNT p i j k = 0x100038 + i * 0x1000 + j * 0 + k * 0 :=
  key_own p i j k rfl rfl rfl rfl rfl
theorem key_EXC_CNT_A (p i j k : Nat) : Reg.key .EXC_CNT_A p i j k = 0x100040 + i * 0x1000 + j * 0 + k * 0 :=
  key_own p i j k rfl rfl rfl rfl rfl
theorem key_EXC_CNT_B (p i j k : Nat) : Reg.key .EXC_CNT_B p i j k = 0x100048 + i * 0x1000 + j * 0 + k * 0 :=
  key_own p i j k rfl rfl rfl rfl rfl
theorem key_EXC_CNT_C (p i j k : Nat) : Reg.key .EXC_CNT_C p i j k = 0x100050 + i * 0x1000 + j * 0 + k * 0 :=
  key_own p i j k rfl rfl rfl rfl rfl
theorem key_DMX_STS (p i j k : Nat) : Reg.key .DMX_STS p i j k = 0x100058 + i * 0x1000 + j * 0 + k * 0 :=
  key_own p i j k rfl rfl rfl rfl rfl
theorem key_DMX_ERR_TAG (p i j k : Nat) : Reg.key .DMX_ERR_TAG p i j k = 0x100060 + i * 0x1000 + j * 0 + k * 0 :=
  key_own p i j k rfl rfl rfl rfl rfl
theorem key_CHK_STS (p i j k : Nat) : Reg.key .CHK_STS p i j k = 0x100068 + i * 0x1000 + j * 0 + k * 0 :=
  key_own p i j k rfl rfl rfl rfl rfl
theorem key_SEM_VAL (p i j k : Nat) : Reg.key .SEM_VAL p i j k = 0x100100 + i * 0x1000 + j * 0x8 + k * 0 :=
  key_own p i j k rfl rfl rfl rfl rfl
theorem key_GXE_STS (p i j k : Nat) : Reg.key .GXE_STS p i j k = 0x140000 + i * 0x100 + j * 0 + k * 0 :=
  key_own p i j k rfl rfl rfl rfl rfl
theorem key_GXE_EVT (p i j k : Nat) : Reg.key .GXE_EVT p i j k = 0x140008 + i * 0x100 + j * 0 + k * 0 :=
  key_own p i j k rfl rfl rfl rfl rfl
theorem key_GXE_ERR (p i j k : Nat) : Reg.key .GXE_ERR p i j k = 0x140010 + i * 0x100 + j * 0 + k * 0 :=
  key_own p i j k rfl rfl rfl rfl rfl
theorem key_SCH_CTL (p i j k : Nat) : Reg.key .SCH_CTL p i j k = p * 0x4000000 + 0x40000 + i * 0 + j * 0 + k * 0 :=
  key_part p i j k rfl rfl rfl rfl rfl
theorem key_SCH_STS (p i j k : Nat) : Reg.key .SCH_STS p i j k = p * 0x4000000 + 0x40008 + i * 0 + j * 0 + k * 0 :=
  key_part p i j k rfl rfl rfl rfl rfl
theorem key_SCH_CONJ (p i j k : Nat) : Reg.key .SCH_CONJ p i j k = p * 0x4000000 + 0x40010 + i * 0 + j * 0 + k * 0 :=
  key_part p i j k rfl rfl rfl rfl rfl
theorem key_SCH_FREEZE (p i j k : Nat) : Reg.key .SCH_FREEZE p i j k = p * 0x4000000 + 0x40018 + i * 0 + j * 0 + k * 0 :=
  key_part p i j k rfl rfl rfl rfl rfl
theorem key_SCH_SLIP (p i j k : Nat) : Reg.key .SCH_SLIP p i j k = p * 0x4000000 + 0x40020 + i * 0 + j * 0 + k * 0 :=
  key_part p i j k rfl rfl rfl rfl rfl
theorem key_SCH_SLIP_GTC (p i j k : Nat) : Reg.key .SCH_SLIP_GTC p i j k = p * 0x4000000 + 0x40028 + i * 0 + j * 0 + k * 0 :=
  key_part p i j k rfl rfl rfl rfl rfl
theorem key_SCH_EVT (p i j k : Nat) : Reg.key .SCH_EVT p i j k = p * 0x4000000 + 0x40030 + i * 0 + j * 0 + k * 0 :=
  key_part p i j k rfl rfl rfl rfl rfl
theorem key_SCH_EVT_CNT (p i j k : Nat) : Reg.key .SCH_EVT_CNT p i j k = p * 0x4000000 + 0x40038 + i * 0 + j * 0 + k * 0 :=
  key_part p i j k rfl rfl rfl rfl rfl
theorem key_SCH_IMG_HASH (p i j k : Nat) : Reg.key .SCH_IMG_HASH p i j k = p * 0x4000000 + 0x40040 + i * 0x8 + j * 0 + k * 0 :=
  key_part p i j k rfl rfl rfl rfl rfl
theorem key_SCH_PLC_HASH (p i j k : Nat) : Reg.key .SCH_PLC_HASH p i j k = p * 0x4000000 + 0x40070 + i * 0x8 + j * 0 + k * 0 :=
  key_part p i j k rfl rfl rfl rfl rfl
theorem key_LAND_STS (p i j k : Nat) : Reg.key .LAND_STS p i j k = p * 0x4000000 + 0x41000 + i * 0x8 + j * 0 + k * 0 :=
  key_part p i j k rfl rfl rfl rfl rfl
theorem key_ORD_CTL (p i j k : Nat) : Reg.key .ORD_CTL p i j k = p * 0x4000000 + 0x50000 + i * 0 + j * 0 + k * 0 :=
  key_part p i j k rfl rfl rfl rfl rfl
theorem key_ORD_STS (p i j k : Nat) : Reg.key .ORD_STS p i j k = p * 0x4000000 + 0x50008 + i * 0 + j * 0 + k * 0 :=
  key_part p i j k rfl rfl rfl rfl rfl
theorem key_ORD_EVT (p i j k : Nat) : Reg.key .ORD_EVT p i j k = p * 0x4000000 + 0x50010 + i * 0 + j * 0 + k * 0 :=
  key_part p i j k rfl rfl rfl rfl rfl
theorem key_ORD_EVT_CNT (p i j k : Nat) : Reg.key .ORD_EVT_CNT p i j k = p * 0x4000000 + 0x50018 + i * 0 + j * 0 + k * 0 :=
  key_part p i j k rfl rfl rfl rfl rfl
theorem key_ORD_TMO (p i j k : Nat) : Reg.key .ORD_TMO p i j k = p * 0x4000000 + 0x50020 + i * 0 + j * 0 + k * 0 :=
  key_part p i j k rfl rfl rfl rfl rfl
theorem key_ORD_TMO_SEQ (p i j k : Nat) : Reg.key .ORD_TMO_SEQ p i j k = p * 0x4000000 + 0x50028 + i * 0 + j * 0 + k * 0 :=
  key_part p i j k rfl rfl rfl rfl rfl
theorem key_MEM_CTL (p i j k : Nat) : Reg.key .MEM_CTL p i j k = p * 0x4000000 + 0x60000 + i * 0 + j * 0 + k * 0 :=
  key_part p i j k rfl rfl rfl rfl rfl
theorem key_MEM_STS (p i j k : Nat) : Reg.key .MEM_STS p i j k = p * 0x4000000 + 0x60008 + i * 0 + j * 0 + k * 0 :=
  key_part p i j k rfl rfl rfl rfl rfl
theorem key_MEM_EVT (p i j k : Nat) : Reg.key .MEM_EVT p i j k = p * 0x4000000 + 0x60010 + i * 0 + j * 0 + k * 0 :=
  key_part p i j k rfl rfl rfl rfl rfl
theorem key_MEM_EVT_CNT (p i j k : Nat) : Reg.key .MEM_EVT_CNT p i j k = p * 0x4000000 + 0x60018 + i * 0 + j * 0 + k * 0 :=
  key_part p i j k rfl rfl rfl rfl rfl
theorem key_MST_STS (p i j k : Nat) : Reg.key .MST_STS p i j k = 0x60100 + i * 0x8 + j * 0 + k * 0 :=
  key_own p i j k rfl rfl rfl rfl rfl
theorem key_MCH_STS (p i j k : Nat) : Reg.key .MCH_STS p i j k = 0x80000 + i * 0x100 + j * 0 + k * 0 :=
  key_own p i j k rfl rfl rfl rfl rfl
theorem key_MCH_EVT (p i j k : Nat) : Reg.key .MCH_EVT p i j k = 0x80008 + i * 0x100 + j * 0 + k * 0 :=
  key_own p i j k rfl rfl rfl rfl rfl
theorem key_MCH_EVT_CNT (p i j k : Nat) : Reg.key .MCH_EVT_CNT p i j k = 0x80010 + i * 0x100 + j * 0 + k * 0 :=
  key_own p i j k rfl rfl rfl rfl rfl
theorem key_MCH_ERR_LOC (p i j k : Nat) : Reg.key .MCH_ERR_LOC p i j k = 0x80018 + i * 0x100 + j * 0 + k * 0 :=
  key_own p i j k rfl rfl rfl rfl rfl
theorem key_MCH_CE_CNT (p i j k : Nat) : Reg.key .MCH_CE_CNT p i j k = 0x80020 + i * 0x100 + j * 0 + k * 0 :=
  key_own p i j k rfl rfl rfl rfl rfl
theorem key_MTG_CTL (p i j k : Nat) : Reg.key .MTG_CTL p i j k = 0x80040 + i * 0x100 + j * 0 + k * 0 :=
  key_own p i j k rfl rfl rfl rfl rfl
theorem key_MTG_LIMIT (p i j k : Nat) : Reg.key .MTG_LIMIT p i j k = 0x80048 + i * 0x100 + j * 0 + k * 0 :=
  key_own p i j k rfl rfl rfl rfl rfl
theorem key_MTG_SEED (p i j k : Nat) : Reg.key .MTG_SEED p i j k = 0x80050 + i * 0x100 + j * 0 + k * 0 :=
  key_own p i j k rfl rfl rfl rfl rfl
theorem key_MTG_STS (p i j k : Nat) : Reg.key .MTG_STS p i j k = 0x80058 + i * 0x100 + j * 0 + k * 0 :=
  key_own p i j k rfl rfl rfl rfl rfl
theorem key_MTG_ERR (p i j k : Nat) : Reg.key .MTG_ERR p i j k = 0x80060 + i * 0x100 + j * 0 + k * 0 :=
  key_own p i j k rfl rfl rfl rfl rfl
theorem key_OE_CTL (p i j k : Nat) : Reg.key .OE_CTL p i j k = 0x200000 + i * 0x10000 + j * 0 + k * 0 :=
  key_own p i j k rfl rfl rfl rfl rfl
theorem key_OE_STS (p i j k : Nat) : Reg.key .OE_STS p i j k = 0x200008 + i * 0x10000 + j * 0 + k * 0 :=
  key_own p i j k rfl rfl rfl rfl rfl
theorem key_OE_EVT (p i j k : Nat) : Reg.key .OE_EVT p i j k = 0x200010 + i * 0x10000 + j * 0 + k * 0 :=
  key_own p i j k rfl rfl rfl rfl rfl
theorem key_OE_EVT_CNT (p i j k : Nat) : Reg.key .OE_EVT_CNT p i j k = 0x200018 + i * 0x10000 + j * 0 + k * 0 :=
  key_own p i j k rfl rfl rfl rfl rfl
theorem key_OE_POLICY (p i j k : Nat) : Reg.key .OE_POLICY p i j k = 0x200020 + i * 0x10000 + j * 0 + k * 0 :=
  key_own p i j k rfl rfl rfl rfl rfl
theorem key_OE_LASER_STS (p i j k : Nat) : Reg.key .OE_LASER_STS p i j k = 0x200028 + i * 0x10000 + j * 0 + k * 0 :=
  key_own p i j k rfl rfl rfl rfl rfl
theorem key_OE_FF_COEF (p i j k : Nat) : Reg.key .OE_FF_COEF p i j k = 0x200030 + i * 0x10000 + j * 0 + k * 0 :=
  key_own p i j k rfl rfl rfl rfl rfl
theorem key_OE_RINGTAB_CTL (p i j k : Nat) : Reg.key .OE_RINGTAB_CTL p i j k = 0x200038 + i * 0x10000 + j * 0 + k * 0 :=
  key_own p i j k rfl rfl rfl rfl rfl
theorem key_OE_RINGTAB_DATA (p i j k : Nat) : Reg.key .OE_RINGTAB_DATA p i j k = 0x200040 + i * 0x10000 + j * 0 + k * 0 :=
  key_own p i j k rfl rfl rfl rfl rfl
theorem key_OE_RING_STS (p i j k : Nat) : Reg.key .OE_RING_STS p i j k = 0x200048 + i * 0x10000 + j * 0 + k * 0 :=
  key_own p i j k rfl rfl rfl rfl rfl
theorem key_OE_SP_STS (p i j k : Nat) : Reg.key .OE_SP_STS p i j k = 0x200050 + i * 0x10000 + j * 0 + k * 0 :=
  key_own p i j k rfl rfl rfl rfl rfl
theorem key_OE_FIB_STS (p i j k : Nat) : Reg.key .OE_FIB_STS p i j k = 0x201000 + i * 0x10000 + j * 0x100 + k * 0 :=
  key_own p i j k rfl rfl rfl rfl rfl
theorem key_OE_FIB_LANEMAP (p i j k : Nat) : Reg.key .OE_FIB_LANEMAP p i j k = 0x201008 + i * 0x10000 + j * 0x100 + k * 0 :=
  key_own p i j k rfl rfl rfl rfl rfl
theorem key_OE_FIB_EVT (p i j k : Nat) : Reg.key .OE_FIB_EVT p i j k = 0x201010 + i * 0x10000 + j * 0x100 + k * 0 :=
  key_own p i j k rfl rfl rfl rfl rfl
theorem key_OE_FIB_EVT_CNT (p i j k : Nat) : Reg.key .OE_FIB_EVT_CNT p i j k = 0x201018 + i * 0x10000 + j * 0x100 + k * 0 :=
  key_own p i j k rfl rfl rfl rfl rfl
theorem key_OE_FIB_MARGIN (p i j k : Nat) : Reg.key .OE_FIB_MARGIN p i j k = 0x201020 + i * 0x10000 + j * 0x100 + k * 0x8 :=
  key_own p i j k rfl rfl rfl rfl rfl
theorem key_OE_FIB_COMET (p i j k : Nat) : Reg.key .OE_FIB_COMET p i j k = 0x201038 + i * 0x10000 + j * 0x100 + k * 0 :=
  key_own p i j k rfl rfl rfl rfl rfl
theorem key_OE_FIB_EVT_CNT1 (p i j k : Nat) : Reg.key .OE_FIB_EVT_CNT1 p i j k = 0x201040 + i * 0x10000 + j * 0x100 + k * 0 :=
  key_own p i j k rfl rfl rfl rfl rfl
theorem key_NET_CTL (p i j k : Nat) : Reg.key .NET_CTL p i j k = p * 0x4000000 + 0x300000 + i * 0 + j * 0 + k * 0 :=
  key_part p i j k rfl rfl rfl rfl rfl
theorem key_NET_STS (p i j k : Nat) : Reg.key .NET_STS p i j k = p * 0x4000000 + 0x300008 + i * 0 + j * 0 + k * 0 :=
  key_part p i j k rfl rfl rfl rfl rfl
theorem key_NET_EVT (p i j k : Nat) : Reg.key .NET_EVT p i j k = p * 0x4000000 + 0x300010 + i * 0 + j * 0 + k * 0 :=
  key_part p i j k rfl rfl rfl rfl rfl
theorem key_NET_EVT_CNT0 (p i j k : Nat) : Reg.key .NET_EVT_CNT0 p i j k = p * 0x4000000 + 0x300018 + i * 0 + j * 0 + k * 0 :=
  key_part p i j k rfl rfl rfl rfl rfl
theorem key_NET_EVT_CNT1 (p i j k : Nat) : Reg.key .NET_EVT_CNT1 p i j k = p * 0x4000000 + 0x300020 + i * 0 + j * 0 + k * 0 :=
  key_part p i j k rfl rfl rfl rfl rfl
theorem key_ROUTE_SEL (p i j k : Nat) : Reg.key .ROUTE_SEL p i j k = p * 0x4000000 + 0x300028 + i * 0 + j * 0 + k * 0 :=
  key_part p i j k rfl rfl rfl rfl rfl
theorem key_ROUTE_DATA (p i j k : Nat) : Reg.key .ROUTE_DATA p i j k = p * 0x4000000 + 0x300030 + i * 0 + j * 0 + k * 0 :=
  key_part p i j k rfl rfl rfl rfl rfl
theorem key_E2E_SEL (p i j k : Nat) : Reg.key .E2E_SEL p i j k = p * 0x4000000 + 0x300038 + i * 0 + j * 0 + k * 0 :=
  key_part p i j k rfl rfl rfl rfl rfl
theorem key_E2E_STS (p i j k : Nat) : Reg.key .E2E_STS p i j k = p * 0x4000000 + 0x300040 + i * 0 + j * 0 + k * 0 :=
  key_part p i j k rfl rfl rfl rfl rfl
theorem key_E2E_ISSUED (p i j k : Nat) : Reg.key .E2E_ISSUED p i j k = p * 0x4000000 + 0x300048 + i * 0 + j * 0 + k * 0 :=
  key_part p i j k rfl rfl rfl rfl rfl
theorem key_E2E_ACKED (p i j k : Nat) : Reg.key .E2E_ACKED p i j k = p * 0x4000000 + 0x300050 + i * 0 + j * 0 + k * 0 :=
  key_part p i j k rfl rfl rfl rfl rfl
theorem key_FAR_SEL (p i j k : Nat) : Reg.key .FAR_SEL p i j k = p * 0x4000000 + 0x300058 + i * 0 + j * 0 + k * 0 :=
  key_part p i j k rfl rfl rfl rfl rfl
theorem key_FAR_DATA (p i j k : Nat) : Reg.key .FAR_DATA p i j k = p * 0x4000000 + 0x300060 + i * 0x8 + j * 0 + k * 0 :=
  key_part p i j k rfl rfl rfl rfl rfl
theorem key_PORT_STS (p i j k : Nat) : Reg.key .PORT_STS p i j k = 0x301000 + i * 0x100 + j * 0 + k * 0 :=
  key_own p i j k rfl rfl rfl rfl rfl
theorem key_PORT_EVT (p i j k : Nat) : Reg.key .PORT_EVT p i j k = 0x301008 + i * 0x100 + j * 0 + k * 0 :=
  key_own p i j k rfl rfl rfl rfl rfl
theorem key_PORT_EVT_CNT (p i j k : Nat) : Reg.key .PORT_EVT_CNT p i j k = 0x301010 + i * 0x100 + j * 0 + k * 0 :=
  key_own p i j k rfl rfl rfl rfl rfl
theorem key_PORT_ERR_CNT (p i j k : Nat) : Reg.key .PORT_ERR_CNT p i j k = 0x301018 + i * 0x100 + j * 0 + k * 0 :=
  key_own p i j k rfl rfl rfl rfl rfl
theorem key_PORT_PIR (p i j k : Nat) : Reg.key .PORT_PIR p i j k = 0x301040 + i * 0x100 + j * 0x8 + k * 0 :=
  key_own p i j k rfl rfl rfl rfl rfl
theorem key_COL_CTL (p i j k : Nat) : Reg.key .COL_CTL p i j k = 0x340000 + i * 0x10000 + j * 0 + k * 0 :=
  key_own p i j k rfl rfl rfl rfl rfl
theorem key_COL_STS (p i j k : Nat) : Reg.key .COL_STS p i j k = 0x340008 + i * 0x10000 + j * 0 + k * 0 :=
  key_own p i j k rfl rfl rfl rfl rfl
theorem key_COL_EVT (p i j k : Nat) : Reg.key .COL_EVT p i j k = 0x340010 + i * 0x10000 + j * 0 + k * 0 :=
  key_own p i j k rfl rfl rfl rfl rfl
theorem key_COL_EVT_CNT (p i j k : Nat) : Reg.key .COL_EVT_CNT p i j k = 0x340018 + i * 0x10000 + j * 0 + k * 0 :=
  key_own p i j k rfl rfl rfl rfl rfl
theorem key_COL_GRP_SEL (p i j k : Nat) : Reg.key .COL_GRP_SEL p i j k = 0x340020 + i * 0x10000 + j * 0 + k * 0 :=
  key_own p i j k rfl rfl rfl rfl rfl
theorem key_COL_GRP_STS (p i j k : Nat) : Reg.key .COL_GRP_STS p i j k = 0x340028 + i * 0x10000 + j * 0 + k * 0 :=
  key_own p i j k rfl rfl rfl rfl rfl
theorem key_COL_GRP_DONE (p i j k : Nat) : Reg.key .COL_GRP_DONE p i j k = 0x340030 + i * 0x10000 + j * 0 + k * 0 :=
  key_own p i j k rfl rfl rfl rfl rfl
theorem key_COL_ABORT (p i j k : Nat) : Reg.key .COL_ABORT p i j k = 0x340038 + i * 0x10000 + j * 0 + k * 0 :=
  key_own p i j k rfl rfl rfl rfl rfl
theorem key_HIF_CTL (p i j k : Nat) : Reg.key .HIF_CTL p i j k = p * 0x4000000 + 0x380000 + i * 0 + j * 0 + k * 0 :=
  key_part p i j k rfl rfl rfl rfl rfl
theorem key_HIF_STS (p i j k : Nat) : Reg.key .HIF_STS p i j k = p * 0x4000000 + 0x380008 + i * 0 + j * 0 + k * 0 :=
  key_part p i j k rfl rfl rfl rfl rfl
theorem key_HIF_EVT (p i j k : Nat) : Reg.key .HIF_EVT p i j k = p * 0x4000000 + 0x380010 + i * 0 + j * 0 + k * 0 :=
  key_part p i j k rfl rfl rfl rfl rfl
theorem key_HIF_EVT_CNT0 (p i j k : Nat) : Reg.key .HIF_EVT_CNT0 p i j k = p * 0x4000000 + 0x380018 + i * 0 + j * 0 + k * 0 :=
  key_part p i j k rfl rfl rfl rfl rfl
theorem key_HIF_EVT_CNT1 (p i j k : Nat) : Reg.key .HIF_EVT_CNT1 p i j k = p * 0x4000000 + 0x380020 + i * 0 + j * 0 + k * 0 :=
  key_part p i j k rfl rfl rfl rfl rfl
theorem key_HIF_AUTH_STS (p i j k : Nat) : Reg.key .HIF_AUTH_STS p i j k = p * 0x4000000 + 0x380028 + i * 0 + j * 0 + k * 0 :=
  key_part p i j k rfl rfl rfl rfl rfl
theorem key_HIF_WIN_SEL (p i j k : Nat) : Reg.key .HIF_WIN_SEL p i j k = p * 0x4000000 + 0x380030 + i * 0 + j * 0 + k * 0 :=
  key_part p i j k rfl rfl rfl rfl rfl
theorem key_HIF_CONN_STS (p i j k : Nat) : Reg.key .HIF_CONN_STS p i j k = p * 0x4000000 + 0x380040 + i * 0x8 + j * 0 + k * 0 :=
  key_part p i j k rfl rfl rfl rfl rfl
theorem key_HIF_WIN_DATA (p i j k : Nat) : Reg.key .HIF_WIN_DATA p i j k = p * 0x4000000 + 0x380060 + i * 0x8 + j * 0 + k * 0 :=
  key_part p i j k rfl rfl rfl rfl rfl
theorem key_HIF_CR_ADDR (p i j k : Nat) : Reg.key .HIF_CR_ADDR p i j k = p * 0x4000000 + 0x381000 + i * 0x20 + j * 0 + k * 0 :=
  key_part p i j k rfl rfl rfl rfl rfl
theorem key_HIF_CR_CFG (p i j k : Nat) : Reg.key .HIF_CR_CFG p i j k = p * 0x4000000 + 0x381008 + i * 0x20 + j * 0 + k * 0 :=
  key_part p i j k rfl rfl rfl rfl rfl
theorem key_HIF_CR_STS (p i j k : Nat) : Reg.key .HIF_CR_STS p i j k = p * 0x4000000 + 0x381010 + i * 0x20 + j * 0 + k * 0 :=
  key_part p i j k rfl rfl rfl rfl rfl
theorem key_HIF_CQ_ADDR (p i j k : Nat) : Reg.key .HIF_CQ_ADDR p i j k = p * 0x4000000 + 0x382000 + i * 0x20 + j * 0 + k * 0 :=
  key_part p i j k rfl rfl rfl rfl rfl
theorem key_HIF_CQ_CFG (p i j k : Nat) : Reg.key .HIF_CQ_CFG p i j k = p * 0x4000000 + 0x382008 + i * 0x20 + j * 0 + k * 0 :=
  key_part p i j k rfl rfl rfl rfl rfl
theorem key_HIF_CQ_STS (p i j k : Nat) : Reg.key .HIF_CQ_STS p i j k = p * 0x4000000 + 0x382010 + i * 0x20 + j * 0 + k * 0 :=
  key_part p i j k rfl rfl rfl rfl rfl
theorem key_HIF_MBOX_DESC (p i j k : Nat) : Reg.key .HIF_MBOX_DESC p i j k = p * 0x4000000 + 0x383000 + i * 0x8 + j * 0 + k * 0 :=
  key_part p i j k rfl rfl rfl rfl rfl
theorem key_HIF_MBOX_CTL (p i j k : Nat) : Reg.key .HIF_MBOX_CTL p i j k = p * 0x4000000 + 0x383040 + i * 0 + j * 0 + k * 0 :=
  key_part p i j k rfl rfl rfl rfl rfl
theorem key_HIF_MBOX_CPL (p i j k : Nat) : Reg.key .HIF_MBOX_CPL p i j k = p * 0x4000000 + 0x383080 + i * 0x8 + j * 0 + k * 0 :=
  key_part p i j k rfl rfl rfl rfl rfl
theorem key_HIF_MBOX_EXT (p i j k : Nat) : Reg.key .HIF_MBOX_EXT p i j k = p * 0x4000000 + 0x384000 + i * 0x8 + j * 0 + k * 0 :=
  key_part p i j k rfl rfl rfl rfl rfl
theorem key_BOOT_STS (p i j k : Nat) : Reg.key .BOOT_STS p i j k = p * 0x4000000 + 0x390000 + i * 0 + j * 0 + k * 0 :=
  key_part p i j k rfl rfl rfl rfl rfl
theorem key_BOOT_CTL (p i j k : Nat) : Reg.key .BOOT_CTL p i j k = p * 0x4000000 + 0x390008 + i * 0 + j * 0 + k * 0 :=
  key_part p i j k rfl rfl rfl rfl rfl
theorem key_BOOT_EVT (p i j k : Nat) : Reg.key .BOOT_EVT p i j k = p * 0x4000000 + 0x390010 + i * 0 + j * 0 + k * 0 :=
  key_part p i j k rfl rfl rfl rfl rfl
theorem key_BOOT_EVT_CNT (p i j k : Nat) : Reg.key .BOOT_EVT_CNT p i j k = p * 0x4000000 + 0x390018 + i * 0 + j * 0 + k * 0 :=
  key_part p i j k rfl rfl rfl rfl rfl
theorem key_RST_CAUSE (p i j k : Nat) : Reg.key .RST_CAUSE p i j k = p * 0x4000000 + 0x390020 + i * 0 + j * 0 + k * 0 :=
  key_part p i j k rfl rfl rfl rfl rfl
theorem key_FW_STS (p i j k : Nat) : Reg.key .FW_STS p i j k = p * 0x4000000 + 0x390028 + i * 0 + j * 0 + k * 0 :=
  key_part p i j k rfl rfl rfl rfl rfl
theorem key_FW_BUILD_A (p i j k : Nat) : Reg.key .FW_BUILD_A p i j k = p * 0x4000000 + 0x390030 + i * 0 + j * 0 + k * 0 :=
  key_part p i j k rfl rfl rfl rfl rfl
theorem key_FW_BUILD_B (p i j k : Nat) : Reg.key .FW_BUILD_B p i j k = p * 0x4000000 + 0x390038 + i * 0 + j * 0 + k * 0 :=
  key_part p i j k rfl rfl rfl rfl rfl
theorem key_DBG_APER_SEL (p i j k : Nat) : Reg.key .DBG_APER_SEL p i j k = p * 0x4000000 + 0x390040 + i * 0 + j * 0 + k * 0 :=
  key_part p i j k rfl rfl rfl rfl rfl
theorem key_DBG_APER_BASE (p i j k : Nat) : Reg.key .DBG_APER_BASE p i j k = p * 0x4000000 + 0x390048 + i * 0 + j * 0 + k * 0 :=
  key_part p i j k rfl rfl rfl rfl rfl
theorem key_DBG_STS (p i j k : Nat) : Reg.key .DBG_STS p i j k = p * 0x4000000 + 0x390050 + i * 0 + j * 0 + k * 0 :=
  key_part p i j k rfl rfl rfl rfl rfl
theorem key_INFL_STS (p i j k : Nat) : Reg.key .INFL_STS p i j k = p * 0x4000000 + 0x390058 + i * 0 + j * 0 + k * 0 :=
  key_part p i j k rfl rfl rfl rfl rfl
theorem key_FLT_CTL (p i j k : Nat) : Reg.key .FLT_CTL p i j k = p * 0x4000000 + 0x3a0000 + i * 0 + j * 0 + k * 0 :=
  key_part p i j k rfl rfl rfl rfl rfl
theorem key_FLT_STS (p i j k : Nat) : Reg.key .FLT_STS p i j k = p * 0x4000000 + 0x3a0008 + i * 0 + j * 0 + k * 0 :=
  key_part p i j k rfl rfl rfl rfl rfl
theorem key_FLT_EVT (p i j k : Nat) : Reg.key .FLT_EVT p i j k = p * 0x4000000 + 0x3a0010 + i * 0 + j * 0 + k * 0 :=
  key_part p i j k rfl rfl rfl rfl rfl
theorem key_FLT_EVT_CNT (p i j k : Nat) : Reg.key .FLT_EVT_CNT p i j k = p * 0x4000000 + 0x3a0018 + i * 0 + j * 0 + k * 0 :=
  key_part p i j k rfl rfl rfl rfl rfl
theorem key_FLT_RING_ADDR (p i j k : Nat) : Reg.key .FLT_RING_ADDR p i j k = p * 0x4000000 + 0x3a0020 + i * 0 + j * 0 + k * 0 :=
  key_part p i j k rfl rfl rfl rfl rfl
theorem key_FLT_RING_CFG (p i j k : Nat) : Reg.key .FLT_RING_CFG p i j k = p * 0x4000000 + 0x3a0028 + i * 0 + j * 0 + k * 0 :=
  key_part p i j k rfl rfl rfl rfl rfl
theorem key_FLT_RING_STS (p i j k : Nat) : Reg.key .FLT_RING_STS p i j k = p * 0x4000000 + 0x3a0030 + i * 0 + j * 0 + k * 0 :=
  key_part p i j k rfl rfl rfl rfl rfl
theorem key_FLT_LOG_SEL (p i j k : Nat) : Reg.key .FLT_LOG_SEL p i j k = p * 0x4000000 + 0x3a0038 + i * 0 + j * 0 + k * 0 :=
  key_part p i j k rfl rfl rfl rfl rfl
theorem key_FLT_LOG_DATA (p i j k : Nat) : Reg.key .FLT_LOG_DATA p i j k = p * 0x4000000 + 0x3a0040 + i * 0x8 + j * 0 + k * 0 :=
  key_part p i j k rfl rfl rfl rfl rfl
theorem key_AGE_SEL (p i j k : Nat) : Reg.key .AGE_SEL p i j k = p * 0x4000000 + 0x3a0080 + i * 0 + j * 0 + k * 0 :=
  key_part p i j k rfl rfl rfl rfl rfl
theorem key_AGE_STS (p i j k : Nat) : Reg.key .AGE_STS p i j k = p * 0x4000000 + 0x3a0088 + i * 0 + j * 0 + k * 0 :=
  key_part p i j k rfl rfl rfl rfl rfl
theorem key_AGE_PLAN (p i j k : Nat) : Reg.key .AGE_PLAN p i j k = p * 0x4000000 + 0x3a0090 + i * 0 + j * 0 + k * 0 :=
  key_part p i j k rfl rfl rfl rfl rfl
theorem key_AGE_LOG_SEL (p i j k : Nat) : Reg.key .AGE_LOG_SEL p i j k = p * 0x4000000 + 0x3a0098 + i * 0 + j * 0 + k * 0 :=
  key_part p i j k rfl rfl rfl rfl rfl
theorem key_AGE_LOG_DATA (p i j k : Nat) : Reg.key .AGE_LOG_DATA p i j k = p * 0x4000000 + 0x3a00a0 + i * 0x8 + j * 0 + k * 0 :=
  key_part p i j k rfl rfl rfl rfl rfl
theorem key_SRM_STS (p i j k : Nat) : Reg.key .SRM_STS p i j k = 0x3a0200 + i * 0x8 + j * 0 + k * 0 :=
  key_own p i j k rfl rfl rfl rfl rfl
theorem key_SEC_STS (p i j k : Nat) : Reg.key .SEC_STS p i j k = p * 0x4000000 + 0x3b0000 + i * 0 + j * 0 + k * 0 :=
  key_part p i j k rfl rfl rfl rfl rfl
theorem key_SEC_EVT (p i j k : Nat) : Reg.key .SEC_EVT p i j k = p * 0x4000000 + 0x3b0008 + i * 0 + j * 0 + k * 0 :=
  key_part p i j k rfl rfl rfl rfl rfl
theorem key_SEC_EVT_CNT (p i j k : Nat) : Reg.key .SEC_EVT_CNT p i j k = p * 0x4000000 + 0x3b0010 + i * 0 + j * 0 + k * 0 :=
  key_part p i j k rfl rfl rfl rfl rfl
theorem key_SEC_MC (p i j k : Nat) : Reg.key .SEC_MC p i j k = p * 0x4000000 + 0x3b0018 + i * 0 + j * 0 + k * 0 :=
  key_part p i j k rfl rfl rfl rfl rfl
theorem key_SEC_FW_MEAS (p i j k : Nat) : Reg.key .SEC_FW_MEAS p i j k = p * 0x4000000 + 0x3b0020 + i * 0x8 + j * 0 + k * 0 :=
  key_part p i j k rfl rfl rfl rfl rfl
theorem key_PWR_STS (p i j k : Nat) : Reg.key .PWR_STS p i j k = p * 0x4000000 + 0x3c0000 + i * 0 + j * 0 + k * 0 :=
  key_part p i j k rfl rfl rfl rfl rfl
theorem key_PWR_EVT (p i j k : Nat) : Reg.key .PWR_EVT p i j k = p * 0x4000000 + 0x3c0008 + i * 0 + j * 0 + k * 0 :=
  key_part p i j k rfl rfl rfl rfl rfl
theorem key_PWR_EVT_CNT (p i j k : Nat) : Reg.key .PWR_EVT_CNT p i j k = p * 0x4000000 + 0x3c0010 + i * 0 + j * 0 + k * 0 :=
  key_part p i j k rfl rfl rfl rfl rfl
theorem key_PWR_RAIL_SEL (p i j k : Nat) : Reg.key .PWR_RAIL_SEL p i j k = p * 0x4000000 + 0x3c0018 + i * 0 + j * 0 + k * 0 :=
  key_part p i j k rfl rfl rfl rfl rfl
theorem key_PWR_RAIL_STS (p i j k : Nat) : Reg.key .PWR_RAIL_STS p i j k = p * 0x4000000 + 0x3c0020 + i * 0 + j * 0 + k * 0 :=
  key_part p i j k rfl rfl rfl rfl rfl
theorem key_PWR_TEMP_SEL (p i j k : Nat) : Reg.key .PWR_TEMP_SEL p i j k = p * 0x4000000 + 0x3c0028 + i * 0 + j * 0 + k * 0 :=
  key_part p i j k rfl rfl rfl rfl rfl
theorem key_PWR_TEMP_STS (p i j k : Nat) : Reg.key .PWR_TEMP_STS p i j k = p * 0x4000000 + 0x3c0030 + i * 0 + j * 0 + k * 0 :=
  key_part p i j k rfl rfl rfl rfl rfl

end Sys2Proof.Laws
end

