-- ==== Sys2Proof/Laws/Ops.lean ====
section
/-! SUPPORT. What the shared operations do and leave: flags with their counters (R9), slips (R191–R193), partition states
(R416), fault events (R472), guarded commands. -/

namespace Sys2Proof.Laws

open Sys2Proof.Machine

/-! ### Guards -/

theorem guarded_next {ok : Bool} {why : String} {t : State} (h : ok = true) : guarded ok why t = .next t := by
  simp [guarded, h]

/-- A guarded command answers a next state exactly when its condition holds. -/
theorem guarded_eq_next {ok : Bool} {why : String} {t u : State} :
    guarded ok why t = Host.Outcome.next u ↔ ok = true ∧ u = t := by
  cases ok <;> simp [guarded, notEnabled, eq_comm]

/-! ### Fields and flags -/

theorem rd_lt (s : State) (f : Fld) (p i j k : Nat) : s.rd f p i j k < 2 ^ f.width := bits_lt _ _ _

theorem rd_count_same (s : State) (f : Fld) (n p i j k : Nat) (h : f.lo + f.width ≤ 64) :
    (s.count f n p i j k).rd f p i j k = (s.rd f p i j k + n) % 2 ^ f.width := rd_wr_same _ _ _ _ _ _ _ h

theorem rd_count_ne (s : State) (f g : Fld) (n p i j k p' i' j' k' : Nat)
    (h : g.reg.key p' i' j' k' ≠ f.reg.key p i j k) : (s.count f n p i j k).rd g p' i' j' k' = s.rd g p' i' j' k' :=
  rd_wr_ne _ _ _ _ _ _ _ _ _ _ _ _ h

theorem reg_wr_ne (s : State) (f : Fld) (r : Reg) (v p i j k p' i' j' k' : Nat)
    (h : r.key p' i' j' k' ≠ f.reg.key p i j k) : (s.wr f v p i j k).reg r p' i' j' k' = s.reg r p' i' j' k' :=
  reg_setReg_ne _ _ _ _ _ _ _ _ _ _ _ _ h

theorem reg_wr_of {s : State} {f : Fld} {R r : Reg} {v p i j k p' i' j' k' : Nat} (e : f.reg = R)
    (h : ¬ r.key p' i' j' k' = R.key p i j k) : (s.wr f v p i j k).reg r p' i' j' k' = s.reg r p' i' j' k' :=
  reg_wr_ne _ _ _ _ _ _ _ _ _ _ _ _ (e ▸ h)

theorem reg_flag_ne (s : State) (f c : Fld) (r : Reg) (p i j p' i' j' k' : Nat)
    (h1 : r.key p' i' j' k' ≠ f.reg.key p i j 0) (h2 : r.key p' i' j' k' ≠ c.reg.key p i j 0) :
    (s.flag f c p i j).reg r p' i' j' k' = s.reg r p' i' j' k' := by
  unfold State.flag State.count
  rw [reg_wr_ne _ _ _ _ _ _ _ _ _ _ _ _ h2, reg_wr_ne _ _ _ _ _ _ _ _ _ _ _ _ h1]

theorem reg_flag_of {s : State} {f c : Fld} {R Q r : Reg} {p i j p' i' j' k' : Nat} (e : f.reg = R) (d : c.reg = Q)
    (h1 : ¬ r.key p' i' j' k' = R.key p i j 0) (h2 : ¬ r.key p' i' j' k' = Q.key p i j 0) :
    (s.flag f c p i j).reg r p' i' j' k' = s.reg r p' i' j' k' :=
  reg_flag_ne _ _ _ _ _ _ _ _ _ _ _ (e ▸ h1) (d ▸ h2)

/-- Setting a flag leaves every field outside the flag's and the counter's registers. -/
theorem rd_flag_ne (s : State) (f c g : Fld) (p i j p' i' j' k' : Nat)
    (h1 : g.reg.key p' i' j' k' ≠ f.reg.key p i j 0) (h2 : g.reg.key p' i' j' k' ≠ c.reg.key p i j 0) :
    (s.flag f c p i j).rd g p' i' j' k' = s.rd g p' i' j' k' := by
  unfold State.rd
  rw [reg_flag_ne _ _ _ _ _ _ _ _ _ _ _ h1 h2]

/-- The counter of a flag that the hardware sets is one more, wrapping (R9). -/
theorem rd_flag_count (s : State) (f c : Fld) (p i j : Nat) (w : c.lo + c.width ≤ 64)
    (h : c.reg.key p i j 0 ≠ f.reg.key p i j 0) :
    (s.flag f c p i j).rd c p i j = (s.rd c p i j + 1) % 2 ^ c.width := by
  unfold State.flag
  rw [rd_count_same _ _ _ _ _ _ _ w, rd_wr_ne _ _ _ _ _ _ _ _ _ _ _ _ h]

/-! ### Slips -/

/-- The registers a slip may write (R189, R191). -/
def slipKeys (p : Nat) : List Nat :=
  [Reg.SCH_EVT.key p 0 0 0, Reg.SCH_EVT_CNT.key p 0 0 0, Reg.SCH_FREEZE.key p 0 0 0, Reg.SCH_SLIP_GTC.key p 0 0 0,
   Reg.SCH_SLIP.key p 0 0 0, Reg.SCH_STS.key p 0 0 0]

/-- A slip leaves every register but the schedule's own (R189–R193). -/
theorem reg_slip (s : State) (p c : Nat) (r : Reg) (p' i j k : Nat) (h : r.key p' i j k ∉ slipKeys p) :
    (s.slip p c).reg r p' i j k = s.reg r p' i j k := by
  simp only [slipKeys, List.mem_cons, List.not_mem_nil, or_false, not_or] at h
  obtain ⟨h1, h2, h3, h4, h5, h6⟩ := h
  unfold State.slip
  split
  · simp only [State.ownFreeze]
    rw [reg_wr_of (f := F.SCH_STS_orbit) rfl h6, reg_wr_of (f := F.SCH_STS_pos) rfl h6,
      reg_wr_of (f := F.SCH_SLIP_local) rfl h5, reg_wr_of (f := F.SCH_SLIP_origin) rfl h5,
      reg_wr_of (f := F.SCH_SLIP_cause) rfl h5,
      reg_setReg_ne _ _ _ _ _ _ _ _ _ _ _ _ h4, reg_setReg_ne _ _ _ _ _ _ _ _ _ _ _ _ h3, updPart_reg,
      reg_flag_of (f := F.SCH_EVT_slip) (c := F.SCH_EVT_CNT_slip_cnt) rfl rfl h1 h2]
  · exact reg_flag_of (f := F.SCH_EVT_slip) (c := F.SCH_EVT_CNT_slip_cnt) rfl rfl h1 h2

theorem rd_slip (s : State) (p c : Nat) (f : Fld) (p' i j k : Nat) (h : f.reg.key p' i j k ∉ slipKeys p) :
    (s.slip p c).rd f p' i j k = s.rd f p' i j k := by
  unfold State.rd
  rw [reg_slip _ _ _ _ _ _ _ _ h]

theorem reg_slipIfRunning (s : State) (p c : Nat) (r : Reg) (p' i j k : Nat) (h : r.key p' i j k ∉ slipKeys p) :
    (s.slipIfRunning p c).reg r p' i j k = s.reg r p' i j k := by
  unfold State.slipIfRunning
  split
  · exact reg_slip _ _ _ _ _ _ _ _ h
  · rfl

theorem rd_slipIfRunning (s : State) (p c : Nat) (f : Fld) (p' i j k : Nat) (h : f.reg.key p' i j k ∉ slipKeys p) :
    (s.slipIfRunning p c).rd f p' i j k = s.rd f p' i j k := by
  unfold State.rd
  rw [reg_slipIfRunning _ _ _ _ _ _ _ _ h]

/-- The member's plane state is as it was after a slip: the freeze comes at its tick (R191). -/
theorem slip_state (s : State) (p c q : Nat) : ((s.slip p c).part q).state = (s.part q).state := by
  unfold State.slip
  split
  · simp only [State.ownFreeze, wr_part, setReg_part, part_updPart, flag_part]
    split <;> rfl
  · simp only [flag_part]

/-- While RUNNING with no freeze held, a slip sets the freeze tick t_d + H (R191). -/
theorem slip_running (s : State) (p c : Nat) (img : Image) (h1 : (s.part p).state = .running)
    (h2 : (s.part p).freeze = none) (h3 : (s.part p).image = some img) :
    ((s.slip p c).part p).freeze = some (Freeze.mk ((s.part p).gtc + img.horizon) (s.part p).gtc c
      ((s.flag F.SCH_EVT_slip F.SCH_EVT_CNT_slip_cnt p).ownPix p) true false false false) := by
  unfold State.slip
  rw [h1, h2, h3]
  simp only [State.ownFreeze, wr_part, setReg_part, part_updPart_same, flag_part]

/-! ### Partition states and fault events -/

/-- Entering a state shows its code in HIF_STS (R416). -/
theorem part_enter (s : State) (p : Nat) (st : PState) : ((s.enter p st).part p).state = st := by
  unfold State.enter
  split <;> simp only [wr_part, part_updPart_same]

/-- A fault event raised changes nothing of a partition but the events waiting for a number (R472). -/
theorem record_part (s : State) (p cls kind unit die eid addr info0 info1 : Nat) (ch : Bool) (q : Nat) :
    ∃ l, (s.record p cls kind unit die eid addr info0 info1 ch).part q = { s.part q with raised := l } := by
  unfold State.record
  simp only [part_updPart]
  split
  · exact ⟨_, rfl⟩
  · exact ⟨_, rfl⟩

end Sys2Proof.Laws
end

