-- ==== Sys2Proof/WellFormed.lean ====
section
/-! DEFINITION. Well-formed commands: the operands a command of its row can carry. The meanings refuse or ignore the others; no
statement assumes well-formedness to shut a case out. -/

namespace Sys2Proof

/-- Whether an engine has such a ring (R288): kinds 0 and 1 have 18, kind 2 has 17, kind 3 one on each of four buses. -/
def ringNamed (i kind n : Nat) : Bool :=
  if kind < 2 then true else if kind = 2 then decide (n < 17) else n == 17 && decide (i < 4)

/-- Well-formed operands. -/
def Instr.wellFormed : Instr → Bool
  -- registers are 8 bytes wide and aligned (R6, R429)
  | .registerWrite _ off _ _ => off.toNat % 8 == 0
  | .flagClear _ off _ => off.toNat % 8 == 0
  | .lockSet _ off _ => off.toNat % 8 == 0
  | .debugRead _ off => off.toNat % 8 == 0
  | .debugWrite _ off _ => off.toNat % 8 == 0
  -- a descriptor is 64 bytes (R413)
  | .commandFetch _ _ desc => desc.length == 64
  -- the private transfers of R405
  | .i3cRegisterWrite _ bytes => bytes.length == 14
  | .i3cReadRequest _ bytes => bytes.length == 6
  -- the rings of R288
  | .ringUpdate _ i kind n _ _ => ringNamed i kind n
  | .tableDrift _ i kind n => ringNamed i kind n
  | .recalRingDone _ i kind n _ _ => ringNamed i kind n
  | .sweepStep _ i kind n _ => ringNamed i kind n
  -- a wire is found bad once (R22)
  | .wireTestDone _ _ bad => bad.eraseDups.length == bad.length
  -- ten rails (R515)
  | .powerSample _ rails => rails.length == 10
  | _ => true

end Sys2Proof
end

