-- ==== Sys2Proof/Tests/Slice0.lean ====
section
/-! SUPPORT. Tests: for each statement, states and operands that meet its hypotheses; commands that are not well formed; one step of a
few commands; and known answers of the public standards. -/

open Sys2Proof Sys2Proof.Machine Sys2Proof.Laws

namespace Sys2Proof.Tests

set_option Elab.async false

/-! ### Bridges -/

/-- One side of a bridge in a state. -/
def brSide (b x st : Nat) (s : State := State.reset) : State := s.wr F.BRG_WIDTH_STS_state st 0 b x

/-- An empty beat that carries an acknowledgement, made as the sender makes it. -/
def beatOk : BitVec 256 × BitVec 3696 := mkBeat 0x1234 0 true 255 []

theorem test_beat_side_down : State.reset.sideUp 3 1 = false := by decide +kernel

theorem test_beat_bad_crc :
    (brSide 31 1 brActive).sideUp 31 1 = true ∧ crc32Ieee (bcrcBytes 0 0) ≠ bits (0 : BitVec 256).toNat 224 32 := by
  decide +kernel

theorem test_beat_accepted : let s := (brSide 31 1 brActive).wr F.BRG_WIDTH_STS_signature 0x1234 0 31 1
    s.sideUp 31 1 = true ∧ crc32Ieee (bcrcBytes beatOk.1 beatOk.2) = bits beatOk.1.toNat 224 32 ∧
    bits beatOk.1.toNat 0 4 = sigNibble (s.rd F.BRG_WIDTH_STS_signature 0 31 1) (bits beatOk.1.toNat 4 8 % 4) ∧
    bits beatOk.1.toNat 4 8 = (s.side 31 1).expect % 256 := by decide +kernel

theorem test_beat_bad_signature : let s := brSide 0 0 brDegraded
    s.sideUp 0 0 = true ∧ crc32Ieee (bcrcBytes beatOk.1 beatOk.2) = bits beatOk.1.toNat 224 32 ∧
    bits beatOk.1.toNat 0 4 ≠ sigNibble (s.rd F.BRG_WIDTH_STS_signature 0 0 0) (bits beatOk.1.toNat 4 8 % 4) := by decide +kernel

theorem test_beat_launch : let s := brSide 0 1 brDegraded
    s.sideUp 0 1 = true ∧ (s.side 0 1).retry.length < 255 ∧
    (s.sideState 0 1 = brDegraded → ∀ g ∈ [(false, (0 : BitVec 24), (0 : BitVec 512), (0 : BitVec 16))], g.1 = false) := by
  refine ⟨by decide +kernel, by decide +kernel, fun _ g hg => ?_⟩
  rw [List.mem_singleton.1 hg]

theorem test_bcrc_limit : let s := (brSide 5 0 brActive).updSide 5 0 fun d => { d with failTicks := List.replicate 8 0 }
    s.sideUp 5 0 = true ∧ 8 ≤ (s.side 5 0).failTicks.length := by decide +kernel

theorem test_force_retrain : (brSide 5 0 brOff).sideState 5 0 = brOff ∧ (brSide 5 0 brMap).sideTraining 5 0 = true ∧
    (brSide 5 0 brActive).sideUp 5 0 = true := by decide +kernel

theorem test_bridge_reset_release : let s := State.reset.updPart 0 fun q => { q with state := .booting }
    s.sideState 4 1 = brReset ∧ s.underReset 4 1 = false := by decide +kernel

theorem test_bridge_training : (brSide 4 1 brCalibrate).sideState 4 1 = brCalibrate ∧
    (brSide 4 1 brRetrain).sideState 4 1 = brRetrain ∧ (brSide 4 1 brWireTest).sideState 4 1 = brWireTest ∧
    (let s := brSide 4 0 brMap (brSide 4 1 brMap); s.sideState 4 0 = brMap ∧ s.sideState 4 1 = brMap) := by decide +kernel

/-! ### Clocks and group time -/

/-- Partition 0 in a state. -/
def inState (st : PState) (p : Nat := 0) (s : State := State.reset) : State := s.updPart p fun q => { q with state := st }

/-- A port in a state. -/
def portIn (q st : Nat) (s : State := State.reset) : State := s.wr F.PORT_STS_state st 0 q

theorem test_root_pll : let s := inState .booting
    (s.part 0).state = .booting ∧ s.rdB F.CLK_STS_root_lock 0 = false ∧ 0 ∈ s.parts ∧
    (s.wr F.CLK_STS_root_lock 1 0).rdB F.CLK_STS_root_lock 0 = true := by decide +kernel

theorem test_spll_unlock : let s := { State.reset with twoPart := true }.wr F.CLK_STS_spll_lock 8 1
    (s.rd F.CLK_STS_spll_lock (s.partOfOe 3)).testBit 3 = true := by decide +kernel

theorem test_refclk : (State.reset.wr F.CLK_STS_ref_present 1 0).rdB F.CLK_STS_ref_present 0 = true ∧
    (let s := State.reset.wr F.CLK_STS_holdover 1 0
     s.rdB F.CLK_STS_holdover 0 = true ∧ s.rdB F.CLK_STS_ref_present 0 = false) := by decide +kernel

theorem test_timing_words : (portIn 31 ptUp).portState 31 = ptUp ∧ bits (0x10 : BitVec 128).toNat 0 8 = 0x10 ∧
    State.reset.portState 31 ≠ ptUp ∧ State.reset.portState 31 ≠ ptUnplaced ∧ State.reset.portState 31 ≠ ptMiswired ∧
    State.reset.portState 31 ≠ ptIncompatible := by decide +kernel

theorem test_delay_valid : let s := (portIn 9 ptUp).updPort 9 fun c => { c with delays := List.replicate 4096 0 }
    (s.port 9).delays.length = 4096 ∧ s.portState 9 ≠ ptTraining := by decide +kernel

theorem test_gtc_load : let s := (State.reset.wr F.GTC_ALIGN_STS_phase 1 0).updPart 0 fun q =>
      { q with loadThetas := List.replicate 64 1 }
    s.rd F.GTC_ALIGN_STS_phase 0 = 1 ∧ (s.part 0).loadThetas.length = 64 ∧ s.isMaster 0 = false := by decide +kernel

theorem test_aligned : let s := (State.reset.wr F.GTC_ALIGN_STS_phase 2 0).updPart 0 fun q => { q with goodMeans := 100 }
    s.rd F.GTC_ALIGN_STS_phase 0 = 2 ∧ 100 ≤ (s.part 0).goodMeans ∧
    (State.reset.wr F.GTC_ALIGN_STS_phase 3 1).rd F.GTC_ALIGN_STS_phase 1 = 3 := by decide +kernel

/-! ### Engines -/

/-- An instruction word: delta, class, opcode and fields by lowest bit. -/
def ins (cls op : Nat) (fs : List (Nat × Nat) := []) (delta : Nat := 0) : InstrWord :=
  BitVec.ofNat 128 (delta * 2 ^ 112 + cls * 2 ^ 108 + op * 2 ^ 100 + (fs.map fun x => x.2 * 2 ^ x.1).sum)

/-- Engine `e` of core `n` about to run the word `w`. -/
def ready (n : Nat) (e : Eng) (w : InstrWord) (s : State := State.reset) : State :=
  s.updCore n fun k => k.updStream e fun st => { st with status := .running, instrs := [w] }

/-- The same in the scheduled plane of a running partition. -/
def readySched (n : Nat) (e : Eng) (w : InstrWord) (s : State := State.reset) : State :=
  (s.updCore n fun k => k.updStream e fun st => { st with plane := .sched, status := .running, instrs := [w] }).updPart 0
    fun q => { q with state := .running }

/-- Core 0 with every A register at an address, and every S register at a value. -/
def atSram (a : Nat := sramBase) (v : Nat := 1) : State :=
  State.reset.updCore 0 fun k => { k with
    aregs := (List.range 16).map fun i => (i, BitVec.ofNat 64 a)
    sregs := (List.range 32).map fun i => (i, BitVec.ofNat 32 v) }

/-- The word with these fields issues with this opcode in both planes, and its other operand bits are 0. -/
def Fits (n : Fin 64) (e : Eng) (op : Nat) (fs : List (Nat × Nat)) (vals : List (Nat × Nat)) : Prop :=
  let w := ins e.idx op vals
  let v := ins e.idx op vals 1
  (ready n e w).issuable n e w op ∧ ((ready n e w).issueCtx n e w).reservedOk fs = true ∧
  (readySched n e v).issuable n e v op ∧ ((readySched n e v).issueCtx n e v).reservedOk fs = true

theorem test_scalar_forms : ∀ x ∈ [(0x01, [fD, fImm32]), (0x02, [fD, fA, fB]), (0x03, [fD, fA, fB]), (0x04, [fD, fA, fB]),
      (0x05, [fD, fA, fB]), (0x06, [fD, fA, fB]), (0x07, [fD, fA, fB]), (0x08, [fD, fA, fB]), (0x09, [fD, fA, fB]),
      (0x0A, [fD, fA, fB]), (0x0B, [fD, fA, fImm32])],
    Fits 63 .scu x.1 x.2 (x.2.map fun f => (f.1, 31)) := by unfold Fits State.issuable; decide +kernel

theorem test_address_forms : ∀ x ∈ [(0x10, [fD, (21, 64)]), (0x11, [fD, fA, fB]), (0x12, [fD, fA, fImm32]),
      (0x13, [fD, fA, fB]), (0x14, [fD, fA]), (0x30, [fD]), (0x31, [fD, fA])],
    Fits 63 .scu x.1 x.2 (x.2.map fun f => (f.1, 15)) := by unfold Fits State.issuable; decide +kernel

theorem test_scalar_memory_forms : ∀ x ∈ [(0x18, [fD, fA, fImm32]), (0x1A, [fD, fA, fImm32]), (0x19, [fB, fA, fImm32]),
      (0x1B, [fB, fA, fImm32])], Fits 0 .scu x.1 x.2 (x.2.map fun f => (f.1, 8)) ∧
    (let w := ins 0 x.1 (x.2.map fun f => (f.1, 8)); let s := ready 0 .scu w atSram
     let a := s.scalarAddr (s.issueCtx 0 .scu w) 8
     a.toOption = some (sramBase + 8) ∧ (s.sramRead sramBase).2.ok = true) := by unfold Fits State.issuable; decide +kernel

/-- A stored double-bit error: the load faults. -/
theorem test_scalar_load_data_check : let s := State.reset.setSramSide sramBase { check := 0, poison := false, err := 3 }
    (s.sramRead sramBase).2.ok = false := by decide +kernel

theorem test_stream_control : (∀ e, Fits 5 e 0x00 [] []) ∧ (∀ e, Fits 5 e 0xF3 [] []) ∧
    (∀ e, Fits 5 e 0xF4 [(84, 16), (72, 12)] [(84, 65535), (72, 4095)]) ∧
    Fits 5 .scu 0x28 [fA, fB, (53, 16), (50, 3)] [(90, 31), (85, 31), (53, 65535)] ∧
    Fits 5 .scu 0x29 [(53, 16)] [(53, 65535)] ∧ branchTaken 0 32 0 0 = some true ∧ branchTaken 0 32 0 1 = some false := by
  refine ⟨fun e => ?_, fun e => ?_, fun e => ?_, ?_, ?_, by decide +kernel, by decide +kernel⟩ <;> try cases e
  all_goals unfold Fits State.issuable; decide +kernel

theorem test_stream_faults : let w := ins 0 0xEE; let v := ins 0 0; let u := ins 0 0 [] 1
    (ready 5 .scu w).mayIssue 5 .scu w = true ∧ ¬ (classOf w = Eng.idx .scu ∧ assigned (Eng.idx .scu) (opcodeOf w) = true) ∧
    (readySched 5 .scu v).mayIssue 5 .scu v = true ∧ bits v.toNat 112 16 = 0 ∧
    (let s := (readySched 5 .scu u).updCore 5 fun k => k.updStream .scu fun st => { st with busy := 99 }
     s.mayIssue 5 .scu u = true ∧ bits u.toNat 112 16 ≠ 0 ∧ (s.issueCtx 5 .scu u).tick < (s.stream 5 .scu).busy) := by
  decide +kernel

theorem test_semaphore_forms : (∀ e, Fits 7 e 0xF0 [(94, 6), (78, 16)] [(94, 63), (78, 65535)]) ∧
    (∀ e, Fits 7 e 0xF1 [(94, 6), (78, 16), (77, 1)] [(94, 63), (78, 65535)]) ∧
    (∀ e, Fits 7 e 0xF2 [(98, 2)] []) := by
  refine ⟨fun e => ?_, fun e => ?_, fun e => ?_⟩ <;> cases e
  all_goals unfold Fits State.issuable; decide +kernel

/-- Enough and too little for SEMWAIT in the scheduled plane. -/
theorem test_semwait_counts : let s := State.reset.updCore 7 fun k => { k with sems := [(63, 65535)] }
    65535 ≤ (s.core 7).sem 63 ∧ (s.core 7).sem 62 < 1 := by decide +kernel

theorem test_semaphore_serve :
    (let s := (ready 7 .vxe 0).updCore 7 fun k => { k with
        sems := [(3, 9)], vxe := { k.vxe with status := .waitSem 3 9 }, scu := { k.scu with status := .running }
        mxe := { k.mxe with status := .running }, dmx := { k.dmx with status := .running } }
     (s.core 7).arriving = [] ∧ (s.stream 7 .vxe).status = .waitSem 3 9 ∧ (s.stream 7 .scu).status = .running ∧
     (s.stream 7 .mxe).status = .running ∧ (s.stream 7 .dmx).status = .running ∧ 9 ≤ (s.core 7).sem 3) ∧
    (let s := (ready 7 .vxe 0 (ready 7 .scu 0 (ready 7 .mxe 0 (ready 7 .dmx 0)))).updCore 7 fun k => { k with
        sems := [(3, 65535)], arriving := [(3, 1)] }
     (s.core 7).arriving = [(3, 1)] ∧ (s.stream 7 .vxe).status = .running ∧ (s.stream 7 .scu).status = .running ∧
     (s.stream 7 .mxe).status = .running ∧ (s.stream 7 .dmx).status = .running ∧ 65535 < (s.core 7).sem 3 + 1) := by
  decide +kernel

theorem test_fences :
    (let f : Fence := { scope := .core, transfers := [], targets := [], issued := 0, timedOut := false }
     let s := State.reset.updCore 7 fun k => k.updStream .mxe fun st => { st with status := .waitFence f }
     (s.stream 7 .mxe).status = .waitFence f ∧ s.contained (s.partOfCore 7) = false ∧
     (s.fenceMoved 7 (s.partOfCore 7) f).fenceMet 7 (s.partOfCore 7) f = true) ∧
    (let f : Fence := { scope := .sys, transfers := [], targets := [(5, 1)], issued := 0, timedOut := false }
     let s := State.reset.updCore 7 fun k => k.updStream .mxe fun st => { st with status := .waitFence f }
     (s.stream 7 .mxe).status = .waitFence f ∧ s.fenceMet 7 (s.partOfCore 7) f = false) := by decide +kernel

/-- Core 3 with one result under way. -/
def withPend (es : List Effect) (s : State := State.reset) : State :=
  s.updCore 3 fun k => { k with pends := [{ eng := .vxe, index := 7, due := 0, effects := es }] }

theorem test_results_under_way : ∀ es ∈ ([[.sreg 31 5], [.areg 15 5], [.vreg 63 0],
      [.accTag true true, .accRows true 255 [0], .rowSums true 255 [{ sum := 0, valid := true }]],
      [.writeGran sramBase 1 0], [.writeBytes (sramBase + 60) [1, 2, 3, 4]]] : List (List Effect)),
    (((withPend es).core 3).pends[0]?.map (·.effects)) = some es ∧
    (((withPend es).core 3).pends[0]?.map fun r => ((withPend es).core 3).pends.any r.after) = some false := by decide +kernel

/-- R105: of two results for one S register at one tick the SCU's is delivered first, so that the VXE's remains. -/
theorem test_vxe_write_remains : let q : Pend := { eng := .scu, index := 0, due := 9, effects := [.sreg 4 1] }
    let r : Pend := { eng := .vxe, index := 0, due := 9, effects := [.sreg 4 2] }
    let s := State.reset.updCore 3 fun k => { k with pends := [r, q] }
    (s.core 3).pends.any r.after = true ∧ (s.core 3).pends.any q.after = false := by decide +kernel

theorem test_write_home : State.reset.home 0 (sramBase + 60) = .sram (sramBase + 60) ∧ (sramBase + 60) % 64 + 4 ≤ 64 ∧
    sramBase % 64 = 0 ∧ (State.reset.sramRead ((sramBase + 60) / 64 * 64)).2.ok = true ∧
    ((State.reset.setSramSide sramBase { check := 0, poison := true, err := 0 }).sramRead
      ((sramBase + 60) / 64 * 64)).2.ok = false := by decide +kernel

/-- MMA and MWS operands: formats at [96, 92], scale mode at 90, K blocks and row. -/
def mmaVals (fa smode init : Nat) : List (Nat × Nat) := [(96, fa), (92, fa), (90, smode), (89, 1), (88, init), (31, 1)]
def mwsVals (fa smode init : Nat) : List (Nat × Nat) :=
  [(96, fa), (92, fa), (90, smode), (89, 1), (88, init), (23, 1), (20, 7), (12, 248)]

theorem test_mma_operands : ∀ sm ∈ [0, 2], let w := ins 1 1 (mmaVals 7 sm 0); let s := ready 0 .mxe w atSram
    let c := s.issueCtx 0 .mxe w
    s.mayIssue 0 .mxe w = true ∧ classOf w = 1 ∧ opcodeOf w = 1 ∧ mxeFmt (c.f 96 4) = some .e2m1 ∧
    blockSize .e2m1 .e2m1 (c.f 90 2) = some 32 ∧ c.f 0 7 = 0 ∧ c.f 31 16 ≠ 0 ∧
    (s.mxeOperand c (c.f 83 4) (c.f 71 12) 4096 false).toOption = some sramBase ∧
    (s.mxeOperand c (c.f 67 4) (c.f 55 12) 4096 true).toOption = some sramBase ∧
    (s.mxeOperand c (c.f 51 4) (c.f 19 12) 256 false).toOption = some sramBase ∧
    (s.mxeOperand c (c.f 47 4) (c.f 7 12) 256 true).toOption = some sramBase ∧
    ((s.core 0).bank true).int = intResult .e2m1 .e2m1 (c.f 90 2) := by decide +kernel

/-- Every operand read of storage that holds no error succeeds. -/
theorem test_clean_reads (w : InstrWord) (e : Eng) (a n : Nat) : ((ready 0 e w atSram).readOp a n).ok = true ∧
    (((ready 0 e w atSram).readOp a n).s.readOp a n).ok = true := by
  have h := readOp_clean (ready 0 e w atSram) rfl rfl a n
  exact ⟨h.2, by rw [h.1]; exact h.2⟩

/-- The other clauses: the bank holds the other result type, and an operand lies in HBM. -/
theorem test_mma_faults : ((State.reset.core 0).bank true).int ≠ intResult .int8 .int8 0 ∧
    (let w := ins 1 1 (mmaVals 7 0 1); let s := ready 0 .mxe w (atSram 0)
     (s.mxeOperand (s.issueCtx 0 .mxe w) 0 0 4096 false).toOption = none) := by decide +kernel

theorem test_mws_operands : ∀ sm ∈ [0, 1], let w := ins 1 2 (mwsVals 7 sm 1); let s := ready 0 .mxe w atSram
    let c := s.issueCtx 0 .mxe w
    s.mayIssue 0 .mxe w = true ∧ classOf w = 1 ∧ opcodeOf w = 2 ∧ mxeFmt (c.f 96 4) = some .e2m1 ∧
    (blockSize .e2m1 .e2m1 (c.f 90 2)).isSome ∧ c.f 0 12 = 0 ∧ c.f 23 16 ≠ 0 ∧ c.f 12 8 + (c.f 20 3 + 1) ≤ 256 ∧
    (s.mxeOperand c (c.f 83 4) (c.f 71 12) (8 * 256) false).toOption = some sramBase ∧
    (s.mxeOperand c (c.f 67 4) (c.f 55 12) (256 * 128) true).toOption = some sramBase ∧
    (s.mxeOperand c (c.f 51 4) (c.f 39 12) (16 * 256) true).toOption = some sramBase := by decide +kernel

theorem test_sram_queue : (State.reset.updPart 0 fun q => { q with state := .running }).running 0 = true := by decide +kernel

theorem test_accumulator_forms : ∀ x ∈ [(0x03, [(99, 1), (98, 1), (90, 8), (82, 8), (78, 4), (66, 12), (65, 1)]),
      (0x04, [(99, 1), (90, 8), (82, 8), (78, 4), (66, 12)]), (0x05, [(99, 1), (98, 1)])],
    let w := ins 1 x.1 [(99, 1), (90, if x.1 = 5 then 0 else 255)]; let s := ready 0 .mxe w atSram; let c := s.issueCtx 0 .mxe w
    s.mayIssue 0 .mxe w = true ∧ classOf w = 1 ∧ opcodeOf w = x.1 ∧ c.reservedOk x.2 = true ∧
    c.f 90 8 + (c.f 82 8 + 1) ≤ 256 ∧ (s.mxeOperand c (c.f 78 4) (c.f 66 12) 1024 false).toOption = some sramBase := by decide +kernel

theorem test_vector_forms : ∀ x ∈ [(0x01, [fVd, fVa, fVb, fVt]), (0x02, [fVd, fVa, fVb, fVt]), (0x03, [fVd, fVa, fVb, fVt]),
      (0x04, [fVd, fVa, fVb, fVc, fVt]), (0x05, [fVd, fVa, fVb, fVt]), (0x06, [fVd, fVa, fVb, fVt]),
      (0x07, [fVd, fVa, fVt, fSa]), (0x08, [fVd, fVa, fVt, fSa]), (0x09, [fVd, fVa, fVt, fSa, fSb]),
      (0x0A, [fVd, fVa, fVb, fVc, fVt]), (0x0B, [fVd, fVa, fVb, fVt, (61, 3)]), (0x0C, [fVd, fVa, fVb, fVt]),
      (0x0D, [fVd, fVa, fVb, fVt]), (0x0E, [fVd, fVa, fVb, fVt]), (0x0F, [fVd, fVa, fVb, fVt]), (0x10, [fVd, fVa, fVb, fVt]),
      (0x26, [fVd, fVt, fSa]), (0x23, [fVd, fVt, fSa]), (0x24, [fVd, fVa, fVt, fSa]), (0x25, [fVa, fVt, fSa, (59, 5)])],
    Fits 63 .vxe x.1 x.2 (x.2.map fun f => (f.1, if f.1 = 74 then 2 else if f.1 = 61 then 3 else 31)) ∧
    bits (ins 2 x.1 [(74, 2), (61, 3)]).toNat 74 2 = 2 := by unfold Fits State.issuable; decide +kernel

theorem test_function_forms : (∀ op ∈ [0x11, 0x12, 0x13, 0x14, 0x15, 0x16],
      Fits 63 .vxe op [fVd, fVa, fVt] [(94, 63), (88, 63)] ∧ Fits 63 .vxe op [fVd, fVa, fVt] [(74, 1)]) ∧
    Fits 63 .vxe 0x17 [fVd, fVa, fVt, fSa, fSb] [(69, 31), (64, 31)] ∧
    Fits 63 .vxe 0x18 [fVd, fVa, fVt, (47, 17)] [(62, 1), (60, 2), (47, 1)] ∧
    Fits 63 .vxe 0x18 [fVd, fVa, fVt, (47, 17)] [(74, 1), (62, 2), (47, 1)] := by
  refine ⟨?_, ?_, ?_, ?_⟩ <;> unfold Fits State.issuable <;> decide +kernel

/-- VLD of E4M3 with 32-lane block scales, VST and VQST, whose addresses A[0] gives. -/
theorem test_vector_memory_forms : ∀ x ∈ [(0x19, [(20, 3), (18, 2)], [fVd, fVt, (14, 50)]), (0x19, [(20, 10), (74, 2)], [fVd, fVt, (14, 50)]),
      (0x1A, [(20, 1), (18, 2)], [fVa, fVt, (6, 58)]), (0x1B, [(20, 9), (18, 1), (16, 2)], [fVa, fVt, (0, 64)])],
    let w := ins 2 x.1 x.2.1; let s := ready 0 .vxe w atSram; let c := s.issueCtx 0 .vxe w
    s.mayIssue 0 .vxe w = true ∧ classOf w = 2 ∧ opcodeOf w = x.1 ∧ c.reservedOk x.2.2 = true ∧
    (s.vxeAddr c 1024).toOption = some sramBase ∧ (s.scaleAddr c 0 16 8).toOption = some sramBase ∧
    (Fmt.ofCode (c.f 20 4)).isSome ∧ (x.1 = 0x19 → (vldFmts c.vt).contains (c.f 20 4) = true) := by decide +kernel

/-- A vector address in HBM is out of range. -/
theorem test_vector_address_fault : let w := ins 2 0x19 [(20, 3)]; let s := ready 0 .vxe w (atSram 0)
    (s.vxeAddr (s.issueCtx 0 .vxe w) 256).toOption = none := by decide +kernel

theorem test_reduction_forms : (∀ op ∈ [0x1D, 0x1E, 0x1F], ∀ vt ∈ [1, 2],
      Fits 63 .vxe op [fVa, fVt, (53, 11)] [(88, 1), (74, vt), (53, 62), (59, 31)]) ∧
    Fits 63 .vxe 0x20 [fVd, fVa, fVt, fSa, (50, 14)] [(94, 62), (88, 46), (55, 256), (51, 15), (50, 1)] ∧
    Fits 63 .vxe 0x21 [fVa, fVb, fVt, (43, 21)] [(88, 48), (82, 32), (60, 15), (43, 31)] ∧
    Fits 63 .vxe 0x1C [fVd, (51, 13)] [(94, 63), (63, 1), (55, 255), (54, 1), (51, 7)] ∧
    Fits 63 .vxe 0x22 [fVa, fVt, (45, 19)] [(88, 63), (61, 7), (45, 65535)] := by
  refine ⟨?_, ?_, ?_, ?_, ?_⟩ <;> unfold Fits State.issuable <;> decide +kernel

/-- A latch not valid, one that agrees with a row of zeros, and one that does not. -/
theorem test_checksum_latches : (State.reset.core 0 |>.latch 0).valid = false ∧
    checkRow (lanesOf 0 0) 0 0x2000 = none ∧ (checkRow (lanesOf 0 0) 0x3F800000 0x2000).isSome := by decide +kernel

/-! ### Data mover and gather engines -/

/-- Core 0's transfer 0 of one granule within its tile. -/
def xferDesc (dst : Nat) : Nat := sramBase + dst * 2 ^ 64 + 64 * 2 ^ 128 + 2 ^ 152 + 2 ^ 168
def withXfer (x : Transfer) : State := State.reset.updCore 0 fun k => { k with transfers := [x] }
def xfer (dst : Nat) : Transfer := { id := 0, desc := BitVec.ofNat 512 (xferDesc dst), plane := .free, index := 0, issued := 0 }

theorem test_dxfer_form : let w := ins 3 1 []; let s := ready 0 .dmx w atSram; let c := s.issueCtx 0 .dmx w
    s.mayIssue 0 .dmx w = true ∧ classOf w = 3 ∧ opcodeOf w = 1 ∧ c.reservedOk [(96, 4), (72, 24), (60, 12)] = true ∧
    (s.core 0).transfers.length < 64 ∧ (s.descAddr c).toOption = some sramBase ∧ (s.readOp sramBase 64).ok = true ∧
    (descFault (s.readOp sramBase 64).val).isSome ∧ descFault (xferDesc (sramBase + 64)) = none := by decide +kernel

theorem test_transfer : let x := xfer (sramBase + 64); let s := withXfer x
    (s.core 0).transfer? 0 = some x ∧ s.contained 0 = false ∧ x.total = 1 ∧ x.next = 0 ∧ x.held = [] ∧ x.out = 0 ∧
    x.fail = none ∧ s.srcEnd 0 x 0 = .sram sramBase ∧ s.dstEnd 0 x 0 = .sram (sramBase + 64) ∧
    (s.sramRead sramBase).2.ok = true ∧ s.transferAwaits 0 0 0 = false ∧ s.transferQueued 0 0 0 = false := by decide +kernel

theorem test_transfer_moved : let x := xfer (sramBase + 64)
    let m := ({ s := withXfer x, t := x, stuck := false } : Mover).pump 0 0 true x.total
    m.t.next = x.total ∧ m.t.out = 0 ∧ m.t.fail = none ∧ m.s.transferAwaits 0 0 0 = false ∧
    m.s.transferQueued 0 0 0 = false := by decide +kernel

theorem test_transfer_failed : let x := xfer (sramBase + 64)
    let s := (withXfer x).setSramSide sramBase { check := 0, poison := true, err := 0 }
    let m := ({ s := s, t := x, stuck := false } : Mover).pump 0 0 true x.total
    m.t.fail = some m.t.next := by decide +kernel

/-- Gather engine 0 with one thread of a launch of this script. -/
def withThread (sc : List InstrWord) (h : Thread := { launch := 0, index := 0, regs := [], buf := 0, pc := 0, access := none })
    (args : Nat := sramBase) (semEn : Bool := true) : State :=
  State.reset.updGather 0 fun g => { g with
    threads := [h]
    launches := [{ id := 0, core := 0, script := sc, args := args, nth := 1, sem := 63, semEn := semEn, started := 1,
                   ended := 0, failed := false }] }

theorem test_script_forms : ∀ x ∈ ([(0x00, [], []), (0x04, [(97, 3), (94, 3), (91, 3)], [(97, 7)]), (0x05, [(97, 3), (94, 3), (57, 32)], [(57, 5)]),
      (0x06, [(97, 3), (94, 3), (57, 32)], [(57, 5)]), (0x07, [(97, 3), (94, 3), (88, 6)], [(88, 63)]),
      (0x08, [(97, 3), (94, 3), (57, 32)], [(57, 5)]), (0x0A, [(97, 3), (94, 3), (91, 3), (87, 4)], [(87, 15)]),
      (0x01, [(97, 3), (95, 2), (89, 6), (57, 32)], [(95, 3)]), (0x02, [(97, 3), (94, 3), (57, 32)], []),
      (0x03, [(97, 3), (95, 2), (89, 6), (57, 32)], [(95, 3)]),
      (0x09, [(97, 3), (95, 2), (94, 1), (91, 3), (88, 3), (85, 3)], [(95, 3), (85, 7)]), (0x0F, [], [])]
      : List (Nat × List (Nat × Nat) × List (Nat × Nat))),
    let w := ins 4 x.1 x.2.2; let s := withThread [w, ins 4 0x0F]
    (s.thread? 0 0 0).isSome ∧ ((s.gather 0).launches.find? fun z => z.id == 0).isSome ∧ [w, ins 4 0x0F][0]? = some w ∧
    s.contained 0 = false ∧ classOf w = 4 ∧ opcodeOf w = x.1 ∧ clearFields (w.toNat % 2 ^ 100) x.2.1 = 0 := by decide +kernel

/-- The kinds of target of a narrow access: SRAM, the set-up window, no address, HBM; a buffer place and an address that are not aligned. -/
theorem test_narrow_targets : let s := State.reset
    s.target 0 sramBase = .here sramBase ∧ s.home 0 sramBase = .sram sramBase ∧ s.target 0 (2 ^ 42) = .bad ∧
    s.target 0 regsBase = .here regsBase ∧ s.home 0 regsBase = .window 0 ∧
    (match s.home 0 64 with | .hbm _ _ _ _ => true | _ => false) = true ∧ 4 % 8 ≠ 0 ∧
    branchTaken 0 64 0 0 = some true := by decide +kernel

theorem test_glaunch_form : let w := ins 0 0x38 [(99, 1), (95, 1), (91, 2), (86, 5), (80, 63), (79, 1)]
    let s := ready 0 .scu w (atSram sramBase 1280); let c := s.issueCtx 0 .scu w; let k := s.core 0
    s.mayIssue 0 .scu w = true ∧ classOf w = 0 ∧ opcodeOf w = 0x38 ∧
    c.reservedOk [(99, 1), (95, 4), (91, 4), (86, 5), (80, 6), (79, 1)] = true ∧ 1 ≤ k.S (c.f 86 5) ∧ k.S (c.f 86 5) ≤ 1280 ∧
    s.launchesTaken 1 < 16 ∧ (s.readScript c.p sramBase 4 []).2.2.1 = true ∧ (s.sramReach c.p (k.A (c.f 95 4))).toOption = some sramBase ∧ sramBase % 64 = 0 ∧
    (s.sramReach c.p (sramBase + 8)).toOption = some (sramBase + 8) ∧ (sramBase + 8) % 64 ≠ 0 := by decide +kernel

/-- A script that a GBR at index 2 leads past the GEND at index 3 is copied to its second granule; one that ends there is not. -/
theorem test_script_extent : let nop := ins 4 0; let e := ins 4 0x0F; let b := ins 4 0x0A [(87, 1)]
    ((scriptReach [nop, nop, b, e]).any fun i => decide (4 ≤ i)) = true ∧
    ((scriptReach [nop, nop, nop, e]).any fun i => decide (4 ≤ i)) = false := by decide +kernel

theorem test_thread_start : let y : Launch :=
      { id := 0, core := 0, script := [ins 4 0x0F], args := sramBase, nth := 2, sem := 0, semEn := false, started := 0, ended := 0,
        failed := false }
    let s := State.reset.updGather 31 fun g => { g with launches := [y] }
    (s.gather 31).launches.find? (fun z => decide (z.started < z.nth)) = some y ∧
    (s.gather 31).launches.find? (fun z => z.id == y.id) = some y ∧ s.thread? 31 y.id y.started = none ∧
    (s.gather 31).threads.length < maxThreads ∧ s.contained (s.partOfGather 31) = false ∧ s.held.contains (31 / 2) = false ∧
    0 < y.script.length ∧ (y.args + 8 * y.started) % 8 = 0 ∧
    s.target (s.partOfGather 31) (y.args + 8 * y.started) = .here sramBase ∧
    s.home (s.partOfGather 31) sramBase = .sram sramBase ∧ (s.sramRead (sramBase / 64 * 64)).2.ok = true := by decide +kernel

theorem test_narrow_answer : ∀ a ∈ ([{ addr := sramBase, size := 8, op := .loadReg 7, away := true, answer := some (.value 5) },
      { addr := sramBase, size := 8, op := .load 56 8, away := true, answer := some (.value 5) },
      { addr := sramBase, size := 8, op := .load 0 8, away := true, answer := some (.failed .dataCheck) },
      { addr := sramBase, size := 8, op := .store [1, 2, 3, 4, 5, 6, 7, 8], away := false, answer := none }] : List Narrow),
    let h : Thread := { launch := 0, index := 0, regs := [], buf := 0, pc := 0, access := some a }
    let s := withThread [ins 4 2, ins 4 0x0F] h
    s.thread? 0 0 0 = some h ∧ ((s.gather 0).launches.find? fun z => z.id == 0).isSome ∧ h.access = some a ∧
    h.pc + 1 < [ins 4 2, ins 4 0x0F].length ∧ s.target (s.partOfGather 0) a.addr = .here sramBase ∧
    s.home (s.partOfGather 0) sramBase = .sram sramBase ∧ sramBase % 64 + 8 ≤ 64 ∧
    (s.sramRead (sramBase / 64 * 64)).2.ok = true := by decide +kernel

/-! ### The scheduled plane -/

/-- Bytes with values at offsets. -/
def filed (n : Nat) (fs : List (Nat × Nat)) : List Byte := toLE n (fs.map fun x => x.2 * 256 ^ x.1).sum

/-- A command of ring 0 whose checks have passed, and a state that holds it open. -/
def cmd (op : Nat) (args : List (Nat × Nat) := []) (ext : List Byte := []) (stage : Nat := 0) : OpenCmd :=
  { src := .ring 0, desc := filed 64 ((0, op) :: args), ext := ext, checked := true, stage := stage, note := 0, orphan := false }
def opened (o : OpenCmd) (s : State := State.reset) : State := s.updPart 0 fun q => { q with opens := [o] }

/-- An image of one member with nothing in it, as a file and as loaded; a placement of one member and of two. -/
def imgFile : List Byte := filed 256 [(0, 0x5442524F), (4, 1), (8, 72), (0x10, 1), (0x14, 256)]
def img0 : Image :=
  { fl := 0, divisor := 0, length := 72, orbits := 0, members := 1, horizon := 256, hop := 0, build := 0, hash := [], plcHash := []
    streams := [], slots := [], budgets := [], refresh := [], landing := [], forecast := [], groups := [], data := [] }
def tableFile (ok : Bool) : List Byte := filed 256 [(0, 0x544C4350), (4, if ok then 1 else 2), (6, 1), (0x10, 5), (64, 5), (72, 255)]
def pl1 : Placement :=
  { topology := 0, dimX := 1, dimY := 1, dimZ := 1, master := 5, own := 5, hash := [], diameter := 0
    members := [{ pix := 5, x := 0, y := 0, z := 0, upstream := 255, serial := 0, ports := [{ nbrPix := 7, nbrPort := 0, dir := 1 }] }] }
def pl2 : Placement := { pl1 with
  members := pl1.members ++ [{ pix := 7, x := 1, y := 0, z := 0, upstream := 0, serial := 0, ports := [{ nbrPix := 5, nbrPort := 0, dir := 2 }] }] }

/-- A partition in a state with the image and a placement. -/
def placed (st : PState) (pl : Placement := pl1) (im : Image := img0) : State :=
  (State.reset.updPart 0 fun q => { q with state := st, placement := some pl, image := some im }).wr F.NET_STS_pix 5 0

theorem test_load_image : (∀ good ∈ [true, false],
    let o := cmd 0x10 [(0x10, 256)] (if good then imageHash imgFile else [])
    let s := opened o ((inState .loaded).updPart 0 fun q => { q with
      windows := [(0, BitVec.ofNat 256 (256 * 2 ^ 64 + 2 ^ 162 + 2 ^ 163))], conns := [(0, { up := true, sp := 0, hostQpn := 0 })] })
    let x := s.imageFile 0 o (some imgFile)
    s.readyCmd 0 0 0x10 o ∧ x.1 = s ∧ x.2.toOption = some imgFile ∧ (decide (imageHash imgFile = o.ext.take 48) = good) ∧
    s.imageFaults 0 imgFile = [] ∧ s.imageFaults 0 [] ≠ []) := by unfold State.readyCmd; decide +kernel

theorem test_set_placement : ∀ ok : Bool, let o := cmd 0x11 [(8, 5)] (tableFile ok); let s := opened o (inState .idle)
    s.readyCmd 0 0 0x11 o ∧ s.placementOk o.ext (bits o.arg0 0 14) = ok := by unfold State.readyCmd; decide +kernel

/-- Everything ARM asks of a master. -/
def armable (pl : Placement) (o : OpenCmd) : State :=
  (List.range 32).foldl (fun s b => brSide b 0 brActive (brSide b 1 brActive s))
    (((opened o (placed .loaded pl)).wr F.GTC_CTL_master 1 0).wr F.CLK_STS_root_lock 1 0)

theorem test_arm : let o := cmd 0x12; ∀ x ∈ [(pl1, true), (pl2, false)], let s := armable x.1 o
    let u := ((s.setReg .SCH_CONJ 0 0).setReg .SCH_FREEZE 0 0).setReg .SCH_STS 1 0
    s.readyCmd 0 0 0x12 o ∧ u.armFails 0 = none ∧ (s.part 0).placement = some x.1 ∧ (s.part 0).image = some img0 ∧
    (x.1.children x.1.own).all (s.part 0).ready.contains = x.2 ∧ s.isMaster 0 = true := by unfold State.readyCmd; decide +kernel

theorem test_arm_fails : let o := cmd 0x12; let s := opened o (inState .loaded)
    s.readyCmd 0 0 0x12 o ∧ ((((s.setReg .SCH_CONJ 0 0).setReg .SCH_FREEZE 0 0).setReg .SCH_STS 1 0).armFails 0).isSome := by
  unfold State.readyCmd; decide +kernel

/-- A notice as its 256-bit payload. -/
def noticeW (origin kind code a b : Nat) : BitVec 256 :=
  BitVec.ofNat 256 (origin + kind * 2 ^ 16 + code * 2 ^ 24 + a * 2 ^ 32 + b * 2 ^ 96)

/-- Partition 0 has accepted this notice before. -/
def knowing (w : BitVec 256) (s : State) : State :=
  s.updPart 0 fun q => { q with seen := [((noticeOf w).kind, (noticeOf w).origin, (noticeOf w).a, 0)] }

theorem test_arm_notices : (∀ k ∈ [kArmed, kArmFail, kStart, kStop, kSlip, kHalt, kArmReady], let w := noticeW 7 k 3 0 9
      (noticeOf w).kind = k ∧ (knowing w (placed .loaded)).knows 0 (noticeOf w) = true ∧
      (placed .armed).knows 0 (noticeOf w) = false) ∧
    (let w := noticeW 7 kArmReady 0 0 0
     leAt img0.hash 0 8 = (noticeOf w).a ∧ leAt img0.plcHash 0 8 = (noticeOf w).b ∧ ((placed .loaded).part 0).armed = false) ∧
    (let o := cmd 0x12 [] [] 1; let s := opened o (placed .loaded)
     o ∈ s.waitingOn 0 0x12 ∧ (s.part 0).opens.filter (fun x => x.src == o.src) = [o] ∧ (s.part 0).state = .loaded) := by decide +kernel

theorem test_start : (let o := cmd 0x13; (opened o (placed .armed)).readyCmd 0 0 0x13 o ∧ (opened o (placed .armed)).isMaster 0 = false) ∧
    (∀ x ∈ [0, 71, 72, 45000], let o := cmd 0x13 [(8, x)]; let s := (opened o (placed .armed)).wr F.GTC_CTL_master 1 0
      s.readyCmd 0 0 0x13 o ∧ s.isMaster 0 = true ∧ o.arg0 = x ∧ (s.part 0).gtc = 0) := by unfold State.readyCmd; decide +kernel

theorem test_run_start : ∀ late : Bool, let s := (placed .armed).updPart 0 fun q => { q with t0 := some 72, lateStart := late }
    (s.part 0).state = .armed ∧ (s.part 0).t0 = some 72 ∧ (s.part 0).image = some img0 ∧ (s.part 0).lateStart = late := by
  decide +kernel

/-- A freeze at tick `tf`. -/
def freezeAt (tf : Nat) (frozen : Bool) : Freeze :=
  { tf := tf, td := 0, cause := 4, origin := 5, isLocal := true, late := false, launched := false, frozen := frozen }
def frozenAt (tf : Nat) (frozen : Bool) (s : State) : State := s.updPart 0 fun q => { q with freeze := some (freezeAt tf frozen) }

/-- The next conjunction is at 72: a freeze before it, a freeze after it, a stop at it, one after it, and the last orbit. -/
theorem test_conjunctions : let s := placed .running
    (s.part 0).state = .running ∧ (s.part 0).image = some img0 ∧ (s.part 0).freeze = none ∧ (s.part 0).stopAt = none ∧
    img0.orbits = 0 ∧ (s.part 0).conj + 72 * ((img0.length + 71) / 72) = 72 ∧
    ((frozenAt 72 false s).part 0).freeze = some (freezeAt 72 false) ∧ (72 ≤ 72 ∧ 72 < 73) ∧
    ((s.updPart 0 fun q => { q with stopAt := some 72 }).part 0).stopAt = some 72 ∧
    ((placed .running pl1 { img0 with orbits := 1 }).part 0).orbit + 1 = 1 := by decide +kernel

theorem test_stop : (∀ st ∈ [PState.running, .armed], let o := cmd 0x14; let s := (opened o (placed st)).wr F.GTC_CTL_master 1 0
      s.readyCmd 0 0 0x14 o ∧ s.isMaster 0 = true ∧ (s.part 0).state = st ∧ (s.part 0).image = some img0 ∧ 0 < img0.length ∧
      (s.part 0).conj ≤ (s.part 0).gtc) ∧
    (let o := cmd 0x14; (opened o).readyCmd 0 0 0x14 o ∧ (opened o).isMaster 0 = false) := by unfold State.readyCmd; decide +kernel

theorem test_stop_notices : (noticeOf (noticeW 7 kStop 0 144 0)).a ≠ 0 ∧ (noticeOf (noticeW 7 kStop 0 0 0)).a = 0 ∧
    ((placed .running).part 0).state = .running ∧ ((placed .armed).part 0).state = .armed := by decide +kernel

theorem test_halt_at : ∀ x ∈ [255, 256], let o := cmd 0x15 [(8, x)]
    let s := ((opened o (placed .running)).wr F.GTC_CTL_master 1 0)
    s.readyCmd 0 0 0x15 o ∧ s.isMaster 0 = true ∧ o.arg0 = x ∧ (s.part 0).gtc + s.horizon 0 = 256 ∧ s.running 0 = true ∧
    (s.part 0).freeze = none ∧ (opened o).isMaster 0 = false ∧ (opened o).readyCmd 0 0 0x15 o := by unfold State.readyCmd; decide +kernel

theorem test_freezes : let s := frozenAt 500 false (placed .running); let t := frozenAt 500 true (placed .running)
    (s.part 0).freeze = some (freezeAt 500 false) ∧ (freezeAt 500 false).isLocal = true ∧ (freezeAt 500 false).launched = false ∧
    s.running 0 = true ∧ (freezeAt 500 false).frozen = false ∧ (t.part 0).freeze = some (freezeAt 500 true) ∧ t.running 0 = true ∧
    (freezeAt 500 true).frozen = true ∧ ((placed .running).part 0).freeze = none ∧ (placed .armed).running 0 = false ∧
    (∀ b ∈ [499, 501], let w := noticeW 7 kSlip 4 1 b
      (noticeOf w).b = b ∧ (s.part 0).gtc < (noticeOf w).b ∧ s.knows 0 (noticeOf w) = false) := by decide +kernel

/-- Port 0's slots in the image, and a scheduled frame for it. -/
def slotImg (recv : Bool) (unit : Nat) : Image := { img0 with slots := [{ port := 0, first := 3, count := 2, recv := recv, unit := unit }] }
def vcf : VcFrame := { unit := 9, port := 0, dstPix := 5, dstUnit := 9, gidx := 0, data := [(1, 2)], owner := none }

theorem test_send_slot : let s := (placed .running pl1 (slotImg false 9)).updPart 0 fun q => { q with sendq := [vcf] }
    s.slotOf 0 4 false = some { port := 0, first := 3, count := 2, recv := false, unit := 9 } ∧ s.running 0 = true ∧
    s.schedStopped 0 = false ∧ (frozenAt 9 true s).schedStopped 0 = true ∧ s.frameFor 0 vcf = true ∧ (s.part 0).sendq = [vcf] ∧
    ((placed .running).part 0).sendq = [] := by decide +kernel

/-- A frame of one granule for UNIT `u` of package `pix`. -/
def frameW (pix u : Nat) : BitVec 1152 := { vcf with dstPix := pix, dstUnit := u : VcFrame }.bits

theorem test_elastic_exit : ∀ x ∈ [(5, 9, 9), (6, 9, 104)], let w := frameW x.1 x.2.1
    let s := (placed .running pl1 (slotImg true x.2.2)).updPort 0 fun c => { c with elastic := [(4, w)] }
    s.slotOf 0 4 true = some { port := 0, first := 3, count := 2, recv := true, unit := x.2.2 } ∧ s.running 0 = true ∧
    (s.port 0).elastic.find? (fun e => e.1 == 4) = some (4, w) ∧ (s.port 0).elastic.find? (fun e => e.1 == 3) = none ∧
    s.twoPart = false ∧ s.ownPix 0 = 5 ∧ frameF w 8 14 = x.1 ∧ frameF w 22 10 = x.2.1 ∧
    64 * (frameF w 32 25 + (frameGrans w).length) ≤ 16 * tileBytes := by decide +kernel

/-- A landing buffer that expects one granule, and a forecast bin. -/
def landImg : Image := { img0 with
  landing := [{ base := sramBase, size := 1, expected := 1, opn := 0, deadline := 9 }]
  forecast := [{ tileW := List.replicate 16 255, oeW := [1, 1, 1, 1], hbmW := 1, totalW := 1 }] }

theorem test_landing : let s := (placed .running pl1 landImg).updPart 0 fun q => { q with landOpen := [0] }
    (s.landing? 0 0).isSome ∧ s.running 0 = true ∧ (s.part 0).landOpen.contains 0 = true ∧ s.rd F.LAND_STS_count 0 0 < 1 ∧
    1 ≤ (s.wr F.LAND_STS_count 1 0 0).rd F.LAND_STS_count 0 0 ∧ (s.part 0).freeze = none := by decide +kernel

theorem test_forecast : let s := placed .running pl1 landImg
    (s.part 0).image = some landImg ∧ landImg.forecast[0]?.isSome ∧ s.rdB F.SCH_CTL_fcast_en 0 = true ∧ (s.part 0).state = .running ∧
    (s.part 0).freeze = none ∧ (s.part 0).fcastNow = none ∧ s.partOfTile 15 = 0 ∧
    tabGet natDefault ({ s with preBias := [(15, 200)] } : State).preBias 15 ≠ 0 ∧ 0 < landImg.forecast.length := by decide +kernel

/-! ### HBM -/

/-- A transfer of one granule from HBM, and the place of its source. -/
def hbmXfer : Transfer :=
  { id := 0, desc := BitVec.ofNat 512 (sramBase * 2 ^ 64 + 64 * 2 ^ 128 + 2 ^ 152 + 2 ^ 168), plane := .free, index := 0, issued := 0 }
def hbmSrc : Nat := match State.reset.home 0 0 with
  | .hbm c l g _ => hbmPhys c l g
  | _ => 0

theorem test_hbm_request : let s := withXfer hbmXfer
    let m := ({ s := s, t := hbmXfer, stuck := false } : Mover).pump 0 0 true hbmXfer.total
    (s.core 0).transfer? 0 = some hbmXfer ∧ s.contained 0 = false ∧ (match wideReqOf m.s 0 0 m.t 0 with
      | some (u, x, r) => decide (u.chanMode (physChan r.phys) = s.chanMode (physChan r.phys) ∧ (u.part 0).freeze = none ∧
          u.chan (physChan r.phys) = s.chan (physChan r.phys) ∧ s.chanMode (physChan r.phys) ≠ 0 ∧ x.plane = .free ∧
          ((s.chan (physChan r.phys)).wideq false (physPc r.phys)).length < 64)
      | none => false) = true := by decide +kernel

/-- Channel 639's queues hold one request each for its first granule. -/
def wreq (w : Option (Gran × BitVec 16)) : WideReq :=
  { arr := 1, core := 0, id := 0, gran := 0, part := 0, addr := 0, phys := hbmPhys 639 0 0, write := w }
def nreq : NarrowReq := { arr := 1, gx := 0, launch := 0, index := 0, part := 0, addr := 0, phys := hbmPhys 639 0 0, size := 8, op := .loadReg 1 }

theorem test_hbm_access : (∀ ok : Bool, let w := if ok then none else some (1, 2)
      let s := State.reset.updChan 639 fun d => { d with sched0 := [wreq w] }
      ((s.chan 639).wideq true 0)[0]? = some (wreq w) ∧ s.chanMode 639 ≠ 3 ∧ (s.chan 639).earlier 0 (hbmPhys 639 0 0) 1 = false) ∧
    (let a : Narrow := { addr := 0, size := 8, op := .loadReg 1, away := true, answer := none }
     let h : Thread := { launch := 0, index := 0, regs := [], buf := 0, pc := 0, access := some a }
     let s := (withThread [] h).updChan 639 fun d => { d with narrow0 := [nreq] }
     ((s.chan 639).narrowq 0)[0]? = some nreq ∧ s.thread? nreq.gx nreq.launch nreq.index = some h ∧ h.access = some a ∧
     s.contained (s.partOfTile (nreq.gx / 2)) = false ∧ (s.chan 639).earlier 0 nreq.phys nreq.arr = false) := by decide +kernel

theorem test_narrow_request : let a : Narrow := { addr := 0, size := 8, op := .loadReg 1, away := false, answer := none }
    let h : Thread := { launch := 0, index := 0, regs := [], buf := 0, pc := 0, access := some a }
    let s := withThread [] h
    let b : LineBuf := { phys := hbmSrc, data := 0, check := 0 }
    let t := s.updChan (physChan hbmSrc) fun d => { d with lines0 := [b], lines1 := [b] }
    s.thread? 0 0 0 = some h ∧ a.away = false ∧ s.target 0 a.addr = .here 0 ∧
    (match s.home 0 0 with | .hbm c l g o => decide (hbmPhys c l g = hbmSrc ∧ physChan hbmSrc = c ∧ o = 0) | _ => false) = true ∧
    s.chanMode (physChan hbmSrc) = 1 ∧ ((s.chan (physChan hbmSrc)).narrowq (physPc hbmSrc)).length < 64 ∧ s.lineOf hbmSrc = none ∧
    t.lineOf hbmSrc = some b ∧ b.check = granCheck b.data ∧
    (t.chan (physChan hbmSrc)).earlier (physPc hbmSrc) hbmSrc (t.chan (physChan hbmSrc)).nextArr = false := by decide +kernel

/-- A scheduled channel with one refresh slot. -/
def refreshImg : Image := { img0 with refresh := [{ chan := 5, hot := false, slots := [(100, 1, 15)] }] }
def schedChan : State := (placed .running pl1 refreshImg).wr F.MCH_STS_mode 2 0 5

theorem test_refresh : (schedChan.refreshSec 0 5).isSome ∧ schedChan.listedRefresh 0 5 = true ∧ schedChan.chanMode 5 = 2 ∧
    (schedChan.refreshSec 0 5).map (·.slots[0]?) = some (some (100, 1, 15)) ∧
    State.reset.chanMode 5 ≠ 0 ∧ State.reset.listedRefresh 0 5 = false ∧
    (let s := ((placed .armed pl1 refreshImg).wr F.MCH_STS_mode 2 0 5).updPart 0 fun q => { q with t0 := some 72 }
     s.chanMode 5 = 2 ∧ (s.part 0).state = .armed ∧ (s.part 0).t0.isSome = true) ∧ 85 < (86 : BitVec 8).toNat := by decide +kernel

theorem test_rewrite_and_counts : (List.replicate 32 (0 : BitVec 32)).length = 32 ∧
    (let s := State.reset.updChan 7 fun d => { d with rewrites := [hbmPhys 7 0 0] }
     (s.chan 7).rewrites = hbmPhys 7 0 0 :: [] ∧ s.chanMode 7 ≠ 3) := by decide +kernel

/-- A clean granule, and one whose upset no code word corrects. -/
theorem test_scrub : State.reset.rdB F.MEM_CTL_scrub_en 0 = true ∧ State.reset.chanMode 7 = 1 ∧ 9437183 < chanLocs ∧
    State.reset.hbmDecode (hbmPhys 7 9437183 3) = some (0, 0) ∧
    (State.reset.upset (hbmPhys 7 0 0) 0x0101010101).hbmDecode (hbmPhys 7 0 0) = none := by decide +kernel

theorem test_mtg : (∀ st ∈ [PState.idle, .running], let s := inState st
      (1 : Word).toNat.testBit 0 = true ∧ (s.chan 7).mtg = none ∧ (s.part 0).state = st ∧ bits (1 : Word).toNat 2 3 ≠ 7) ∧
    bits (0x1D : Word).toNat 2 3 = 7 ∧
    (∀ c ∈ [0, 0x400], let m : Mtg := { ctl := c, limit := 0, seed := 0, mode := 1 }
      let s := State.reset.updChan 7 fun d => { d with mtg := some m }
      (s.chan 7).mtg = some m ∧ m.mode < 4 ∧ m.ctl.testBit 10 = (c == 0x400)) := by decide +kernel

theorem test_hbm_bound : (placed .running).running 0 = true ∧ ((placed .running).part 0).image = some img0 ∧
    ((placed .running).part 0).freeze = none := by decide +kernel

/-! ### Optics -/

/-- Optical engine 3 lit. -/
def lit (f : Oe → Oe := id) : State := (((inState .idle).wr F.OE_CTL_light_en 1 0 3).updOe 3 f).wr F.OE_LASER_STS_absorber 1 0 3

theorem test_laser_inputs : let a := lit fun e => { e with priOn := true }; let b := lit fun e => { e with priFail := true }
    let c := lit fun e => { e with priFail := true, sbyOn := true }
    a.opticsUp 3 = true ∧ a.lightEn 3 = true ∧ (a.oe 3).priOn = true ∧ (a.oe 3).priFail = false ∧
    a.rdB F.OE_LASER_STS_absorber 0 3 = true ∧ a.rd F.OE_LASER_STS_in_sel 0 3 = 0 ∧
    b.lightEn 3 = true ∧ (b.oe 3).priFail = true ∧ (b.oe 3).sbyOn = false ∧
    c.lightEn 3 = true ∧ (c.oe 3).priFail = true ∧ (c.oe 3).sbyOn = true ∧ (c.oe 3).sbyFail = false ∧
    c.rd F.OE_LASER_STS_in_sel 0 3 = 0 := by decide +kernel

/-- A ring in a state, set by `f`. -/
def ringAt (k st : Nat) (f : Ring → Ring := id) (s : State := State.reset) : State := s.updRing k fun r => f { r with state := st }

/-- The last ring of the last fibre, and the comet tap. -/
theorem test_ring_update : ringExists 7 2 16 = true ∧ ringExists 0 3 17 = true ∧
    (State.reset.ring (ringKey 3 7 2 16)).state ≠ rgLocked ∧ ((ringAt 5 rgParked).ring 5).state = rgParked ∧
    (let r := (ringAt 5 rgLocked).ring 5
     let t : Int := max (-4095) (min 4095 (r.trim + (sext 8 (95 : BitVec 8).toNat).tdiv 4))
     r.state = rgLocked ∧ ¬ (96 ≤ (sext 8 (95 : BitVec 8).toNat).natAbs ∨ t = 4095 ∨ t = -4095)) ∧
    96 ≤ (sext 8 (96 : BitVec 8).toNat).natAbs ∧ 2 ≤ ((ringAt 5 rgLocked fun r => { r with bad := 2 }).ring 5).bad := by decide +kernel

/-- A full sweep on its way, at its last step with a good, a far and no resonance, and after two failures. -/
theorem test_sweeps : let k := ringKey 0 0 0 0
    (let r := (ringAt k rgSweep).ring k; r.state = rgSweep ∧ r.step + 1 < r.sweepSteps) ∧
    (∀ x ∈ [(9, 100, 0), (9, 5000, 0), (0, 0, 0), (0, 0, 2)],
      let s := ringAt k rgUnlocked (fun r => { r with step := 271, best := x.1, bestCode := x.2.1, failed := x.2.2 })
      let r := s.ring k
      r.state = rgUnlocked ∧ r.sweepSteps ≤ r.step + 1 ∧ (0 < max r.best 0) = (x.1 = 9) ∧ r.failed = x.2.2 ∧
      decide (((if r.best < 0 then 0 else r.bestCode : Nat) - s.tableAt k (s.reading 0 r.temp).1).natAbs ≤ 2048) =
        decide (x.2.1 ≤ 2048)) := by decide +kernel

theorem test_recal : let k := ringKey 3 7 1 16
    let s := (ringAt k rgLocked id ((State.reset.setFibre 31 fbLit).updOe 3 fun e => { e with recal := [7] }))
    s.fibre 31 = fbLit ∧ (s.port 31).lowLane 1 16 = false ∧ 7 ∈ (s.oe 3).recal ∧ s.recalFree 31 = true ∧
    (s.ring k).state = rgLocked ∧ (∀ x ∈ (s.oe 3).recal, x = 7) ∧
    256 * ((ringAt k rgLocked fun r => { r with driftSum := 257, driftN := 1 }).ring k).driftN < 257 ∧
    ((inState .idle).part (State.reset.partOfHalf 1)).state ≠ .cold := by decide +kernel

/-- A wavelength of port 31 with a history. -/
def waveAt (n : Nat) (w : Wave) (s : State := State.reset) : State :=
  s.updPort 31 fun c => { c with waves := tabSet waveDefault c.waves n w }

theorem test_margins : (portIn 31 ptUp).portState 31 ≠ ptDark ∧ (∀ n, n < 18 → (((portIn 31 ptUp).port 31).wave n).samples.length < 9) ∧
    ((State.reset.port 31).wave 15).warn = false ∧ ((State.reset.port 31).wave 15).hand = false ∧
    ((State.reset.port 31).wave 15).loss = false ∧ (20 : Int) ≤ 20 ∧ (29 : Int) < 30 ∧
    (((waveAt 17 { secN := 1 }).port 31).wave 17).secN ≠ 0 := by decide +kernel

theorem test_comet_return : let s := ringAt (ringKey 3 7 1 17) rgLocked id (State.reset.setFibre 31 fbLit15)
    s.fibre 31 = fbLit15 ∧ s.cometOk 31 = false ∧ (s.ring (ringKey (31 / 8) (31 % 8) 1 17)).state = rgLocked ∧
    (s.port 31).lowMargin 17 = false := by decide +kernel

theorem test_los_and_probe : (let s := portIn 31 ptUp; s.portState 31 ≠ ptDark ∧ s.fibre 31 ≠ fbLos ∧ s.fibre 31 ≠ fbProbe ∧
      s.fibre 31 ≠ fbDropped) ∧
    (let s := State.reset.setFibre 31 fbProbe; s.fibre 31 = fbProbe ∧ (s.port 31).lastProbe = none) ∧
    (let s := (State.reset.setFibre 31 fbProbe).updPort 31 fun c => { c with lastProbe := some 0 }
     (s.port 31).lastProbe = some 0 ∧ (s.part (s.partOfPort 31)).gtc ≤ 0 + (if s.slow then 180000 else 225000)) := by decide +kernel

/-! ### Moons -/

def om (op lane margin frame : Nat) : BitVec 128 := BitVec.ofNat 128 (opticMsg op lane margin frame)

theorem test_moon_messages : State.reset.manages 31 = false ∧ (portIn 31 ptUp).manages 31 = true ∧
    (∀ op ∈ [1, 2, 3, 4, 5, 6, 7, 8], omOp (om op 15 30 9) = op ∧ omLane (om op 15 30 9) = 15 ∧ omFrame (om op 15 30 9) = 9) ∧
    omFrame (om 6 15 30 0) = 0 ∧ (State.reset.port 31).txLane = 0x1F ∧ State.reset.moonLane 31 = 0x1F ∧
    ((State.reset.updPort 31 fun c => { c with txLane := 15 }).port 31).txLane = 15 ∧
    ((State.reset.updPort 31 fun c => { c with moonOut := true }).port 31).moonOut = true ∧
    (State.reset.wr F.OE_FIB_LANEMAP_moon_lane 15 0 3 7).moonLane 31 = 15 ∧ (State.reset.port 31).hand = none ∧
    (State.reset.port 31).lowMargin 15 = false := by decide +kernel

theorem test_handovers : ∀ st ∈ [0, 1, 2], ∀ back ∈ [true, false], ∀ retried ∈ [true, false],
    let h : Handover := { lane := 15, stage := st, frame := 9, retried := retried, back := back }
    let s := ringAt (ringKey 3 7 1 (if back then 15 else 16)) rgLocked id (State.reset.updPort 31 fun c => { c with hand := some h, testing := true })
    (s.port 31).hand = some h ∧ h.stage = st ∧ (s.port 31).testing = true ∧
    (s.ring (ringKey (31 / 8) (31 % 8) 1 (if h.back then h.lane else 16))).state = rgLocked := by decide +kernel

theorem test_restripe : (let s := portIn 31 ptUp (State.reset.updPort 31 fun c => { c with rxStripe := some (0, 9), txStripe := some (16, 9) })
      s.manages 31 = true ∧ (s.port 31).rxStripe = some (0, 9) ∧ s.moonLane 31 = 0x1F ∧ (s.port 31).txStripe = some (16, 9) ∧
      (s.port 31).txLane = 0x1F ∧ s.fibre 31 ≠ fbDropped) ∧
    (let s := (State.reset.updPort 31 fun c => { c with rxStripe := some (16, 9) }).wr F.OE_FIB_LANEMAP_moon_lane 15 0 3 7;
      (s.port 31).rxStripe = some (16, 9) ∧ s.moonLane 31 < 16 ∧ 16 ≠ s.moonLane 31) ∧
    (State.reset.setFibre 31 fbDropped).fibre 31 = fbDropped := by decide +kernel

/-! ### Links -/

/-- A management message of an op, and a free-plane frame of a VC with a link sequence number. -/
def msg (op : Nat) : BitVec 128 := BitVec.ofNat 128 (op + 2 ^ 16)
def freeW (vc lseq : Nat) : BitVec 1152 := mkFrame vc 0 3 (lseq * 2 ^ 8) [(1, granCheck 1)]

set_option maxRecDepth 20000 in
/-- A sound frame of each VC and one with two bits in error; sequence numbers that are next and that are not. -/
theorem test_frames : (∀ vc ∈ [0, 1, 2, 3], checkFrame (freeW vc 9) = some (freeW vc 9, false) ∧ frameF (freeW vc 9) 0 2 = vc ∧
      frameF (freeW vc 9) 8 12 = 9) ∧
    checkFrame (freeW 0 9 ^^^ (1#1152 <<< 128)) = some (freeW 0 9, true) ∧ checkFrame (freeW 0 9 ^^^ (9#1152 <<< 128)) = none ∧
    (State.reset.port 31).lexp ≠ 9 ∧ ((State.reset.updPort 31 fun c => { c with lexp := 9 }).port 31).lexp = 9 ∧
    (portIn 31 ptUp).portState 31 = ptUp ∧ (State.reset.port 31).elastic.length < 256 := by decide +kernel

theorem test_link_messages : (∀ op ∈ [0x11, 0x12, 0x13, 0x14], bits (msg op).toNat 0 8 = op ∧ bits (msg op).toNat 8 8 < 5) ∧
    (State.reset.port 31).frags = [] ∧ State.reset.manages 31 = false ∧ (portIn 31 ptUp).manages 31 = true := by decide +kernel

/-- A replay, a frame with a credit, and nothing to launch. -/
theorem test_free_launch : let x : FreeFrame := { bits := freeW 1 0, src := none }
    (placed .idle).running 0 = false ∧ ((State.reset.updPort 31 fun c => { c with resend := [(0, 0)] }).port 31).resend = (0, 0) :: [] ∧
    (let t := (State.reset.updPort 31 fun c => { c with freeq := [x] }).port 31
     t.resend = [] ∧ t.freeq = x :: [] ∧ t.credit (frameClass x.bits) = true ∧ t.retry.length < 2048) ∧
    (State.reset.port 31).resend = [] ∧ (State.reset.port 31).freeq = [] := by decide +kernel

/-- Port 31 trains: every lane ring has locked, and its phase. -/
def aligning (ident : Nat) : State :=
  (laneRings.foldl (fun s r => ringAt (ringKey 3 7 r.1 r.2) rgLocked id s) (portIn 31 ptTraining)).wr F.PORT_STS_phase_ident ident 0 31

/-- A record of a neighbour with LPL `lpl`, PIX 7 and port 0. -/
def pirWith (lpl : Nat) : List Byte :=
  let b := filed 60 [(0, 0x44495050), (4, 1), (5, lpl), (0x10, 7), (0x12, 0)]
  b ++ toLE 4 (crc32C b)

theorem test_align_done : (aligning 0).portState 31 = ptTraining ∧ (aligning 0).rdB F.PORT_STS_phase_ident 0 31 = false ∧
    (aligning 0).ringsReady 31 = true ∧ ((aligning 0).part 0).linksHeld = false ∧ (aligning 0).badWaves 31 = [] ∧
    ((aligning 0).wr F.OE_FIB_LANEMAP_lanes 15 0 3 7).lanes 31 = 15 ∧ ((aligning 0).port 31).restore = false ∧
    (aligning 0).lanes 31 ≠ 15 := by decide +kernel

theorem test_ident : pirGood (pirWith 3) = true ∧ pirGood (pirWith 2) = true ∧ pirLpl (pirWith 3) = 3 ∧
    State.reset.rd F.NET_STS_lpl 0 = 1 ∧ 1 + 2 ≤ pirLpl (pirWith 3) ∧ pirLpl (pirWith 2) < 1 + 2 ∧ 1 < pirLpl (pirWith 2) + 2 ∧
    (aligning 1).rdB F.PORT_STS_phase_ident 0 31 = true ∧ ((aligning 1).part 0).placement = none ∧
    ((placed .idle).part 0).placement ≠ none ∧ (placed .idle).dirOf 0 ≠ 0 ∧ (placed .idle).pirMatches 0 0 (pirWith 2) = true ∧
    (placed .idle).pirMatches 0 0 (filed 64 []) = false ∧ (placed .idle).rdB F.NET_CTL_aswired 0 = false ∧
    pirGood ((aligning 1).port 31).pir = false := by decide +kernel

theorem test_link_limits : (let s := (portIn 31 ptUp).updPort 31 fun c => { c with badAt := List.replicate 32 0, badRun := 1024 }
      32 ≤ (s.port 31).badAt.length ∧ 1024 ≤ (s.port 31).badRun ∧ s.portState 31 = ptUp) ∧
    (let s := (portIn 31 ptDown).updPort 31 fun c => { c with lit := true }
     s.portState 31 = ptDown ∧ (s.port 31).lit = true ∧ s.fibre 31 ≠ fbDropped) := by decide +kernel

/-! ### Packets -/

/-- A packet from PIX 7 in session 3 to this package's session 9. -/
def pk (op seq : Nat) (f : Packet → Packet := id) : Packet :=
  f { emptyPacket with op := op, seq := seq, srcEid := 7 * 1024, srcSession := 3, dstSession := 9, addr := sramBase }

/-- This package is PIX 5 in session 9 and has performed requests 1 to 4 of PIX 7. -/
def netState (s : State := placed .idle) : State :=
  s.updPart 0 fun q => { q with session := 9, e2eIn := [(7, { session := 3, performed := 4, ackSent := 3 })] }

theorem test_packet_rows : (∀ op ∈ [1, 2, 3, 4, 5, 6, 7, 8, 9, 10, 11], let k := packetOf (pk op 5).header []
      k.op = op ∧ k.srcEid / 1024 = 7 ∧ k.dstSession = 9 ∧ k.srcSession = 3 ∧ k.seq = 5 ∧ netState.stalePacket 0 k = false) ∧
    netState.portsOf 0 ≠ [] ∧ (5 * 1024 : BitVec 24).toNat / 1024 = netState.ownPix 0 ∧ (netState.part 0).session = 9 ∧
    (netState.e2eIn 0 7).session = 3 ∧ (netState.e2eIn 0 7).window = [] ∧ ((placed .idle).part 0).session ≠ 9 ∧
    ((placed .idle).e2eIn 0 7).session ≠ 3 := by decide +kernel

/-- Duplicate, next, ahead within the window and beyond it. -/
theorem test_packet_order : (netState.e2eIn 0 7).performed = 4 ∧ (4 ≤ 4 ∧ 5 = 4 + 1) ∧ (4 + 1 < 6 ∧ 260 ≤ 4 + 256) ∧ 4 + 256 < 261 := by
  decide +kernel

theorem test_packet_stores : let k := packetOf (pk 2 5).header [(1, 2)]; let n := packetOf (pk 2 5 fun k => { k with bytes := 8 }).header [(1, 2)]
    k.bytes = 0 ∧ k.local % 64 = 0 ∧ netState.home 0 (k.local + 64 * 0) = .sram (k.local + 64 * 0) ∧ k.data ≠ [] ∧
    0 < n.bytes ∧ n.local % n.bytes = 0 ∧ n.local % 64 + n.bytes ≤ 64 ∧ netState.home 0 n.local = .sram n.local ∧
    (netState.sramRead (n.local / 64 * 64)).2.ok = true := by decide +kernel

theorem test_packet_others : (let k := packetOf (pk 4 5 fun k => { k with addr := 5 * 1024 + 63 }).header []
      k.addr % 1024 < 64 ∧ netState.partOfCore (k.addr % 1024) = 0) ∧ (packetOf (pk 3 5).header []).flags.testBit 2 = false ∧
    (let k := packetOf (pk 1 5 fun k => { k with granules := 1 }).header []
     k.bytes = 0 ∧ k.granules = 1 ∧ k.local % 64 = 0 ∧ netState.home 0 k.local = .sram k.local) := by decide +kernel

/-- A gather thread of engine 0 waits for the answer under tag 6. -/
def awaiting (op : Nat) : State :=
  let a : Narrow := { addr := 2 ^ 63 + 7 * 2 ^ 48, size := 8, op := .loadReg 1, away := true, answer := none }
  (netState (withThread [ins 4 2, ins 4 0x0F] { launch := 0, index := 0, regs := [], buf := 0, pc := 0, access := some a })).updPart 0
    fun q => { q with awaits := [{ tag := 6, pix := 7, who := .thread 0 0 0, packet := { emptyPacket with op := op, bytes := 8, seq := 5 } }] }

theorem test_packet_answers : (∀ x ∈ [(5, 1), (6, 3)], let e := packetOf (pk x.1 5 fun k => { k with tag := 6 }).header []
      ((awaiting x.2).waiting 0 e.tag x.2).map (·.who) = some (.thread 0 0 0) ∧
      (((awaiting x.2).thread? 0 0 0).map fun h => h.access.isSome) = some true ∧ (awaiting x.2).contained 0 = false) ∧
    (∀ c ∈ [1, 2], (packetOf (pk 8 5 fun k => { k with aux := c }).header []).aux % 256 = c) ∧
    (((awaiting 1).part 0).awaits.find? fun a => a.tag == 6 && a.packet.seq == 5 && decide (a.pix < 1024)).isSome ∧
    granCheck 0 = granCheck 0 := by decide +kernel

theorem test_ack_and_retransmit : (netState.e2eIn 0 7).ackSent < (netState.e2eIn 0 7).performed ∧
    (let s := netState.updPart 0 fun q => { q with e2eOut := [(1023, { issued := 1, unacked := [pk 2 1] })] }
     (s.e2eOut 0 1023).unacked ≠ []) := by decide +kernel

theorem test_multicasts : (netState.e2eIn 0 7).mcTags.contains 6 = false ∧
    ((netState.updE2eIn 0 7 fun i => { i with mcTags := [6] }).e2eIn 0 7).mcTags.contains 6 = true ∧
    (let k := packetOf (pk 9 0 fun k => { k with opc := 1 + 2 * 2 ^ 4 }).header [(1, 2)]
     k.local % 64 = 0 ∧ k.data ≠ [] ∧ netState.home 0 k.local = .sram k.local ∧ 1 < bits k.opc 4 10 ∧
     netState.neighbour 0 (bits k.opc 0 4) = some 7) ∧
    (netState (placed .running)).running 0 = true ∧ ((netState (placed .armed)).part 0).state = .armed ∧
    (let k := packetOf (pk 10 0 fun k => { k with opc := 5, aux := 1 }).header [(1, 2)]
     (netState.part 0).state = .idle ∧ (netState.part 0).placement = some pl1 ∧ (pl1.self.map (·.pix)) = some 5 ∧
     pl1.member (bits k.opc 0 14) = pl1.self ∧ (maskDims pl1.topology).isSome ∧ k.aux = 1 ∧
     (∀ m ∈ pl1.members, ∀ a, a < 3 → m.coord a < pl1.dim a)) ∧ (packetOf (pk 10 0).header []).aux = 0 ∧
    ((netState.updPart 0 fun q => { q with mcOut := [(pk 9 0 fun k => { k with tag := 6 }, [7, 8])] }).part 0).mcOut =
      [(pk 9 0 fun k => { k with tag := 6 }, [7, 8])] := by decide +kernel

/-! ### Queue pairs -/

/-- Far device 3 on service port 0 and a host on connection 1; both queue pairs stand. -/
def netS (s : State := State.reset) : State :=
  (s.updPart 0 fun q => { q with
    far := [(3, BitVec.ofNat 256 (2 ^ 152 + 2 ^ 156))], conns := [(1, { up := true, sp := 0, hostQpn := 7, regKey := 9, dbKey := 11 })] }).wr
      F.OE_SP_STS_pcs_lock 1 0 0

theorem test_remote_memory : let s := netS (atSram sramBase 0); let va := BitVec.ofNat 64 sramBase
    s.peer 0 0x0C0003 = .far 3 ∧ s.peer 0 0x0B0001 = .host 1 ∧ vaLocal va % 64 = 0 ∧ s.vaMemory 0 va 64 = true ∧
    s.home 0 (vaLocal va) = .sram (vaLocal va) ∧ (s.sramRead (vaLocal va)).2.check = granCheck (s.sramRead (vaLocal va)).2.data ∧
    s.vaMemory 0 (2 ^ 41) 8 = false ∧ s.vaMemory 0 (va + 16) 8 = true ∧ (va + 16).toNat % 8 = 0 ∧ (va + 1).toNat % 8 ≠ 0 ∧
    (s.sramRead (vaLocal (va + 16) / 64 * 64)).2.ok = true ∧
    (let k := packetOf (pk 4 0 fun k => { k with addr := 5 * 1024 + 3 }).header []
     k.op = 4 ∧ k.addr % 1024 < 64 ∧ s.partOfCore (k.addr % 1024) = 0) ∧
    (5 : BitVec 32).toNat ≠ (s.conn 0 1).regKey ∧ (5 : BitVec 32).toNat ≠ (s.conn 0 1).dbKey := by decide +kernel

/-- A gather thread waits for an answer of far device 3. -/
def farWait (op : Nat) : State :=
  let a : Narrow := { addr := 2 ^ 62, size := 8, op := .loadReg 1, away := true, answer := none }
  (netS (withThread [] { launch := 0, index := 0, regs := [], buf := 0, pc := 0, access := some a })).updPart 0
    fun q => { q with awaits := [{ tag := 6, pix := 1027, who := .thread 0 0 0, packet := { emptyPacket with op := op, bytes := 8 } }] }

theorem test_queue_pair_answers : (∀ op ∈ [1, 3], (farWait op).peer 0 0x0C0003 = .far 3 ∧
      ((farWait op).thread? 0 0 0).isSome ∧ (((farWait op).thread? 0 0 0).bind (·.access)).isSome ∧
      (farWait op).contained ((farWait op).partOfTile (0 / 2)) = false) ∧
    (netS.farEntry 0 3).testBit 156 = true ∧ lit.spLit 3 = false ∧
    (let s := lit.wr F.OE_LASER_STS_absorber 0 0 3; s.spLit 3 = true ∧ s.spLane 3 0 = true) ∧
    (netS.rd F.OE_SP_STS_pcs_lock 0 0).testBit 0 = true ∧ netS.rd F.OE_SP_STS_pcs_lock 0 0 - 2 ^ 0 = 0 ∧
    ((netS.wr F.OE_SP_STS_pcs_lock 3 0 0).rd F.OE_SP_STS_pcs_lock 0 0 - 2 ^ 0 ≠ 0) ∧
    (∀ o ∈ [0, 3], State.reset.spPriority o = 0) := by decide +kernel

/-! ### Collectives -/

/-- Groups 1 (free, packets) and 5 (scheduled, comet lane) of engine 1, each of PIX 5 and its neighbour 7 with PIX 5 as root; one
scheduled operation of group 5; posts of engine 1 at the bottom of SRAM. -/
def groupSec : List Byte := filed 192 [(0, 2), (2, 1), (16, sramBase), (64, 1), (65, 17), (72, 2), (74, 1), (76, 1), (84, 4), (85, 1),
  (96, 5), (97, 23), (104, 2), (106, 1), (108, 1), (118, 4), (128, 5)]
def collState (st : PState := .running) : State := placed st { pl2 with dimX := 2 } { img0 with groups := groupSec }

/-- A reduce descriptor of group 1 whose counter word is that at `sramBase + 0x8000`, with a threshold. -/
def descOf (thr : Nat) (f : Nat := 0) : BitVec 512 := BitVec.ofNat 512 (1 + 2 ^ 8 + 2 ^ 192 * (sramBase + 0x8000) + 2 ^ 256 * thr + f)

/-- The same with a descriptor posted. -/
def postedDesc (thr : Nat) : State :=
  ((collState).putBytes 0 sramBase 2 (toLE 64 (descOf thr).toNat)).putBytes 0 (sramBase + 16384) 2 (toLE 8 1)

theorem test_posts : ∀ thr ∈ [0, 1], let s := postedDesc thr; let base := s.postBase 0 1; let ring := base + 16384
    let w := s.sramBytes ring 16
    let d := w.1.sramBytes base 64
    let desc := BitVec.ofNat 512 (ofLE d.2.1)
    let u := ((d.1.updColl 1 fun x => { x with consumed := x.consumed + 1 }).putBytes 0 (ring + 8) 2 (toLE 8 1)).wr F.COL_STS_consumed 1 0 1
    base = sramBase ∧ s.collClosed 0 = false ∧ leAt w.2.1 0 4 = 1 ∧ (s.coll 1).consumed = 0 ∧ (s.coll 1).waiting = [] ∧
    (s.coll 1).ops = [] ∧ d.2.2 = true ∧ desc = descOf thr ∧ u.wordOk 0 (cdTrig desc) = true ∧
    u.collReady 0 desc = decide (thr = 0) ∧ base % 64 = 0 ∧ s.home 0 ring = .sram ring ∧ s.home 0 (ring + 8) = .sram (ring + 8) ∧
    (s.sramRead ring).2.ok = true := by decide +kernel

theorem test_triggers : let s := collState; let w := s.updColl 1 fun x => { x with waiting := [descOf 0] }
    s.collClosed 0 = false ∧ (((s.part 0).image.map fun i => (schedEnts i.groups).map cdGid) = some [5]) ∧
    s.collEngine 0 5 = 1 ∧ s.running 0 = true ∧ s.schedStopped 0 = false ∧ w.collReady 0 (descOf 0) = true ∧
    (w.coll 1).waiting[0]? = some (descOf 0) ∧ (w.collCtx 0 (cdGid (descOf 0))).map (·.e) = some 1 ∧
    (w.collGroup 1 1).state ≠ 1 := by decide +kernel

/-- A COLL header of a kind for operation `seq` of group 1. -/
def collHdr (kind seq : Nat) (tag : Nat := 0) (gid : Nat := 1) : BitVec 512 :=
  BitVec.ofNat 512 (kind + 2 ^ 42 * 7 + 2 ^ 56 * gid + 2 ^ 64 * seq + 2 ^ 96 * tag + 2 ^ 176 * 2)

/-- An operation of group 1 runs as its second. -/
def collOp (done : Nat) (f : Nat := 0) (gid : Nat := 1) : CollOp := { desc := descOf 0 (2 ^ 320 * done + f), gid := gid, seq := 2, last := 0 }
def collRuns (o : CollOp) : State := collState.updColl 1 fun x => { x with ops := [o], groups := [(o.gid, { state := 1, fired := 2 })] }

theorem test_collective_packets : let s := collRuns (collOp 0)
    (∀ kind ∈ [0x0C, 0x10C, 0x20C], ∀ q ∈ [2, 3], let h := collHdr kind q; let m := collMsgOf (bits h.toNat 42 14) h []
      bits h.toNat 0 16 = kind ∧ m.gid = 1 ∧ m.seq = q ∧ (s.collCtx 0 m.gid).map (·.e) = some 1 ∧
      s.opOf 1 m.gid m.seq = (if q = 2 then some (collOp 0) else none)) ∧
    (s.collCtx 0 (collMsgOf 7 (collHdr 0x0C 2 0 9) []).gid).isNone = true ∧
    (s.collGroup 1 1).state = 1 ∧ (s.collGroup 1 1).fired < 3 ∧ cdGid (collOp 0).desc = 1 ∧ (collOp 0).outq = [] ∧
    (collMsgOf 7 (collHdr 0x0C 2 5) []).tag ≠ cdTag (collOp 0).desc ∧ (collMsgOf 7 (collHdr 0x0C 2) []).tag = cdTag (collOp 0).desc ∧
    granCheck 0 ≠ 1 ∧ s.opOf 1 1 1 = none := by decide +kernel

theorem test_collective_complete : (∀ d ∈ [0, sramBase + 8], let o := collOp d; let s := collRuns o
      (s.coll 1).ops[0]? = some o ∧ (s.collCtx 0 o.gid).map (fun c => (c.p, c.e, s.collDone c o)) = some (0, 1, true) ∧
      cdDone o.desc = d ∧ cdF o.desc 414 1 = 0) ∧
    (let a := sramBase + 8; a ≠ 0 ∧ a % 8 = 0 ∧ (∀ i, i < 8 → collState.home 0 (a + i) = .sram (a + i)) ∧
      collState.home 0 (a / 64 * 64) = .sram (a / 64 * 64) ∧ ((collRuns (collOp a)).sramRead (a / 64 * 64)).2.ok = true) ∧
    (let o := collOp 0 (2 ^ 384 * (5 * 1024 + 3) + 2 ^ 414); let eid := cdF o.desc 384 24
      cdDone o.desc = 0 ∧ cdF o.desc 414 1 = 1 ∧ eid % 1024 < 64 ∧
      ((collRuns o).collCtx 0 o.gid).map (fun c => (collRuns o).collDone c o) = some true ∧
      ((collRuns o).part 0).placement = some { pl2 with dimX := 2 } ∧ eid / 1024 = pl2.own) := by decide +kernel

/-- Comet messages of group 5 toward PIX 7, over port 0. -/
def cometMsg : CollMsg := { pix := 7, gid := 5, seq := 2, tag := 0, segment := 0, phase := 1, wtype := 0, data := [] }
def cometState : State :=
  ((portIn 0 ptUp collState).wr F.OE_FIB_STS_comet_ok 1 0 0 0).wr F.OE_FIB_COMET_tap_en 1 0 0 0
def slotW (hdr gid : Nat) : BitVec 576 := cometSlot hdr gid 2 []

theorem test_comet : let s := cometState; let w := slotW
    (s.collCtx 0 5).isSome = true ∧ s.cometToward 0 7 = some 0 ∧ s.portUp 0 = true ∧ s.cometOk 0 = true ∧ s.portUp 30 = false ∧
    (∀ hdr ∈ [1, 2, 3, 6], ∀ gid ∈ [1, 5, 9], let b := toLE 72 (w hdr gid).toNat
      leAt b 68 4 = crc32C (b.take 68) ∧ leAt b 0 1 = hdr ∧ leAt b 1 1 = gid) ∧
    leAt (toLE 72 0) 68 4 ≠ crc32C ((toLE 72 0).take 68) ∧
    (s.entryOf 0).map (·.nbrPix) = some 7 ∧ s.partOfPort 0 = 0 ∧ (s.collCtx 0 9).isNone = true ∧
    (s.collCtx 0 1).map (·.g.comet) = some false ∧ (s.collCtx 0 5).map (fun c => (c.g.comet, c.expects 1 7)) = some (true, false) ∧
    (s.groupEnt? 0 5).map (fun g => (g.sched, g.comet)) = some (true, true) ∧ s.running 0 = true := by decide +kernel

/-! ### Hosts -/

/-- A valid configuration record: port 3 has the IPv4 address 10.0.0.7. -/
def confRec : List Byte :=
  let b := filed 1020 [(0, 0x47464E43), (4, 1), (0x28 + 32 * 3 + 17, 10), (0x28 + 32 * 3 + 20, 7)]
  b ++ toLE 4 (crc32C b)

/-- Service port 3 is locked, with that record in both halves' flash. -/
def hostS (st : PState := .idle) (s : State := State.reset) : State :=
  { (inState st 0 s).wr F.OE_SP_STS_pcs_lock 1 0 3 with flash0 := { s.flash0 with config := confRec }, flash1 := { s.flash1 with config := confRec } }

/-- The first `n` connections are established. -/
def connS (n : Nat) (s : State := hostS) : State :=
  s.updPart 0 fun q => { q with conns := (List.range n).map fun c => (c, { up := true, sp := 3, hostQpn := 0 }) }

theorem test_connection_requests : ∀ n ∈ [0, 3, 4], let s := connS n
    s.spLocked 3 = true ∧ (s.part 0).state ≠ .cold ∧ (∀ c, c < 4 → (s.conn 0 c).up = decide (c < n)) ∧ s.partOfOe 3 = 0 ∧
    (s.part 0).awaits = [] ∧ s.rd F.HIF_CR_CFG_conn 0 63 = 0 ∧ s.rd F.HIF_CQ_CFG_conn 0 63 = 0 := by decide +kernel

set_option maxRecDepth 60000 in
theorem test_addresses : configValid confRec = true ∧ hostS.spAnswers 3 = true ∧ hostS.spIp4 3 = 0x0A000007 ∧
    (hostS.spIp6 3).length = 1 ∧ (State.reset.spIp6 3).length = 1 ∧ State.reset.spAnswers 3 = false ∧
    0 ∉ hostS.spIp6 3 ∧ (∀ i ∈ hostS.spIp6 3, (BitVec.ofNat 128 i).toNat = i) := by decide +kernel

/-! ### Rings -/

/-- Ring 63 with its registers at these values. -/
def ringS (fs : List (Fld × Nat)) (s : State := connS 1) : State := fs.foldl (fun t x => t.wr x.1 x.2 0 63) s

/-- A command count one behind the producer, the same, a ring ahead of the consumer, and one more. -/
theorem test_command_doorbell : let s := ringS [(F.HIF_CR_CFG_enable, 1), (F.HIF_CR_CFG_log_size, 2), (F.HIF_CR_STS_producer, 7), (F.HIF_CR_STS_consumer, 5)]
    (∀ x ∈ [(6, false, true), (7, true, true), (9, true, true), (10, true, false)],
      decide ((x.1 + 2 ^ 32 - s.rd F.HIF_CR_STS_producer 0 63) % 2 ^ 32 < 2 ^ 31) = x.2.1 ∧
      decide ((x.1 + 2 ^ 32 - s.rd F.HIF_CR_STS_consumer 0 63) % 2 ^ 32 ≤ 2 ^ s.rd F.HIF_CR_CFG_log_size 0 63) = x.2.2) ∧
    s.rd F.HIF_CR_CFG_enable 0 63 = 1 ∧ (connS 1).rd F.HIF_CR_CFG_enable 0 63 = 0 := by decide +kernel

theorem test_completion_doorbell : let s := ringS [(F.HIF_CQ_CFG_enable, 1), (F.HIF_CQ_STS_written, 7), (F.HIF_CQ_STS_host_consumed, 5)]
    (∀ x ∈ [(4, false), (5, true), (7, true), (8, false)],
      decide ((x.1 + 2 ^ 32 - s.rd F.HIF_CQ_STS_host_consumed 0 63) % 2 ^ 32 ≤
        (s.rd F.HIF_CQ_STS_written 0 63 + 2 ^ 32 - s.rd F.HIF_CQ_STS_host_consumed 0 63) % 2 ^ 32) = x.2) ∧
    s.rd F.HIF_CQ_CFG_enable 0 63 = 1 ∧ (connS 1).rd F.HIF_CQ_CFG_enable 0 63 = 0 := by decide +kernel

/-- Command ring 63 with completion ring 63; a ring too large or without its completion ring; a stopped ring. -/
theorem test_ring_enable : (let s := ringS [(F.HIF_CQ_CFG_enable, 1), (F.HIF_CR_CFG_cq, 63), (F.HIF_CR_CFG_log_size, 16)]
      s.rd F.HIF_CR_CFG_log_size 0 63 ≤ 16 ∧ s.rd F.HIF_CQ_CFG_enable 0 (s.rd F.HIF_CR_CFG_cq 0 63) = 1 ∧ s.rd F.HIF_CR_CFG_enable 0 63 = 0) ∧
    ¬ (ringS [(F.HIF_CR_CFG_log_size, 17)]).rd F.HIF_CR_CFG_log_size 0 63 ≤ 16 ∧
    (connS 1).rd F.HIF_CQ_CFG_enable 0 ((connS 1).rd F.HIF_CR_CFG_cq 0 63) ≠ 1 ∧
    (ringS [(F.HIF_CR_CFG_enable, 1)]).rd F.HIF_CR_CFG_enable 0 63 ≠ 0 ∧
    (ringS [(F.HIF_CR_CFG_stopped, 1)]).rd F.HIF_CR_CFG_stopped 0 63 = 1 ∧ (connS 1).rd F.HIF_CR_CFG_stopped 0 63 = 0 := by decide +kernel

def recordS (stop : Bool) : CplRec :=
  { cq := 63, ring := 63, entry := 3, opcode := 0, cmdId := 9, status := 0, detail := 0, state := 0, res0 := 0, res1 := 0, stop := stop }

theorem test_completion_write : ∀ stop : Bool,
    let s := (ringS [(F.HIF_CQ_CFG_enable, 1), (F.HIF_CQ_CFG_log_size, 2), (F.HIF_CQ_STS_written, 2 ^ 32 - 1), (F.HIF_CQ_STS_host_consumed, 2 ^ 32 - 4)]).updPart 0
      fun q => { q with records := [recordS stop] }
    (s.part 0).records.find? (fun x => x.cq == 63) = some (recordS stop) ∧ s.rd F.HIF_CQ_CFG_enable 0 63 = 1 ∧
    (s.conn 0 (s.rd F.HIF_CQ_CFG_conn 0 63)).up = true ∧
    (s.rd F.HIF_CQ_STS_written 0 63 + 2 ^ 32 - s.rd F.HIF_CQ_STS_host_consumed 0 63) % 2 ^ 32 < 2 ^ s.rd F.HIF_CQ_CFG_log_size 0 63 ∧
    ((recordS stop).ring < 64) := by decide +kernel

theorem test_fetch : let s := ringS [(F.HIF_CR_CFG_enable, 1), (F.HIF_CR_STS_producer, 1)]
    s.rd F.HIF_CR_CFG_enable 0 63 = 1 ∧ s.rd F.HIF_CR_CFG_stopped 0 63 = 0 ∧ (s.conn 0 (s.rd F.HIF_CR_CFG_conn 0 63)).up = true ∧
    (cmd 0).desc.length = 64 ∧ (s.part 0).state ≠ .booting ∧ (s.fetchedOf 0 63).length < 8 ∧ (s.openOf 0 (.ring 63)).isSome = false ∧
    0 < (s.rd F.HIF_CR_STS_producer 0 63 + 2 ^ 32 - s.rd F.HIF_CR_STS_consumer 0 63) % 2 ^ 32 ∧
    s.rd F.HIF_MBOX_CTL_busy 0 = 0 ∧ ((s.wr F.HIF_MBOX_CTL_busy 1 0).rd F.HIF_MBOX_CTL_busy 0 = 1) := by decide +kernel

/-- A descriptor as the front of ring 0; the command it opens, and the state that holds it. -/
def descS (op : Nat) (args : List (Nat × Nat) := []) : List Byte := filed 64 ((0, op) :: args)
def openS (d : List Byte) (src : CmdSrc := .ring 0) : OpenCmd :=
  { src := src, desc := d, ext := [], checked := false, stage := 0, note := 0, orphan := false }
def fetchedS (d : List Byte) (st : PState := .idle) : State := (inState st).updPart 0 fun q => { q with fetched := [(0, [d])] }
def startS (d : List Byte) (st : PState := .idle) : State :=
  (fetchedS d st).updPart 0 fun q => { q with fetched := tabSet (fun _ => []) q.fetched 0 [], opens := q.opens ++ [openS d] }

/-- Bytes that offend; a control command, with the slot free and held; other commands. -/
theorem test_decode : (let s := fetchedS (descS 0); s.fetchedOf 0 0 = [descS 0] ∧ s.openOf 0 (srcOf 0) = none ∧
      (s.part 0).records = [] ∧ s.rd F.HIF_CR_CFG_stopped 0 0 = 0 ∧ (s.part 0).state ≠ .booting) ∧
    (∀ x ∈ [(descS 0, none), (descS 0 [(8, 1)], some 8), (descS 0xFF, some 0), (descS 0 [(1, 2)], some 1), (descS 0 [(2, 1)], some 2),
        (descS 0x33 [(8, 5), (16, 63)], none), (descS 0 [(0x28, 1)], some 0x28), (descS 0 [(1, 1), (0x28, 1)], none)],
      (startS x.1).decodeFault 0 (openS x.1) = x.2) ∧
    isControl 0x33 = true ∧ isControl 0 = false ∧ ((startS (descS 0x33)).part 0).slotHolder = none ∧
    ((startS (descS 0x33)).part 0).slotWait = [] ∧
    (let s := (opened (openS (descS 0) .mailbox)); s.openOf 0 .mailbox = some (openS (descS 0) .mailbox)) ∧
    (let s := (opened (openS (descS 0x33))).updPart 0 fun q => { q with slotWait := [.ring 0] }
     (s.part 0).slotWait = [(openS (descS 0x33)).src] ∧ (s.part 0).slotHolder = none ∧ s.openOf 0 (.ring 0) = some (openS (descS 0x33))) := by
  decide +kernel

/-- START is refused when IDLE; LOAD_IMAGE has an extension; FW_COMMIT is critical and INSTALL_KEY has a case of its own. -/
theorem test_decisions : (startS (descS 0x13) .idle).legalNow 0 (openS (descS 0x13)) = false ∧
    (∀ d ∈ [descS 0, descS 0 [(1, 1), (0x28, 1)], descS 0x39, descS 0x30 [(2, 3)]], let o := openS d; let v := startS d
      v.legalNow 0 o = true ∧ (v.extension 0 o (some [1])).isSome ∧ v.cmdKey 0 = none) ∧
    (startS (descS 0x10 [(2, 1)])).legalNow 0 (openS (descS 0x10 [(2, 1)])) = true ∧
    (startS (descS 0x10 [(2, 1)])).extension 0 (openS (descS 0x10 [(2, 1)])) none = none ∧
    critical 0x39 = true ∧ critical 0 = false ∧ (openS (descS 0 [(1, 1)])).field 1 1 = 1 := by decide +kernel

/-- An owned partition, and a descriptor with the MAC of its key. -/
def ownedS (s : State) : State := { s with vault := { s.vault with key0 := some [1, 2, 3], mc1 := 4 } }
def macS (c : Nat) : List Byte :=
  let d := descS 0 [(1, 1), (0x28, c)]
  d.take 0x30 ++ (ownedS State.reset).macOf 0 [1, 2, 3] (openS d) []

theorem test_authentication : ∀ x ∈ [(4, true), (5, false)], let o := openS (macS x.1); let v := ownedS (startS (macS x.1))
    v.legalNow 0 o = true ∧ v.extension 0 o none = some [] ∧ v.cmdKey 0 = some [1, 2, 3] ∧ (o.field 1 1).testBit 0 = true ∧
    v.macOf 0 [1, 2, 3] o [] = (o.desc.drop 0x30).take 16 ∧ o.field 0x28 8 = x.1 ∧ decide (x.1 ≤ v.lastCounter 0) = x.2 ∧
    v.macOf 0 [1, 2, 3] (openS (descS 0 [(1, 1)])) [] ≠ ((descS 0 [(1, 1)]).drop 0x30).take 16 := by decide +kernel

/-! ### Host commands -/

/-- A command that has passed its checks, in a state; and a window of connection 0 that reads and writes 64 bytes. -/
def runS (op : Nat) (args : List (Nat × Nat) := []) (s : State := State.reset) (ext : List Byte := []) : State := opened (cmd op args ext) s
def winS (s : State := connS 1) : State :=
  s.updPart 0 fun q => { q with windows := [(0, BitVec.ofNat 256 (64 * 2 ^ 64 + 2 ^ 162 + 2 ^ 163 + 2 ^ 164))] }

theorem test_ready_commands : (∀ op ∈ [0x00, 0x01, 0x02, 0x03, 0x04, 0x16, 0x20, 0x21, 0x22, 0x23], (runS op).readyCmd 0 0 op (cmd op)) := by
  unfold State.readyCmd; decide +kernel

/-- Through no window, outside memory, of memory, of the set-up window. -/
theorem test_memory_commands : ∀ op ∈ [0x03, 0x04],
    (let s := runS op [(16, 64)]; s.windowDetail 0 0 0 64 true ≠ 0 ∧ s.windowDetail 0 0 0 64 false ≠ 0) ∧
    (let o := cmd op [(16, 64), (8, sramBase)]; let s := runS op [(16, 64), (8, sramBase)] winS
     bits o.arg1 0 32 = 64 ∧ bits o.arg2 0 8 = 0 ∧ bits o.arg2 8 56 = 0 ∧ o.arg0 = sramBase ∧
     s.windowDetail 0 0 0 64 true = 0 ∧ s.windowDetail 0 0 0 64 false = 0 ∧ s.placeOf 0 o.arg0 64 = .memory ∧ o.arg0 % 64 = 0 ∧
     s.home 0 o.arg0 = .sram o.arg0 ∧ (s.sramRead o.arg0).2.ok = true ∧
     ((s.setSramSide sramBase { check := 0, poison := true, err := 0 }).sramRead o.arg0).2.ok = false ∧
     s.placeOf 0 (2 ^ 41 - 64) 64 = .outside (2 ^ 41 - 64) ∧ s.placeOf 0 regsBase 64 = .window 0) := by decide +kernel

theorem test_port_commands : (∀ x ∈ [(31, 0), (31, 1), (31, 2), (31, 3), (31, 4), (0x43, 0), (0x43, 1)],
      let o := cmd 0x21 [(8, x.1), (16, x.2)]; bits o.arg0 0 8 = x.1 ∧ bits o.arg1 0 4 = x.2 ∧ bits o.arg1 4 5 = 0) ∧
    (let s := lit.wr F.OE_LASER_STS_absorber 0 0 3
     s.spLit 3 = true ∧ (portIn 31 ptDark s).portState 31 = ptDark ∧ State.reset.spLit 3 = false ∧
     (portIn 31 ptIncompatible).portState 31 = ptIncompatible ∧ (portIn 31 ptUp).portState 31 ≠ ptIncompatible) ∧
    ((State.reset.startBack 31 0).port 31).txLane ≠ 0 ∧
    (((State.reset.updPort 31 fun c => { c with txLane := 0 }).startBack 31 0).port 31).txLane = 0 := by decide +kernel

theorem test_cal_and_policies : (let o := cmd 0x22 [(8, 2 ^ 31)] [] 1; let s := opened o
      s.running? 0 0 0x22 = some o ∧ o.stage = 1 ∧ (s.part 0).opens.filter (fun x => x.src == o.src) = [o] ∧
      maskPorts (bits o.arg0 0 32) = [31] ∧ 31 % 8 ∉ (s.oe (31 / 8)).recal) ∧
    (∀ k ∈ [1, 2, 3, 4, 5], bits (cmd 0x23 [(8, k)]).arg0 0 8 = k) ∧
    (∀ x ∈ [(filed 64 [(32, 1)], false, false), (filed 64 [(0, 2 ^ 157)], false, true), (filed 64 [(0, 64)], true, true),
        (filed 64 [(0, 1)], true, false)],
      let v := ofLE (x.1.take 32); let z := allZero ((x.1.drop 32).take 32)
      (z && bits v 157 3 == 0 && bits v 192 64 == 0) = x.2.1 ∧
      (z && bits v 112 16 == 0 && bits v 165 91 == 0 && bits v 0 64 % 64 == 0 && bits v 64 48 % 64 == 0) = x.2.2) ∧
    (State.reset.farEntry 0 3).testBit 156 = false ∧ State.reset.windowBusy 0 3 = false := by decide +kernel

/-- A tile with a spare and one without, an idle and a busy core; a swap in each phase. -/
theorem test_core_swap : let o := cmd 0x20 [(8, 63)]; let n := bits o.arg0 0 6
    let s := runS 0x20 [(8, 63)]; let u := s.wr F.TILE_LPMAP_spare_phys 4 0 15
    n = 63 ∧ ((s.wr F.TILE_LPMAP_spare_phys 7 0 15).rd F.TILE_LPMAP_spare_phys 0 15 = 7) ∧
    u.rd F.TILE_LPMAP_spare_phys 0 15 ≠ 7 ∧ (∀ e ∈ [Eng.scu, .mxe, .vxe, .dmx], (u.stream 63 e).code = 0) ∧
    (((u.updCore 63 fun k => k.updStream .vxe fun st => { st with status := .running }).stream 63 .vxe).code = 1) ∧
    (u.part 0).swap = none ∧
    (∀ k ∈ [0, 1, 2, 3], let w : Swap := { core := 63, old := 3, spare := 4, phase := k }
      let v := u.updPart 0 fun q => { q with swap := some w }
      (v.part 0).swap = some w ∧ v.swapOpen 0 = none ∧
      (let d := opened (cmd 0x20 [(8, 63)] [] 1) v
       d.swapOpen 0 = some (cmd 0x20 [(8, 63)] [] 1) ∧
       (d.part 0).opens.filter (fun x => x.src == (cmd 0x20 [(8, 63)] [] 1).src) = [cmd 0x20 [(8, 63)] [] 1])) := by decide +kernel

/-! ### Resets -/

/-- A RESET_UNIT of a unit through a ring whose completion ring takes records; and through the mailbox. -/
def resetS (kind u : Nat) : State :=
  (runS 0x33 [(8, kind), (16, u)] (connS 1)).wr F.HIF_CQ_CFG_enable 1 0 0
def mailS (op : Nat) (args : List (Nat × Nat) := []) (i3c : Bool := false) (ext : List Byte := []) : OpenCmd :=
  { cmd op args ext with src := .mailbox, i3c := i3c }

theorem test_unit_resets : ∀ x ∈ [(0, 0), (1, 1), (2, 3), (3, 15), (4, 31), (5, 63 + 15 * 64), (6, 3), (7, 31)],
    let s := resetS x.1 x.2; let o := cmd 0x33 [(8, x.1), (16, x.2)]
    bits o.arg0 0 4 = x.1 ∧ bits o.arg1 0 10 = x.2 ∧ (s.running? 0 0 0x33 = some o ∧ o.stage = 0 ∧ (s.part 0).opens.filter (fun x => x.src == o.src) = [o]) ∧
    (x.1 < 2 → (s.recordNow 0 o).isSome = true ∧ (State.reset.recordNow 0 (mailS 0x33)).isSome = true) ∧
    (s.part 0).resetUnits.any (fun y => y.covers (resetUnitOf x.1 x.2)) = false ∧
    (1 < x.1 → x.1 < 5 →
      let half := s.updPart 0 fun q => { q with resets := [(1, 1)] }
      (half.part 0).resetUnits.any (fun y => y.covers (resetUnitOf x.1 x.2)) = true ∧ (half.part 0).resets[0]? = some (1, 1)) ∧
    (let d := opened (cmd 0x33 [(8, x.1), (16, x.2)] [] 1) s
     (d.part 0).opens.all (fun o => o.checked && o.opcode == 0x33 && o.stage == 1) = true) := by decide +kernel

/-! ### Boot -/

/-- A firmware signed by the key 1, whose public key is the base point, with security version `sec`. -/
def fwHead (sec : Nat := 0) : List Byte :=
  filed 24 [(0, 0x4E46414D), (4, 1), (0xC, sec)] ++ toBE 48 p384g.1 ++ toBE 48 p384g.2 ++ List.replicate 40 0
def fwImage : List Byte := fwHead ++ ecdsaSign 1 1 (sha384 fwHead)

/-- A part in BOOTING that trusts that key, with the image in both slots of both halves. -/
def bootS (straps : Nat) (m : Mgp := {}) (s : State := State.reset) : State :=
  let f : Flash := { slotA := fwImage, slotB := fwImage }
  { (inState .booting 0 s).wr F.CLK_STS_root_lock 1 0 with
    straps := BitVec.ofNat 8 straps, mgp0 := m, mgp1 := m, flash0 := f, flash1 := f
    fuses := { rootKeys := [sha384 (toBE 48 p384g.1 ++ toBE 48 p384g.2)] } }

theorem test_release : (State.reset.part 0).state = .cold ∧
    (∀ x ∈ [(0, false), (1, false), (2, true), (3, true), (0x30, true), (0x50, true), (0x10, false)],
      let d := bits x.1 0 2; let src := bits x.1 4 2
      decide (2 ≤ d ∨ (d = 0 ∧ State.reset.fuses.gradeX = true) ∨ src = 3 ∨ (src = 1 ∧ x.1.testBit 6 = true)) = x.2) := by decide +kernel

theorem test_slot_select : ∀ src ∈ [0, 1, 2], let s := bootS (16 * src)
    (s.part 0).state ≠ .cold ∧ (s.part 0).stopped = false ∧ (s.mgp 1).stage = 0 ∧ s.rd F.CLK_STS_root_lock 0 = 1 ∧
    (1, 1) ∉ (s.part 0).resets ∧ bits s.straps.toNat 4 2 = src ∧ (s.flash 1).trial = false ∧
    (∀ n ∈ [1, 2], let t := s.updFlash 1 fun f => { f with trial := true, attempts := n }
      (t.flash 1).trial = true ∧ decide ((t.flash 1).attempts < 2) = decide (n = 1)) := by decide +kernel

set_option maxRecDepth 60000 in
theorem test_firmware_verifies : (bootS 0).fwFault 0 fwImage = none ∧ (bootS 0).fwFault 0 [] = some 1 := by decide +kernel

theorem test_firmware_rows : ∀ x ∈ [(1, 0, false), (1, 1, true), (1, 2, false), (2, 3, false)],
    let s := bootS 0 { stage := x.1, slot := x.2.1, second := x.2.2 }
    (s.part 0).state ≠ .cold ∧ (s.mgp 1).stage = x.1 ∧ (s.mgp 1).slot = x.2.1 ∧ (s.mgp 1).second = x.2.2 ∧
    ((x.1 = 1 ∧ x.2.1 ≠ 3) ∨ (x.1 = 2 ∧ x.2.1 = 3)) ∧ s.mgpOf 0 = 0 ∧ (s.mgp 0).stage = x.1 := by decide +kernel

theorem test_boot_images : (∀ k ∈ [0, 1], (bootS 0 { stage := 1, slot := k }).bootImage 1 [] = fwImage) ∧
    (bootS 0 { stage := 1, slot := 2 }).bootImage 1 fwImage = fwImage ∧
    (let s := inState .booting; (s.part 0).state = .booting ∧ s.rd F.BOOT_STS_stage 0 ≠ 7 ∧
      (s.wr F.BOOT_STS_stage 7 0).rd F.BOOT_STS_stage 0 = 7) := by
  refine ⟨fun k hk => ?_, rfl, ?_⟩
  · rcases List.mem_cons.mp hk with rfl | hk
    · rfl
    · rcases List.mem_singleton.mp hk with rfl
      rfl
  · decide +kernel

/-- Mafin starts, trains memory, fills it, and completes. -/
theorem test_mafin : (let s := (bootS 0 { stage := 3 }).wr F.BOOT_STS_stage 3 0
      s.hasPart 0 = true ∧ (s.part 0).state = .booting ∧ s.rd F.BOOT_STS_stage 0 = 3 ∧ (s.mgp (s.mgpOf 0)).stage = 3 ∧
      (∀ t, t < 16 → s.partOfTile t = 0 ∧ ¬ (s.goodCores t).length < 4) ∧
      (({ s with fuses := { s.fuses with fusedBad := [(15, 3)] } }.goodCores 15).length < 4)) ∧
    (let s := (bootS 0).wr F.BOOT_STS_stage 4 0
     s.rd F.BOOT_STS_stage 0 = 4 ∧ s.partOfHalf (19 / 10) = 0 ∧ s.bootWipes 0 = true ∧
     ((s.wr F.RST_CAUSE_kind 2 0).bootWipes 0) = false ∧ s.encOn 0 = false) ∧
    (((bootS 0).updPart 0 fun q => { q with filling := true }).part 0).filling = true ∧
    (let s := { (bootS 0).wr F.BOOT_STS_stage 5 0 with twoPart := true }; (s.part 0).filling = false ∧ s.rd F.BOOT_STS_stage 0 = 5) := by
  decide +kernel

/-- Every bridge of the part has been trained. -/
theorem test_bridges_ready :
    ((List.range 32).foldl (fun s b => brSide b 0 brActive (brSide b 1 brActive s)) State.reset).bridgesReady 0 = true := by
  decide +kernel

/-! ### Firmware staging -/

def stageS (kind n : Nat) (img : List Byte) : OpenCmd := cmd 0x38 [(16, n), (25, kind)] (sha384 img)
def stageState (o : OpenCmd) : State := opened o ((bootS 0).updPart 0 fun q => { q with
  state := .idle, conns := [(0, { up := true, sp := 0, hostQpn := 0 })], windows := [(0, BitVec.ofNat 256 (2 ^ 32 * 2 ^ 64 + 2 ^ 162 + 2 ^ 163))] })

/-- Lengths at and above the limit of a kind, through a window that is open and one that is not; another FW_STAGE in progress. -/
theorem test_staging_fetch : ∀ x ∈ [(0, 0x800000, true), (0, 0x800001, false), (1, 1024, true), (1, 1025, false)],
    let o := stageS x.1 x.2.1 []; let s := stageState o
    bits o.arg2 8 8 = x.1 ∧ bits o.arg1 0 32 = x.2.1 ∧ decide (x.2.1 ≤ (if x.1 = 0 then 0x800000 else 1024)) = x.2.2 ∧
    s.staging 0 o.src = false ∧ s.windowDetail 0 (bits o.arg2 0 8) o.arg0 x.2.1 false = 0 ∧
    (opened o).windowDetail 0 (bits o.arg2 0 8) o.arg0 x.2.1 false ≠ 0 ∧
    ((s.updPart 0 fun q => { q with opens := q.opens ++ [{ stageS 0 0 [] with src := .ring 1, stage := 1 }] }).staging 0 o.src) = true := by
  decide +kernel

set_option maxRecDepth 60000 in
theorem test_staged_hash : (let o := stageS 0 256 fwImage; sha384 (padTo 256 fwImage) = o.ext.take 48 ∧ padTo 256 fwImage = fwImage) ∧
    (let o := stageS 1 64 []; sha384 (padTo 64 []) ≠ o.ext.take 48) ∧ configValid [] = false := by decide +kernel

theorem test_staged_state : (∀ k ∈ [0, 1], let o := { stageS k 256 [] with ext := fwImage, stage := 1 }; let s := opened o
      s.running? 0 0 0x38 = some o ∧ o.stage = 1 ∧ (s.part 0).opens.filter (fun x => x.src == o.src) = [o]) ∧
    (∀ now ∈ [0, 1], let o := cmd 0x39 [(8, now)]; let s := (runS 0x39 [(8, now)] (connS 1)).wr F.HIF_CQ_CFG_enable 1 0 0
      bits o.arg0 0 1 = now ∧ (s.flash (s.mgpOf 0)).staged = false ∧
      (let t := s.updFlash 0 fun f => { f with staged := true }
       (t.flash (t.mgpOf 0)).staged = true ∧ (((t.updFlashes 0 Flash.commit).recordNow 0 o).isSome = true))) := by decide +kernel

/-! ### Keys, reports and partitions -/

/-- The extension that gives the key of 32 bytes 7 to a part whose Alias key is 1, from the host key 1. -/
def keyExt : List Byte :=
  toBE 48 p384g.1 ++ toBE 48 p384g.2 ++
  toBE 40 648752253043243905721126518451153137682454459945253429918978589501244716151089510502680179854068 ++
  (sha384 (toBE 48 p384g.1 ++ toBE 48 p384g.2)).take 16

def aliasS : State := State.reset.updPart 0 fun q => { q with aliasKey := 1 }

set_option maxRecDepth 60000 in
theorem test_new_key : (match aliasS.newKey 0 keyExt with
      | .ok k => k == List.replicate 32 7
      | .error _ => false) = true ∧
    (match State.reset.newKey 0 [] with
      | .ok _ => 0
      | .error d => d) = 5 ∧
    aliasS.keyGen 0 + 1 < 2 ^ 32 ∧ 2 ^ 32 ≤ { aliasS with vault := { aliasS.vault with mc3 := 2 ^ 32 - 1 } }.keyGen 0 + 1 := by
  decide +kernel

theorem test_key_commands : (∀ k ∈ [0, 1, 2], ∀ m ∈ [true, false], let o := mailS 0x30 [(8, k), (1, if m then 1 else 0)] true
      let s := opened o
      s.running? 0 64 0x30 = some o ∧ o.stage = 0 ∧ (s.part 0).opens.filter (fun x => x.src == o.src) = [o] ∧
      bits o.arg0 0 8 = k ∧ o.src = .mailbox ∧ o.i3c = true ∧ (o.field 1 1).testBit 0 = m ∧ s.cmdKey 0 = none ∧
      (ownedS s).cmdKey 0 ≠ none) ∧ (cmd 0x30).src ≠ .mailbox := by decide +kernel

theorem test_attest : ∀ k ∈ [0, 1, 2], let o := cmd 0x31 [(8, k)]; let s := runS 0x31 [(8, k)] winS
    (s.running? 0 0 0x31 = some o ∧ o.stage = 0 ∧ (s.part 0).opens.filter (fun x => x.src == o.src) = [o]) ∧ bits o.arg0 0 8 = k ∧
    bits o.arg2 0 8 = 0 ∧ s.windowDetail 0 0 o.arg1 64 true = 0 ∧ s.windowDetail 0 0 o.arg1 65 true ≠ 0 ∧
    s.windowDetail 0 0 o.arg1 0 true = 0 := by decide +kernel

/-- PARTITION: a device that is whole, and one in two partitions with East IDLE, with and without its consent. -/
theorem test_partition : (∀ k ∈ [0, 1, 2], ∀ p ∈ [0, 1], ∀ two ∈ [false, true], ∀ consent ∈ [false, true],
      let o := cmd 0x32 [(8, k)]; let a := inState .idle 1 ((connS 1).wr F.HIF_CQ_CFG_enable 1 0 0)
      let s := ({ a with twoPart := two, vault := { a.vault with consent := consent } }).updPart p fun q => { q with opens := [o] }
      (s.running? p 0 0x32 = some o ∧ o.stage = 0 ∧ (s.part p).opens.filter (fun x => x.src == o.src) = [o]) ∧ bits o.arg0 0 2 = k ∧
      s.twoPart = two ∧ (s.part 1).state = .idle ∧ s.vault.consent = consent ∧ ¬ 2 ^ 32 ≤ s.vault.mc5 + 1 ∧
      (p = 0 → (s.recordNow p o).isSome = true)) ∧
    2 ^ 32 ≤ ({ State.reset.vault with mc5 := 2 ^ 32 - 1 }).mc5 + 1 ∧ State.reset.twoPart = false := by decide +kernel

/-! ### Faults, ageing and power -/

theorem test_fault_log : ∀ cls ∈ [0, 1], let s := (State.reset.record 0 cls 1 3).updPart 0 fun q => { q with state := .idle }
    s.mafinRuns 0 = true ∧ (s.nextRaised 0).map (·.cls) = some cls ∧ (s.part 0).log.length < 256 := by decide +kernel

theorem test_fault_ring : let x : Logged := { seq := 1, cls := 1, bytes := [], written := false }
    let s := ((((connS 1).wr F.FLT_RING_CFG_enable 1 0).wr F.FLT_RING_CFG_log_size 2 0).wr F.FLT_RING_STS_written 2 0).updPart 0
      fun q => { q with log := [x] }
    (s.part 0).log.find? (fun y => !y.written) = some x ∧ s.rd F.FLT_RING_CFG_enable 0 = 1 ∧
    (s.conn 0 (s.rd F.FLT_RING_CFG_conn 0)).up = true ∧
    (s.rd F.FLT_RING_STS_written 0 + 2 ^ 32 - s.rd F.FLT_RING_STS_host_consumed 0) % 2 ^ 32 < 2 ^ s.rd F.FLT_RING_CFG_log_size 0 ∧
    (∀ n ∈ [0, 2], (n + 2 ^ 32 - s.rd F.FLT_RING_STS_host_consumed 0) % 2 ^ 32 ≤ 2) ∧
    ¬ (3 + 2 ^ 32 - s.rd F.FLT_RING_STS_host_consumed 0) % 2 ^ 32 ≤ 2 ∧ (connS 1).rd F.FLT_RING_CFG_enable 0 = 0 ∧
    ((connS 1).wr F.FLT_RING_CFG_log_size 17 0).rd F.FLT_RING_CFG_log_size 0 = 17 ∧ s.rd F.FLT_RING_CFG_log_size 0 ≤ 16 ∧
    ((State.reset.updPart 0 fun q => { q with ageSel := true }).part 0).ageSel = true := by decide +kernel

/-- Upsets of no bit, one bit, and two bits of one word of the last granule. -/
theorem test_sram_errors : tabGet listDefault { State.reset with sramFix := [(15, [sramBase])] }.sramFix 15 = [sramBase] ∧
    (let a := sramBase + 15 * tileBytes + 64 * 1572863
     (∀ x ∈ [(0, true, true), (1, false, true), (3, true, false)], let err := (State.reset.sramSide a).err ^^^ BitVec.ofNat 600 x.1
       (ceWords err).isEmpty = x.2.1 ∧ (ueWords err).isEmpty = x.2.2) ∧ (State.reset.sramSide a).poison = false) := by decide +kernel

theorem test_ue_limit : let s := { (inState .idle).wr F.FLT_CTL_ue_limit 2 0 with ueTicks := [(35, [0, 0, 0])] }
    s.partOfHalf ((35 - 16) / 10) = 0 ∧ s.rd F.FLT_CTL_ue_limit 0 = 2 ∧
    2 < ((tabGet listDefault s.ueTicks 35).filter fun x => decide ((s.part 0).gtc < x + 3600000 * s.msTicks)).length ∧
    (s.part 0).state ≠ .quarantined ∧ (s.part 0).state ≠ .cold ∧
    (let q := inState .quarantined; (q.part 0).state = .quarantined ∧ 31 ∈ q.portsOf 0 ∧ (q.port 31).dark = false) := by decide +kernel

theorem test_ageing : (inState .idle).mafinRuns ((inState .idle).partOfHalf 1) = true ∧
    (let o := cmd 0x34; (runS 0x34).running? 0 0 0x34 = some o ∧ o.stage = 0 ∧ ((runS 0x34).part 0).opens.filter (fun x => x.src == o.src) = [o]) := by
  decide +kernel

theorem test_thermal_and_power : let s := inState .idle; let r := inState .running
    (∀ u ∈ [39, 59], (s.part (s.partOfSensor u)).state ≠ .cold ∧ (s.temp u).warn = false ∧ (s.temp u).now < 16 * shutTemp u ∧
      16 * warnTemp u ≤ 4095 ∧ 16 * shutTemp u ≤ 4095) ∧
    railOk 9 0 = false ∧ (s.part 0).state ≠ .cold ∧ s.powerLimitW < 65535 ∧ 100 * 0 ≤ 97 * s.powerLimitW ∧
    0 ∈ s.parts ∧ s.running 0 = false ∧ r.running 0 = true ∧ r.schedStopped 0 = false := by decide +kernel

/-! ### Register paths -/

/-- An offset with no register; registers of several units, with every access type; one that the other partition sees. -/
theorem test_register_offsets : decodeOffset 0x18 = none ∧
    (∀ x ∈ ([(.EXC_CNT_A, 63), (.CORE_CTL, 63), (.CORE_EVT, 63), (.ID_DEVICE, 0), (.SCH_CTL, 0)] : List (Reg × Nat)),
      let off := Reg.key x.1 0 x.2 0 0
      off % 8 = 0 ∧ off < 2 ^ 26 ∧ decodeOffset off = some (x.1, x.2, 0, 0) ∧ State.reset.seesReg 0 x.1 x.2 0 = true ∧
      x.1 ∉ [.BRG_CTL, .MTG_CTL, .OE_CTL, .OE_RINGTAB_DATA, .HIF_CR_ADDR, .HIF_CQ_ADDR, .HIF_CR_CFG, .HIF_CQ_CFG, .HIF_MBOX_DESC,
        .HIF_MBOX_CTL, .BOOT_CTL, .DBG_APER_BASE, .FLT_RING_ADDR, .FLT_RING_CFG, .FLT_RING_STS, .AGE_LOG_SEL]) ∧
    State.reset.hasPart 0 = true ∧ State.reset.hasPart 1 = false ∧
    ({ State.reset with twoPart := true }.seesReg 0 .CORE_CTL 63 0) = false ∧
    clearsFlag (Reg.key .CORE_EVT 0 63 0 0) 1 = true ∧ setsLock (Reg.key .CORE_CTL 0 63 0 0) (2 ^ 31) = true ∧
    (State.reset.regLocked 0 .CORE_CTL 63 0) = false ∧
    ((State.reset.setReg .CORE_CTL (2 ^ 31) 0 63).regLocked 0 .CORE_CTL 63 0) = true := by decide +kernel

/-- The debug window: the aperture at SRAM, where a write is performed (IDLE), refused (BOOTING) and not served (COLD); engine state of core 63. -/
theorem test_debug_window : let s := (inState .idle).setReg .DBG_APER_BASE (BitVec.ofNat 64 sramBase) 0
    s.rd F.DBG_APER_SEL_space 0 = 0 ∧ s.rd F.DBG_APER_BASE_base 0 = sramBase ∧ s.dbgMemOk 0 (sramBase + 8) = true ∧
    State.reset.dbgServed 0 = false ∧ s.dbgServed 0 = true ∧
    (let b := (inState .booting).wr F.BOOT_STS_stage 5 0; b.dbgServed 0 = true ∧ b.dbgMemOk 0 (sramBase + 8) = false) ∧ s.home 0 (sramBase + 8) = .sram (sramBase + 8) ∧
    (s.sramRead ((sramBase + 8) / 64 * 64)).2.ok = true ∧ s.home 0 ((sramBase + 8) / 64 * 64) = .sram ((sramBase + 8) / 64 * 64) ∧
    (sramBase + 8) % 8 = 0 ∧ (0x3FFFFF8 - 0x3000000) / 0x40000 = 63 ∧ s.partOfCore 63 = 0 ∧ s.dbgEngineOk 0 63 = true ∧
    (inState .running).dbgEngineOk 0 63 = false ∧ (inState .running).dbgServed 0 = true ∧ ({ s with twoPart := true }.partOfCore 63) = 1 := by decide +kernel

/-- An I3C write and a read request of an offset, with their CRC-8 in error by `bad`. -/
def i3cBytes (op off : Nat) (bad : Nat := 0) : List Byte :=
  let b := toLE 1 op ++ toLE 4 off ++ (if op = 2 then toLE 8 7 else [])
  b ++ toLE 1 (crc8 b + bad)

theorem test_i3c_transfers : (∀ x ∈ [(2, 14), (1, 6)], ∀ bad ∈ [0, 1], ∀ off ∈ [0, 4, 2 ^ 26], let b := i3cBytes x.1 off bad
      b.length = x.2 ∧ leAt b 0 1 = x.1 ∧ leAt b 1 4 = off ∧ decide (crc8 (b.take (x.2 - 1)) = leAt b (x.2 - 1) 1) = decide (bad = 0)) ∧
    (inState .idle).i3cAnswers 1 = true ∧ (inState .idle).i3cBusy 1 = false ∧ (inState .booting).i3cAnswers 1 = true ∧
    (inState .booting).i3cBusy 1 = true := by decide +kernel

/-! ### Steps -/

/-- What a command leaves, where it answers a next state. -/
def after {α : Type} (o : Host.Outcome State Fault Refusal) (f : State → α) : Option α :=
  match o with
  | .next t => some (f t)
  | .fault _ => none
  | .refused _ => none

theorem test_idle_tick : let s := State.reset.wr F.CLK_STS_root_lock 1 0
    s.pending = [] ∧ after (step s) (fun t => ((t.part 0).gtc, t.pending.length)) = some (1, 0) ∧ Memory.wf s.mem = true ∧
    s.vault.mc5 < 2 ^ 32 := by decide +kernel

theorem test_step_runs_front : let s := { State.reset with pending := [.pcsLockGained 0 0, .arpRequest 0 0, .arpRequest 1 0] }
    after (step { s with pending := s.pending.drop 1 }) (·.pending) = some [.arpRequest 1 0] ∧ after (step s) (·.pending) = none := by
  decide +kernel

/-- SADD of 7 and 7 in the free plane (R123); START of a ring's doorbell (R408); a read of the set-up window over I3C (R405). -/
theorem test_sadd : after (exec (.sadd 0 (ins 0 2 [(fD.1, 7), (fA.1, 8), (fB.1, 9)])) (ready 0 .scu (ins 0 2 [(fD.1, 7), (fA.1, 8), (fB.1, 9)]) (atSram sramBase 7)))
    (fun t => (t.core 0).pends.map (·.effects)) = some [[.sreg 7 14]] := by decide +kernel

theorem test_doorbell_step : after (exec (.commandDoorbell 0 63 9) (ringS [(F.HIF_CR_CFG_enable, 1), (F.HIF_CR_CFG_log_size, 3), (F.HIF_CR_STS_producer, 7),
    (F.HIF_CR_STS_consumer, 5)])) (fun t => (t.rd F.HIF_CR_STS_producer 0 63, t.rd F.HIF_EVT_ring_err 0)) = some (9, 0) := by decide +kernel

theorem test_lock_step : after (exec (.lockSet 0 (BitVec.ofNat 26 (Reg.key .CORE_CTL 0 63 0 0)) (BitVec.ofNat 64 (2 ^ 31 + 1))) State.reset)
    (fun t => (t.regLocked 0 .CORE_CTL 63 0, t.rd F.CORE_CTL_chk_report 0 63)) = some (true, 1) := by decide +kernel

/-! ### Known answers of the public standards (FIPS 180-4, FIPS 197, RFC 3394) -/

theorem test_hashes : ofBE (sha256 [0x61, 0x62, 0x63]) = 0xba7816bf8f01cfea414140de5dae2223b00361a396177a9cb410ff61f20015ad ∧
    ofBE ((sha384 [0x61, 0x62, 0x63]).take 16) = 0xcb00753f45a35e8bb5a03d699ac65007 := by decide +kernel

theorem test_aes : ofBE (aesEnc (toBE 32 0x603deb1015ca71be2b73aef0857d77811f352c073b6108d72d9810a30914dff4) (toBE 16 0x6bc1bee22e409f96e93d7e117393172a)) =
      0xf3eed1bdb5d2a03c064b5a7e3db181f8 ∧
    (kwUnwrap (toBE 32 0x000102030405060708090A0B0C0D0E0F101112131415161718191A1B1C1D1E1F)
      (toBE 40 0x28C9F404C4B810F4CBCCB35CFB87F8263F5786E2D80ED326CBC7F0E71A99F43BFB988B9B7A02DD21)).map ofBE =
      some 0x00112233445566778899AABBCCDDEEFF000102030405060708090A0B0C0D0E0F := by decide +kernel

/-- CRC check values over the bytes of "123456789". -/
theorem test_crcs : let b := (List.range 9).map fun i => BitVec.ofNat 8 (49 + i)
    crc16T10 b = 0xD0DB ∧ crc16Ccitt b = 0x29B1 ∧ crc32Ieee b = 0xCBF43926 ∧ crc32C b = 0xE3069283 ∧ crc8 b = 0xF4 := by decide +kernel

/-! ### Ill-formed commands -/

theorem test_ill_formed : (Instr.registerWrite 0 4 0 false).wellFormed = false ∧ (Instr.flagClear 0 4 0).wellFormed = false ∧
    (Instr.lockSet 0 4 0).wellFormed = false ∧ (Instr.debugRead 0 4).wellFormed = false ∧ (Instr.debugWrite 0 4 0).wellFormed = false ∧
    (Instr.commandFetch 0 0 []).wellFormed = false ∧ (Instr.i3cRegisterWrite 0 []).wellFormed = false ∧
    (Instr.i3cReadRequest 0 []).wellFormed = false ∧ (Instr.wireTestDone 0 0 [(1, 2), (1, 2)]).wellFormed = false ∧
    (Instr.ringUpdate 0 4 3 17 0 0).wellFormed = false ∧ (Instr.tableDrift 0 0 2 17).wellFormed = false ∧
    (Instr.recalRingDone 0 0 3 16 0 false).wellFormed = false ∧ (Instr.sweepStep 0 0 2 17 0).wellFormed = false ∧
    (Instr.powerSample 0 []).wellFormed = false ∧ decodeTableWord 8 1 = none := by decide +kernel

end Sys2Proof.Tests
end

section
/-! SUPPORT. Frames: a command's part that leaves storage and engines, or also the ports and every register outside a set of
keys, as they were; and that host-command bookkeeping (R409–R417), the end of an arming (R183) and lost alignment (R51, R61) are
such parts. -/

namespace Sys2Proof.Proofs

open Sys2Proof.Machine Sys2Proof.Laws

/-! ### Storage and engines -/

/-- Storage, cores and gather engines are as before. -/
structure KeepsStore (s t : State) : Prop where
  mem : t.mem = s.mem
  cores : t.cores = s.cores
  gathers : t.gathers = s.gathers

namespace KeepsStore

theorem refl (s : State) : KeepsStore s s := ⟨rfl, rfl, rfl⟩

theorem trans {s t u : State} (h : KeepsStore s t) (g : KeepsStore t u) : KeepsStore s u :=
  ⟨g.mem.trans h.mem, g.cores.trans h.cores, g.gathers.trans h.gathers⟩

theorem sameMemory {s t : State} (h : KeepsStore s t) : SameMemory s t := fun a => by
  unfold State.byte
  rw [h.mem]

theorem sameEngines {s t : State} (h : KeepsStore s t) : SameEngines s t := ⟨h.cores, h.gathers⟩

theorem updPart {s t : State} {p : Nat} {f : Part → Part} (h : KeepsStore s t) : KeepsStore s (t.updPart p f) :=
  h.trans ⟨updPart_mem _ _ _, updPart_cores _ _ _, updPart_gathers _ _ _⟩

theorem updPort {s t : State} {q : Nat} {f : Port → Port} (h : KeepsStore s t) : KeepsStore s (t.updPort q f) :=
  h.trans ⟨updPort_mem _ _ _, updPort_cores _ _ _, updPort_gathers _ _ _⟩

theorem setReg {s t : State} {r : Reg} {v : Word} {p i j k : Nat} (h : KeepsStore s t) :
    KeepsStore s (t.setReg r v p i j k) := h.trans ⟨rfl, rfl, rfl⟩

theorem wr {s t : State} {f : Fld} {v p i j k : Nat} (h : KeepsStore s t) : KeepsStore s (t.wr f v p i j k) := h.setReg

theorem flag {s t : State} {f c : Fld} {p i j : Nat} (h : KeepsStore s t) : KeepsStore s (t.flag f c p i j) := h.wr.wr

theorem emit {s t : State} {e : Emit} (h : KeepsStore s t) : KeepsStore s (t.emit e) := h.trans ⟨rfl, rfl, rfl⟩

theorem ite {s t u : State} {c : Prop} {_ : Decidable c} (h : KeepsStore s t) (g : KeepsStore s u) :
    KeepsStore s (if c then t else u) := by split <;> assumption

theorem foldl {α : Type} {s t : State} {f : State → α → State} (l : List α) (hf : ∀ a x, KeepsStore a (f a x))
    (h : KeepsStore s t) : KeepsStore s (l.foldl f t) := by
  induction l generalizing t with
  | nil => exact h
  | cons x l ih => exact ih (h.trans (hf t x))

end KeepsStore

/-! ### Registers -/

/-- Storage, engines and ports are as before, and so is every register whose key is not in `K`. -/
structure ChangesOnly (K : Nat → Prop) (s t : State) : Prop extends KeepsStore s t where
  ports : t.ports = s.ports
  reg : ∀ r p i j k, ¬ K (Reg.key r p i j k) → t.reg r p i j k = s.reg r p i j k

namespace ChangesOnly

variable {K : Nat → Prop} {s t u : State}

theorem refl (K : Nat → Prop) (s : State) : ChangesOnly K s s := ⟨.refl s, rfl, fun _ _ _ _ _ _ => rfl⟩

theorem trans (h : ChangesOnly K s t) (g : ChangesOnly K t u) : ChangesOnly K s u :=
  ⟨h.toKeepsStore.trans g.toKeepsStore, g.ports.trans h.ports, fun r p i j k n => (g.reg r p i j k n).trans (h.reg r p i j k n)⟩

theorem mono {L : Nat → Prop} (h : ChangesOnly K s t) (m : ∀ x, K x → L x) : ChangesOnly L s t :=
  ⟨h.toKeepsStore, h.ports, fun r p i j k n => h.reg r p i j k fun x => n (m _ x)⟩

theorem ite {c : Prop} {_ : Decidable c} (h : ChangesOnly K s t) (g : ChangesOnly K s u) :
    ChangesOnly K s (if c then t else u) := by split <;> assumption

theorem foldl {α : Type} {f : State → α → State} (l : List α) (hf : ∀ x ∈ l, ∀ a, ChangesOnly K a (f a x))
    (h : ChangesOnly K s t) : ChangesOnly K s (l.foldl f t) := by
  induction l generalizing t with
  | nil => exact h
  | cons x l ih =>
    exact ih (fun y m => hf y (List.mem_cons_of_mem x m)) (h.trans (hf x List.mem_cons_self t))

theorem setReg {r : Reg} {v : Word} {p i j k : Nat} (h : ChangesOnly K s t) (m : K (r.key p i j k)) :
    ChangesOnly K s (t.setReg r v p i j k) :=
  h.trans ⟨⟨rfl, rfl, rfl⟩, rfl, fun _ _ _ _ _ n => reg_setReg_ne _ _ _ _ _ _ _ _ _ _ _ _ fun e => n (e ▸ m)⟩

theorem wr {f : Fld} {v p i j k : Nat} (h : ChangesOnly K s t) (m : K (f.reg.key p i j k)) :
    ChangesOnly K s (t.wr f v p i j k) := h.setReg m

theorem flag {f c : Fld} {p i j : Nat} (h : ChangesOnly K s t) (m : K (f.reg.key p i j 0)) (n : K (c.reg.key p i j 0)) :
    ChangesOnly K s (t.flag f c p i j) := (h.wr m).wr n

theorem updPart {p : Nat} {f : Part → Part} (h : ChangesOnly K s t) : ChangesOnly K s (t.updPart p f) :=
  h.trans ⟨.updPart (.refl t), updPart_ports _ _ _,
    fun _ _ _ _ _ _ => updPart_reg _ _ _ _ _ _ _ _⟩

theorem emit {e : Emit} (h : ChangesOnly K s t) : ChangesOnly K s (t.emit e) :=
  h.trans ⟨⟨rfl, rfl, rfl⟩, rfl, fun _ _ _ _ _ _ => rfl⟩

theorem takeFree (h : ChangesOnly K s t) : ChangesOnly K s t.takeFree.2 :=
  h.trans ⟨⟨rfl, rfl, rfl⟩, rfl, fun _ _ _ _ _ _ => rfl⟩

theorem record {p cls kind unit die eid addr info0 info1 : Nat} {ch : Bool} (h : ChangesOnly K s t) :
    ChangesOnly K s (t.record p cls kind unit die eid addr info0 info1 ch) := by
  unfold State.record
  exact h.updPart

theorem rd (h : ChangesOnly K s t) (f : Fld) (p i j k : Nat) (n : ¬ K (f.reg.key p i j k)) :
    t.rd f p i j k = s.rd f p i j k := by
  unfold State.rd
  rw [h.reg _ _ _ _ _ n]

theorem port (h : ChangesOnly K s t) (q : Nat) : t.port q = s.port q := by
  unfold State.port
  rw [h.ports]

end ChangesOnly

/-- Every key. -/
def AnyKey (_ : Nat) : Prop := True

namespace ChangesOnly

variable {K : Nat → Prop} {s t : State}

theorem any (h : ChangesOnly K s t) : ChangesOnly AnyKey s t := h.mono fun _ _ => trivial

theorem sameMemory (h : ChangesOnly K s t) : SameMemory s t := h.toKeepsStore.sameMemory

theorem sameEngines (h : ChangesOnly K s t) : SameEngines s t := h.toKeepsStore.sameEngines

end ChangesOnly

/-! ### Host commands -/

/-- The keys of the host interface's registers of a partition (R431). -/
def HostKey (p x : Nat) : Prop := p * 0x4000000 + 0x380000 ≤ x ∧ x < p * 0x4000000 + 0x390000

theorem refusalFlags_changes (s : State) (p status : Nat) : ChangesOnly (HostKey p) s (s.refusalFlags p status) := by
  unfold State.refusalFlags
  refine .ite (.flag (.refl _ s) ?_ ?_) (.ite (.flag (.refl _ s) ?_ ?_) (.ite (.flag (.refl _ s) ?_ ?_) (.refl _ s)))
  all_goals
    simp only [HostKey, F.HIF_EVT_state_reject, F.HIF_EVT_CNT1_reject_cnt, F.HIF_EVT_auth_fail, F.HIF_EVT_CNT0_auth_fail_cnt,
      F.HIF_EVT_auth_stale, F.HIF_EVT_CNT0_auth_stale_cnt, key_HIF_EVT, key_HIF_EVT_CNT0, key_HIF_EVT_CNT1]
    omega

/-- Completing a command writes registers of the host interface only (R409–R411, R414). -/
theorem complete_changes (s : State) (p : Nat) (src : CmdSrc) (status detail r0 r1 : Nat) :
    ChangesOnly (HostKey p) s (s.complete p src status detail r0 r1) := by
  have e : ChangesOnly (HostKey p) s ((s.releaseSlot p src).refusalFlags p status) :=
    (ChangesOnly.updPart (.refl _ s)).trans (refusalFlags_changes _ p status)
  unfold State.complete
  split
  · exact .refl _ s
  · cases src with
    | ring r =>
      refine .ite e.updPart (.updPart (.wr e.updPart ?_))
      simp only [HostKey, F.HIF_CR_STS_consumer, key_HIF_CR_STS]
      omega
    | mailbox =>
      refine .flag (.wr (.foldl _ (fun i m a => .setReg (.refl _ a) ?_) (.takeFree e.updPart)) ?_) ?_ ?_
      · have := List.mem_range.mp m
        simp only [HostKey, key_HIF_MBOX_CPL]
        omega
      all_goals
        simp only [HostKey, F.HIF_MBOX_CTL_busy, F.HIF_MBOX_CTL_done, F.HIF_MBOX_CTL_done_cnt, key_HIF_MBOX_CTL]
        omega

theorem completeOp_changes (s : State) (p op status detail r0 r1 : Nat) :
    ChangesOnly (HostKey p) s (s.completeOp p op status detail r0 r1) :=
  .foldl _ (fun o _ a => complete_changes a p o.src status detail r0 r1) (.refl _ s)

theorem enter_changes (s : State) (p : Nat) (st : PState) : ChangesOnly (HostKey p) s (s.enter p st) := by
  have v : ChangesOnly (HostKey p) s { s with vault := { s.vault with consent := false } } :=
    ⟨⟨rfl, rfl, rfl⟩, rfl, fun _ _ _ _ _ _ => rfl⟩
  unfold State.enter
  refine .wr (.updPart (.ite v (.refl _ s))) ?_
  simp only [HostKey, F.HIF_STS_state, key_HIF_STS]
  omega

/-- An event that moves the partition to a state, with the commands it aborts (R416, R417). -/
theorem enterEvent_changes (s : State) (p : Nat) (st : PState) : ChangesOnly (HostKey p) s (s.enterEvent p st) :=
  .foldl _ (fun o _ a => complete_changes a p o.src _ _ _ _) (enter_changes s p st)

/-! ### Arming and alignment -/

/-- The keys that the end of an arming or of a run's alignment may write: the host interface's, the schedule's and the alignment
status of the partition. -/
def RunKey (p x : Nat) : Prop :=
  HostKey p x ∨ (p * 0x4000000 + 0x40000 ≤ x ∧ x < p * 0x4000000 + 0x41000) ∨ x = p * 0x4000000 + 0x30028

theorem endArming_changes (s : State) (p status r0 : Nat) : ChangesOnly (RunKey p) s (s.disarm p status r0) := by
  have e (f : Part → Part) :
      ChangesOnly (RunKey p) s (((s.updPart p f).enterEvent p .loaded).wr F.SCH_STS_plane 1 p) := by
    refine .wr ((ChangesOnly.updPart (.refl _ s)).trans ((enterEvent_changes _ p _).mono fun _ => .inl)) (.inr (.inl ?_))
    simp only [F.SCH_STS_plane, key_SCH_STS]
    omega
  exact .ite (e _) ((e _).trans ((completeOp_changes _ p _ _ _ _ _).mono fun _ => .inl))

/-- A condition of ARMED that fails (R183) leaves storage, engines, ports and every register outside the run's as they were. -/
theorem armBroken_changes (s : State) (p status : Nat) : ChangesOnly (RunKey p) s (s.armBroken p status) := by
  unfold State.armBroken
  exact .ite ((ChangesOnly.emit (.updPart (.refl _ s))).trans (endArming_changes _ p _ _)) (.refl _ s)

theorem slip_changes (s : State) (p cause : Nat) : ChangesOnly (RunKey p) s (s.slip p cause) := by
  refine ⟨⟨slip_mem s p cause, slip_cores s p cause, slip_gathers s p cause⟩, slip_ports s p cause, fun r p' i j k n => ?_⟩
  refine reg_slip s p cause r p' i j k fun m => n ?_
  simp only [slipKeys, List.mem_cons, List.not_mem_nil, or_false, key_SCH_EVT, key_SCH_EVT_CNT, key_SCH_FREEZE,
    key_SCH_SLIP_GTC, key_SCH_SLIP, key_SCH_STS] at m
  exact .inr (.inl (by omega))

theorem slipIfRunning_changes (s : State) (p cause : Nat) : ChangesOnly (RunKey p) s (s.slipIfRunning p cause) :=
  .ite (slip_changes s p cause) (.refl _ s)

theorem loseAlign_changes (s : State) (p cause : Nat) : ChangesOnly (RunKey p) s (s.loseAlign p cause) := by
  refine (ChangesOnly.trans (.updPart (.wr (.refl _ s) (.inr (.inr ?_)))) (slipIfRunning_changes _ p cause)).trans
    (armBroken_changes _ p _)
  simp only [F.GTC_ALIGN_STS_aligned, key_GTC_ALIGN_STS, Nat.zero_mul, Nat.add_zero]

end Sys2Proof.Proofs
end

section
/-! PROOFS. Clocks and group time (02): what the events of the PLLs, of REFCLK, of timing words and of the alignment do. -/

namespace Sys2Proof.Proofs

open Sys2Proof.Machine Sys2Proof.Laws

/-- An outcome is a next state with a property: what `Completes` says of a command's outcome. -/
def Yields (r : Res) (Q : State → Prop) : Prop := ∃ t, r = .next t ∧ Q t

theorem completes_iff_yields {i : Instr} {s : State} {Q : State → Prop} : Completes i s Q ↔ Yields (exec i s) Q := Iff.rfl

theorem Yields.next {t : State} {Q : State → Prop} (q : Q t) : Yields (.next t) Q := ⟨t, rfl, q⟩

theorem Yields.mono {r : Res} {P Q : State → Prop} (h : Yields r P) (m : ∀ t, P t → Q t) : Yields r Q := by
  obtain ⟨t, e, p⟩ := h
  exact ⟨t, e, m t p⟩

theorem Yields.ite {c : Prop} {_ : Decidable c} {r u : Res} {Q : State → Prop} (h : c → Yields r Q) (g : ¬ c → Yields u Q) :
    Yields (if c then r else u) Q := by
  split
  · next x => exact h x
  · next x => exact g x

/-- A guarded command whose condition holds completes with its next state. -/
theorem completes_guarded {i : Instr} {s t : State} {ok : Bool} {why : String} {Q : State → Prop}
    (e : exec i s = guarded ok why t) (h : ok = true) (q : Q t) : Completes i s Q := ⟨t, e.trans (guarded_next h), q⟩

/-! ### Fields of one register -/

theorem rd_wr_apart {s : State} {f g : Fld} {v p i j k : Nat} (h : g.reg = f.reg ∧
    (g.lo + g.width ≤ f.lo ∨ f.lo + f.width ≤ g.lo) ∧ g.lo + g.width ≤ 64) : (s.wr f v p i j k).rd g p i j k = s.rd g p i j k :=
  rd_wr_disjoint _ _ _ _ _ _ _ _ h.1 h.2.1 h.2.2

/-- A flag whose counter is the same register's, above it, reads 1 when it is set (R9). -/
theorem rd_flag_own {s : State} {f c : Fld} {p i j : Nat}
    (h : f.reg = c.reg ∧ f.lo + f.width ≤ c.lo ∧ c.lo + c.width ≤ 64) : (s.flag f c p i j).rd f p i j = 1 % 2 ^ f.width := by
  obtain ⟨r, a, w⟩ := h
  unfold State.flag State.count
  rw [rd_wr_apart ⟨r, .inl a, by omega⟩, rd_wr_same _ _ _ _ _ _ _ (by omega)]

/-- Its counter reads one more, wrapping (R9). -/
theorem rd_flag_own_count {s : State} {f c : Fld} {p i j : Nat}
    (h : f.reg = c.reg ∧ f.lo + f.width ≤ c.lo ∧ c.lo + c.width ≤ 64) :
    (s.flag f c p i j).rd c p i j = (s.rd c p i j + 1) % 2 ^ c.width := by
  obtain ⟨r, a, w⟩ := h
  unfold State.flag
  rw [rd_count_same _ _ _ _ _ _ _ w, rd_wr_apart ⟨r.symm, .inr a, w⟩]

/-! ### PLLs and REFCLK -/

theorem ownSplls_lt (s : State) (p : Nat) : s.ownSplls p < 16 := by
  unfold State.ownSplls
  split
  · split <;> decide
  · decide

/-- ROOT_PLL_LOCK (R47, R54). -/
theorem rootPllLock_completes (p : Fin 2) (s : State) (b : (s.part p).state = .booting)
    (l : s.rdB F.CLK_STS_root_lock p = false) (m : p.val ∈ s.parts) :
    Completes (.rootPllLock p) s fun t => t.rd F.CLK_STS_root_lock p = 1 ∧ t.rd F.CLK_STS_ref_present p = 1 ∧
      t.rd F.CLK_STS_spll_lock p = s.ownSplls p ∧ (t.part p).gtc = 0 ∧ (t.part p).state = .booting ∧
      SameMemory s t ∧ SameEngines s t := by
  refine completes_guarded rfl (by simp [b, l, m]) ⟨?_, ?_, ?_, ?_, ?_, fun a => ?_, ?_, ?_⟩
  · rw [updPart_rd, rd_wr_apart (by decide),
      rd_wr_apart (by decide), rd_wr_same _ _ _ _ _ _ _ (by decide)]
    rfl
  · rw [updPart_rd, rd_wr_apart (by decide), rd_wr_same _ _ _ _ _ _ _ (by decide)]
    rfl
  · rw [updPart_rd, rd_wr_same _ _ _ _ _ _ _ (by decide)]
    exact Nat.mod_eq_of_lt (ownSplls_lt _ _)
  all_goals simp [b]

/-- ROOT_UNLOCK (R71, R9). -/
theorem rootUnlock_completes (p : Fin 2) (s : State) (l : s.rdB F.CLK_STS_root_lock p = true) :
    Completes (.rootUnlock p) s fun t => t.rd F.CLK_STS_root_lock p = 0 ∧ t.rd F.CLK_EVT_root_unlock p = 1 ∧
      t.rd F.CLK_EVT_root_cnt p = (s.rd F.CLK_EVT_root_cnt p + 1) % 65536 ∧ (t.part p).gtc = (s.part p).gtc ∧
      SameMemory s t ∧ SameEngines s t := by
  have k : Reg.key .CLK_EVT p 0 0 0 ≠ Reg.key .CLK_STS p 0 0 0 := by rw [key_CLK_EVT, key_CLK_STS]; omega
  have h : ChangesOnly AnyKey s ((s.wr F.CLK_STS_root_lock 0 p).flag F.CLK_EVT_root_unlock F.CLK_EVT_root_cnt p) :=
    .flag (.wr (.refl _ s) trivial) trivial trivial
  refine completes_guarded rfl l ⟨?_, ?_, ?_, ?_, h.sameMemory, h.sameEngines⟩
  · rw [rd_flag_ne _ _ _ _ _ _ _ _ _ _ _ (by exact k.symm) (by exact k.symm), rd_wr_same _ _ _ _ _ _ _ (by decide)]
    rfl
  · exact rd_flag_own (by decide)
  · rw [rd_flag_own_count (by decide), rd_wr_ne _ _ _ _ _ _ _ _ _ _ _ _ (by exact k)]
    rfl
  · rw [flag_part, wr_part]

/-- SPLL_UNLOCK (R53, R9). -/
theorem spllUnlock_completes (o : Fin 4) (s : State) (l : (s.rd F.CLK_STS_spll_lock (s.partOfOe o)).testBit o = true) :
    Completes (.spllUnlock o) s fun t => (t.rd F.CLK_STS_spll_lock (s.partOfOe o)).testBit o = false ∧
      t.rd F.CLK_EVT_spll_unlock (s.partOfOe o) = 1 ∧
      t.rd F.CLK_EVT_spll_cnt (s.partOfOe o) = (s.rd F.CLK_EVT_spll_cnt (s.partOfOe o) + 1) % 65536 ∧
      SameMemory s t ∧ SameEngines s t := by
  have k : Reg.key .CLK_EVT (s.partOfOe o) 0 0 0 ≠ Reg.key .CLK_STS (s.partOfOe o) 0 0 0 := by
    rw [key_CLK_EVT, key_CLK_STS]; omega
  have h : ChangesOnly AnyKey s ((s.wr F.CLK_STS_spll_lock (putBits (s.rd F.CLK_STS_spll_lock (s.partOfOe o)) o 1 0)
      (s.partOfOe o)).flag F.CLK_EVT_spll_unlock F.CLK_EVT_spll_cnt (s.partOfOe o)) :=
    .flag (.wr (.refl _ s) trivial) trivial trivial
  refine completes_guarded rfl l ⟨?_, ?_, ?_, h.sameMemory, h.sameEngines⟩
  · rw [rd_flag_ne _ _ _ _ _ _ _ _ _ _ _ (by exact k.symm) (by exact k.symm), rd_wr_same _ _ _ _ _ _ _ (by decide),
      Nat.testBit_mod_two_pow,
      testBit_putBits]
    simp
  · exact rd_flag_own (by decide)
  · rw [rd_flag_own_count (by decide), rd_wr_ne _ _ _ _ _ _ _ _ _ _ _ _ (by exact k)]
    rfl

/-- REFCLK_LOSS (R51): losing the alignment touches neither CLK_STS nor CLK_EVT. -/
theorem refclkLoss_completes (p : Fin 2) (s : State) (r : s.rdB F.CLK_STS_ref_present p = true) :
    Completes (.refclkLoss p) s fun t => t.rd F.CLK_STS_ref_present p = 0 ∧ t.rd F.CLK_STS_holdover p = 1 ∧
      t.rd F.CLK_EVT_ref_loss p = 1 ∧ SameMemory s t ∧ SameEngines s t := by
  have k : Reg.key .CLK_EVT p 0 0 0 ≠ Reg.key .CLK_STS p 0 0 0 := by rw [key_CLK_EVT, key_CLK_STS]; omega
  have c : Reg.key .CLK_EVT p 0 0 0 ≠ Reg.key .CLK_EVT_CNT p 0 0 0 := by rw [key_CLK_EVT, key_CLK_EVT_CNT]; omega
  have ks : ¬ RunKey p (Reg.key .CLK_STS p 0 0 0) := by rw [key_CLK_STS, RunKey, HostKey]; omega
  have ke : ¬ RunKey p (Reg.key .CLK_EVT p 0 0 0) := by rw [key_CLK_EVT, RunKey, HostKey]; omega
  let u := ((s.flag F.CLK_EVT_ref_loss F.CLK_EVT_CNT_ref_loss_cnt p).wr F.CLK_STS_ref_present 0 p).wr F.CLK_STS_holdover 1 p
  have h : ChangesOnly (RunKey p) u (u.loseAlign p 0x09) := loseAlign_changes u p _
  have hu : ChangesOnly AnyKey s u := .wr (.wr (.flag (.refl _ s) trivial trivial) trivial) trivial
  have v := (hu.trans h.any).record (p := p) (cls := 7) (kind := 1) (unit := 0) (die := 0xFF) (eid := 0) (addr := 0)
    (info0 := ((u.loseAlign p 0x09).reg .CLK_STS p).toNat) (info1 := 0) (ch := false)
  refine completes_guarded rfl r ⟨?_, ?_, ?_, v.sameMemory, v.sameEngines⟩
  · rw [record_rd, h.rd _ _ _ _ _ (by exact ks), rd_wr_apart (by decide),
      rd_wr_same _ _ _ _ _ _ _ (by decide)]
    rfl
  · rw [record_rd, h.rd _ _ _ _ _ (by exact ks), rd_wr_same _ _ _ _ _ _ _ (by decide)]
    rfl
  · rw [record_rd, h.rd _ _ _ _ _ (by exact ke), rd_wr_ne _ _ _ _ _ _ _ _ _ _ _ _ (by exact k), rd_wr_ne _ _ _ _ _ _ _ _ _ _ _ _ (by exact k),
      rd_flag_same _ _ _ _ _ _ (by decide) (by exact c)]
    rfl

end Sys2Proof.Proofs
end

section
/-! PROOFS. Clocks and group time (02), continued: ports held in retrain, timing words and the alignment. -/

namespace Sys2Proof.Proofs

open Sys2Proof.Machine Sys2Proof.Laws

/-! ### Ports that retrain -/

theorem alignRestart_changes (s : State) (q : Nat) : ChangesOnly AnyKey s (s.alignRestart q) :=
  .ite (.refl _ s) (.wr (.wr (.updPart (.refl _ s)) trivial) trivial)

theorem computeRoutes_changes (s : State) (p : Nat) : ChangesOnly AnyKey s (s.computeRoutes p) := by
  unfold State.computeRoutes
  split
  · exact .updPart (.refl _ s)
  · split
    · exact .refl _ s
    · exact .updPart (.takeFree (.refl _ s))

theorem routesChanged_changes (s : State) (q : Nat) : ChangesOnly AnyKey s (s.routesChanged q) := by
  unfold State.routesChanged
  dsimp only
  split
  case h_1 | h_2 => exact .updPart (.refl _ s)
  all_goals exact computeRoutes_changes s _

theorem portFlags_changes (s : State) (q : Nat) : ChangesOnly AnyKey s (s.portFlags q) :=
  .foldl _ (fun _ _ a => .ite (.refl _ a) (.wr (.refl _ a) trivial)) (.wr (.refl _ s) trivial)

/-- A port state entered (R331, R332) changes registers and the partition's bookkeeping only. -/
theorem setPortState_changes (s : State) (q st : Nat) : ChangesOnly AnyKey s (s.setPortState q st) := by
  have a (u : State) (h : ChangesOnly AnyKey s u) (c : Bool) : ChangesOnly AnyKey s (if c then u.alignRestart q else u) :=
    .ite (h.trans (alignRestart_changes u q)) h
  have b (u : State) (h : ChangesOnly AnyKey s u) (c : Bool) (p st : Nat) :
      ChangesOnly AnyKey s (if c then u.armBroken p st else u) := .ite (h.trans (armBroken_changes u p st).any) h
  have r (u : State) (h : ChangesOnly AnyKey s u) (c d : Bool) :
      ChangesOnly AnyKey s (if c then u else if d then u.routesChanged q else u) :=
    .ite h (.ite (h.trans (routesChanged_changes u q)) h)
  exact (r _ (b _ (a _ (.wr (.wr (.refl _ s) trivial) trivial) _) _ _ _) _ _).trans (portFlags_changes _ q)

theorem clearDelay_keeps (s : State) (q : Nat) : KeepsStore s (s.clearDelay q) := by
  unfold State.clearDelay
  exact .wr (.updPort (.refl s))

theorem ringsOf_keeps (s : State) (q : Nat) (rs : List (Nat × Nat)) (f : Ring → Ring) : KeepsStore s (s.ringsOf q rs f) :=
  .foldl _ (fun _ _ => ⟨rfl, rfl, rfl⟩) (.refl s)

theorem startTraining_keeps (s : State) (q : Nat) (full : Bool) : KeepsStore s (s.startTraining q full) := by
  have a : KeepsStore s (((s.setPortState q ptTraining).clearDelay q).setFibre q fbLocking) :=
    ((setPortState_changes s q ptTraining).toKeepsStore.trans (clearDelay_keeps _ q)).wr
  exact (a.trans (ringsOf_keeps _ q laneRings _)).updPort

/-- A port that retrains (R331) leaves storage and engines as they were. -/
theorem retrainPort_keeps (s : State) (q cause : Nat) (tell : Bool) : KeepsStore s (s.retrainPort q cause tell) := by
  have a (u : State) (h : ChangesOnly AnyKey s u) (c : Bool) (p : Nat) :
      ChangesOnly AnyKey s (if c then u.slipIfRunning p 0x0A else u) := .ite (h.trans (slipIfRunning_changes u p _).any) h
  have b (u : State) (h : ChangesOnly AnyKey s u) (e : Emit) : ChangesOnly AnyKey s (if tell then u.emit e else u) :=
    .ite h.emit h
  exact .ite ((b _ (a _ (.flag (.refl _ s) trivial trivial) _ _) _).toKeepsStore.trans (startTraining_keeps _ q false)) (.refl s)

/-- HOLDOVER_TIMEOUT (R51): every link is held in retrain. -/
theorem holdoverTimeout_completes (p : Fin 2) (s : State) (h : s.rdB F.CLK_STS_holdover p = true)
    (r : s.rdB F.CLK_STS_ref_present p = false) :
    Completes (.holdoverTimeout p) s fun t => (t.part p).linksHeld = true ∧ SameMemory s t ∧ SameEngines s t := by
  have k := KeepsStore.foldl (f := fun a q => a.retrainPort q 2 false) (s.portsOf p) (fun a q => retrainPort_keeps a q 2 false)
    (.refl s)
  exact completes_guarded rfl (by simp [h, r]) ⟨by rw [part_updPart_same], k.updPart.sameMemory, k.updPart.sameEngines⟩

/-- REFCLK_RETURN (R52). -/
theorem refclkReturn_completes (p : Fin 2) (s : State) (h : s.rdB F.CLK_STS_holdover p = true) :
    Completes (.refclkReturn p) s fun t => t.rd F.CLK_STS_ref_present p = 1 ∧ t.rd F.CLK_STS_holdover p = 0 ∧
      (t.part p).linksHeld = false ∧ (t.part p).loadThetas = [] ∧ (t.part p).goodMeans = 0 ∧
      t.rd F.GTC_ALIGN_STS_phase p = (if s.isMaster p then 0 else 1) ∧ SameMemory s t ∧ SameEngines s t := by
  have k : Reg.key .CLK_STS p 0 0 0 ≠ Reg.key .GTC_ALIGN_STS p 0 0 0 := by rw [key_CLK_STS, key_GTC_ALIGN_STS]; omega
  have c : Reg.key .GTC_CTL p 0 0 0 ≠ Reg.key .CLK_STS p 0 0 0 := by rw [key_CLK_STS, key_GTC_CTL]; omega
  let u := (s.wr F.CLK_STS_ref_present 1 p).wr F.CLK_STS_holdover 0 p
  have m : u.isMaster p = s.isMaster p := by
    simp only [State.isMaster, State.rdB, u]
    rw [rd_wr_ne _ _ _ _ _ _ _ _ _ _ _ _ (by exact c), rd_wr_ne _ _ _ _ _ _ _ _ _ _ _ _ (by exact c)]
  have w : ChangesOnly AnyKey s (u.wr F.GTC_ALIGN_STS_phase (b2n !(u.isMaster p)) p) :=
    .wr (.wr (.wr (.refl _ s) trivial) trivial) trivial
  have v (f : Part → Part) : ChangesOnly AnyKey s ((u.wr F.GTC_ALIGN_STS_phase (b2n !(u.isMaster p)) p).updPart p f) := w.updPart
  refine completes_guarded rfl h ⟨?_, ?_, ?_, ?_, ?_, ?_, (v _).sameMemory, (v _).sameEngines⟩
  · rw [updPart_rd, rd_wr_ne _ _ _ _ _ _ _ _ _ _ _ _ (by exact k), rd_wr_apart (by decide), rd_wr_same _ _ _ _ _ _ _ (by decide)]
    rfl
  · rw [updPart_rd, rd_wr_ne _ _ _ _ _ _ _ _ _ _ _ _ (by exact k), rd_wr_same _ _ _ _ _ _ _ (by decide)]
    rfl
  · rw [part_updPart_same]
  · rw [part_updPart_same]
  · rw [part_updPart_same]
  · rw [updPart_rd, rd_wr_same _ _ _ _ _ _ _ (by decide)]
    change (b2n !(u.isMaster p)) % 2 ^ 2 = _
    rw [m]
    cases s.isMaster p <;> rfl

/-! ### Timing words -/

/-- A link is trained in four port states (R56). -/
theorem trained_iff {st : Nat} : (st == ptUp || st == ptUnplaced || st == ptMiswired || st == ptIncompatible) = true ↔
    st = ptUp ∨ st = ptUnplaced ∨ st = ptMiswired ∨ st = ptIncompatible := by simp [or_assoc]

theorem timingExchange_exec (q : Fin 32) (fr : BitVec 8) (s : State)
    (h : s.portState q = ptUp ∨ s.portState q = ptUnplaced ∨ s.portState q = ptMiswired ∨ s.portState q = ptIncompatible) :
    exec (.timingExchange q fr) s = .next (s.emit (.frame q ((s.port q).mgmtFrame [BitVec.ofNat 128
      (0x10 + s.stampAt (s.partOfPort q) fr.toNat * 2 ^ 8 + (s.port q).lastRx * 2 ^ 48 + (s.port q).lastArr * 2 ^ 88)]))) :=
  guarded_next (trained_iff.mpr h)

theorem roundQ_changes (K : Nat → Prop) (s : State) (n : Int) (d : Nat) : ChangesOnly K s (s.roundQ n d).2 := by
  unfold State.roundQ
  dsimp only
  split
  · exact .refl _ s
  · exact .takeFree (.refl _ s)

theorem showDelay_changes (s : State) (q : Nat) : ChangesOnly AnyKey s (s.showDelay q) :=
  .wr (.wr (.wr ((roundQ_changes _ s _ _).trans (roundQ_changes _ _ _ _)) trivial) trivial) trivial

/-- The checks of a new delay mean (R66, R183) mark the port low or not, and leave storage, engines and the rest of the port. -/
theorem checkDelay_port (s : State) (q : Nat) :
    KeepsStore s (s.checkDelay q) ∧ ∃ b, (s.checkDelay q).port q = { s.port q with low := b } := by
  have a (u : State) (h : ChangesOnly AnyKey s u) (c : Bool) (p k : Nat) : ChangesOnly AnyKey s
      (if c then (u.flag F.CLK_EVT_buf_margin F.CLK_EVT_CNT_margin_cnt p).portRecord q k else u) :=
    .ite (.record (.flag h trivial trivial)) h
  have b (u : State) (c : Prop) {_ : Decidable c} (p : Nat) :
      ChangesOnly AnyKey u (if c then u.armBroken p 0x0E else u) := .ite (armBroken_changes u p _).any (.refl _ u)
  have l (u : State) (h : ChangesOnly AnyKey s u) (v : Bool) :
      KeepsStore s (u.updPort q fun t => { t with low := v }) ∧
        (u.updPort q fun t => { t with low := v }).port q = { s.port q with low := v } :=
    ⟨h.toKeepsStore.updPort, by
      rw [port_updPort_same, h.port]⟩
  unfold State.checkDelay
  obtain ⟨x, y⟩ := l _ (a s (.refl _ s) _ _ 7) _
  exact ⟨x.trans (b _ _ _).toKeepsStore, _, ((b _ _ _).port q).trans y⟩

theorem steer_changes (s : State) (p : Nat) (theta : Int) (limit : Nat) : ChangesOnly AnyKey s (s.steer p theta limit) := by
  unfold State.steer
  exact .updPart (.wr (.takeFree (.refl _ s)) trivial)

/-- The alignment step of an offset mean (R59–R61) leaves storage, engines and ports. -/
theorem alignStep_changes (s : State) (p : Nat) (sum : Int) : ChangesOnly AnyKey s (s.alignStep p sum) := by
  have st := steer_changes s p sum
  have lost : ChangesOnly AnyKey s
      (((s.steer p sum 200).flag F.CLK_EVT_align_lost F.CLK_EVT_CNT_align_cnt p).loseAlign p 0x08) :=
    (ChangesOnly.flag (st 200) trivial trivial).trans (loseAlign_changes _ p _).any
  unfold State.alignStep
  dsimp only
  refine .ite (.updPart (st _)) (.ite (.ite (.ite ?_ (st _)) (.ite (st _) (.wr (st _) trivial))) (.refl _ s))
  split
  case h_1 | h_2 => exact lost
  all_goals exact lost.wr trivial

theorem timingWord_untrained (q : Fin 32) (m : BitVec 128) (fr : BitVec 8) (s : State) (o : bits m.toNat 0 8 = 0x10)
    (h1 : s.portState q ≠ ptUp) (h2 : s.portState q ≠ ptUnplaced) (h3 : s.portState q ≠ ptMiswired)
    (h4 : s.portState q ≠ ptIncompatible) : exec (.timingWord q m fr) s = .next s := by
  change execTimingWord q m fr s = _
  simp [execTimingWord, o, h1, h2, h3, h4]

/-- After a later word's delay is entered, its checks and the alignment step it makes end in a state with storage and engines
kept and the port as it was but for its low mark. -/
theorem timingWord_tail (q : Nat) (u : State) (c : Prop) {_ : Decidable c} :
    let v := if c then (u.showDelay q).checkDelay q else u
    KeepsStore u v ∧ ∃ b, v.port q = { u.port q with low := b } := by
  dsimp only
  split
  · obtain ⟨k, b, e⟩ := checkDelay_port (u.showDelay q) q
    exact ⟨(showDelay_changes u q).toKeepsStore.trans k, b, by rw [e, (showDelay_changes u q).port]⟩
  · exact ⟨.refl u, (u.port q).low, rfl⟩

/-- The port after a timing word's times are recorded (R56). -/
def heardPort (t : Port) (launch now : Nat) : Port := { t with heard := true, lastRx := launch, lastArr := now }

/-- The port after a timing word's delay and offset have entered the means (R57). -/
def delayedPort (t : Port) (x : Int × Int) : Port :=
  { t with delays := (x.1 :: t.delays).take 4096, thetas := (x.2 :: t.thetas).take 16 }

/-- The first timing word of a trained link only records its times (R56). -/
theorem timingWord_first (q : Fin 32) (m : BitVec 128) (fr : BitVec 8) (s : State) (o : bits m.toNat 0 8 = 0x10)
    (h : s.portState q = ptUp ∨ s.portState q = ptUnplaced ∨ s.portState q = ptMiswired ∨ s.portState q = ptIncompatible)
    (g : (s.port q).heard = false) :
    exec (.timingWord q m fr) s = .next (s.updPort q fun t =>
      heardPort t (bits m.toNat 8 40) (s.stampAt (s.partOfPort q) fr.toNat)) := by
  change execTimingWord q m fr s = _
  unfold execTimingWord
  rw [if_neg (by simp [o]), if_neg (by rw [trained_iff.mpr h]; decide), if_pos (by simp [g])]
  rfl

/-- A later timing word of a trained link enters its delay and its offset; what follows leaves storage, engines and the port but
for its low mark (R56, R57). -/
theorem timingWord_later (q : Fin 32) (m : BitVec 128) (fr : BitVec 8) (s : State) (o : bits m.toNat 0 8 = 0x10)
    (h : s.portState q = ptUp ∨ s.portState q = ptUnplaced ∨ s.portState q = ptMiswired ∨ s.portState q = ptIncompatible)
    (g : (s.port q).heard = true) :
    let now := s.stampAt (s.partOfPort q) fr.toNat
    Completes (.timingWord q m fr) s fun t => KeepsStore s t ∧ ∃ b, t.port q =
      { delayedPort (heardPort (s.port q) (bits m.toNat 8 40) now)
          (exchange (bits m.toNat 8 40) now (bits m.toNat 48 40) (bits m.toNat 88 40) (s.asym q)) with low := b } := by
  refine completes_iff_yields.mpr ?_
  change Yields (execTimingWord q m fr s) _
  unfold execTimingWord
  extract_lets p st t w now launch s1 x s2 v a c
  have p2 : s2.port q = delayedPort (heardPort (s.port q) launch now) x := by
    simp only [s2, s1, port_updPort_same]
    rfl
  obtain ⟨k3, b, p3⟩ : KeepsStore s2 v ∧ ∃ b, v.port q = { s2.port q with low := b } := timingWord_tail q s2 _
  have kv : KeepsStore s v := (KeepsStore.updPort (.updPort (.refl s))).trans k3
  have hc : ChangesOnly AnyKey v c := .updPart (.ite (.wr (.refl _ v) trivial) (.refl _ v))
  rw [if_neg (by simp [w, o]), if_neg (by rw [trained_iff.mpr h]; decide), if_neg (by simp [t, g])]
  suffices e : Yields _ (ChangesOnly AnyKey v) by
    refine e.mono fun u d => ⟨kv.trans d.toKeepsStore, b, ?_⟩
    rw [d.port, p3, p2]
    rfl
  refine Yields.ite (fun _ => .next (.refl _ v)) fun _ => ?_
  split
  · exact .next hc
  · exact .next (.trans (.wr (hc.trans (roundQ_changes _ _ _ _)) trivial) (alignStep_changes _ _ _))

/-- TIMING_WORD of a trained link (R56, R57). -/
theorem timingWord_completes (q : Fin 32) (m : BitVec 128) (fr : BitVec 8) (s : State) (o : bits m.toNat 0 8 = 0x10)
    (h : s.portState q = ptUp ∨ s.portState q = ptUnplaced ∨ s.portState q = ptMiswired ∨ s.portState q = ptIncompatible) :
    Completes (.timingWord q m fr) s fun t => (t.port q).heard = true ∧ (t.port q).lastRx = bits m.toNat 8 40 ∧
      (t.port q).lastArr = s.stampAt (s.partOfPort q) fr.toNat ∧
      (t.port q).delays = (if (s.port q).heard then
        ((exchange (bits m.toNat 8 40) (s.stampAt (s.partOfPort q) fr.toNat) (bits m.toNat 48 40) (bits m.toNat 88 40)
          (s.asym q)).1 :: (s.port q).delays).take 4096 else (s.port q).delays) ∧ SameMemory s t ∧ SameEngines s t := by
  cases g : (s.port q).heard with
  | false =>
    have k (f : Port → Port) : KeepsStore s (s.updPort q f) := .updPort (.refl s)
    refine ⟨_, timingWord_first q m fr s o h g, ?_, ?_, ?_, ?_, (k _).sameMemory, (k _).sameEngines⟩
    all_goals rw [port_updPort_same]; rfl
  | true =>
    obtain ⟨t, e, k, b, pt⟩ := timingWord_later q m fr s o h g
    refine ⟨t, e, ?_, ?_, ?_, ?_, k.sameMemory, k.sameEngines⟩
    all_goals rw [pt]; rfl

/-- DELAY_VALID (R56). -/
theorem delayValid_completes (q : Fin 32) (s : State) (n : (s.port q).delays.length = 4096) (t : s.portState q ≠ ptTraining) :
    Completes (.delayValid q) s fun t => t.rd F.LDLY_STS_valid 0 q = 1 ∧ t.ports = s.ports ∧ SameMemory s t := by
  have h : ChangesOnly AnyKey s ((s.showDelay q).wr F.LDLY_STS_valid 1 0 q) := .wr (showDelay_changes s q) trivial
  refine completes_guarded rfl (by simp [n, t]) ⟨?_, h.ports, h.sameMemory⟩
  rw [rd_wr_same _ _ _ _ _ _ _ (by decide)]
  rfl

/-! ### Alignment -/

/-- The GTC of a partition moved by k clock blocks, its offsets toward port q forgotten, coarse steering begun (R59). -/
def gtcMoved (s : State) (p q : Nat) (k : Int) : State :=
  ((s.updPart p fun y => { y with gtc := wrapNat 64 ((y.gtc : Int) - 72 * k), goodMeans := 0 }).updPort q
    fun t => { t with thetas := [] }).wr F.GTC_ALIGN_STS_phase 2 p

theorem gtcMoved_keeps (s : State) (p q : Nat) (k : Int) : KeepsStore s (gtcMoved s p q k) :=
  .wr (.updPort (.updPart (.refl s)))

theorem gtcMoved_phase (s : State) (p q : Nat) (k : Int) : (gtcMoved s p q k).rd F.GTC_ALIGN_STS_phase p = 2 :=
  rd_wr_same _ _ _ _ _ _ _ (by decide)

theorem gtcMoved_part (s : State) (p q : Nat) (k : Int) : (gtcMoved s p q k).part p =
    { s.part p with gtc := wrapNat 64 (((s.part p).gtc : Int) - 72 * k), goodMeans := 0 } := by
  have e (u : State) (f : Port → Port) : (u.updPort q f).part p = u.part p := rfl
  unfold gtcMoved
  rw [wr_part, e, part_updPart_same]

/-- GTC_LOAD (R59): the GTC moves by whole clock blocks of 72 ticks; a tie takes a free value. -/
theorem gtcLoad_completes (p : Fin 2) (s : State) (ph : s.rd F.GTC_ALIGN_STS_phase p = 1)
    (n : (s.part p).loadThetas.length = 64) (ms : s.isMaster p = false) :
    Completes (.gtcLoad p) s fun t => t.rd F.GTC_ALIGN_STS_phase p = 2 ∧ (t.part p).goodMeans = 0 ∧
      (∃ k : Int, (t.part p).gtc = wrapNat 64 (((s.part p).gtc : Int) - 72 * k)) ∧ SameMemory s t ∧ SameEngines s t := by
  suffices h : ∃ u q k, KeepsStore s u ∧ u.part p = s.part p ∧ exec (.gtcLoad p) s = .next (gtcMoved u p q k) by
    obtain ⟨u, q, k, ku, pu, e⟩ := h
    have kt := ku.trans (gtcMoved_keeps u p q k)
    exact ⟨_, e, gtcMoved_phase u p q k, by rw [gtcMoved_part], ⟨k, by rw [gtcMoved_part, pu]⟩, kt.sameMemory, kt.sameEngines⟩
  refine ⟨_, _, _, ?_, ?_, guarded_next (by simp [ph, n, ms])⟩
  · exact .ite (ChangesOnly.takeFree (.refl AnyKey s)).toKeepsStore (.refl s)
  · split <;> rfl

/-- ALIGNED (R59). -/
theorem aligned_completes (p : Fin 2) (s : State) (ph : s.rd F.GTC_ALIGN_STS_phase p = 2) (n : 100 ≤ (s.part p).goodMeans) :
    Completes (.aligned p) s fun t => t.rd F.GTC_ALIGN_STS_aligned p = 1 ∧ t.rd F.GTC_ALIGN_STS_phase p = 3 ∧
      (t.part p).gtc = (s.part p).gtc ∧ SameMemory s t ∧ SameEngines s t := by
  have h (f : Part → Part) : ChangesOnly AnyKey s
      (((s.wr F.GTC_ALIGN_STS_aligned 1 p).wr F.GTC_ALIGN_STS_phase 3 p).updPart p f) :=
    .updPart (.wr (.wr (.refl _ s) trivial) trivial)
  refine completes_guarded rfl (by simp [ph, n]) ⟨?_, ?_, ?_, (h _).sameMemory, (h _).sameEngines⟩
  · rw [updPart_rd, rd_wr_apart (by decide), rd_wr_same _ _ _ _ _ _ _ (by decide)]
    rfl
  · rw [updPart_rd, rd_wr_same _ _ _ _ _ _ _ (by decide)]
    rfl
  · rw [part_updPart_same, wr_part, wr_part]

/-- STEER_LIMIT (R60, R9). -/
theorem steerLimit_completes (p : Fin 2) (s : State) (ph : s.rd F.GTC_ALIGN_STS_phase p = 3) :
    Completes (.steerLimit p) s fun t => t.rd F.CLK_EVT_steer_limit p = 1 ∧
      t.rd F.CLK_EVT_CNT_steer_cnt p = (s.rd F.CLK_EVT_CNT_steer_cnt p + 1) % 65536 ∧ t.part0 = s.part0 ∧
      t.part1 = s.part1 ∧ SameMemory s t ∧ SameEngines s t := by
  have c : Reg.key .CLK_EVT p 0 0 0 ≠ Reg.key .CLK_EVT_CNT p 0 0 0 := by rw [key_CLK_EVT, key_CLK_EVT_CNT]; omega
  have h : ChangesOnly AnyKey s (s.flag F.CLK_EVT_steer_limit F.CLK_EVT_CNT_steer_cnt p) := .flag (.refl _ s) trivial trivial
  refine completes_guarded rfl (by simp [ph]) ⟨?_, ?_, flag_part0 _ _ _ _ _ _, flag_part1 _ _ _ _ _ _, h.sameMemory, h.sameEngines⟩
  · exact rd_flag_same _ _ _ _ _ _ (by decide) (by exact c)
  · exact rd_flag_count _ _ _ _ _ _ (by decide) (by exact c.symm)

/-- Settles O7: each event of the clocks and of group time has the effect of its own lemma. -/
theorem clocksAndGroupTime : Obligations.ClocksAndGroupTime := by
  unfold Obligations.ClocksAndGroupTime
  exact ⟨rootPllLock_completes, rootUnlock_completes, spllUnlock_completes, refclkLoss_completes, holdoverTimeout_completes,
    refclkReturn_completes, timingExchange_exec, timingWord_untrained, timingWord_completes, delayValid_completes,
    gtcLoad_completes, aligned_completes, steerLimit_completes⟩

end Sys2Proof.Proofs
end

section
/-! SUPPORT. Gather engines (04 R152–R157): threads found and updated, the end of a thread, its failure, its going on in the
script, and the requests that narrow accesses send. -/

namespace Sys2Proof.Proofs

open Sys2Proof.Machine Sys2Proof.Laws

/-! ### The first of a list that is meant -/

theorem find?_updFirst {α : Type} (q : α → Bool) (f : α → α) (hf : ∀ x, q x = true → q (f x) = true) :
    ∀ l : List α, (updFirst q f l).find? q = (l.find? q).map f
  | [] => rfl
  | x :: l => by
    unfold updFirst
    cases e : q x with
    | true => simp [e, hf x e]
    | false => simp [e, find?_updFirst q f hf l]

/-! ### Threads -/

theorem thread?_of_gathers {s t : State} (h : t.gathers = s.gathers) (g l i : Nat) : t.thread? g l i = s.thread? g l i := by
  unfold State.thread? State.gather
  rw [h]

/-- A thread's update reads back, if it leaves the thread's name. -/
theorem thread?_updThread (s : State) (g l i : Nat) (f : Thread → Thread)
    (hf : ∀ h, (f h).launch = h.launch ∧ (f h).index = h.index) :
    (s.updThread g l i f).thread? g l i = (s.thread? g l i).map f := by
  unfold State.thread? State.updThread
  rw [gather_updGather_same]
  exact find?_updFirst _ _ (fun x hx => by rw [(hf x).1, (hf x).2]; exact hx) _

theorem thread?_updThread_some {s : State} {g l i : Nat} {h : Thread} {f : Thread → Thread} (ht : s.thread? g l i = some h)
    (hf : ∀ h, (f h).launch = h.launch ∧ (f h).index = h.index) : (s.updThread g l i f).thread? g l i = some (f h) := by
  rw [thread?_updThread s g l i f hf, ht]
  rfl

theorem launches_updThread (s : State) (g l i : Nat) (f : Thread → Thread) :
    ((s.updThread g l i f).gather g).launches = (s.gather g).launches := by
  unfold State.updThread
  rw [gather_updGather_same]

/-- What a script instruction of engine `g` leaves: storage, registers and the other engines. -/
structure KeepsButGather (g : Nat) (s t : State) : Prop where
  mem : t.mem = s.mem
  regs : t.regs = s.regs
  gather : ∀ x, x ≠ g → t.gather x = s.gather x

namespace KeepsButGather

theorem refl (g : Nat) (s : State) : KeepsButGather g s s := ⟨rfl, rfl, fun _ _ => rfl⟩

theorem trans {g : Nat} {s t u : State} (h : KeepsButGather g s t) (k : KeepsButGather g t u) : KeepsButGather g s u :=
  ⟨k.mem.trans h.mem, k.regs.trans h.regs, fun x n => (k.gather x n).trans (h.gather x n)⟩

theorem updGather {g : Nat} {s t : State} {f : Gather → Gather} (h : KeepsButGather g s t) :
    KeepsButGather g s (t.updGather g f) :=
  h.trans ⟨rfl, rfl, fun x n => by rw [gather_updGather, if_neg n]⟩

theorem signal {g n sem x : Nat} {s t : State} (h : KeepsButGather g s t) : KeepsButGather g s (t.signal n sem x) :=
  h.trans ⟨rfl, rfl, fun _ _ => rfl⟩

theorem ite {g : Nat} {s t u : State} {c : Prop} {_ : Decidable c} (h : KeepsButGather g s t) (k : KeepsButGather g s u) :
    KeepsButGather g s (if c then t else u) := by split <;> assumption

theorem sameMemory {g : Nat} {s t : State} (h : KeepsButGather g s t) : SameMemory s t := fun a => by
  unfold State.byte
  rw [h.mem]

theorem rd {g : Nat} {s t : State} (h : KeepsButGather g s t) (f : Fld) (p i j k : Nat) : t.rd f p i j k = s.rd f p i j k := by
  unfold State.rd State.reg
  rw [h.regs]

end KeepsButGather

theorem updThread_keeps (s : State) (g l i : Nat) (f : Thread → Thread) : KeepsButGather g s (s.updThread g l i f) :=
  .updGather (.refl g s)

/-! ### The end of a thread (R153, R157) -/

theorem endThread_keeps (s : State) (g l i : Nat) (failed : Bool) : KeepsButGather g s (s.endThread g l i failed) := by
  unfold State.endThread
  extract_lets u
  have hu : KeepsButGather g s u := .updGather (.refl g s)
  split
  · exact hu
  · exact .ite hu (.ite hu.updGather.signal hu.updGather)

/-- A thread that has ended runs no more. -/
theorem thread?_endThread (s : State) (g l i : Nat) (failed : Bool) : (s.endThread g l i failed).thread? g l i = none := by
  unfold State.endThread
  extract_lets u
  have hu : u.thread? g l i = none := by
    unfold State.thread?
    simp only [u, gather_updGather_same]
    rw [List.find?_eq_none]
    exact fun x m => (Bool.not_eq_true' _).mp (List.mem_filter.mp m).2 ▸ Bool.false_ne_true
  have hv (f : List Launch → List Launch) :
      (u.updGather g fun x => { x with launches := f x.launches }).thread? g l i = none := by
    unfold State.thread? at hu ⊢
    rw [gather_updGather_same]
    exact hu
  split
  · exact hu
  · split
    · exact hu
    · split
      · exact (thread?_of_gathers (updCore_gathers _ _ _) g l i).trans (hv _)
      · exact hv _

/-- The code of a cause reads back from the word GXE_ERR takes (R157, R159). -/
theorem gxeErr_cause (addr t : Nat) (cause : EngCause) :
    bits (BitVec.ofNat 64 (addr % 2 ^ 41 + cause.code * 2 ^ 41 + t * 2 ^ 45)).toNat 41 4 = cause.code := by
  have c : cause.code < 16 := by cases cause <;> decide
  rw [BitVec.toNat_ofNat, bits_mod _ _ _ _ (by decide)]
  unfold bits
  rw [Nat.shiftRight_eq_div_pow]
  omega

/-- A thread whose access fails ends; GXE_EVT and GXE_ERR show it, and storage is as before (R157). -/
theorem threadErr_effect (s : State) (g l i addr : Nat) (cause : EngCause) (hc : cause ≠ .dataCheck) :
    let u := s.threadErr g l i addr cause
    u.thread? g l i = none ∧ SameMemory s u ∧ u.rd F.GXE_EVT_thread_err 0 g = 1 ∧ u.rd F.GXE_ERR_cause 0 g = cause.code := by
  have k : Reg.key .GXE_EVT 0 g 0 0 ≠ Reg.key .GXE_ERR 0 g 0 0 := by rw [key_GXE_EVT, key_GXE_ERR]; omega
  unfold State.threadErr
  extract_lets p u v w x y
  have hx : x = w := if_neg hc
  have e := endThread_keeps y g l i true
  refine ⟨thread?_endThread _ _ _ _ _, fun a => (e.sameMemory a).trans ?_, (e.rd _ _ _ _ _).trans ?_, (e.rd _ _ _ _ _).trans ?_⟩
  · simp only [y, hx, record_byte, w, setReg_byte, u, flag_byte]
  · simp only [y, hx, record_rd, w]
    rw [rd_setReg_ne _ _ _ _ _ _ _ _ _ _ _ _ (by exact k)]
    exact rd_flag_own (by decide)
  · simp only [y, hx, w, State.rd]
    rw [record_reg, show F.GXE_ERR_cause.reg = .GXE_ERR from rfl, reg_setReg_same]
    exact gxeErr_cause addr i cause

/-! ### Going on in the script (R155) -/

/-- In `u` the thread, which was `h` in `s`, has gone on to script index `pc` with registers `regs`; in a script of `n`
instructions it has ended when `pc` is past the last. Cores are kept unless it ended. -/
def GoesOn (s u : State) (g l i n : Nat) (h : Thread) (pc : Nat) (regs : Nat → Nat) : Prop :=
  (pc < n → ∃ h', u.thread? g l i = some h' ∧ h'.pc = pc ∧ h'.access = none ∧ h'.buf = h.buf ∧ (∀ x, h'.T x = regs x) ∧
    u.cores = s.cores) ∧
  (n ≤ pc → u.thread? g l i = none) ∧ (∀ x, x ≠ g → u.gather x = s.gather x) ∧ SameMemory s u ∧ u.regs = s.regs

theorem threadAt_goesOn {s : State} {g l i : Nat} {h : Thread} {y : Launch} (ht : s.thread? g l i = some h)
    (hy : (s.gather g).launches.find? (fun z => z.id == l) = some y) (pc : Nat) :
    GoesOn s (s.threadAt g l i pc) g l i y.script.length h pc h.T := by
  unfold State.threadAt
  rw [hy]
  dsimp only
  have k := updThread_keeps s g l i fun h => { h with pc := pc, access := none }
  split
  · next lt =>
    refine ⟨fun _ => ?_, fun le => absurd lt (Nat.not_lt.mpr le), k.gather, k.sameMemory, k.regs⟩
    exact ⟨_, thread?_updThread_some ht (by exact fun _ => ⟨rfl, rfl⟩), rfl, rfl, rfl, fun _ => rfl, rfl⟩
  · next ge =>
    have e := k.trans (endThread_keeps _ g l i false)
    exact ⟨fun lt => absurd lt ge, fun _ => thread?_endThread _ _ _ _ _, e.gather, e.sameMemory, e.regs⟩

theorem wrapNat_emod (w : Nat) (z : Int) : ((wrapNat w z : Nat) : Int) % ((2 ^ w : Nat) : Int) = z % ((2 ^ w : Nat) : Int) := by
  unfold wrapNat
  have pos := Nat.two_pow_pos w
  rw [Int.toNat_of_nonneg (Int.emod_nonneg _ (by omega)), Int.emod_emod_of_dvd _ (Int.dvd_refl _)]

/-- A thread that goes on with T[d] set to a value modulo 2^64 (R155). -/
theorem setT_goesOn {s : State} {c : GCtx} {y : Launch} (ht : s.thread? c.g c.l c.t = some c.h)
    (hy : (s.gather c.g).launches.find? (fun z => z.id == c.l) = some y) (d v : Nat) (z : Int)
    (hz : (v : Int) % ((2 ^ 64 : Nat) : Int) = z % ((2 ^ 64 : Nat) : Int)) :
    GoesOn s (c.setT s d v) c.g c.l c.t y.script.length c.h (c.h.pc + 1)
      fun x => if x = d then (z % ((2 ^ 64 : Nat) : Int)).toNat else c.h.T x := by
  let f (h : Thread) : Thread := { h with regs := tabSet wordDefault h.regs d (BitVec.ofNat 64 v) }
  have k := updThread_keeps s c.g c.l c.t f
  have t : (s.updThread c.g c.l c.t f).thread? c.g c.l c.t = some (f c.h) :=
    thread?_updThread_some ht fun _ => ⟨rfl, rfl⟩
  have r (x : Nat) : (f c.h).T x = if x = d then (z % ((2 ^ 64 : Nat) : Int)).toNat else c.h.T x := by
    simp only [Thread.T, f, tabGet_tabSet, ← hz]
    split
    · rw [BitVec.toNat_ofNat]
      omega
    · rfl
  obtain ⟨on, past, others, mem, regs⟩ := threadAt_goesOn t (by rw [launches_updThread]; exact hy) (c.h.pc + 1)
  refine ⟨fun lt => ?_, past, fun x n => (others x n).trans (k.gather x n), fun a => (mem a).trans (k.sameMemory a),
    regs.trans k.regs⟩
  obtain ⟨h', e, pc, acc, buf, T, cores⟩ := on lt
  exact ⟨h', e, pc, acc, buf, fun x => (T x).trans (r x), cores⟩

/-! ### Requests that leave -/

theorem queuePacket_keeps (s : State) (p dst src : Nat) (k : Packet) : KeepsStore s (s.queuePacket p dst src k) := by
  unfold State.queuePacket
  split
  · exact .refl s
  · exact .updPort (.refl s)

theorem launchPacket_keeps (s : State) (p pix : Nat) (k : Packet) : KeepsStore s (s.launchPacket p pix k) :=
  (queuePacket_keeps s _ _ _ _).emit

theorem takeTag_keeps (s : State) (p : Nat) : KeepsStore s (s.takeTag p).2 :=
  KeepsStore.updPart (f := fun q => { q with nextTag := (q.nextTag + 1) % 65536 }) (.refl s)

theorem updE2eOut_keeps {s t : State} {p pix : Nat} {f : E2eOut → E2eOut} (h : KeepsStore s t) :
    KeepsStore s (t.updE2eOut p pix f) := by
  unfold State.updE2eOut
  exact h.updPart

theorem sendSeq_keeps (s : State) (p pix : Nat) (k : Packet) : KeepsStore s (s.sendSeq p pix k) := by
  unfold State.sendSeq
  extract_lets o a k' v
  have hv : KeepsStore s v := updE2eOut_keeps (.refl s)
  exact hv.trans (launchPacket_keeps v p pix k')

/-- A request to another package or a far device leaves storage and engines as they were (R356, R357). -/
theorem sendLoad_keeps (s : State) (p pix : Nat) (k : Packet) (who : Waiter) : KeepsStore s (s.sendLoad p pix k who) := by
  unfold State.sendLoad
  extract_lets t u a k' v
  have hv : KeepsStore s v := (takeTag_keeps s p).updPart
  exact hv.trans (launchPacket_keeps v p pix k')

theorem sendAwait_keeps (s : State) (p pix : Nat) (k : Packet) (who : Waiter) : KeepsStore s (s.sendAwait p pix k who) := by
  unfold State.sendAwait
  extract_lets t u k' v aw
  have hv : KeepsStore s v := (takeTag_keeps s p).trans (sendSeq_keeps u p pix k')
  exact hv.updPart

theorem sendFar_keeps (s : State) (p entry : Nat) (k : Packet) (who : Waiter) : KeepsStore s (s.sendFar p entry k who) := by
  unfold State.sendFar
  extract_lets t u k' aw v w
  have hv : KeepsStore s v := (takeTag_keeps s p).updPart
  exact (updE2eOut_keeps hv).emit

end Sys2Proof.Proofs
end

section
/-! PROOFS. Script instructions of the gather engines (04 R154, R155): each goes on, leaves one narrow access outstanding, or ends
its thread. -/

namespace Sys2Proof.Proofs

open Sys2Proof.Machine Sys2Proof.Laws

/-! ### The instruction that may issue -/

/-- Word `w` is the next instruction of thread `h` of launch `y`, of opcode `op` with its reserved bits 0, and nothing holds it
back (R154, R155, R483). -/
structure Runs (s : State) (g l i : Nat) (w : InstrWord) (h : Thread) (y : Launch) (op : Nat) (fs : List (Nat × Nat)) :
    Prop where
  thread : s.thread? g l i = some h
  launch : (s.gather g).launches.find? (fun z => z.id == l) = some y
  word : y.script[h.pc]? = some w
  free : h.access = none
  served : s.contained (s.partOfGather g) = false
  cls : classOf w = 4
  opcode : opcodeOf w = op
  reserved : clearFields (w.toNat % 2 ^ 100) fs = 0

/-- The context the instruction issues in. -/
def issueOf (s : State) (g l i : Nat) (w : InstrWord) (h : Thread) : GCtx :=
  { g := g, p := s.partOfGather g, l := l, t := i, h := h, w := w.toNat }

section

variable {s : State} {g l i : Nat} {w : InstrWord} {h : Thread} {y : Launch} {op : Nat} {fs : List (Nat × Nat)}

theorem script_eq (r : Runs s g l i w h y op fs) (k : GCtx → Res) : s.script g l i w k = k (issueOf s g l i w h) := by
  unfold State.script
  rw [r.thread]
  dsimp only
  rw [r.launch, Option.bind_some, r.word]
  exact if_neg (by simp [r.free, r.served])

theorem scriptOp_eq (r : Runs s g l i w h y op fs) (body : GCtx → State) :
    s.scriptOp g l i w op fs body = .next (body (issueOf s g l i w h)) := by
  unfold State.scriptOp
  rw [script_eq r, if_neg (by simp [r.cls, r.opcode]), if_neg (by exact not_not_intro r.reserved)]

end

/-! ### Instructions that go on -/

section

variable {s : State} {g : Fin 32} {l i : Nat} {w : InstrWord} {h : Thread} {y : Launch} {op : Nat} {fs : List (Nat × Nat)}

/-- NOP of a script (R110). -/
theorem nop_goesOn (r : Runs s g l i w h y 0 []) :
    Completes (.nop (.thread g l i) w) s fun u => GoesOn s u g l i y.script.length h (h.pc + 1) h.T := by
  refine ⟨_, ?_, threadAt_goesOn r.thread r.launch (h.pc + 1)⟩
  change execNop (.thread g l i) w s = _
  unfold execNop
  dsimp only
  rw [script_eq r, if_pos ⟨r.cls, r.opcode, r.reserved⟩]
  rfl

/-- An instruction that sets T[d] to `v`, which is `z` modulo 2^64 (R155). -/
theorem sets_goesOn (r : Runs s g l i w h y op fs) {c : Instr} (v : GCtx → Nat) (z : Int)
    (e : exec c s = s.scriptOp g l i w op fs fun x => x.setT s (x.f 97 3) (v x))
    (hz : ((v (issueOf s g l i w h) : Nat) : Int) % ((2 ^ 64 : Nat) : Int) = z % ((2 ^ 64 : Nat) : Int)) :
    Completes c s fun u => GoesOn s u g l i y.script.length h (h.pc + 1)
      fun x => if x = bits w.toNat 97 3 then (z % ((2 ^ 64 : Nat) : Int)).toNat else h.T x :=
  ⟨_, e.trans (scriptOp_eq r _), setT_goesOn (c := issueOf s g l i w h) r.thread r.launch _ _ z hz⟩

/-- GBR (R155). -/
theorem gbr_goesOn (r : Runs s g l i w h y 0x0A [(97, 3), (94, 3), (91, 3), (87, 4)]) (taken : Bool)
    (skip : bits w.toNat 87 4 ≠ 0)
    (b : branchTaken (bits w.toNat 91 3) 64 (h.T (bits w.toNat 97 3)) (h.T (bits w.toNat 94 3)) = some taken) :
    Completes (.gbr g l i w) s fun u => GoesOn s u g l i y.script.length h
      (h.pc + 1 + if taken then bits w.toNat 87 4 else 0) h.T := by
  refine ⟨_, ?_, threadAt_goesOn r.thread r.launch _⟩
  change execGbr g l i w s = _
  unfold execGbr
  rw [scriptOp_eq r]
  refine congrArg Host.Outcome.next ?_
  simp only [GCtx.f, issueOf]
  rw [b]
  exact if_neg skip

end

/-! ### Narrow accesses -/

/-- The access of a thread, outstanding since now (R154). -/
def narrowOf (c : GCtx) (s : State) (ea size : Nat) (op : NarrowOp) (away : Bool) : Narrow :=
  { addr := ea, size := size, op := op, away := away, answer := none, issued := (s.part c.p).gtc }

/-- In `u` the thread waits for an access that it has issued; cores and storage are as in `s` (R154). -/
def Leaves (s u : State) (c : GCtx) (ea size : Nat) (op : NarrowOp) (away : Bool) : Prop :=
  u.cores = s.cores ∧ SameMemory s u ∧
    u.thread? c.g c.l c.t = some { c.h with access := some (narrowOf c s ea size op away) }

/-- In `u` the thread has ended for a cause that GXE_ERR names (R157). -/
def EndsFor (s u : State) (c : GCtx) (cause : EngCause) : Prop :=
  u.thread? c.g c.l c.t = none ∧ SameMemory s u ∧ u.rd F.GXE_EVT_thread_err 0 c.g = 1 ∧
    u.rd F.GXE_ERR_cause 0 c.g = cause.code

theorem Leaves.keeps {s u v : State} {c : GCtx} {ea size : Nat} {op : NarrowOp} {away : Bool}
    (h : Leaves s u c ea size op away) (k : KeepsStore u v) : Leaves s v c ea size op away := by
  obtain ⟨cores, mem, thread⟩ := h
  exact ⟨k.cores.trans cores, fun a => (k.sameMemory a).trans (mem a), (thread?_of_gathers k.gathers _ _ _).trans thread⟩

theorem hold_leaves {s : State} {c : GCtx} (ht : s.thread? c.g c.l c.t = some c.h) (ea size : Nat) (op : NarrowOp)
    (away : Bool) : Leaves s (s.updThread c.g c.l c.t fun h => { h with access := some (narrowOf c s ea size op away) })
      c ea size op away :=
  ⟨rfl, (updThread_keeps _ _ _ _ _).sameMemory, thread?_updThread_some ht fun _ => ⟨rfl, rfl⟩⟩

theorem issue_misaligned (s : State) (c : GCtx) {ea size : Nat} (op : NarrowOp) (ha : ea % size ≠ 0) :
    EndsFor s (c.issue s ea size op) c .align := by
  unfold GCtx.issue
  rw [if_pos ha]
  exact threadErr_effect s c.g c.l c.t ea .align (by decide)

/-- What comes of an aligned access: it `leaves`, away or not, when the address is of memory, of a reachable package or of a far
device, and `ends` its thread otherwise (R115, R154, R157). -/
def AccessOutcome (s : State) (c : GCtx) (ea : Nat) (ends : Prop) (leaves : Bool → Prop) : Prop :=
  match s.target c.p ea with
  | .bad => ends
  | .here a => match s.home c.p a with
    | .sram _ => leaves false
    | .hbm _ _ _ _ => leaves false
    | .window _ => ends
    | .nowhere => ends
  | .package px _ => if s.reachable c.p px = true then leaves true else ends
  | .far _ _ => leaves true

theorem AccessOutcome.imp {s : State} {c : GCtx} {ea : Nat} {ends ends' : Prop} {leaves leaves' : Bool → Prop}
    (e : ends → ends') (l : ∀ away, leaves away → leaves' away) (h : AccessOutcome s c ea ends leaves) :
    AccessOutcome s c ea ends' leaves' := by
  unfold AccessOutcome at *
  cases t : s.target c.p ea with
  | bad => rw [t] at h; exact e h
  | here a =>
    rw [t] at h
    dsimp only at h ⊢
    cases m : s.home c.p a with
    | sram _ => rw [m] at h; exact l _ h
    | hbm _ _ _ _ => rw [m] at h; exact l _ h
    | window _ => rw [m] at h; exact e h
    | nowhere => rw [m] at h; exact e h
  | package px a =>
    rw [t] at h
    dsimp only at h ⊢
    split at h
    · next r => rw [if_pos r]; exact l _ h
    · next r => rw [if_neg r]; exact e h
  | far f a => rw [t] at h; exact l _ h

theorem issue_aligned {s : State} {c : GCtx} (ht : s.thread? c.g c.l c.t = some c.h) {ea size : Nat} (op : NarrowOp)
    (ha : ea % size = 0) : AccessOutcome s c ea (EndsFor s (c.issue s ea size op) c .addrRange)
      (Leaves s (c.issue s ea size op) c ea size op) := by
  have bad := threadErr_effect s c.g c.l c.t ea .addrRange (by decide)
  have hold := hold_leaves ht ea size op
  unfold AccessOutcome GCtx.issue
  rw [if_neg (not_not_intro ha)]
  extract_lets held who isLoad src
  cases s.target c.p ea with
  | bad => exact bad
  | here a =>
    dsimp only
    cases s.home c.p a with
    | sram _ => exact hold false
    | hbm _ _ _ _ => exact hold false
    | window _ => exact bad
    | nowhere => exact bad
  | package px a =>
    dsimp only
    by_cases r : s.reachable c.p px = true
    · rw [if_pos r, if_neg (by simp [r])]
      cases isLoad
      · exact (hold true).keeps (sendAwait_keeps _ _ _ _ _)
      · exact (hold true).keeps (sendLoad_keeps _ _ _ _ _)
    · rw [if_neg r, if_pos (by simp [r])]
      obtain ⟨gone, mem, evt, err⟩ := threadErr_effect (s.unreachable c.p) c.g c.l c.t ea .addrRange (by decide)
      exact ⟨gone, fun a => (mem a).trans (flag_byte _ _ _ _ _ _ _), evt, err⟩
  | far f a => exact (hold true).keeps (sendFar_keeps _ _ _ _ _)

/-- An access instruction: with its offset in the buffer aligned it issues, otherwise its thread ends with ALIGN (R116, R155). -/
theorem access_completes {i : Instr} {s : State} {c : GCtx} (ht : s.thread? c.g c.l c.t = some c.h) {ea size : Nat}
    {op : NarrowOp} (ok : Bool) (good : ok = true → exec i s = .next (c.issue s ea size op))
    (bad : ok = false → exec i s = .next (s.threadErr c.g c.l c.t ea .align)) :
    (ok = true → ea % size = 0 → AccessOutcome s c ea (Completes i s fun u => EndsFor s u c .addrRange)
      fun away => Completes i s fun u => Leaves s u c ea size op away) ∧
    (ok = false ∨ ea % size ≠ 0 → Completes i s fun u => u.thread? c.g c.l c.t = none ∧
      u.rd F.GXE_EVT_thread_err 0 c.g = 1 ∧ u.rd F.GXE_ERR_cause 0 c.g = EngCause.align.code ∧ SameMemory s u) := by
  refine ⟨fun o ha => (issue_aligned ht op ha).imp (fun e => ⟨_, good o, e⟩) fun _ e => ⟨_, good o, e⟩, fun h => ?_⟩
  suffices e : ∃ u, exec i s = .next u ∧ EndsFor s u c .align by
    obtain ⟨u, e, gone, mem, evt, err⟩ := e
    exact ⟨u, e, gone, evt, err, mem⟩
  cases o : ok with
  | false => exact ⟨_, bad o, threadErr_effect s c.g c.l c.t ea .align (by decide)⟩
  | true => exact ⟨_, good o, issue_misaligned s c op (h.resolve_left (by simp [o]))⟩

section

variable {s : State} {g : Fin 32} {l i : Nat} {w : InstrWord} {h : Thread} {y : Launch}

/-- GLD and GST check the offset in the buffer before they issue (R155). -/
theorem buffered_exec {op : Nat} {fs : List (Nat × Nat)} (r : Runs s g l i w h y op fs) {c : Instr} {ea : Nat}
    {k : GCtx → NarrowOp}
    (e : exec c s = s.scriptOp g l i w op fs fun x =>
      if x.f 89 6 % (8 * 2 ^ x.f 95 2) ≠ 0 then s.threadErr g l i (x.ea (x.f 97 3)) .align
      else x.issue s (x.ea (x.f 97 3)) (8 * 2 ^ x.f 95 2) (k x))
    (hea : (issueOf s g l i w h).ea (bits w.toNat 97 3) = ea) :
    let x := issueOf s g l i w h
    let size := 8 * 2 ^ bits w.toNat 95 2
    ((bits w.toNat 89 6 % size == 0) = true → exec c s = .next (x.issue s ea size (k x))) ∧
    ((bits w.toNat 89 6 % size == 0) = false → exec c s = .next (s.threadErr g l i ea .align)) := by
  intro x size
  rw [e, scriptOp_eq r]
  subst hea
  exact ⟨fun o => congrArg _ (if_neg (not_not_intro (beq_iff_eq.mp o))),
    fun o => congrArg _ (if_pos (beq_eq_false_iff_ne.mp o))⟩

end

/-- Settles O20: NOP, the arithmetic and GBR go on; GLD, GLDR, GST and GATOM issue their access or end their thread. -/
theorem gatherScripts : Obligations.GatherScripts := by
  unfold Obligations.GatherScripts
  intro g l t w s h y p f imm runs goesOn sets access size boff ea
  have R {op : Nat} {fs : List (Nat × Nat)} (r : runs op fs) : Runs s g l t w h y op fs := by
    obtain ⟨thread, launch, word, free, served, cls, opcode, reserved⟩ := r
    exact ⟨thread, launch, word, free, served, cls, opcode, reserved⟩
  refine ⟨fun r => nop_goesOn (R r), fun r => sets_goesOn (R r) (fun x => x.h.T (x.f 94 3) + x.h.T (x.f 91 3)) _ rfl ?_,
    fun r => sets_goesOn (R r) (fun x => wrapNat 64 (x.h.T (x.f 94 3) + x.imm)) _ rfl (wrapNat_emod 64 _),
    fun r => sets_goesOn (R r) (fun x => wrapNat 64 (x.h.T (x.f 94 3) * x.imm)) _ rfl (wrapNat_emod 64 _),
    fun r => sets_goesOn (R r) (fun x => x.h.T (x.f 94 3) / 2 ^ x.f 88 6) _ rfl rfl,
    fun r => sets_goesOn (R r) (fun x => x.h.T (x.f 94 3) &&& x.f 57 32) _ rfl rfl,
    fun taken r skip b => gbr_goesOn (R r) taken skip b, fun r => ?_, fun r => ?_, fun r => ?_, fun r => ?_⟩
  · exact congrArg (· % _) (Int.natCast_add _ _)
  · obtain ⟨good, bad⟩ := buffered_exec (R r) (c := .gld g l t w) (k := fun x => .load (x.f 89 6) (8 * 2 ^ x.f 95 2)) rfl rfl
    exact access_completes (c := issueOf s g l t w h) (R r).thread _ good bad
  · refine access_completes (c := issueOf s g l t w h) (R r).thread true (fun _ => ?_) (by simp)
    change execGldr g l t w s = _
    unfold execGldr
    rw [scriptOp_eq (R r)]
    rfl
  · obtain ⟨good, bad⟩ := buffered_exec (R r) (c := .gst g l t w)
      (k := fun x => .store (granBytes x.h.buf (x.f 89 6) (8 * 2 ^ x.f 95 2))) rfl rfl
    exact access_completes (c := issueOf s g l t w h) (R r).thread _ good bad
  · refine access_completes (c := issueOf s g l t w h) (R r).thread true (fun _ => ?_) (by simp)
    change execGatom g l t w s = _
    unfold execGatom
    rw [scriptOp_eq (R r)]
    simp only [issueOf, GCtx.f, beq_iff_eq]
    rfl

end Sys2Proof.Proofs
end

section
/-! SUPPORT. Register writes by the access types (R8, R429): what a field and a reserved bit hold after the merge of a write, for
every register table. -/

namespace Sys2Proof.Proofs

open Sys2Proof.Machine Sys2Proof.Laws

/-! ### Two fields -/

/-- Two fields share no bit. -/
abbrev Apart (f g : FieldInfo) : Prop := f.lo + f.width ≤ g.lo ∨ g.lo + g.width ≤ f.lo

theorem Apart.symm {f g : FieldInfo} (h : Apart f g) : Apart g f := Or.symm h

/-- The fields of a register table lie in one word and share no bit. -/
def FieldsFit (fs : List FieldInfo) : Prop :=
  (∀ f ∈ fs, f.lo + f.width ≤ 64) ∧ fs.Pairwise Apart

theorem fieldsFit (r : Reg) : FieldsFit (regInfo r).fields := by
  unfold FieldsFit
  cases r <;> decide

/-- Taking the bits of one vector out of another clears them there. -/
theorem sub_and_eq_and_not {w : Nat} (x y : BitVec w) : x - (x &&& y) = x &&& ~~~y := by
  have apart : (x &&& ~~~y) &&& (x &&& y) = 0#w := by
    ext i hi
    simp only [BitVec.getElem_and, BitVec.getElem_not, BitVec.getElem_zero]
    cases x[i] <;> cases y[i] <;> rfl
  have whole : (x &&& ~~~y) ||| (x &&& y) = x := by
    ext i hi
    simp only [BitVec.getElem_or, BitVec.getElem_and, BitVec.getElem_not]
    cases x[i] <;> cases y[i] <;> rfl
  have sum := (BitVec.add_eq_or_of_and_eq_zero _ _ apart).trans whole
  have back := BitVec.add_sub_cancel (x &&& ~~~y) (x &&& y)
  rwa [sum] at back

/-- Bits written 1 are cleared (W1C). -/
theorem cleared_bits (old v lo w : Nat) :
    bits old lo w - (bits old lo w &&& bits v lo w) = bits old lo w &&& (2 ^ w - 1 - bits v lo w) := by
  have e (x : Nat) : bits x lo w = (BitVec.ofNat w (x >>> lo)).toNat := (BitVec.toNat_ofNat _ _).symm
  rw [e old, e v, ← BitVec.toNat_and, ← BitVec.toNat_not, ← BitVec.toNat_and, ← sub_and_eq_and_not,
    BitVec.toNat_sub_of_le (by rw [BitVec.le_def, BitVec.toNat_and]; exact Nat.and_le_left)]

/-! ### The merge of a write -/

/-- What a field that held `was` holds after `new` is written to it (R8). -/
def fieldAfter (locked : Bool) (f : FieldInfo) (was new : Nat) : Nat :=
  match f.access with
  | .ro => was
  | .rw => new
  | .rwl => if locked then was else new
  | .w1c => was &&& (2 ^ f.width - 1 - new)
  | .w1s => was ||| new

/-- The merge of one field into the word written back. -/
def mergeField (locked : Bool) (old v a : Nat) (f : FieldInfo) : Nat :=
  let was := bits old f.lo f.width
  let new := bits v f.lo f.width
  match f.access with
  | .ro => a
  | .rw => putBits a f.lo f.width new
  | .rwl => if locked then a else putBits a f.lo f.width new
  | .w1c => putBits a f.lo f.width (was - (was &&& new))
  | .w1s => putBits a f.lo f.width (was ||| new)

theorem mergeFields_eq (locked : Bool) (old v : Nat) (fs : List FieldInfo) :
    mergeFields locked old v fs = fs.foldl (mergeField locked old v) old := rfl

section

variable {locked : Bool} {old v a : Nat} {f : FieldInfo}

/-- The merge of a field leaves the word as it was or puts the field's new contents in its place. -/
theorem mergeField_cases (locked : Bool) (old v a : Nat) (f : FieldInfo) :
    (mergeField locked old v a f = a ∧
      fieldAfter locked f (bits old f.lo f.width) (bits v f.lo f.width) = bits old f.lo f.width) ∨
    mergeField locked old v a f =
      putBits a f.lo f.width (fieldAfter locked f (bits old f.lo f.width) (bits v f.lo f.width)) := by
  unfold mergeField fieldAfter
  cases f.access with
  | ro => exact .inl ⟨rfl, rfl⟩
  | rw => exact .inr rfl
  | rwl =>
    cases locked with
    | true => exact .inl ⟨rfl, rfl⟩
    | false => exact .inr rfl
  | w1c => exact .inr (congrArg (putBits a f.lo f.width) (cleared_bits _ _ _ _))
  | w1s => exact .inr rfl

theorem fieldAfter_lt (locked : Bool) (f : FieldInfo) (x y lo : Nat) :
    fieldAfter locked f (bits x lo f.width) (bits y lo f.width) < 2 ^ f.width := by
  unfold fieldAfter
  cases f.access with
  | ro => exact bits_lt _ _ _
  | rw => exact bits_lt _ _ _
  | rwl =>
    cases locked with
    | true => exact bits_lt _ _ _
    | false => exact bits_lt _ _ _
  | w1c => exact Nat.lt_of_le_of_lt Nat.and_le_left (bits_lt _ _ _)
  | w1s => exact Nat.or_lt_two_pow (bits_lt _ _ _) (bits_lt _ _ _)

theorem bits_mergeField_same (h : bits a f.lo f.width = bits old f.lo f.width) :
    bits (mergeField locked old v a f) f.lo f.width =
      fieldAfter locked f (bits old f.lo f.width) (bits v f.lo f.width) := by
  obtain ⟨e, kept⟩ | e := mergeField_cases locked old v a f
  · rw [e, kept, h]
  · rw [e, bits_putBits_same, Nat.mod_eq_of_lt (fieldAfter_lt locked f old v f.lo)]

theorem bits_mergeField_apart {g : FieldInfo} (h : Apart f g) :
    bits (mergeField locked old v a f) g.lo g.width = bits a g.lo g.width := by
  obtain ⟨e, -⟩ | e := mergeField_cases locked old v a f
  · rw [e]
  · rw [e, bits_putBits_disjoint _ _ _ _ _ _ h.symm]

theorem testBit_mergeField {b : Nat} (h : ¬ (f.lo ≤ b ∧ b < f.lo + f.width)) :
    (mergeField locked old v a f).testBit b = a.testBit b := by
  obtain ⟨e, -⟩ | e := mergeField_cases locked old v a f
  · rw [e]
  · rw [e, testBit_putBits, if_neg h]

end

/-- A field apart from all that are merged stays as it was. -/
theorem bits_merge_apart {locked : Bool} {old v : Nat} {g : FieldInfo} : ∀ {fs : List FieldInfo} {a : Nat},
    (∀ f ∈ fs, Apart g f) → bits (fs.foldl (mergeField locked old v) a) g.lo g.width = bits a g.lo g.width
  | [], _, _ => rfl
  | f :: fs, a, h => by
    obtain ⟨first, rest⟩ := List.forall_mem_cons.mp h
    exact (bits_merge_apart rest).trans (bits_mergeField_apart first.symm)

/-- Every merged field takes what its access type gives. -/
theorem bits_merge {locked : Bool} {old v : Nat} : ∀ {fs : List FieldInfo} {a : Nat},
    fs.Pairwise Apart → (∀ f ∈ fs, bits a f.lo f.width = bits old f.lo f.width) → ∀ f ∈ fs,
    bits (fs.foldl (mergeField locked old v) a) f.lo f.width =
      fieldAfter locked f (bits old f.lo f.width) (bits v f.lo f.width)
  | [], _, _, _, f, m => absurd m List.not_mem_nil
  | f :: fs, a, apart, same, g, m => by
    obtain ⟨first, rest⟩ := List.pairwise_cons.mp apart
    obtain ⟨here, below⟩ := List.forall_mem_cons.mp same
    obtain rfl | m := List.mem_cons.mp m
    · exact (bits_merge_apart first).trans (bits_mergeField_same here)
    · exact bits_merge rest (fun g m => (bits_mergeField_apart (first g m)).trans (below g m)) g m

/-- A bit of no merged field stays as it was. -/
theorem testBit_merge {locked : Bool} {old v b : Nat} : ∀ {fs : List FieldInfo} {a : Nat},
    (∀ f ∈ fs, ¬ (f.lo ≤ b ∧ b < f.lo + f.width)) → (fs.foldl (mergeField locked old v) a).testBit b = a.testBit b
  | [], _, _ => rfl
  | f :: fs, a, h => by
    obtain ⟨first, rest⟩ := List.forall_mem_cons.mp h
    exact (testBit_merge rest).trans (testBit_mergeField first)

/-- A register write by access types alone: its fields, its reserved bits, and nothing else (R8, R429). -/
theorem mergeReg_effect (s : State) (p : Nat) (r : Reg) (i j k : Nat) (v : Word) :
    let t := s.mergeReg p r i j k v
    (∀ f ∈ (regInfo r).fields, bits (t.reg r p i j k).toNat f.lo f.width =
      fieldAfter (s.regLocked p r i j) f (bits (s.reg r p i j k).toNat f.lo f.width) (bits v.toNat f.lo f.width)) ∧
    (∀ b, b < 64 → (∀ f ∈ (regInfo r).fields, ¬ (f.lo ≤ b ∧ b < f.lo + f.width)) →
      (t.reg r p i j k).toNat.testBit b = (s.reg r p i j k).toNat.testBit b) ∧
    SameRegs s t [r.key p i j k] ∧ SameMemory s t ∧ SameEngines s t ∧ t.part0 = s.part0 ∧ t.part1 = s.part1 := by
  intro t
  obtain ⟨short, apart⟩ := fieldsFit r
  have e : (t.reg r p i j k).toNat =
      (regInfo r).fields.foldl (mergeField (s.regLocked p r i j) (s.reg r p i j k).toNat v.toNat)
        (s.reg r p i j k).toNat % 2 ^ 64 :=
    (congrArg BitVec.toNat (reg_setReg_same s r _ p i j k)).trans (BitVec.toNat_ofNat _ _)
  rw [e]
  have kept : ChangesOnly (· = r.key p i j k) s t := .setReg (.refl _ s) rfl
  refine ⟨fun f m => ?_, fun b lt out => ?_, fun r' p' i' j' k' n => kept.reg _ _ _ _ _ (by simpa using n),
    kept.sameMemory, kept.sameEngines, setReg_part0 _ _ _ _ _ _ _, setReg_part1 _ _ _ _ _ _ _⟩
  · rw [bits_mod _ _ _ _ (short f m)]
    exact bits_merge apart (fun _ _ => rfl) f m
  · rw [Nat.testBit_mod_two_pow, testBit_merge out]
    simp [lt]

/-! ### A write at an offset -/

/-- The registers whose write does more than its fields' access types say. -/
def actionRegs : List Reg :=
  [.BRG_CTL, .MTG_CTL, .OE_CTL, .OE_RINGTAB_DATA, .HIF_CR_ADDR, .HIF_CQ_ADDR, .HIF_CR_CFG, .HIF_CQ_CFG, .HIF_MBOX_DESC,
    .HIF_MBOX_CTL, .BOOT_CTL, .DBG_APER_BASE, .FLT_RING_ADDR, .FLT_RING_CFG, .FLT_RING_STS, .AGE_LOG_SEL]

theorem writeReg_of_not_action {s : State} {p i j k : Nat} {r : Reg} {v : Word} {i3c : Bool} (h : r ∉ actionRegs) :
    s.writeReg p r i j k v i3c = s.mergeReg p r i j k v := by
  unfold State.writeReg
  dsimp only
  split
  case h_17 => rfl
  all_goals exact absurd (by decide) h

/-- Each of the three writes at an aligned offset is a write to the set-up window (R429, R430, R8). -/
theorem write_exec {p : Fin 2} {off : BitVec 26} {v : Word} {i3c : Bool} {s : State} {c : Instr}
    (h : c = .registerWrite p off v i3c ∨ (c = .flagClear p off v ∧ i3c = false ∧ clearsFlag off.toNat v = true) ∨
      (c = .lockSet p off v ∧ i3c = false ∧ setsLock off.toNat v = true)) (aligned : off.toNat % 8 = 0) :
    exec c s = .next (s.poke p off.toNat v i3c) := by
  obtain rfl | ⟨rfl, rfl, names⟩ | ⟨rfl, rfl, names⟩ := h
  · exact guarded_next (by simp [aligned])
  · exact guarded_next (by simp [aligned, names])
  · exact guarded_next (by simp [aligned, names])

section

variable {s : State} {p off : Nat} {v : Word} {i3c : Bool}

theorem poke_of_none (h : decodeOffset off = none) : s.poke p off v i3c = s := by
  unfold State.poke
  rw [h]

theorem poke_of_some {r : Reg} {i j k : Nat} (h : decodeOffset off = some (r, i, j, k)) :
    s.poke p off v i3c = if s.hasPart p && s.seesReg p r i j then s.writeReg p r i j k v i3c else s := by
  unfold State.poke
  rw [h]

end

end Sys2Proof.Proofs
end

section
/-! SUPPORT. Bytes of local SRAM: a granule's bytes, a read that passes, and a write of part of a granule (03 R77–R84 as the model
states them): it stores its bytes and changes no other byte and no engine. -/

namespace Sys2Proof.Proofs

open Sys2Proof.Machine Sys2Proof.Laws

/-! ### The bytes of a number -/

/-- Byte `i` of a number. -/
def byteAt (x i : Nat) : Byte := BitVec.ofNat 8 (x >>> (8 * i))

theorem getElem_byteAt (x i b : Nat) (h : b < 8) : (byteAt x i)[b] = x.testBit (8 * i + b) := by
  rw [← Nat.testBit_shiftRight, ← BitVec.getLsbD_eq_getElem, byteAt, BitVec.getLsbD_ofNat]
  simp [h]

theorem byteAt_zero (x : Nat) : byteAt x 0 = BitVec.ofNat 8 x := rfl

theorem byteAt_succ (x i : Nat) : byteAt x (i + 1) = byteAt (x / 256) i := by
  unfold byteAt
  rw [show x / 256 = x >>> 8 from (Nat.shiftRight_eq_div_pow x 8).symm, ← Nat.shiftRight_add]
  congr 2
  omega

@[simp] theorem length_toLE : ∀ n x : Nat, (toLE n x).length = n
  | 0, _ => rfl
  | n + 1, x => congrArg (· + 1) (length_toLE n (x / 256))

theorem getD_toLE : ∀ {n x i : Nat}, i < n → (toLE n x).getD i 0 = byteAt x i
  | n + 1, x, 0, _ => (byteAt_zero x).symm
  | n + 1, x, i + 1, h => by
    rw [byteAt_succ]
    exact getD_toLE (Nat.lt_of_succ_lt_succ h)

theorem byteAt_ofLE : ∀ (bs : List Byte) (i : Nat), byteAt (ofLE bs) i = bs.getD i 0
  | [], i => by simp [ofLE, byteAt]
  | b :: bs, 0 => by
    apply BitVec.eq_of_toNat_eq
    have := b.isLt
    simp only [byteAt_zero, ofLE, BitVec.toNat_ofNat, List.getD_cons_zero]
    omega
  | b :: bs, i + 1 => by
    have e : (ofLE (b :: bs)) / 256 = ofLE bs := by
      have := b.isLt
      rw [ofLE]
      omega
    rw [byteAt_succ, e, byteAt_ofLE bs i]
    rfl

theorem byteAt_ofNat {x i n : Nat} (h : 8 * i + 8 ≤ n) : byteAt (BitVec.ofNat n x).toNat i = byteAt x i := by
  ext b hb
  rw [BitVec.toNat_ofNat, getElem_byteAt _ _ _ hb, getElem_byteAt _ _ _ hb, Nat.testBit_mod_two_pow]
  simp only [show 8 * i + b < n by omega, decide_true, Bool.true_and]

/-- Bytes replaced in a number are the new ones there and the old ones elsewhere. -/
theorem byteAt_putBits (x off n y i : Nat) :
    byteAt (putBits x (8 * off) (8 * n) y) i = if off ≤ i ∧ i < off + n then byteAt y (i - off) else byteAt x i := by
  ext b hb
  rw [getElem_byteAt _ _ _ hb, testBit_putBits]
  by_cases h : off ≤ i ∧ i < off + n
  · rw [if_pos (by omega)]
    simp only [if_pos h]
    rw [getElem_byteAt _ _ _ hb]
    congr 1
    omega
  · rw [if_neg (by omega)]
    simp only [if_neg h]
    rw [getElem_byteAt _ _ _ hb]

/-! ### Granules -/

theorem byteAt_rawGran (s : State) (a : Nat) {i : Nat} (h : i < 64) : byteAt (s.rawGran a).toNat i = s.byte (a + i) := by
  unfold State.rawGran
  rw [byteAt_ofNat (by omega), byteAt_ofLE]
  simp [List.getD, h]

/-- The bytes of a granule with `bs` put at `off`. -/
theorem byteAt_spliceGran (g : Gran) (off : Nat) (bs : List Byte) {i : Nat} (h : i < 64) :
    byteAt (spliceGran g off bs).toNat i = if off ≤ i ∧ i < off + bs.length then bs.getD (i - off) 0 else byteAt g.toNat i := by
  unfold spliceGran
  rw [byteAt_ofNat (by omega), byteAt_putBits, byteAt_ofLE]

/-! ### SRAM reads -/

/-- Storage and engines are as before and an address has its home where it had it. -/
structure KeepsMap (s t : State) : Prop extends KeepsStore s t where
  twoPart : t.twoPart = s.twoPart

namespace KeepsMap

variable {s t u : State}

theorem refl (s : State) : KeepsMap s s := ⟨.refl s, rfl⟩

theorem trans (h : KeepsMap s t) (g : KeepsMap t u) : KeepsMap s u :=
  ⟨h.toKeepsStore.trans g.toKeepsStore, g.twoPart.trans h.twoPart⟩

theorem wr {f : Fld} {v p i j k : Nat} (h : KeepsMap s t) : KeepsMap s (t.wr f v p i j k) := ⟨h.toKeepsStore.wr, h.twoPart⟩

theorem count {f : Fld} {n p i j k : Nat} (h : KeepsMap s t) : KeepsMap s (t.count f n p i j k) := h.wr

theorem srmLast {a w : Nat} {ue : Bool} (h : KeepsMap s t) : KeepsMap s (t.srmLast a w ue) := h.wr.wr.wr

theorem record {p cls kind unit die eid addr info0 info1 : Nat} {ch : Bool} (h : KeepsMap s t) :
    KeepsMap s (t.record p cls kind unit die eid addr info0 info1 ch) := by
  unfold State.record
  exact ⟨h.toKeepsStore.updPart, (updPart_twoPart _ _ _).trans h.twoPart⟩

theorem setSramSide {a : Nat} {d : SramSide} (h : KeepsMap s t) : KeepsMap s (t.setSramSide a d) :=
  h.trans ⟨⟨rfl, rfl, rfl⟩, rfl⟩

theorem noteUe {p unit : Nat} (h : KeepsMap s t) : KeepsMap s (t.noteUe p unit) := h.trans ⟨⟨rfl, rfl, rfl⟩, rfl⟩

theorem ite {c : Prop} {_ : Decidable c} (h : KeepsMap s t) (g : KeepsMap s u) : KeepsMap s (if c then t else u) := by
  split <;> assumption

theorem home (h : KeepsMap s t) (p a : Nat) : t.home p a = s.home p a := by
  unfold State.home
  rw [h.twoPart]

end KeepsMap

theorem sramRead_keeps (s : State) (a : Nat) : KeepsMap s (s.sramRead a).1 := by
  have fix {t : State} {f : Tab (List Nat)} (h : KeepsMap s t) : KeepsMap s { t with sramFix := f } :=
    h.trans ⟨⟨rfl, rfl, rfl⟩, rfl⟩
  unfold State.sramRead
  dsimp only
  split
  · split <;> exact .ite (.refl s) (fix (KeepsMap.refl s).count.srmLast).record
  · split
    · exact .ite (.refl s) (fix (KeepsMap.refl s).count.srmLast).record
    · refine (KeepsMap.noteUe (KeepsMap.count (KeepsMap.setSramSide ?_)).srmLast).record
      exact .ite (.refl s) (fix (KeepsMap.refl s).count.srmLast).record

/-- A read that passes hands on the stored bytes. -/
theorem sramRead_data {s : State} {a : Nat} (ok : (s.sramRead a).2.ok = true) : (s.sramRead a).2.data = s.rawGran a := by
  revert ok
  unfold State.sramRead
  dsimp only
  split
  · split
    · exact fun ok => absurd ok (by simp [poisonedOf, Delivered.ok])
    · exact fun _ => rfl
  · split <;> exact fun ok => absurd ok (by simp [poisonedOf, Delivered.ok])

/-! ### SRAM writes -/

theorem landed_keeps (s : State) (p addr : Nat) : KeepsMap s (s.landed p addr) := by
  unfold State.landed
  split
  · exact .refl s
  · split
    · exact .refl s
    · exact .ite (KeepsMap.refl s).wr (KeepsMap.refl s).wr.wr.wr

/-- What a granule write to SRAM leaves at an address. -/
theorem byte_sramWrite (s : State) (a x : Nat) (g : Gran) (check : BitVec 16) :
    (s.sramWrite a g check).byte x = if a ≤ x ∧ x < a + 64 then byteAt g.toNat (x - a) else s.byte x := by
  refine (byte_putRaw s a x g).trans ?_
  rw [length_toLE]
  by_cases h : a ≤ x ∧ x < a + 64
  · rw [if_pos h, if_pos h, getD_toLE (by omega)]
  · rw [if_neg h, if_neg h]

/-- A write of a whole granule of SRAM: its bytes are stored, no other byte and no engine changes. -/
theorem writeGran_sram {s : State} {p a : Nat} (g : Gran) (check : BitVec 16) (aligned : a % 64 = 0)
    (home : s.home p a = .sram a) :
    ∃ t, s.writeGran p a g check = some t ∧
      (∀ x, t.byte x = if a ≤ x ∧ x < a + 64 then byteAt g.toNat (x - a) else s.byte x) ∧ SameEngines s t := by
  have l := landed_keeps (s.sramWrite a g check) p a
  have w : SameEngines s (s.sramWrite a g check) := ⟨rfl, rfl⟩
  refine ⟨(s.sramWrite a g check).landed p a, ?_, fun x => ?_, l.cores.trans w.1, l.gathers.trans w.2⟩
  · unfold State.writeGran
    rw [home]
    dsimp only
    rw [Nat.div_mul_cancel (Nat.dvd_of_mod_eq_zero aligned)]
  · rw [l.sameMemory, byte_sramWrite]

/-- A write of part of a granule of SRAM whose read passes: the bytes are stored, no other byte and no engine changes. -/
theorem writePart_sram {s : State} {p a : Nat} {bs : List Byte} (room : a % 64 + bs.length ≤ 64) (home : s.home p a = .sram a)
    (base : s.home p (a / 64 * 64) = .sram (a / 64 * 64)) (ok : (s.sramRead (a / 64 * 64)).2.ok = true) :
    ∃ t, s.writePart p a bs = some (t, true) ∧ StoresBytes s t a bs ∧ SameEngines s t := by
  have kept := sramRead_keeps s (a / 64 * 64)
  obtain ⟨t, e, bytes, engines⟩ := writeGran_sram (s := (s.sramRead (a / 64 * 64)).1)
    (spliceGran (s.rawGran (a / 64 * 64)) (a % 64) bs) (granCheck (spliceGran (s.rawGran (a / 64 * 64)) (a % 64) bs))
    (Nat.mul_mod_left _ _) ((kept.home _ _).trans base)
  refine ⟨t, ?_, fun x => ?_, engines.1.trans kept.cores, engines.2.trans kept.gathers⟩
  · unfold State.writePart State.readGran
    rw [home]
    dsimp only
    rw [ok, if_neg (by decide), sramRead_data ok, e]
    rfl
  · rw [bytes, kept.sameMemory]
    by_cases inside : a ≤ x ∧ x < a + bs.length
    · rw [if_pos (by omega), if_pos inside, byteAt_spliceGran _ _ _ (by omega), if_pos (by omega)]
      congr 1
      omega
    · rw [if_neg inside]
      by_cases near : a / 64 * 64 ≤ x ∧ x < a / 64 * 64 + 64
      · rw [if_pos near, byteAt_spliceGran _ _ _ (by omega), if_neg (by omega), byteAt_rawGran _ _ (by omega)]
        congr 1
        omega
      · rw [if_neg near]

end Sys2Proof.Proofs
end

section
/-! PROOFS. The set-up window's paths (12 R428–R430, R453–R456; 11 R405): register writes, debug accesses and I3C transfers. -/

namespace Sys2Proof.Proofs

open Sys2Proof.Machine Sys2Proof.Laws

/-! ### Debug reads -/

/-- A read changes DBG_STS of its partition at most, and emits nothing. -/
structure ReadsOnly (p : Nat) (s t : State) : Prop extends ChangesOnly (· = Reg.key .DBG_STS p 0 0 0) s t where
  out : t.out = s.out

theorem ReadsOnly.refl (p : Nat) (s : State) : ReadsOnly p s s := ⟨.refl _ s, rfl⟩

theorem dbgMem_reads (s : State) (p addr : Nat) : ReadsOnly p s (s.dbgMem p addr).1 := by
  unfold State.dbgMem
  split
  · exact .refl p s
  · exact ⟨.setReg (.refl _ s) rfl, setReg_out _ _ _ _ _ _ _⟩

theorem dbgAper_reads (s : State) (p o : Nat) : ReadsOnly p s (s.dbgAper p o).1 := by
  have free : ReadsOnly p s s.takeFree.2 := ⟨.takeFree (.refl _ s), rfl⟩
  unfold State.dbgAper
  dsimp only
  split
  · exact .refl p s
  · split
    · exact dbgMem_reads s p _
    · split
      · split
        · exact free
        · exact .refl p s
      · exact .refl p s

theorem winRead_reads (s : State) (p off : Nat) : ReadsOnly p s (s.winRead p off).1 := by
  unfold State.winRead State.dbgRead
  split
  · exact .refl p s
  · split
    · exact .refl p s
    · split
      · exact dbgAper_reads s p _
      · exact .refl p s

section

variable {p : Fin 2} {off : BitVec 26} {s : State}

theorem debugRead_exec (window : 0x2000000 ≤ off.toNat) (aligned : off.toNat % 8 = 0)
    (served : s.hasPart p = true → s.dbgServed p = true) :
    exec (.debugRead p off) s =
      .next ((s.winRead p off.toNat).1.emit (.regValue p off.toNat (s.winRead p off.toNat).2)) := by
  change execDebugRead p off s = _
  unfold execDebugRead
  rw [if_neg (by omega), if_neg (by simpa using served)]

theorem debugRead_unserved (window : 0x2000000 ≤ off.toNat) (aligned : off.toNat % 8 = 0) (part : s.hasPart p = true)
    (served : s.dbgServed p = false) : exec (.debugRead p off) s = .next s := by
  change execDebugRead p off s = _
  unfold execDebugRead
  rw [if_neg (by omega), if_pos (by simp [part, served])]

theorem winRead_absent (absent : s.hasPart p = false) (off : Nat) : s.winRead p off = (s, 0) := by
  unfold State.winRead
  rw [if_pos (by simp [absent])]

/-- A word of the engine-state area (R453). -/
theorem winRead_engine {off : Nat} (part : s.hasPart p = true) (area : 0x3000000 ≤ off) :
    s.winRead p off = (s, if s.partOfCore ((off - 0x3000000) / 0x40000) = p.val then
      BitVec.ofNat 64 ((s.core ((off - 0x3000000) / 0x40000)).word ((off - 0x3000000) % 0x40000)) else 0) := by
  unfold State.winRead State.dbgRead
  rw [if_neg (by simp [part]), if_neg (by omega), if_neg (by omega)]
  simp only [beq_iff_eq]

theorem debugRead_completes (window : 0x2000000 ≤ off.toNat) (aligned : off.toNat % 8 = 0)
    (served : s.hasPart p = true → s.dbgServed p = true) :
    Completes (.debugRead p off) s fun t => SameMemory s t ∧ SameEngines s t ∧ SameRegs s t [Reg.key .DBG_STS p 0 0 0] ∧
      ∃ v, t.out = s.out ++ [.regValue p off.toNat v] := by
  obtain ⟨read, out⟩ := winRead_reads s p off.toNat
  have kept := read.emit (e := .regValue p off.toNat (s.winRead p off.toNat).2)
  refine ⟨_, debugRead_exec window aligned served, kept.sameMemory, kept.sameEngines,
    fun r p' i j k m => kept.reg _ _ _ _ _ (by simpa using m), (s.winRead p off.toNat).2, ?_⟩
  rw [out_emit, out]

/-! ### Debug writes -/

variable {v : Word}

theorem debugWrite_exec (window : 0x2000000 ≤ off.toNat) (aligned : off.toNat % 8 = 0) :
    exec (.debugWrite p off v) s = .next (if s.dbgServed p then s.winWrite p off.toNat v false else s) :=
  guarded_next (by simp [window, aligned])

/-- A debug write of a partition that is served reaches the debug window (R456). -/
theorem debugWrite_served (window : 0x2000000 ≤ off.toNat) (aligned : off.toNat % 8 = 0) (part : s.hasPart p = true)
    (served : s.dbgServed p = true) : exec (.debugWrite p off v) s = .next (s.dbgWrite p off.toNat v) := by
  rw [debugWrite_exec window aligned, if_pos served]
  unfold State.winWrite
  rw [if_neg (by simp [part]), if_neg (by omega)]

theorem dbgUnitOk_memory (s : State) (p u : Nat) : s.dbgUnitOk p 0 u = true := by simp [State.dbgUnitOk]

/-- A debug write to the engine-state area (R453, R456). -/
theorem dbgWrite_engine {off : Nat} (area : 0x3000000 ≤ off) :
    s.dbgWrite p off v =
      if s.partOfCore ((off - 0x3000000) / 0x40000) ≠ p.val then s
      else if ! s.dbgEngineOk p ((off - 0x3000000) / 0x40000) then s.dbgRefused p
      else s.updCore ((off - 0x3000000) / 0x40000) fun k => k.setWord ((off - 0x3000000) % 0x40000) v.toNat := by
  unfold State.dbgWrite
  rw [if_neg (by omega)]

theorem dbgWrite_engine_foreign {off : Nat} (area : 0x3000000 ≤ off)
    (other : s.partOfCore ((off - 0x3000000) / 0x40000) ≠ p.val) : s.dbgWrite p off v = s := by
  rw [dbgWrite_engine area, if_pos other]

theorem dbgWrite_engine_stored {off : Nat} (area : 0x3000000 ≤ off)
    (own : s.partOfCore ((off - 0x3000000) / 0x40000) = p.val)
    (may : s.dbgEngineOk p ((off - 0x3000000) / 0x40000) = true) :
    s.dbgWrite p off v =
      s.updCore ((off - 0x3000000) / 0x40000) fun k => k.setWord ((off - 0x3000000) % 0x40000) v.toNat := by
  rw [dbgWrite_engine area, if_neg (not_not_intro own), may, if_neg (by decide)]

theorem dbgWrite_engine_refused {off : Nat} (area : 0x3000000 ≤ off)
    (own : s.partOfCore ((off - 0x3000000) / 0x40000) = p.val)
    (no : s.dbgEngineOk p ((off - 0x3000000) / 0x40000) = false) : s.dbgWrite p off v = s.dbgRefused p := by
  rw [dbgWrite_engine area, if_neg (not_not_intro own), no, if_pos (by decide)]

/-- A debug write to local memory (space 0) where it is not allowed (R456). -/
theorem dbgWrite_memory_refused {off : Nat} (aperture : off < 0x3000000) (space : s.rd F.DBG_APER_SEL_space p = 0)
    (no : s.dbgMemOk p (s.rd F.DBG_APER_BASE_base p + (off - 0x2000000)) = false) :
    s.dbgWrite p off v = s.dbgRefused p := by
  unfold State.dbgWrite
  rw [if_pos aperture]
  dsimp only
  rw [space, dbgUnitOk_memory, if_neg (by decide), if_pos rfl, no, if_pos (by decide)]

/-- A debug write to local memory that is allowed and whose write of a word takes place (R456). -/
theorem dbgWrite_memory_stored {off : Nat} (aperture : off < 0x3000000) (space : s.rd F.DBG_APER_SEL_space p = 0)
    (yes : s.dbgMemOk p (s.rd F.DBG_APER_BASE_base p + (off - 0x2000000)) = true) {t : State} {ok : Bool}
    (w : s.writePart p (s.rd F.DBG_APER_BASE_base p + (off - 0x2000000)) (toLE 8 v.toNat) = some (t, ok)) :
    s.dbgWrite p off v = t := by
  unfold State.dbgWrite
  rw [if_pos aperture]
  dsimp only
  rw [space, dbgUnitOk_memory, if_neg (by decide), if_pos rfl, yes, if_neg (by decide), w]

end

/-- A refused debug write sets its flag and changes no storage and no engine. -/
theorem dbgRefused_effect (s : State) (p : Nat) : (s.dbgRefused p).rd F.BOOT_EVT_dbg_refused p = 1 ∧
    SameMemory s (s.dbgRefused p) ∧ SameEngines s (s.dbgRefused p) := by
  have k : KeepsStore s (s.dbgRefused p) := (KeepsStore.refl s).flag
  have apart : Reg.key .BOOT_EVT p 0 0 0 ≠ Reg.key .BOOT_EVT_CNT p 0 0 0 := by rw [key_BOOT_EVT, key_BOOT_EVT_CNT]; omega
  refine ⟨?_, k.sameMemory, k.sameEngines⟩
  unfold State.dbgRefused
  rw [rd_flag_same _ _ _ _ _ _ (by decide) (by exact apart)]
  rfl

/-! ### I3C -/

theorem i3c_updI3c (s : State) (h : Nat) (f : I3c → I3c) : (s.updI3c h f).i3c h = f (s.i3c h) := by
  unfold State.updI3c State.i3c
  split <;> rfl

/-- A target's status is `k`, its value and the rest of the part as before. -/
def Told (h k : Nat) (s t : State) : Prop :=
  (t.i3c h).status = k ∧ (t.i3c h).value = (s.i3c h).value ∧ t.regs = s.regs ∧ t.part0 = s.part0 ∧ t.part1 = s.part1 ∧
    t.out = s.out ∧ SameMemory s t ∧ SameEngines s t

/-- What a change of a target leaves as it was. -/
theorem updI3c_keeps (s : State) (h : Nat) (f : I3c → I3c) : (s.updI3c h f).regs = s.regs ∧
    (s.updI3c h f).part0 = s.part0 ∧ (s.updI3c h f).part1 = s.part1 ∧ (s.updI3c h f).out = s.out ∧
    SameMemory s (s.updI3c h f) ∧ SameEngines s (s.updI3c h f) := by
  unfold State.updI3c
  split <;> exact ⟨rfl, rfl, rfl, rfl, fun _ => rfl, rfl, rfl⟩

theorem updI3c_status_told (s : State) (h k : Nat) : Told h k s (s.updI3c h fun t => { t with status := k }) := by
  refine ⟨?_, ?_, updI3c_keeps s h _⟩ <;> rw [i3c_updI3c]

section

variable {h : Nat} {bytes : List Byte} {n op : Nat}

theorem i3cStatus_crc (crc : ¬ crc8 (bytes.take (n - 1)) = leAt bytes (n - 1) 1) : i3cStatus bytes n = 1 := if_pos crc

theorem i3cStatus_of_crc (crc : crc8 (bytes.take (n - 1)) = leAt bytes (n - 1) 1) :
    i3cStatus bytes n = if leAt bytes 1 4 % 8 = 0 ∧ leAt bytes 1 4 < 2 ^ 26 then 0 else 2 := by
  unfold i3cStatus
  rw [if_neg (not_not_intro crc)]
  by_cases inside : leAt bytes 1 4 % 8 = 0 ∧ leAt bytes 1 4 < 2 ^ 26
  · rw [if_pos inside, if_neg (by omega)]
  · rw [if_neg inside, if_pos (by omega)]

variable {s : State} {f : State → Nat → State} (answers : s.i3cAnswers h = true) (length : bytes.length = n)
  (opcode : leAt bytes 0 1 = op)

include answers length opcode

/-- What a write transfer that the target takes for its own does: busy, refused or performed (R405). -/
theorem i3cWrite_eq : s.i3cWrite h bytes n op f =
    if s.i3cBusy h then .next (s.updI3c h fun t => { t with status := 3 })
    else if i3cStatus bytes n ≠ 0 then .next (s.updI3c h fun t => { t with status := i3cStatus bytes n })
    else .next (f s (leAt bytes 1 4)) := by
  unfold State.i3cWrite
  rw [answers, if_neg (by decide), if_neg (by simp [length, opcode])]

theorem i3cWrite_busy (busy : s.i3cBusy h = true) : Yields (s.i3cWrite h bytes n op f) (Told h 3 s) := by
  rw [i3cWrite_eq answers length opcode, if_pos busy]
  exact .next (updI3c_status_told s h 3)

theorem i3cWrite_refused {k : Nat} (busy : s.i3cBusy h = false) (status : i3cStatus bytes n = k) (bad : k ≠ 0) :
    Yields (s.i3cWrite h bytes n op f) (Told h k s) := by
  rw [i3cWrite_eq answers length opcode, if_neg (by simp [busy]), if_pos (by rwa [status]), status]
  exact .next (updI3c_status_told s h k)

theorem i3cWrite_performed (busy : s.i3cBusy h = false) (status : i3cStatus bytes n = 0) :
    s.i3cWrite h bytes n op f = .next (f s (leAt bytes 1 4)) := by
  rw [i3cWrite_eq answers length opcode, if_neg (by simp [busy]), if_neg (by rw [status]; decide)]

end

/-- The two write transfers: a register write over I3C and a read whose value the target latches (R405). -/
theorem i3cTransfer_exec (s : State) {h : Fin 2} {bytes : List (BitVec 8)} {n op : Nat} {i : Instr}
    (which : (n = 14 ∧ op = 2 ∧ i = .i3cRegisterWrite h bytes) ∨ (n = 6 ∧ op = 1 ∧ i = .i3cReadRequest h bytes)) :
    ∃ f, exec i s = s.i3cWrite h bytes n op f ∧
      (op = 2 → f = fun s off => (s.winWrite (s.partOfHalf h) off (BitVec.ofNat 64 (leAt bytes 5 8)) true).updI3c h
        fun t => { t with value := 0, status := 0 }) ∧
      (op = 1 → f = fun s off => (s.winRead (s.partOfHalf h) off).1.updI3c h
        fun t => { t with value := (s.winRead (s.partOfHalf h) off).2, status := 0 }) := by
  obtain ⟨rfl, rfl, rfl⟩ | ⟨rfl, rfl, rfl⟩ := which
  · exact ⟨_, rfl, fun _ => rfl, fun x => absurd x (by decide)⟩
  · exact ⟨_, rfl, fun x => absurd x (by decide), fun _ => rfl⟩

/-- Settles O60: register writes by the access types, debug accesses by R455 and R456, I3C transfers by R405. -/
theorem registerPaths : Obligations.RegisterPaths := by
  unfold Obligations.RegisterPaths
  refine ⟨fun p off v i3c s c which aligned => ?_, fun p off v s window aligned part unserved => ?_,
    fun p off s window aligned served => ?_, fun h bytes s n op i which answers length opcode => ?_,
    fun h addr s answers => ?_⟩
  · have e := write_exec (s := s) which aligned
    refine ⟨fun none => by rw [e, poke_of_none none], fun r i j k at_off => ?_⟩
    rw [poke_of_some at_off] at e
    refine ⟨fun absent => ?_, fun part sees => ?_⟩
    · rw [e, if_neg (by obtain x | x := absent <;> simp [x])]
    · rw [part, sees, Bool.and_self, if_pos rfl] at e
      refine ⟨e, fun plain => ⟨_, e, ?_⟩⟩
      rw [writeReg_of_not_action plain]
      exact mergeReg_effect s p r i j k v
  · refine ⟨debugRead_unserved window aligned part unserved, ?_⟩
    rw [debugWrite_exec window aligned, unserved]
    rfl
  · have read := debugRead_exec window aligned served
    refine ⟨debugRead_completes window aligned served, fun absent => ?_, fun area part => ?_, fun v part => ?_⟩
    · rw [read, winRead_absent absent]
    · rw [read, winRead_engine part area]
    · have write := debugWrite_served (v := v) window aligned part (served part)
      refine ⟨fun area => ⟨fun other => ?_, fun own may => ?_, fun own no => ?_⟩,
        fun aperture space => ⟨fun no => ?_, fun yes word home base ok => ?_⟩⟩
      · rw [write, dbgWrite_engine_foreign area other]
      · rw [dbgWrite_engine_stored area own may] at write
        exact ⟨_, write, core_updCore_same _ _ _, fun m other => by rw [core_updCore, if_neg other], updCore_regs _ _ _,
          updCore_byte _ _ _⟩
      · rw [dbgWrite_engine_refused area own no] at write
        exact ⟨_, write, dbgRefused_effect s p⟩
      · rw [dbgWrite_memory_refused aperture space no] at write
        exact ⟨_, write, dbgRefused_effect s p⟩
      · obtain ⟨t, stored, bytes, engines⟩ := writePart_sram (bs := toLE 8 v.toNat) (by rw [length_toLE]; omega) home base ok
        rw [dbgWrite_memory_stored aperture space yes stored] at write
        exact ⟨t, write, bytes, engines⟩
  · obtain ⟨f, e, reg, latch⟩ := i3cTransfer_exec s which
    have tell {k : Nat} (y : Yields (s.i3cWrite h bytes n op f) (Told h k s)) : Completes i s (Told h k s) := by
      rwa [← e] at y
    refine ⟨fun busy => tell (i3cWrite_busy answers length opcode busy),
      fun busy bad => tell (i3cWrite_refused answers length opcode busy (i3cStatus_crc bad) (by decide)),
      fun busy good out => tell (i3cWrite_refused answers length opcode busy
        ((i3cStatus_of_crc good).trans (if_neg out)) (by decide)),
      fun busy good inside => ?_⟩
    have done := e.trans (i3cWrite_performed answers length opcode busy ((i3cStatus_of_crc good).trans (if_pos inside)))
    exact ⟨fun two => by rw [done, reg two], fun one => by rw [done, latch one]⟩
  · refine ⟨guarded_next answers, _, guarded_next answers, ?_⟩
    obtain ⟨regs, -, -, -, mem, engines⟩ := updI3c_keeps s h fun t => { t with dyn := some addr.toNat }
    rw [i3c_updI3c]
    exact ⟨rfl, rfl, rfl, regs, mem, engines⟩

end Sys2Proof.Proofs
end

section
/-! SUPPORT. Die bridges (01 R13–R35): what a change of a side leaves, what RETRAIN does to a side, and what MAP gives one. -/

namespace Sys2Proof.Proofs

open Sys2Proof.Machine Sys2Proof.Laws

/-! ### Storage and registers -/

namespace KeepsStore

variable {s t : State}

theorem updSide {b x : Nat} {f : Side → Side} (h : KeepsStore s t) : KeepsStore s (t.updSide b x f) := h.trans ⟨rfl, rfl, rfl⟩

theorem emits {es : List Emit} (h : KeepsStore s t) : KeepsStore s (t.emits es) := h.trans ⟨rfl, rfl, rfl⟩

theorem ageLog {half type kind unit v0 v1 : Nat} (h : KeepsStore s t) : KeepsStore s (t.ageLog half type kind unit v0 v1) :=
  h.trans ⟨ageLog_mem _ _ _ _ _ _ _, ageLog_cores _ _ _ _ _ _ _, ageLog_gathers _ _ _ _ _ _ _⟩

theorem bridgeRecord {b x : Nat} (h : KeepsStore s t) : KeepsStore s (t.bridgeRecord b x) := by
  unfold State.bridgeRecord State.record
  exact h.updPart

end KeepsStore

theorem ChangesOnly.updSide {K : Nat → Prop} {s t : State} {b x : Nat} {f : Side → Side} (h : ChangesOnly K s t) :
    ChangesOnly K s (t.updSide b x f) := h.trans ⟨⟨rfl, rfl, rfl⟩, rfl, fun _ _ _ _ _ _ => rfl⟩

/-- The keys of the registers of a bridge side (R43). -/
def SideKey (b x k : Nat) : Prop := 0x10000 + b * 0x100 + x * 0x80 ≤ k ∧ k < 0x10080 + b * 0x100 + x * 0x80

theorem sideKey_width (b x : Nat) : SideKey b x (Reg.key .BRG_WIDTH_STS 0 b x 0) := by
  rw [key_BRG_WIDTH_STS, SideKey]; omega

theorem sideKey_mask (b x : Nat) : SideKey b x (Reg.key .BRG_MASK 0 b x 0) := by
  rw [key_BRG_MASK, SideKey]; omega

theorem sideKey_evt (b x : Nat) : SideKey b x (Reg.key .BRG_EVT 0 b x 0) := by
  rw [key_BRG_EVT, SideKey]; omega

/-- The two sides of a bridge have no key in common. -/
theorem sideKey_apart {b x y k : Nat} (h : SideKey b x k) (n : y ≠ x) : ¬ SideKey b y k := by
  unfold SideKey at *; omega

theorem width_ne_evt (b x : Nat) : Reg.key .BRG_WIDTH_STS 0 b x 0 ≠ Reg.key .BRG_EVT 0 b x 0 := by
  rw [key_BRG_WIDTH_STS, key_BRG_EVT]; omega

theorem width_ne_evtCnt (b x : Nat) : Reg.key .BRG_WIDTH_STS 0 b x 0 ≠ Reg.key .BRG_EVT_CNT 0 b x 0 := by
  rw [key_BRG_WIDTH_STS, key_BRG_EVT_CNT]; omega

theorem evt_ne_evtCnt (b x : Nat) : Reg.key .BRG_EVT 0 b x 0 ≠ Reg.key .BRG_EVT_CNT 0 b x 0 := by
  rw [key_BRG_EVT, key_BRG_EVT_CNT]; omega

/-- A bridge flag with its counter leaves the fields of BRG_WIDTH_STS. -/
theorem rd_width_flag {s : State} {f c g : Fld} {b x : Nat}
    (h : f.reg = .BRG_EVT ∧ c.reg = .BRG_EVT_CNT ∧ g.reg = .BRG_WIDTH_STS) :
    (s.flag f c 0 b x).rd g 0 b x = s.rd g 0 b x := by
  obtain ⟨hf, hc, hg⟩ := h
  exact rd_flag_ne _ _ _ _ _ _ _ _ _ _ _ (by rw [hf, hg]; exact width_ne_evt b x) (by rw [hc, hg]; exact width_ne_evtCnt b x)

theorem rd_width_slipIfRunning (s : State) (p c : Nat) (b : Fin 32) (x : Fin 2) (g : Fld) (h : g.reg = .BRG_WIDTH_STS) :
    (s.slipIfRunning p c).rd g 0 b x = s.rd g 0 b x := by
  refine rd_slipIfRunning _ _ _ _ _ _ _ _ ?_
  simp only [h, slipKeys, List.mem_cons, List.not_mem_nil, or_false, key_BRG_WIDTH_STS, key_SCH_EVT, key_SCH_EVT_CNT,
    key_SCH_FREEZE, key_SCH_SLIP_GTC, key_SCH_SLIP, key_SCH_STS]
  omega

/-! ### The states of a side (R25) -/

theorem sideUp_iff {s : State} {b x : Nat} :
    s.sideUp b x = true ↔ s.sideState b x = brActive ∨ s.sideState b x = brDegraded := by
  simp [State.sideUp]

theorem sideTraining_iff {s : State} {b x : Nat} : s.sideTraining b x = true ↔
    s.sideState b x = brCalibrate ∨ s.sideState b x = brWireTest ∨ s.sideState b x = brMap ∨ s.sideState b x = brRetrain := by
  simp [State.sideTraining, or_assoc]

theorem sideTraining_of_sideUp {s : State} {b x : Nat} (up : s.sideUp b x = true) : s.sideTraining b x = false := by
  unfold State.sideTraining
  obtain h | h := sideUp_iff.mp up <;> rw [h] <;> rfl

/-- A side carries traffic in a state that shows the same code. -/
theorem sideUp_of_state {s t : State} {b x : Nat} (e : t.sideState b x = s.sideState b x) (up : s.sideUp b x = true) :
    t.sideUp b x = true := by
  rw [sideUp_iff, e]
  exact sideUp_iff.mp up

theorem rd_state_wr {s : State} {b x c : Nat} (h : c < 16) :
    (s.wr F.BRG_WIDTH_STS_state c 0 b x).rd F.BRG_WIDTH_STS_state 0 b x = c :=
  (rd_wr_same _ _ _ _ _ _ _ (by decide)).trans (Nat.mod_eq_of_lt h)

/-! ### RETRAIN (R30, R31) -/

/-- What a side that carried traffic is after it entered RETRAIN with its retry buffer held. -/
structure Retrains (b x : Nat) (tell : Bool) (s t : State) : Prop extends KeepsStore s t where
  state : t.sideState b x = brRetrain
  side : t.side b x = { s.side b x with short := true, awaitReplay := false }
  out : t.out = s.out ++ if tell then [.bridgeRetrain b x] else []

/-- A slip of a partition that the side's slip_mask may hold back (R31). -/
theorem maskedSlip_retrains {b : Fin 32} {x : Fin 2} {s t : State} (c : Bool) (p cause : Nat) (h : Retrains b x false s t) :
    Retrains b x false s (if c then t else t.slipIfRunning p cause) := by
  split
  · exact h
  · exact ⟨h.toKeepsStore.trans (slipIfRunning_changes t p cause).toKeepsStore,
      (rd_width_slipIfRunning t p cause b x _ rfl).trans h.state, (slipIfRunning_side _ _ _ _ _).trans h.side,
      (slipIfRunning_out _ _ _).trans h.out⟩

theorem bridgeRetrain_retrains {s : State} {b : Fin 32} {x : Fin 2} (tell : Bool) (up : s.sideUp b x = true) :
    Retrains b x tell s (s.bridgeRetrain b x tell) := by
  unfold State.bridgeRetrain
  rw [if_neg (by rw [sideTraining_of_sideUp up]; decide)]
  extract_lets s1 s2 s3 s4 s5
  have r4 : Retrains b x false s s4 := by
    have k : KeepsStore s s4 := (KeepsStore.refl s).wr.updSide.flag.bridgeRecord
    refine ⟨k, ?_, ?_, ?_⟩
    · simp only [State.sideState, s4, s3, s2, s1, State.bridgeRecord, record_rd]
      rw [rd_width_flag ⟨rfl, rfl, rfl⟩, updSide_rd, rd_state_wr (by decide)]
    · simp only [s4, s3, s2, s1, State.bridgeRecord, record_side, flag_side, side_updSide_same, wr_side]
    · simp only [s4, s3, s2, s1, State.bridgeRecord, record_out, flag_out, updSide_out, wr_out]
      exact (List.append_nil _).symm
  have r5 : Retrains b x false s s5 := maskedSlip_retrains _ _ _ r4
  cases tell with
  | false => exact r5
  | true => exact ⟨r5.toKeepsStore.emit, r5.state, r5.side, by rw [if_pos rfl, out_emit, r5.out]; simp⟩

end Sys2Proof.Proofs
end

section
/-! PROOFS. Beats over a die bridge (01 R15–R21, R29, R30): what is accepted, recorded, launched and sent again. -/

namespace Sys2Proof.Proofs

open Sys2Proof.Machine Sys2Proof.Laws

/-! ### Beats received (R19, R21) -/

/-- A request for a replay makes its side wait for it; the rest of the side stays (R19). -/
theorem requestReplay_side (s : State) (b x : Nat) :
    (s.requestReplay b x).side b x = { s.side b x with awaitReplay := true } := by
  simp only [State.requestReplay, emit_side, flag_side, side_updSide_same]

theorem requestReplay_bcrc_cnt (s : State) (b x : Nat) :
    (s.requestReplay b x).rd F.BRG_EVT_CNT_bcrc_cnt 0 b x = s.rd F.BRG_EVT_CNT_bcrc_cnt 0 b x := by
  simp only [State.requestReplay, emit_rd, State.flag, State.count]
  rw [rd_wr_apart (by decide), rd_wr_ne _ _ _ _ _ _ _ _ _ _ _ _ (by exact (evt_ne_evtCnt b x).symm), updSide_rd]

/-- The side once the tick `g` of a failing bcrc stands among those of the last 2^20 ticks (R21). -/
def failedAt (d : Side) (g : Nat) : Side := { d with failTicks := g :: d.failTicks.filter fun t => decide (g < t + 2 ^ 20) }

theorem beatBad_side (s : State) (b x : Nat) :
    (s.beatBad b x).side b x = { failedAt (s.side b x) (s.part (s.partOfSide b x)).gtc with awaitReplay := true } := by
  unfold State.beatBad
  extract_lets g s1 s2
  have e : s2.side b x = failedAt (s.side b x) g := by
    simp only [s2, s1, side_updSide_same, count_side, failedAt]
  split
  · next w => rw [e] at w ⊢; rw [← w]
  · rw [requestReplay_side, e]

theorem beatBad_bcrc_cnt (s : State) (b x : Nat) :
    (s.beatBad b x).rd F.BRG_EVT_CNT_bcrc_cnt 0 b x = (s.rd F.BRG_EVT_CNT_bcrc_cnt 0 b x + 1) % 65536 := by
  unfold State.beatBad
  extract_lets g s1 s2
  have e : s2.rd F.BRG_EVT_CNT_bcrc_cnt 0 b x = (s.rd F.BRG_EVT_CNT_bcrc_cnt 0 b x + 1) % 65536 :=
    (updSide_rd s1 _ _ _ _ _ _ _ _).trans (rd_count_same _ _ _ _ _ _ _ (by decide))
  split
  · exact e
  · rw [requestReplay_bcrc_cnt, e]

theorem beatBad_keeps (s : State) (b x : Nat) : KeepsStore s (s.beatBad b x) := by
  unfold State.beatBad
  extract_lets g s1 s2
  have k : KeepsStore s s2 := (KeepsStore.refl s).wr.updSide
  exact .ite k k.updSide.flag.emit

/-- The side once a beat's acknowledgement has released what it names (R19). -/
def ackedSide (d : Side) (h : Nat) : Side := { d with retry := if h.testBit 12 then ackRetry (bits h 13 8) d.retry else d.retry }

/-- The side once it has accepted its next beat (R19). -/
def acceptedSide (d : Side) : Side := { d with expect := (d.expect + 1) % 256, ackVld := true, awaitReplay := false }

/-- A sound beat that is the next one is delivered (R19). -/
theorem beatGood_next {s : State} {b x : Nat} {header : BitVec 256} {body : BitVec 3696}
    (next : bits header.toNat 4 8 = (s.side b x).expect % 256) :
    KeepsStore s (s.beatGood b x header body) ∧
      (s.beatGood b x header body).side b x = acceptedSide (ackedSide (s.side b x) header.toNat) ∧
      (s.beatGood b x header body).out = s.out ++ (((List.range 7).filter fun n => header.toNat.testBit (21 + n)).map (bodyGran header body)).map
        (.bridgeDeliver b x) := by
  unfold State.beatGood
  extract_lets h seq s1 d gs s2
  have release : KeepsStore s s1 ∧ s1.side b x = ackedSide (s.side b x) h ∧ s1.out = s.out := by
    unfold s1
    split
    · next ack => exact ⟨.updSide (.refl s), by rw [side_updSide_same, ackedSide, if_pos ack], rfl⟩
    · next ack => exact ⟨.refl s, by rw [ackedSide, if_neg ack], rfl⟩
  obtain ⟨kept, side, out⟩ := release
  rw [if_pos (by rw [show d = _ from side]; exact next)]
  refine ⟨kept.updSide.emits, ?_, ?_⟩
  · rw [emits_side, side_updSide_same, side, acceptedSide]
  · rw [out_emits, updSide_out, out]

section

variable {b : Fin 32} {x : Fin 2} {h : BitVec 256} {body : BitVec 3696} {s : State}

theorem beat_exec : exec (.beat b x h body) s = execBeat b x h body s := rfl

theorem beat_discarded (down : s.sideUp b x = false) : exec (.beat b x h body) s = .next s := by
  rw [beat_exec, execBeat, down, if_pos (by decide)]

theorem beat_bad (up : s.sideUp b x = true) (crc : crc32Ieee (bcrcBytes h body) ≠ bits h.toNat 224 32) :
    exec (.beat b x h body) s = .next (s.beatBad b x) := by
  rw [beat_exec, execBeat, up, if_neg (by decide), if_pos crc]

/-- The state in which a beat with a sound bcrc has left its signature nibble (R29). -/
def heardNibble (s : State) (b x h : Nat) : State :=
  s.wr F.BRG_WIDTH_STS_far_signature
    (putBits (s.rd F.BRG_WIDTH_STS_far_signature 0 b x) (4 * (bits h 4 8 % 4)) 4 (bits h 0 4)) 0 b x

theorem heardNibble_signature (s : State) (b x h : Nat) :
    (heardNibble s b x h).rd F.BRG_WIDTH_STS_signature 0 b x = s.rd F.BRG_WIDTH_STS_signature 0 b x := rd_wr_apart (by decide)

theorem heardNibble_state (s : State) (b x h : Nat) : (heardNibble s b x h).sideState b x = s.sideState b x :=
  rd_wr_apart (by decide)

theorem heardNibble_side (s : State) (b x h : Nat) : (heardNibble s b x h).side b x = s.side b x := wr_side _ _ _ _ _ _ _ _ _

theorem heardNibble_out (s : State) (b x h : Nat) : (heardNibble s b x h).out = s.out := wr_out _ _ _ _ _ _ _

theorem heardNibble_keeps (s : State) (b x h : Nat) : KeepsStore s (heardNibble s b x h) := .wr (.refl s)

theorem beat_sound (up : s.sideUp b x = true) (crc : crc32Ieee (bcrcBytes h body) = bits h.toNat 224 32) :
    exec (.beat b x h body) s =
      if bits h.toNat 0 4 ≠ sigNibble (s.rd F.BRG_WIDTH_STS_signature 0 b x) (bits h.toNat 4 8 % 4) then
        .next (((heardNibble s b x h.toNat).flag F.BRG_EVT_sig_mismatch F.BRG_EVT_CNT_sig_cnt 0 b x).bridgeRetrain b x true)
      else .next ((heardNibble s b x h.toNat).beatGood b x h body) := by
  rw [beat_exec, execBeat, up, if_neg (by decide), if_neg (not_not_intro crc)]
  rw [← heardNibble_signature s b x h.toNat]
  rfl

/-- BEAT with a failing bcrc (R19, R21). -/
theorem beat_bad_completes (up : s.sideUp b x = true) (crc : crc32Ieee (bcrcBytes h body) ≠ bits h.toNat 224 32) :
    Completes (.beat b x h body) s fun t =>
      t.rd F.BRG_EVT_CNT_bcrc_cnt 0 b x = (s.rd F.BRG_EVT_CNT_bcrc_cnt 0 b x + 1) % 65536 ∧
      (t.side b x).awaitReplay = true ∧ (t.side b x).expect = (s.side b x).expect ∧
      (t.side b x).failTicks = (s.part (s.partOfSide b x)).gtc ::
        (s.side b x).failTicks.filter (fun u => decide ((s.part (s.partOfSide b x)).gtc < u + 2 ^ 20)) ∧
      (t.side b x).retry = (s.side b x).retry ∧ SameMemory s t ∧ SameEngines s t := by
  have k := beatBad_keeps s b x
  refine ⟨_, beat_bad up crc, beatBad_bcrc_cnt s b x, ?_⟩
  rw [beatBad_side]
  exact ⟨rfl, rfl, rfl, rfl, k.sameMemory, k.sameEngines⟩

/-- BEAT that is sound, of the right signature and next (R19). -/
theorem beat_accepted_completes (up : s.sideUp b x = true) (crc : crc32Ieee (bcrcBytes h body) = bits h.toNat 224 32)
    (sig : bits h.toNat 0 4 = sigNibble (s.rd F.BRG_WIDTH_STS_signature 0 b x) (bits h.toNat 4 8 % 4))
    (next : bits h.toNat 4 8 = (s.side b x).expect % 256) :
    Completes (.beat b x h body) s fun t =>
      (t.side b x).expect = ((s.side b x).expect + 1) % 256 ∧ (t.side b x).ackVld = true ∧
      (t.side b x).awaitReplay = false ∧
      (t.side b x).retry =
        (if h.toNat.testBit 12 then ackRetry (bits h.toNat 13 8) (s.side b x).retry else (s.side b x).retry) ∧
      t.out = s.out ++ (((List.range 7).filter fun n => h.toNat.testBit (21 + n)).map (bodyGran h body)).map
        (.bridgeDeliver b x) ∧ SameMemory s t ∧ SameEngines s t := by
  obtain ⟨kept, side, out⟩ := beatGood_next (s := heardNibble s b x h.toNat) (body := body)
    (by rw [heardNibble_side]; exact next)
  rw [heardNibble_side] at side
  have k := (heardNibble_keeps s b x h.toNat).trans kept
  refine ⟨_, (beat_sound up crc).trans (if_neg (not_not_intro sig)), ?_⟩
  simp only [side, acceptedSide, ackedSide, true_and]
  exact ⟨out.trans (by rw [heardNibble_out]), k.sameMemory, k.sameEngines⟩

/-- BEAT whose signature nibble differs (R29). -/
theorem beat_mismatch_completes (up : s.sideUp b x = true) (crc : crc32Ieee (bcrcBytes h body) = bits h.toNat 224 32)
    (sig : bits h.toNat 0 4 ≠ sigNibble (s.rd F.BRG_WIDTH_STS_signature 0 b x) (bits h.toNat 4 8 % 4)) :
    Completes (.beat b x h body) s fun t => t.rd F.BRG_WIDTH_STS_state 0 b x = brRetrain ∧
      (t.side b x).expect = (s.side b x).expect ∧ (t.side b x).retry = (s.side b x).retry ∧ SameMemory s t := by
  let u := (heardNibble s b x h.toNat).flag F.BRG_EVT_sig_mismatch F.BRG_EVT_CNT_sig_cnt 0 b x
  have upU : u.sideUp b x = true :=
    sideUp_of_state ((rd_width_flag ⟨rfl, rfl, rfl⟩).trans (heardNibble_state s b x h.toNat)) up
  have r := bridgeRetrain_retrains true upU
  have k : KeepsStore s u := (heardNibble_keeps s b x h.toNat).flag
  have side : u.side b x = s.side b x := (flag_side _ _ _ _ _ _ _ _).trans (heardNibble_side s b x h.toNat)
  refine ⟨_, (beat_sound up crc).trans (if_pos sig), r.state, ?_, ?_, (k.trans r.toKeepsStore).sameMemory⟩
  all_goals rw [r.side, side]

/-- BCRC_LIMIT (R21). -/
theorem bcrcLimit_completes (up : s.sideUp b x = true) (many : 8 ≤ (s.side b x).failTicks.length) :
    Completes (.bcrcLimit b x) s fun t => t.rd F.BRG_WIDTH_STS_state 0 b x = brRetrain ∧
      (t.side b x).failTicks = [] ∧ (t.side b x).retry = (s.side b x).retry ∧ SameMemory s t ∧ SameEngines s t := by
  let u := (s.wr F.BRG_EVT_bcrc_limit 1 0 b x).updSide b x fun d => { d with failTicks := [] }
  have upU : u.sideUp b x = true :=
    sideUp_of_state ((updSide_rd _ _ _ _ _ _ _ _ _).trans (rd_wr_ne _ _ _ _ _ _ _ _ _ _ _ _ (width_ne_evt b x))) up
  have side : u.side b x = { s.side b x with failTicks := [] } := side_updSide_same _ _ _ _
  have r := bridgeRetrain_retrains true upU
  have k : KeepsStore s u := (KeepsStore.refl s).wr.updSide
  refine completes_guarded rfl (by simp [up, many]) ⟨r.state, ?_, ?_, (k.trans r.toKeepsStore).sameMemory,
    (k.trans r.toKeepsStore).sameEngines⟩
  all_goals rw [r.side, side]

end

/-! ### Beats sent (R17, R19, R29) -/

/-- A beat takes the waiting granules in their order, at most as many as it has positions. -/
theorem beatFill_spec : ∀ (n pos : Nat) (q : List BeatGran),
    q = (beatFill n pos q).1 ++ (beatFill n pos q).2 ∧ (beatFill n pos q).1.length ≤ n
  | 0, _, q => ⟨rfl, Nat.le_refl 0⟩
  | n + 1, _, [] => ⟨rfl, Nat.zero_le _⟩
  | n + 1, pos, g :: q => by
    unfold beatFill
    split
    · exact ⟨rfl, Nat.zero_le _⟩
    · obtain ⟨e, l⟩ := beatFill_spec n (pos + 1) q
      exact ⟨congrArg (g :: ·) e, Nat.succ_le_succ l⟩

/-- BEAT_LAUNCH (R17, R19, R29, R34). -/
theorem beatLaunch_completes {b : Fin 32} {x : Fin 2} {new : List (Bool × BitVec 24 × BitVec 512 × BitVec 16)} {s : State}
    (up : s.sideUp b x = true) (room : (s.side b x).retry.length < 255)
    (free : s.sideState b x = brDegraded → ∀ g ∈ new, g.1 = false) :
    Completes (.beatLaunch b x new) s fun t =>
      (t.side b x).sendSeq = ((s.side b x).sendSeq + 1) % 256 ∧
      (∃ e : SentBeat, e.seq = (s.side b x).sendSeq ∧ (t.side b x).retry = (s.side b x).retry ++ [e] ∧
        (s.side b x).queue ++ offered new = e.grans ++ (t.side b x).queue ∧
        e.grans.length ≤ s.rd F.BRG_WIDTH_STS_gran_per_beat 0 b x) ∧
      SameMemory s t ∧ SameEngines s t ∧ t.regs = s.regs := by
  let r := beatFill (s.rd F.BRG_WIDTH_STS_gran_per_beat 0 b x) 0 ((s.side b x).queue ++ offered new)
  let u := (s.sendBeat b x (s.side b x).sendSeq r.1).updSide b x fun d => { d with
    queue := r.2, sendSeq := (d.sendSeq + 1) % 256, retry := d.retry ++ [{ seq := (s.side b x).sendSeq, grans := r.1 }] }
  have scheduled : ¬ ((s.sideState b x == brDegraded && (offered new).any (·.sched)) = true) := by
    simpa [offered] using free
  have launched : exec (.beatLaunch b x new) s = .next u := by
    change execBeatLaunch b x new s = _
    unfold execBeatLaunch
    dsimp only
    rw [up, if_neg (by decide), if_neg (by omega), if_neg scheduled]
    rfl
  have side : u.side b x = { s.side b x with
      queue := r.2, sendSeq := ((s.side b x).sendSeq + 1) % 256,
      retry := (s.side b x).retry ++ [{ seq := (s.side b x).sendSeq, grans := r.1 }] } := side_updSide_same _ _ _ _
  have k : KeepsStore s u := (KeepsStore.refl s).emit.updSide
  obtain ⟨order, fits⟩ := beatFill_spec (s.rd F.BRG_WIDTH_STS_gran_per_beat 0 b x) 0 ((s.side b x).queue ++ offered new)
  refine ⟨u, launched, ?_, ⟨{ seq := (s.side b x).sendSeq, grans := r.1 }, rfl, ?_, ?_, fits⟩, k.sameMemory, k.sameEngines, rfl⟩
  · rw [side]
  · rw [side]
  · rw [side]; exact order

/-- A buffered beat as it is sent again: with the side's present signature and acknowledgement (R19, R29). -/
def resent (s : State) (b x : Nat) (e : SentBeat) : Emit :=
  let m := mkBeat (s.rd F.BRG_WIDTH_STS_signature 0 b x) e.seq (s.side b x).ackVld ((s.side b x).expect + 255) e.grans
  .beat b x m.1 m.2

/-- Sending buffered beats again appends them in their order, and changes nothing else. -/
theorem foldl_sendBeat (b x : Nat) : ∀ (l : List SentBeat) (s : State),
    l.foldl (fun a e => a.sendBeat b x e.seq e.grans) s = s.emits (l.map (resent s b x))
  | [], s => by simp [State.emits]
  | e :: l, s => by
    have same : resent (s.sendBeat b x e.seq e.grans) b x = resent s b x := by
      funext y
      simp only [resent, State.sendBeat, emit_rd, emit_side]
    have sent : s.sendBeat b x e.seq e.grans = s.emit (resent s b x e) := rfl
    rw [List.foldl_cons, foldl_sendBeat b x l, same, sent, State.emits, State.emits, State.emit, List.map_cons,
      List.append_assoc, List.singleton_append]

/-- BEAT_REPLAY (R19). -/
theorem beatReplay_completes {b : Fin 32} {x : Fin 2} {seq : BitVec 8} {s : State} (up : s.sideUp b x = true) :
    Completes (.beatReplay b x seq) s fun t =>
      t.rd F.BRG_EVT_replay 0 b x = 1 ∧ t.sides = s.sides ∧
      t.out = s.out ++ ((s.side b x).retry.dropWhile fun e => !(e.seq == seq.toNat)).map (resent s b x) ∧
      SameMemory s t ∧ SameEngines s t := by
  let f := s.flag F.BRG_EVT_replay F.BRG_EVT_CNT_replay_cnt 0 b x
  let again := (s.side b x).retry.dropWhile fun e => !(e.seq == seq.toNat)
  have same : resent f b x = resent s b x := by
    funext e
    simp only [resent, f, flag_side, rd_width_flag (f := F.BRG_EVT_replay) (c := F.BRG_EVT_CNT_replay_cnt)
      (g := F.BRG_WIDTH_STS_signature) ⟨rfl, rfl, rfl⟩]
  have replayed : exec (.beatReplay b x seq) s = .next (f.emits (again.map (resent s b x))) := by
    change execBeatReplay b x seq s = _
    rw [execBeatReplay, up, if_neg (by decide)]
    exact congrArg Host.Outcome.next ((foldl_sendBeat b x again f).trans (by rw [same]))
  have replay : f.rd F.BRG_EVT_replay 0 b x = 1 := rd_flag_same _ _ _ _ _ _ (by decide) (evt_ne_evtCnt b x)
  have k : KeepsStore s (f.emits (again.map (resent s b x))) := (KeepsStore.refl s).flag.emits
  exact ⟨_, replayed, by rw [emits_rd, replay], by rw [emits_sides, flag_sides],
    by rw [out_emits, flag_out], k.sameMemory, k.sameEngines⟩

/-- Settles O5: each outcome of a beat, its launch and its replay has the effect of its own lemma. -/
theorem bridgeTraffic : Obligations.BridgeTraffic := by
  unfold Obligations.BridgeTraffic
  exact ⟨fun _ _ _ _ _ => beat_discarded, fun _ _ _ _ _ => beat_bad_completes, fun _ _ _ => bcrcLimit_completes,
    fun _ _ _ _ _ => beat_accepted_completes, fun _ _ _ _ _ => beat_mismatch_completes,
    fun _ _ _ _ => beatLaunch_completes, fun _ _ _ _ => beatReplay_completes⟩

end Sys2Proof.Proofs
end

section
/-! PROOFS. Training of a die bridge (01 R22–R34): RETRAIN, calibration, the wire test, and MAP. -/

namespace Sys2Proof.Proofs

open Sys2Proof.Machine Sys2Proof.Laws

section

variable {b : Fin 32} {x : Fin 2} {s : State}

/-! ### Into RETRAIN (R19, R28, R30) -/

/-- BRIDGE_SILENCE_TIMEOUT (R19, R30). -/
theorem bridgeSilenceTimeout_completes (up : s.sideUp b x = true) :
    Completes (.bridgeSilenceTimeout b x) s fun t => t.rd F.BRG_WIDTH_STS_state 0 b x = brRetrain ∧
      (t.side b x).retry = (s.side b x).retry ∧ (t.side b x).short = true ∧
      t.out = s.out ++ [.bridgeRetrain b x] ∧ SameMemory s t ∧ SameEngines s t := by
  have r := bridgeRetrain_retrains true up
  refine completes_guarded rfl up ⟨r.state, ?_, ?_, r.out, r.sameMemory, r.sameEngines⟩
  all_goals rw [r.side]

/-- BRIDGE_RETRAIN_SIGNAL (R30). -/
theorem bridgeRetrainSignal_completes (up : s.sideUp b x = true) :
    Completes (.bridgeRetrainSignal b x) s fun t => t.rd F.BRG_WIDTH_STS_state 0 b x = brRetrain ∧
      (t.side b x).retry = (s.side b x).retry ∧ t.out = s.out ∧ SameMemory s t ∧ SameEngines s t := by
  have r := bridgeRetrain_retrains false up
  have e : exec (.bridgeRetrainSignal b x) s = .next (s.bridgeRetrain b x false) := congrArg Host.Outcome.next (if_pos up)
  refine ⟨_, e, r.state, ?_, r.out.trans (List.append_nil _), r.sameMemory, r.sameEngines⟩
  rw [r.side]

theorem forceRetrain_exec : exec (.forceRetrain b x) s = .next (s.forceRetrain b x) := rfl

/-- FORCE_RETRAIN has no effect in OFF and RESET (R28). -/
theorem forceRetrain_idle (h : s.sideState b x = brOff ∨ s.sideState b x = brReset) : exec (.forceRetrain b x) s = .next s := by
  rw [forceRetrain_exec, State.forceRetrain, if_pos h]

/-- A side that trains or carries traffic is neither in OFF nor in RESET (R25). -/
theorem not_off_or_reset (h : s.sideTraining b x = true ∨ s.sideUp b x = true) :
    ¬ (s.sideState b x = brOff ∨ s.sideState b x = brReset) := by
  rw [sideTraining_iff, sideUp_iff] at h
  unfold brOff brReset
  unfold brCalibrate brWireTest brMap brRetrain brActive brDegraded at h
  omega

/-- FORCE_RETRAIN of a side in training (R28). -/
theorem forceRetrain_training (h : s.sideTraining b x = true) :
    Completes (.forceRetrain b x) s fun t => t.rd F.BRG_WIDTH_STS_state 0 b x = brCalibrate ∧ t.sides = s.sides := by
  refine ⟨s.wr F.BRG_WIDTH_STS_state brCalibrate 0 b x, ?_, rd_state_wr (by decide), wr_sides _ _ _ _ _ _ _⟩
  rw [forceRetrain_exec, State.forceRetrain, if_neg (not_off_or_reset (.inl h)), if_pos h]

/-- FORCE_RETRAIN of a side that carries traffic (R28, R30). -/
theorem forceRetrain_up (up : s.sideUp b x = true) :
    Completes (.forceRetrain b x) s fun t => t.rd F.BRG_WIDTH_STS_state 0 b x = brRetrain ∧
      (t.side b x).retry = (s.side b x).retry := by
  have r := bridgeRetrain_retrains true up
  refine ⟨s.bridgeRetrain b x true, ?_, r.state, ?_⟩
  · rw [forceRetrain_exec, State.forceRetrain, if_neg (not_off_or_reset (.inr up)), if_neg (by simp [sideTraining_of_sideUp up])]
  · rw [r.side]

/-! ### Out of reset, and calibration (R25–R27) -/

theorem setPair_keeps {s : State} {b x : Nat} (mask gen : Nat) : KeepsStore s (s.setPair b x mask gen) :=
  (KeepsStore.refl s).setReg.wr.wr.wr.wr

/-- BRIDGE_RESET_RELEASE (R25, R26). -/
theorem bridgeResetRelease_completes (h : s.sideState b x = brReset) (free : s.underReset b x = false) :
    Completes (.bridgeResetRelease b x) s fun t => SameMemory s t ∧ t.rd F.BRG_WIDTH_STS_state 0 b x =
      (if s.rdB F.BRG_CTL_enable 0 b x = false ∨ (isSeam b = true ∧ s.twoPart = true) then brOff
       else if s.sideState b (1 - x) = brActive then brActive else brCalibrate) := by
  rw [completes_iff_yields]
  change Yields (execBridgeResetRelease b x s) _
  unfold execBridgeResetRelease
  rw [if_neg (by simp [h, free])]
  by_cases off : s.rdB F.BRG_CTL_enable 0 b x = false ∨ (isSeam b = true ∧ s.twoPart = true)
  · rw [if_pos (by simpa using off), if_pos off]
    exact .next ⟨(KeepsStore.refl s).wr.sameMemory, rd_state_wr (by decide)⟩
  · rw [if_neg (by simpa using off), if_neg off]
    by_cases far : s.sideState b (1 - x) = brActive
    · rw [if_pos far, if_pos far]
      exact .next ⟨(setPair_keeps _ _).wr.sameMemory, rd_state_wr (by decide)⟩
    · rw [if_neg far, if_neg far]
      exact .next ⟨(KeepsStore.refl s).updSide.wr.sameMemory, rd_state_wr (by decide)⟩

/-- CALIBRATE_DONE (R27). -/
theorem calibrateDone_completes (h : s.sideState b x = brCalibrate ∨ s.sideState b x = brRetrain) :
    Completes (.calibrateDone b x) s fun t => t.rd F.BRG_WIDTH_STS_state 0 b x = brWireTest ∧ t.sides = s.sides :=
  completes_guarded rfl (by simpa using h) ⟨rd_state_wr (by decide), wr_sides _ _ _ _ _ _ _⟩

/-! ### The wire test (R22, R35) -/

/-- The mask `a` with the good groups of a list added, the first of them in bit k. -/
def groupMask (l : List GroupSts) (k a : Nat) : Nat := (l.zipIdx k).foldl (fun a r => if r.1.good then a + 2 ^ r.2 else a) a

/-- A mask below 2^k with bit k added when a group is good. -/
theorem addBit_spec {a k : Nat} (bound : a < 2 ^ k) (good : Bool) : let m := if good then a + 2 ^ k else a
    m < 2 ^ (k + 1) ∧ m.testBit k = good ∧ ∀ i, i < k → m.testBit i = a.testBit i := by
  have twice : 2 ^ (k + 1) = 2 ^ k + 2 ^ k := by omega
  have top : a.testBit k = false := Nat.testBit_lt_two_pow bound
  cases good with
  | false =>
    rw [if_neg (by decide)]
    exact ⟨by omega, top, fun _ _ => rfl⟩
  | true =>
    rw [if_pos rfl, Nat.add_comm a]
    refine ⟨by omega, ?_, fun i low => Nat.testBit_two_pow_add_gt low a⟩
    rw [Nat.testBit_two_pow_add_eq, top, Bool.not_false]

/-- The bits below k stay, and bit k + g says whether group g of the list is good. -/
theorem groupMask_spec : ∀ (l : List GroupSts) {k a : Nat}, a < 2 ^ k →
    (∀ i, i < k → (groupMask l k a).testBit i = a.testBit i) ∧
      ∀ g (h : g < l.length), (groupMask l k a).testBit (k + g) = l[g].good
  | [], _, _, _ => ⟨fun _ _ => rfl, fun g h => absurd h (Nat.not_lt_zero g)⟩
  | x :: l, k, a, bound => by
    obtain ⟨bound', top, below⟩ := addBit_spec bound x.good
    obtain ⟨stay, bit⟩ := groupMask_spec l bound'
    have step : groupMask (x :: l) k a = groupMask l (k + 1) (if x.good then a + 2 ^ k else a) := rfl
    rw [step]
    refine ⟨fun i low => (stay i (by omega)).trans (below i low), fun g h => ?_⟩
    cases g with
    | zero => exact (stay k (by omega)).trans top
    | succ g =>
      rw [← Nat.add_assoc, Nat.add_right_comm]
      exact bit g (Nat.lt_of_succ_lt_succ h)

/-- The failing wire positions of a group. -/
def failingWires (bad : List (Fin 64 × Fin 66)) (g : Nat) : List Nat := (bad.filter fun w => w.1.val == g).map fun w => w.2.val

/-- What the wire test found of the 64 groups. -/
def testedGroups (bad : List (Fin 64 × Fin 66)) : List GroupSts := (List.range 64).map fun g => groupResult (failingWires bad g)

theorem groupMask_tested (bad : List (Fin 64 × Fin 66)) {g : Nat} (h : g < 64) :
    (BitVec.ofNat 64 (groupMask (testedGroups bad) 0 0)).getLsbD g = decide ((bad.filter fun w => w.1.val == g).length ≤ 2) := by
  have len : (testedGroups bad).length = 64 := by simp [testedGroups]
  have bit := (groupMask_spec (testedGroups bad) (k := 0) (a := 0) (by decide)).2 g (by rw [len]; exact h)
  rw [Nat.zero_add] at bit
  rw [BitVec.getLsbD_ofNat, decide_eq_true h, Bool.true_and, bit]
  simp only [testedGroups, List.getElem_map, List.getElem_range, groupResult, failingWires, List.length_map]

/-- The ageing-log entries of a group's mapped wires leave storage, engines and sides (R35). -/
theorem logWires_keeps (half b v : Nat) : ∀ (l : List Nat) {s t : State}, KeepsStore s t ∧ t.sides = s.sides →
    KeepsStore s (l.foldl (fun a w => a.ageLog half 17 0 b (v + w * 2 ^ 16) 0) t) ∧
      (l.foldl (fun a w => a.ageLog half 17 0 b (v + w * 2 ^ 16) 0) t).sides = s.sides
  | [], _, _, h => h
  | _ :: l, _, _, ⟨kept, sides⟩ => logWires_keeps half b v l ⟨kept.ageLog, (ageLog_sides _ _ _ _ _ _ _).trans sides⟩

/-- So do a group's entries, whatever the test found of it (R35). -/
theorem logGroup_keeps {s t : State} (b x g : Nat) (bad : List Nat) (h : KeepsStore s t ∧ t.sides = s.sides) :
    KeepsStore s (t.logGroup b x g bad) ∧ (t.logGroup b x g bad).sides = s.sides := by
  unfold State.logGroup
  split
  · exact h
  · split
    · obtain ⟨kept, sides⟩ := h
      exact ⟨kept.ageLog, (ageLog_sides _ _ _ _ _ _ _).trans sides⟩
    · exact logWires_keeps _ _ _ bad h

theorem logGroups_keeps (b x : Nat) (bad : Nat → List Nat) : ∀ (l : List Nat) {s t : State}, KeepsStore s t ∧ t.sides = s.sides →
    KeepsStore s (l.foldl (fun a g => a.logGroup b x g (bad g)) t) ∧
      (l.foldl (fun a g => a.logGroup b x g (bad g)) t).sides = s.sides
  | [], _, _, h => h
  | g :: l, _, _, h => logGroups_keeps b x bad l (logGroup_keeps b x g (bad g) h)

/-- WIRE_TEST_DONE (R22). -/
theorem wireTestDone_completes {bad : List (Fin 64 × Fin 66)} (h : s.sideState b x = brWireTest) :
    Completes (.wireTestDone b x bad) s fun t => t.rd F.BRG_WIDTH_STS_state 0 b x = brMap ∧ SameMemory s t ∧
      ∀ g, g < 64 → (t.side b x).goodMask.getLsbD g = decide ((bad.filter fun w => w.1.val == g).length ≤ 2) := by
  let u := s.updSide b x fun d => { d with
    groups := (testedGroups bad).zipIdx.foldl (fun t r => tabSet groupDefault t r.2 r.1) []
    goodMask := BitVec.ofNat 64 (groupMask (testedGroups bad) 0 0) }
  let v := (List.range 64).foldl (fun a g => a.logGroup b x g (failingWires bad g)) u
  have e : exec (.wireTestDone b x bad) s = .next (v.wr F.BRG_WIDTH_STS_state brMap 0 b x) := if_neg (not_not_intro h)
  obtain ⟨kept, sides⟩ := logGroups_keeps b x (failingWires bad) (List.range 64) ⟨KeepsStore.refl u, rfl⟩
  have k : KeepsStore s (v.wr F.BRG_WIDTH_STS_state brMap 0 b x) := (KeepsStore.refl s).updSide.trans kept.wr
  refine ⟨_, e, rd_state_wr (by decide), k.sameMemory, fun g lt => ?_⟩
  have side : v.side b x = u.side b x := congrArg (tabGet sideDefault · _) sides
  rw [wr_side, side, side_updSide_same]
  exact groupMask_tested bad lt

end

/-! ### MAP (R23, R24, R32–R34) -/

theorem widthState_lt (w : Nat) : widthState w < 16 := by
  unfold widthState
  split
  · decide
  · split <;> decide

/-- A side's pair of mask and generation reads back (R24). -/
theorem setPair_reads (s : State) (b x mask gen : Nat) :
    (s.setPair b x mask gen).reg .BRG_MASK 0 b x = BitVec.ofNat 64 mask ∧
      (s.setPair b x mask gen).rd F.BRG_WIDTH_STS_generation 0 b x = gen % 65536 := by
  have apart : Reg.key .BRG_MASK 0 b x 0 ≠ Reg.key .BRG_WIDTH_STS 0 b x 0 := by rw [key_BRG_MASK, key_BRG_WIDTH_STS]; omega
  unfold State.setPair
  constructor
  · rw [reg_wr_of (f := F.BRG_WIDTH_STS_signature) rfl apart, reg_wr_of (f := F.BRG_WIDTH_STS_gran_per_beat) rfl apart,
      reg_wr_of (f := F.BRG_WIDTH_STS_width) rfl apart, reg_wr_of (f := F.BRG_WIDTH_STS_generation) rfl apart, reg_setReg_same]
  · rw [rd_wr_apart (by decide), rd_wr_apart (by decide), rd_wr_apart (by decide), rd_wr_same _ _ _ _ _ _ _ (by decide)]
    rfl

theorem setPair_changes {K : Nat → Prop} {s t : State} {b x : Nat} (mask gen : Nat) (h : ChangesOnly K s t)
    (m : ∀ k, SideKey b x k → K k) : ChangesOnly K s (t.setPair b x mask gen) := by
  have w := m _ (sideKey_width b x)
  have pair : ChangesOnly K s (t.setReg .BRG_MASK (BitVec.ofNat 64 mask) 0 b x) := h.setReg (m _ (sideKey_mask b x))
  unfold State.setPair
  exact (((pair.wr (by exact w)).wr (by exact w)).wr (by exact w)).wr (by exact w)

/-- What MAP leaves of a side that it gives mask `m`, generation `g` and queues `d` (R24, R33, R34). -/
structure Mapped (b x m g : Nat) (d : Side) (t : State) : Prop where
  mask : t.reg .BRG_MASK 0 b x = BitVec.ofNat 64 m
  state : t.rd F.BRG_WIDTH_STS_state 0 b x = widthState (popcount 64 m)
  generation : t.rd F.BRG_WIDTH_STS_generation 0 b x = g % 65536
  expect : (t.side b x).expect = d.expect

theorem mapSide_mapped (s : State) (b x mask gen : Nat) (d : Side) : Mapped b x mask gen d (s.mapSide b x mask gen d) := by
  have apart : Reg.key .BRG_MASK 0 b x 0 ≠ Reg.key .BRG_WIDTH_STS 0 b x 0 := by rw [key_BRG_MASK, key_BRG_WIDTH_STS]; omega
  have apart' : Reg.key .BRG_MASK 0 b x 0 ≠ Reg.key .BRG_EVT 0 b x 0 := by rw [key_BRG_MASK, key_BRG_EVT]; omega
  unfold State.mapSide
  extract_lets w s1 s2 s3 s4
  obtain ⟨mask1, gen1⟩ := setPair_reads (s.updSide b x fun _ => d) b x mask gen
  have m2 : Mapped b x mask gen d s2 := by
    refine ⟨?_, rd_state_wr (widthState_lt _), ?_, ?_⟩
    · simp only [s2]
      rw [reg_wr_of (f := F.BRG_WIDTH_STS_state) rfl apart, mask1]
    · simp only [s2]
      rw [rd_wr_apart (by decide), gen1]
    · simp only [s2, s1, State.setPair, wr_side, setReg_side, side_updSide_same]
  split
  · exact m2
  · obtain ⟨mask2, state2, gen2, expect2⟩ := m2
    refine ⟨?_, ?_, ?_, ?_⟩
    · simp only [State.bridgeRecord, record_reg, s4, updSide_reg, s3]
      rw [reg_wr_of (f := F.BRG_EVT_degraded) rfl apart', mask2]
    · simp only [State.bridgeRecord, record_rd, s4, updSide_rd, s3]
      rw [rd_wr_ne _ _ _ _ _ _ _ _ _ _ _ _ (by exact width_ne_evt b x), state2]
    · simp only [State.bridgeRecord, record_rd, s4, updSide_rd, s3]
      rw [rd_wr_ne _ _ _ _ _ _ _ _ _ _ _ _ (by exact width_ne_evt b x), gen2]
    · simp only [State.bridgeRecord, record_side, s4, side_updSide_same, s3, wr_side]
      exact expect2

/-- MAP of one side changes its own registers only. -/
theorem mapSide_changes (s : State) (b x mask gen : Nat) (d : Side) :
    ChangesOnly (SideKey b x) s (s.mapSide b x mask gen d) := by
  unfold State.mapSide
  extract_lets w s1 s2 s3 s4
  have k1 : ChangesOnly (SideKey b x) s s1 := setPair_changes mask gen (ChangesOnly.refl _ s).updSide fun _ => id
  have k2 : ChangesOnly (SideKey b x) s s2 := k1.wr (by exact sideKey_width b x)
  have k3 : ChangesOnly (SideKey b x) s s3 := k2.wr (by exact sideKey_evt b x)
  exact .ite k2 k3.updSide.record

/-- MAP of one side leaves the other side of the bridge. -/
theorem mapSide_side_ne (s : State) {b x y : Nat} (mask gen : Nat) (d : Side) (n : y ≠ x) :
    (s.mapSide b x mask gen d).side b y = s.side b y := by
  have other (u : State) (f : Side → Side) : (u.updSide b x f).side b y = u.side b y := by
    rw [side_updSide, if_neg (by omega)]
  unfold State.mapSide
  extract_lets w s1 s2 s3 s4
  have e2 : s2.side b y = s.side b y := by simp only [s2, s1, State.setPair, wr_side, setReg_side, other]
  split
  · exact e2
  · simp only [State.bridgeRecord, record_side, s4, other, s3, wr_side, e2]

/-- What MAP gave a side outlasts MAP of the other. -/
theorem Mapped.mapSide_ne {b x y mask gen : Nat} {d : Side} {t : State} (h : Mapped b y mask gen d t) (n : y ≠ x)
    (mask' gen' : Nat) (d' : Side) : Mapped b y mask gen d (t.mapSide b x mask' gen' d') := by
  have kept := mapSide_changes t b x mask' gen' d'
  have width := sideKey_apart (sideKey_width b y) n.symm
  have maskKey := sideKey_apart (sideKey_mask b y) n.symm
  refine ⟨?_, ?_, ?_, ?_⟩
  · rw [kept.reg _ _ _ _ _ (by exact maskKey), h.mask]
  · rw [kept.rd _ _ _ _ _ (by exact width), h.state]
  · rw [kept.rd _ _ _ _ _ (by exact width), h.generation]
  · rw [mapSide_side_ne t mask' gen' d' n, h.expect]

/-- MAP_DONE (R23, R24, R32–R34). -/
theorem mapDone_completes {b : Fin 32} {s : State} (h0 : s.sideState b 0 = brMap) (h1 : s.sideState b 1 = brMap) :
    Completes (.mapDone b) s fun t => SameMemory s t ∧ ∀ x : Fin 2,
      t.reg .BRG_MASK 0 b x = (s.side b 0).goodMask &&& (s.side b 1).goodMask ∧
      t.rd F.BRG_WIDTH_STS_state 0 b x =
        widthState (popcount 64 ((s.side b 0).goodMask &&& (s.side b 1).goodMask).toNat) ∧
      t.rd F.BRG_WIDTH_STS_generation 0 b x =
        (max (s.rd F.BRG_WIDTH_STS_generation 0 b 0) (s.rd F.BRG_WIDTH_STS_generation 0 b 1) + 1) % 65536 ∧
      (t.side b x).expect = (s.side b (1 - x)).resendPoint := by
  let d0 := s.side b 0
  let d1 := s.side b 1
  let mask := (d0.goodMask &&& d1.goodMask).toNat
  let gen := (max (s.rd F.BRG_WIDTH_STS_generation 0 b 0) (s.rd F.BRG_WIDTH_STS_generation 0 b 1) + 1) % 2 ^ 16
  let u := s.mapSide b 0 mask gen (d0.afterMap d1)
  let v := u.mapSide b 1 mask gen (d1.afterMap d0)
  have e : exec (.mapDone b) s = .next v := if_neg (by simp [h0, h1])
  have kept : KeepsStore s v := (mapSide_changes s b 0 _ _ _).toKeepsStore.trans (mapSide_changes u b 1 _ _ _).toKeepsStore
  have reads {x : Nat} {d : Side} (m : Mapped b x mask gen d v) :
      v.reg .BRG_MASK 0 b x = d0.goodMask &&& d1.goodMask ∧
      v.rd F.BRG_WIDTH_STS_state 0 b x = widthState (popcount 64 mask) ∧
      v.rd F.BRG_WIDTH_STS_generation 0 b x = gen ∧ (v.side b x).expect = d.expect :=
    ⟨m.mask.trans (((BitVec.ofNat_toNat _ _).trans (BitVec.setWidth_eq _))), m.state, m.generation.trans (Nat.mod_mod _ _), m.expect⟩
  refine ⟨v, e, kept.sameMemory, fun x => ?_⟩
  match x with
  | 0 => exact reads ((mapSide_mapped s b 0 mask gen (d0.afterMap d1)).mapSide_ne (by decide) _ _ _)
  | 1 => exact reads (mapSide_mapped u b 1 mask gen (d1.afterMap d0))

/-- Settles O6: each training command has the effect of its own lemma. -/
theorem bridgeTraining : Obligations.BridgeTraining := by
  unfold Obligations.BridgeTraining
  exact ⟨fun _ _ _ => bridgeSilenceTimeout_completes, fun _ _ _ => bridgeRetrainSignal_completes,
    fun _ _ _ => ⟨forceRetrain_idle, forceRetrain_training, forceRetrain_up⟩, fun _ _ _ => bridgeResetRelease_completes,
    fun _ _ _ => calibrateDone_completes, fun _ _ _ _ => wireTestDone_completes, fun _ _ => mapDone_completes⟩

end Sys2Proof.Proofs
end

section
/-! PROOFS. The end of Mafin's boot (12 R437, R447, R448): reaching IDLE ends a trial in the boot record only when the firmware came
from a slot of the flash. A firmware booted from the network or by hold does not change flash (R448). -/

namespace Sys2Proof.Proofs

open Sys2Proof.Machine Sys2Proof.Laws

/-! ### The boot records and the MGPs -/

/-- What a boot is settled by: the flashes, the MGPs, and the partition mode. -/
def bootView (s : State) : (Nat → Flash) × (Nat → Mgp) × Bool := (s.flash, s.mgp, s.twoPart)

theorem bootView_wr (s : State) (f : Fld) (v p i j k : Nat) : bootView (s.wr f v p i j k) = bootView s := rfl

theorem bootView_enter (s : State) (p : Nat) (st : PState) : bootView (s.enter p st) = bootView s := by
  have flash : (s.enter p st).flash = s.flash := funext fun h => enter_flash s p st h
  have mgp : (s.enter p st).mgp = s.mgp := funext fun h => enter_mgp s p st h
  simp only [bootView, flash, mgp, enter_twoPart]

/-- A view that every step of a fold keeps is kept by the fold. -/
theorem foldl_keeps_view {α β : Type} (view : State → β) (f : State → α → State) (l : List α)
    (kept : ∀ a, ∀ x ∈ l, view (f a x) = view a) (s : State) : view (l.foldl f s) = view s := by
  induction l generalizing s with
  | nil => rfl
  | cons x l ih =>
    exact (ih (fun a y m => kept a y (List.mem_cons_of_mem x m)) (f s x)).trans (kept s x List.mem_cons_self)

/-- Setting the lock bits writes registers only (R436). -/
theorem bootView_lockAll (s : State) (p : Nat) : bootView (s.lockAll p) = bootView s := by
  refine foldl_keeps_view bootView _ _ (fun a r _ => ?_) s
  dsimp only
  split
  · exact bootView_wr _ _ _ _ _ _ _
  · refine foldl_keeps_view bootView _ _ (fun b i _ => foldl_keeps_view bootView _ _ (fun c j _ => ?_) b) a
    split
    · exact bootView_wr _ _ _ _ _ _ _
    · rfl

/-! ### Settling a firmware (R447, R448, R498) -/

theorem updFlash_flash_of_fixed (s : State) (h k : Nat) {f : Flash → Flash} (fixed : ∀ x, f x = x) :
    (s.updFlash h f).flash k = s.flash k := by
  unfold State.updFlash State.flash
  split <;> split <;> simp only [fixed]

/-- A firmware that no half took from a slot leaves the boot records as they are (R448). -/
theorem settleFirmware_flash {s : State} {p : Nat} (away : ∀ h ∈ s.halves p, 2 ≤ (s.mgp h).slot) (storeOk : Bool) (k : Nat) :
    (s.settleFirmware p storeOk).flash k = s.flash k := by
  unfold State.settleFirmware
  extract_lets t
  have records : t.flash k = s.flash k :=
    foldl_keeps_view (State.flash · k) _ _
      (fun a h m => updFlash_flash_of_fixed a h k fun f => if_neg fun x => absurd (away h m) (Nat.not_le_of_lt x.2)) s
  split
  · exact records
  · next f _ =>
    refine Eq.trans ?_ records
    change (if _ then _ else _ : State).flash k = _
    split
    · split
      · rfl
      · exact (record_flash _ _ _ _ _ _ _ _ _ _ _ _).trans (flag_flash _ _ _ _ _ _ _)
    · rfl

/-- BOOT_COMPLETE of a firmware that came from the network or by hold changes no flash (R448). -/
theorem bootComplete_flash {p : Fin 2} {s : State} (part : s.hasPart p = true) (booting : (s.part p).state = .booting)
    (stage : s.rd F.BOOT_STS_stage p = 5) (filled : (s.part p).filling = false) (bridges : s.bridgesReady p = true)
    (away : ∀ h ∈ s.halves p, 2 ≤ (s.mgp h).slot) (storeOk : Bool) :
    Completes (.bootComplete p storeOk) s fun u => ∀ k, u.flash k = s.flash k := by
  let t := ((s.lockAll p).enter p .idle).wr F.BOOT_STS_stage 6 p
  have view : bootView t = bootView s := (bootView_wr _ _ _ _ _ _ _).trans ((bootView_enter _ _ _).trans (bootView_lockAll s p))
  obtain ⟨flash, mgp, mode⟩ : t.flash = s.flash ∧ t.mgp = s.mgp ∧ t.twoPart = s.twoPart := by
    simpa only [bootView, Prod.mk.injEq] using view
  have away' : ∀ h ∈ t.halves p, 2 ≤ (t.mgp h).slot := by
    unfold State.halves
    rw [mode, mgp]
    exact away
  refine completes_guarded rfl (by simp [part, booting, stage, filled, bridges]) fun k => ?_
  exact (settleFirmware_flash away' storeOk k).trans (congrFun flash k)

/-! ### The counterexample -/

/-- Both sides of every bridge are ACTIVE. -/
def bridgesTrained : State :=
  (List.range 32).foldl (fun s b => (s.wr F.BRG_WIDTH_STS_state brActive 0 b 0).wr F.BRG_WIDTH_STS_state brActive 0 b 1) State.reset

/-- Whole-device mode, straps that boot from the network, and boot records that FW_COMMIT left on trial (R450): every condition of R437
holds. -/
def networkBootOnTrial : State :=
  { (bridgesTrained.wr F.BOOT_STS_stage 5 0).updPart 0 fun q => { q with state := .booting } with
    straps := 0x10
    mgp0 := { stage := 3, slot := 2 }, mgp1 := { stage := 3, slot := 2 }
    flash0 := { active := 1, trial := true }, flash1 := { active := 1, trial := true } }

theorem networkBootOnTrial_ready : let s := networkBootOnTrial
    s.hasPart 0 = true ∧ (s.part 0).state = .booting ∧ s.rd F.BOOT_STS_stage 0 = 5 ∧ (s.part 0).filling = false ∧
      s.bridgesReady 0 = true ∧ ∀ h ∈ s.halves 0, 2 ≤ (s.mgp h).slot := by decide +kernel

/-- Refutes O53: a firmware booted from the network with the boot record on trial reaches IDLE and the trial stays, since such a
firmware does not change flash (R448). -/
theorem not_mafinBoots : ¬ Obligations.MafinBoots := by
  unfold Obligations.MafinBoots
  intro claim
  obtain ⟨part, booting, stage, filled, bridges, away⟩ := networkBootOnTrial_ready
  obtain ⟨-, -, -, complete, -⟩ := claim 0 networkBootOnTrial part
  obtain ⟨u, e, -, -, -, -, ended, -⟩ := complete true booting stage filled bridges
  obtain ⟨v, e', kept⟩ := bootComplete_flash (p := 0) part booting stage filled bridges away true
  obtain rfl : u = v := Host.Outcome.next.inj (e.symm.trans e')
  obtain ⟨trial, -⟩ := ended 0 (by decide)
  rw [kept 0] at trial
  exact absurd trial (by decide)

end Sys2Proof.Proofs
end

section
/-! SUPPORT. Host commands in progress (11 R409–R418): what completing one leaves of its partition and writes for its source, what
an event that moves the partition to a state leaves of the commands (R416, R417), and a command that has run and waits. -/

namespace Sys2Proof.Proofs

open Sys2Proof.Machine Sys2Proof.Laws

/-! ### The partition apart from its commands -/

/-- A partition apart from its host commands, its control slot and the records on their way. -/
def runOf (q : Part) : Part := { q with opens := [], slotHolder := none, slotWait := [], records := [] }

/-- Command `o` is the only one its source has open. -/
def Sole (s : State) (p : Nat) (o : OpenCmd) : Prop := (s.part p).opens.filter (fun x => x.src == o.src) = [o]

theorem Sole.openOf {s : State} {p : Nat} {o : OpenCmd} (h : Sole s p o) : s.openOf p o.src = some o := by
  unfold State.openOf
  rw [← List.head?_filter, h]
  rfl

/-- A command of that source is this one. -/
theorem Sole.eq_of_mem {s : State} {p : Nat} {o x : OpenCmd} (h : Sole s p o) (m : x ∈ (s.part p).opens)
    (e : x.src = o.src) : x = o := by
  have : x ∈ [o] := h ▸ List.mem_filter.mpr ⟨m, by simp [e]⟩
  exact List.mem_singleton.mp this

theorem Sole.of_opens {s t : State} {p : Nat} {o : OpenCmd} (h : Sole s p o) (e : (t.part p).opens = (s.part p).opens) :
    Sole t p o := by
  unfold Sole
  rw [e]
  exact h

/-! ### Commands that may run -/

theorem readyCmd_sole {s : State} {p r op : Nat} {o : OpenCmd} (h : s.readyCmd p r op o) : Sole s p o := by
  obtain ⟨-, -, sole⟩ := h
  exact sole

theorem readyCmd_opcode {s : State} {p r op : Nat} {o : OpenCmd} (h : s.readyCmd p r op o) : o.opcode = op := by
  obtain ⟨run, -, -⟩ := h
  unfold State.running? at run
  split at run
  · split at run
    · next x _ c =>
      obtain rfl : x = o := Option.some.inj run
      simp only [Bool.and_eq_true, beq_iff_eq] at c
      exact c.2
    · cases run
  · cases run

theorem readyCmd_fresh {s : State} {p r op : Nat} {o : OpenCmd} (h : s.readyCmd p r op o) : s.fresh? p r op = some o := by
  obtain ⟨run, stage, -⟩ := h
  unfold State.fresh?
  rw [run]
  exact if_pos stage

/-! ### Completing a command -/

@[simp] theorem refusalFlags_part (s : State) (p status q : Nat) : (s.refusalFlags p status).part q = s.part q := by
  unfold State.refusalFlags
  simp only [ite_part, flag_part, ite_self]

@[simp] theorem releaseSlot_part (s : State) (p : Nat) (src : CmdSrc) : (s.releaseSlot p src).part p =
    { s.part p with slotHolder := if (s.part p).slotHolder == some src then none else (s.part p).slotHolder } :=
  part_updPart_same _ _ _

/-- The words of a mailbox record go to registers only (R406). -/
theorem foldl_setReg_part (s : State) (p q : Nat) (r : Reg) (v : Nat → Word) (l : List Nat) :
    (l.foldl (fun a i => a.setReg r (v i) p i) s).part q = s.part q :=
  foldl_keeps_view (State.part · q) (fun a i => a.setReg r (v i) p i) l (fun _ _ _ => rfl) s

/-- The command of a source is no longer open, and the partition apart from its commands is as it was. -/
structure Taken (src : CmdSrc) (q t : Part) : Prop where
  opens : t.opens = q.opens.filter fun x => x.src != src
  run : runOf t = runOf q

/-- Completing a command takes it from the open ones; only commands, control slot and records of its partition change
(R409–R411). -/
theorem complete_taken (s : State) (p : Nat) (src : CmdSrc) (status detail r0 r1 : Nat) :
    Taken src (s.part p) ((s.complete p src status detail r0 r1).part p) := by
  unfold State.complete
  split
  · next absent =>
    refine ⟨(List.filter_eq_self.mpr fun x m => ?_).symm, rfl⟩
    simpa using List.find?_eq_none.mp absent x m
  · extract_lets s1 s2 c
    have taken : Taken src (s.part p) (s2.part p) := by
      simp only [s2, s1, part_updPart_same, refusalFlags_part, releaseSlot_part]
      exact ⟨rfl, rfl⟩
    cases src with
    | ring r =>
      dsimp only
      split
      · exact taken
      · rw [part_updPart_same, count_part]
        exact ⟨taken.opens, taken.run⟩
    | mailbox =>
      dsimp only
      rw [flag_part, wr_part, foldl_setReg_part]
      exact taken

/-- The command of another source stays open. -/
theorem Sole.complete {s : State} {p : Nat} {o : OpenCmd} {src : CmdSrc} (h : Sole s p o) (n : src ≠ o.src)
    (status detail r0 r1 : Nat) : Sole (s.complete p src status detail r0 r1) p o := by
  unfold Sole
  rw [(complete_taken _ _ _ _ _ _ _).opens, List.filter_filter, ← h]
  refine List.filter_congr fun x _ => ?_
  by_cases e : x.src = o.src
  · simp [e, n.symm]
  · simp [e]

/-- The record of a ring's command waits for its completion ring (R409, R414). -/
theorem complete_ring_record {s : State} {p : Nat} {r : Fin 64} {o : OpenCmd} (h : s.openOf p (.ring r) = some o)
    (live : o.orphan = false) (status detail r0 r1 : Nat) :
    ∃ c ∈ ((s.complete p (.ring r) status detail r0 r1).part p).records, c.ring = r ∧ c.cmdId = o.field 4 4 ∧
      c.opcode = o.opcode ∧ c.status = status ∧ c.detail = detail ∧ c.res0 = r0 % 2 ^ 64 ∧ c.res1 = r1 % 2 ^ 64 := by
  unfold State.complete
  rw [h]
  dsimp only
  rw [if_neg (by simp [live]), part_updPart_same]
  exact ⟨_, List.mem_append_right _ (List.mem_singleton.mpr rfl), rfl, rfl, rfl, rfl, rfl, rfl, rfl⟩

/-- The first word of a mailbox record holds the status in its byte 4 (R414). -/
theorem bytes_status (c : CplRec) (phase : Nat) :
    bits (BitVec.ofNat 64 (leAt (c.bytes phase) 0 8)).toNat 32 8 = c.status % 256 := by
  have status : byteAt (leAt (c.bytes phase) 0 8) 4 = BitVec.ofNat 8 c.status := byteAt_ofLE _ 4
  have byte (x : Nat) : bits x 32 8 = (byteAt x 4).toNat := rfl
  rw [BitVec.toNat_ofNat, bits_mod _ _ _ _ (by decide), byte, status, BitVec.toNat_ofNat]

/-- A mailbox command leaves its record in the completion words, done set and busy clear (R406). -/
theorem complete_mailbox {s : State} {p : Nat} {o : OpenCmd} (h : s.openOf p .mailbox = some o) (status detail r0 r1 : Nat) :
    let t := s.complete p .mailbox status detail r0 r1
    t.rd F.HIF_MBOX_CTL_busy p = 0 ∧ t.rd F.HIF_MBOX_CTL_done p = 1 ∧
      bits (t.reg .HIF_MBOX_CPL p).toNat 32 8 = status % 256 := by
  have apart (i j : Nat) (n : i ≠ j) : Reg.key .HIF_MBOX_CPL p i 0 0 ≠ Reg.key .HIF_MBOX_CPL p j 0 0 := by
    rw [key_HIF_MBOX_CPL, key_HIF_MBOX_CPL]
    omega
  have ctl : Reg.key .HIF_MBOX_CPL p 0 0 0 ≠ Reg.key .HIF_MBOX_CTL p 0 0 0 := by
    rw [key_HIF_MBOX_CPL, key_HIF_MBOX_CTL]
    omega
  unfold State.complete
  rw [h]
  refine ⟨?_, rd_flag_own (by decide), ?_⟩
  · unfold State.flag State.count
    rw [rd_wr_apart (by decide), rd_wr_apart (by decide), rd_wr_same _ _ _ _ _ _ _ (by decide)]
    rfl
  · rw [reg_flag_ne _ _ _ _ _ _ _ _ _ _ _ (by exact ctl) (by exact ctl), reg_wr_ne _ _ _ _ _ _ _ _ _ _ _ _ (by exact ctl)]
    simp only [show List.range 4 = [0, 1, 2, 3] from rfl, List.foldl_cons, List.foldl_nil]
    rw [reg_setReg_ne _ _ _ _ _ _ _ _ _ _ _ _ (apart 0 3 (by decide)),
      reg_setReg_ne _ _ _ _ _ _ _ _ _ _ _ _ (apart 0 2 (by decide)),
      reg_setReg_ne _ _ _ _ _ _ _ _ _ _ _ _ (apart 0 1 (by decide)), reg_setReg_same]
    exact bytes_status _ _

/-- Completing the one command of its source closes it with the values given. -/
theorem Sole.closed {s : State} {p : Nat} {o : OpenCmd} (h : Sole s p o) (status detail r0 r1 : Nat) :
    Closed (s.complete p o.src status detail r0 r1) p o status detail r0 r1 := by
  have here := h.openOf
  refine ⟨?_, ?_⟩
  · refine List.find?_eq_none.mpr fun x m => ?_
    rw [(complete_taken _ _ _ _ _ _ _).opens] at m
    simpa using (List.mem_filter.mp m).2
  · cases src : o.src with
    | ring r => exact fun live => complete_ring_record (src ▸ here) live status detail r0 r1
    | mailbox => exact complete_mailbox (src ▸ here) status detail r0 r1

/-! ### Commands that an event completes -/

theorem completeOp_runOf (s : State) (p op status detail r0 r1 : Nat) :
    runOf ((s.completeOp p op status detail r0 r1).part p) = runOf (s.part p) :=
  foldl_keeps_view (fun a => runOf (a.part p)) _ _ (fun _ _ _ => (complete_taken _ _ _ _ _ _ _).run) s

theorem enter_part (s : State) (p : Nat) (st : PState) : (s.enter p st).part p = { s.part p with state := st } := by
  unfold State.enter
  split
  · rw [wr_part, part_updPart_same]; rfl
  · rw [wr_part, part_updPart_same]

theorem enterEvent_runOf (s : State) (p : Nat) (st : PState) :
    runOf ((s.enterEvent p st).part p) = runOf { s.part p with state := st } :=
  (foldl_keeps_view (fun a => runOf (a.part p)) _ _ (fun _ _ _ => (complete_taken _ _ _ _ _ _ _).run) _).trans
    (congrArg runOf (enter_part s p st))

theorem Sole.foldl_complete {p : Nat} {o : OpenCmd} (status detail r0 r1 : Nat) : ∀ {l : List OpenCmd} {s : State}, Sole s p o →
    (∀ x ∈ l, x.src ≠ o.src) → Sole (l.foldl (fun a x => a.complete p x.src status detail r0 r1) s) p o
  | [], _, h, _ => h
  | x :: l, s, h, n => by
    have first : Sole (s.complete p x.src status detail r0 r1) p o := h.complete (n x List.mem_cons_self) status detail r0 r1
    exact Sole.foldl_complete status detail r0 r1 (l := l) first fun y m => n y (List.mem_cons_of_mem x m)

/-- A command that ends with the run (R182, R183, R193) stays open when the partition enters a state (R417). -/
theorem Sole.enterEvent {s : State} {p : Nat} {o : OpenCmd} (h : Sole s p o) (e : endsByRun o.opcode = true) (st : PState) :
    Sole (s.enterEvent p st) p o := by
  have entered : Sole (s.enter p st) p o := h.of_opens (by rw [enter_part])
  refine entered.foldl_complete _ _ _ _ fun x m src => ?_
  obtain ⟨mem, ends⟩ := List.mem_filter.mp m
  obtain rfl := entered.eq_of_mem mem src
  simp [e] at ends

/-! ### Commands that wait -/

@[simp] theorem await_part (s : State) (p : Nat) (o : OpenCmd) : (s.await p o).part p =
    { s.part p with opens := updFirst (fun x => x.src == o.src) (fun _ => { o with stage := 1 }) (s.part p).opens } :=
  part_updPart_same _ _ _

/-- A command that has run waits, its slot released (R420). -/
theorem Sole.waits {s : State} {p : Nat} {o : OpenCmd} (h : Sole s p o) : Waits ((s.await p o).releaseSlot p o.src) p o := by
  have here := h.openOf
  unfold State.openOf at here
  unfold Waits State.openOf
  rw [releaseSlot_part, await_part, find?_updFirst _ _ (fun _ _ => by simp), here]
  rfl

theorem await_changes (s : State) (p : Nat) (o : OpenCmd) (src : CmdSrc) :
    ChangesOnly AnyKey s ((s.await p o).releaseSlot p src) := by
  unfold State.releaseSlot State.await State.setOpen
  exact .updPart (.updPart (.refl _ s))

end Sys2Proof.Proofs
end

section
/-! SUPPORT. The run of a partition (05 R68, R173, R182–R193): notices sent and taken, the return from ARMED to LOADED, a freeze
adopted, and what updating streams and clearing an orbit's marks leave as they were. -/

namespace Sys2Proof.Proofs

open Sys2Proof.Machine Sys2Proof.Laws

/-! ### Whole registers -/

theorem rd_setReg_field {s : State} {f : Fld} {r : Reg} {v : Word} {p : Nat} (h : f.reg = r) :
    (s.setReg r v p).rd f p = bits v.toNat f.lo f.width := by
  subst h
  unfold State.rd
  rw [reg_setReg_same]

/-- A field that is the whole register reads the number stored, as a word. -/
theorem rd_setReg_word {s : State} {f : Fld} {r : Reg} {x p : Nat} (h : f.reg = r ∧ f.lo = 0 ∧ f.width = 64) :
    (s.setReg r (BitVec.ofNat 64 x) p).rd f p = x % 2 ^ 64 := by
  obtain ⟨reg, lo, width⟩ := h
  rw [rd_setReg_field reg, lo, width, BitVec.toNat_ofNat, bits_mod _ _ _ _ (by decide)]
  rfl

/-! ### Notices, the return to LOADED, a freeze adopted -/

@[simp] theorem forward_part (s : State) (p : Nat) (n : Notice) : (s.forward p n).part p =
    { s.part p with seen := (n.kind, n.origin, n.a, (s.part p).gtc) :: (s.part p).seen } := by
  unfold State.forward
  rw [emit_part, part_updPart_same]

@[simp] theorem flood_part (s : State) (p kind code a b orbit : Nat) : (s.flood p kind code a b orbit).part p =
    { s.part p with seen := (kind, s.ownPix p, a, (s.part p).gtc) :: (s.part p).seen } := forward_part _ _ _

theorem forward_changes (s : State) (p : Nat) (n : Notice) : ChangesOnly AnyKey s (s.forward p n) := .emit (.updPart (.refl _ s))

theorem flood_changes (s : State) (p kind code a b orbit : Nat) : ChangesOnly AnyKey s (s.flood p kind code a b orbit) :=
  forward_changes _ _ _

theorem flooded_known {s : State} {q kind : Nat} {w : BitVec 256} (k : (noticeOf w).kind = kind)
    (known : s.knows (s.partOfPort q) (noticeOf w) = true) (f : State → Notice → State) : s.flooded q kind w f = .next s := by
  simp [State.flooded, k, known]

theorem flooded_new {s : State} {q kind : Nat} {w : BitVec 256} (k : (noticeOf w).kind = kind)
    (new : s.knows (s.partOfPort q) (noticeOf w) = false) (f : State → Notice → State) :
    s.flooded q kind w f = .next (f (s.forward (s.partOfPort q) (noticeOf w)) (noticeOf w)) := by
  simp [State.flooded, k, new]

/-- An arming ended without a status leaves the partition LOADED with no start time (R185). -/
theorem disarm_loaded (s : State) (p r0 : Nat) :
    ((s.disarm p 0 r0).part p).state = .loaded ∧ ((s.disarm p 0 r0).part p).t0 = none := by
  have run : runOf ((s.disarm p 0 r0).part p) =
      runOf { s.part p with t0 := none, armed := false, ready := [], lateStart := false, state := .loaded } := by
    unfold State.disarm
    rw [if_pos rfl, wr_part, enterEvent_runOf, part_updPart_same]
  exact ⟨congrArg Part.state run, congrArg Part.t0 run⟩

/-- A command that ends with the run stays open. -/
theorem Sole.disarm {s : State} {p : Nat} {o : OpenCmd} (h : Sole s p o) (e : endsByRun o.opcode = true) (r0 : Nat) :
    Sole (s.disarm p 0 r0) p o := by
  unfold State.disarm
  rw [if_pos rfl]
  refine Sole.of_opens (Sole.enterEvent (h.of_opens ?_) e .loaded) (congrArg Part.opens (wr_part _ _ _ _ _ _ _ _))
  rw [part_updPart_same]

/-- The freeze a member holds that adopts a notice still ahead while it holds none (R191). -/
def adoptedFreeze (n : Notice) : Freeze := {
  tf := n.b, td := n.a, cause := n.code, origin := n.origin, isLocal := false, late := false, launched := true, frozen := false }

section
variable {s : State} {p : Nat} {n : Notice} (ahead : (s.part p).gtc < n.b)
include ahead

theorem adopt_changes (mine : Bool) : ChangesOnly AnyKey s (s.adopt p n mine) := by
  unfold State.adopt State.latchSlip
  dsimp only
  rw [if_neg (by simpa using ahead)]
  exact .setReg (.wr (.wr (.wr (.setReg (.flag (.updPart (.refl _ s)) trivial trivial) trivial) trivial) trivial) trivial) trivial

theorem adopt_part (free : (s.part p).freeze = none) (mine : Bool) :
    (s.adopt p n mine).part p = { s.part p with freeze := some (adoptedFreeze n), ownFault := false } := by
  have late : decide (n.b ≤ (s.part p).gtc) = false := by simpa using ahead
  unfold State.adopt State.latchSlip
  simp only [free, late]
  rw [if_neg Bool.false_ne_true, setReg_part, wr_part, wr_part, wr_part, setReg_part, flag_part, part_updPart_same]
  rfl

/-- SCH_FREEZE shows the freeze tick adopted (R191). -/
theorem adopt_shows (mine : Bool) : (s.adopt p n mine).rd F.SCH_FREEZE_t_f p = n.b % 2 ^ 64 := by
  have slip : Reg.key .SCH_FREEZE p 0 0 0 ≠ Reg.key .SCH_SLIP p 0 0 0 := by rw [key_SCH_FREEZE, key_SCH_SLIP]; omega
  have tick : Reg.key .SCH_FREEZE p 0 0 0 ≠ Reg.key .SCH_SLIP_GTC p 0 0 0 := by rw [key_SCH_FREEZE, key_SCH_SLIP_GTC]; omega
  unfold State.adopt State.latchSlip
  dsimp only
  rw [if_neg (by simpa using ahead), rd_setReg_ne _ _ _ _ _ _ _ _ _ _ _ _ (by exact tick),
    rd_wr_ne _ _ _ _ _ _ _ _ _ _ _ _ (by exact slip), rd_wr_ne _ _ _ _ _ _ _ _ _ _ _ _ (by exact slip),
    rd_wr_ne _ _ _ _ _ _ _ _ _ _ _ _ (by exact slip)]
  exact rd_setReg_word ⟨rfl, rfl, rfl⟩

end

/-! ### Streams and fences -/

/-- A view that updating a stream keeps is kept by updating every stream of a partition. -/
theorem allStreams_view {β : Type} (view : State → β) (kept : ∀ a n e g, view (a.updStream n e g) = view a)
    (s : State) (p : Nat) (f : Stream → Stream) : view (s.allStreams p f) = view s := by
  refine foldl_keeps_view view _ _ (fun a n _ => foldl_keeps_view view _ _ (fun b e _ => ?_) a) s
  split
  · rfl
  · exact kept _ _ _ _

@[simp] theorem allStreams_mem (s : State) (p : Nat) (f : Stream → Stream) : (s.allStreams p f).mem = s.mem :=
  allStreams_view State.mem updStream_mem s p f

@[simp] theorem allStreams_part (s : State) (p : Nat) (f : Stream → Stream) (q : Nat) : (s.allStreams p f).part q = s.part q :=
  allStreams_view (State.part · q) (fun _ _ _ _ => updStream_part _ _ _ _ _) s p f

@[simp] theorem allStreams_reg (s : State) (p : Nat) (f : Stream → Stream) (r : Reg) (q i j k : Nat) :
    (s.allStreams p f).reg r q i j k = s.reg r q i j k :=
  allStreams_view (State.reg · r q i j k) (fun _ _ _ _ => updStream_reg _ _ _ _ _ _ _ _ _) s p f

theorem schedStopped_congr {s t : State} {p : Nat} (h : (t.part p).freeze = (s.part p).freeze) :
    t.schedStopped p = s.schedStopped p := by
  unfold State.schedStopped
  rw [h]

/-! ### The marks an orbit clears -/

/-- The keys of the landing marks and of the ordering registers of a partition, which an orbit that begins may write. -/
def MarkKey (x : Nat) : Prop := ∃ p, p * 0x4000000 + 0x41000 ≤ x ∧ x < p * 0x4000000 + 0x51000

theorem lateMarks_changes (s : State) (p : Nat) :
    ChangesOnly MarkKey s ((List.range 256).foldl (fun a j => a.wr F.LAND_STS_late 0 p j) s) := by
  refine .foldl _ (fun j m a => .wr (.refl _ a) ⟨p, ?_⟩) (.refl _ s)
  have := List.mem_range.mp m
  simp only [F.LAND_STS_late, key_LAND_STS]
  omega

theorem releaseFences_changes (s : State) (n : Nat) (es : List Eng) : ChangesOnly MarkKey s (s.releaseFences n es) := by
  refine .foldl _ (fun e _ a => .flag (.refl _ a) ⟨s.partOfCore n, ?_⟩ ⟨s.partOfCore n, ?_⟩) (.refl _ s)
  all_goals
    simp only [F.ORD_EVT_fence_released, F.ORD_EVT_CNT_rel_cnt, key_ORD_EVT, key_ORD_EVT_CNT]
    omega

@[simp] theorem releaseFences_part (s : State) (n : Nat) (es : List Eng) (q : Nat) : (s.releaseFences n es).part q = s.part q :=
  foldl_keeps_view (State.part · q) _ _ (fun _ _ _ => flag_part _ _ _ _ _ _ _) s

/-- The state with the marks that an orbit clears as it begins: late landings and the fences its streams were held at (R173,
R225). -/
def marksCleared (s : State) (p : Nat) : State :=
  let u := (List.range 256).foldl (fun a j => a.wr F.LAND_STS_late 0 p j) s
  (u.coresOf p).foldl (fun a n => a.releaseFences n
    ([Eng.scu, .mxe, .vxe, .dmx].filter fun e => (u.stream n e).plane == .sched)) u

theorem marksCleared_changes (s : State) (p : Nat) : ChangesOnly MarkKey s (marksCleared s p) :=
  (lateMarks_changes s p).trans (.foldl _ (fun n _ a => releaseFences_changes a n _) (.refl _ _))

theorem marksCleared_part (s : State) (p : Nat) : (marksCleared s p).part p = s.part p :=
  (foldl_keeps_view (State.part · p) _ _ (fun a n _ => releaseFences_part a n _ p) _).trans
    (foldl_keeps_view (State.part · p) _ _ (fun _ _ _ => wr_part _ _ _ _ _ _ _ _) s)

end Sys2Proof.Proofs
end

section
/-! PROOFS. Conjunctions and the end of a run (05 R68, R173, R185, R186): what CONJUNCTION, STOP, STOP_NOTICE and HALT_AT do. -/

namespace Sys2Proof.Proofs

open Sys2Proof.Machine Sys2Proof.Laws

/-! ### The next orbit -/

/-- A partition as orbit `k` begins at T (R68). -/
def orbitBegun (q : Part) (k T : Nat) : Part := { q with orbit := k, conj := T, landOpen := [] }

/-- The state with the orbit's number and conjunction taken and shown; a member that has stopped its own issue keeps the position
it shows (R68, R193). -/
def orbitShown (s : State) (p k T : Nat) : State :=
  let u := (s.updPart p fun q => orbitBegun q k T).setReg .SCH_CONJ (BitVec.ofNat 64 T) p
  if s.schedStopped p then u else u.setReg .SCH_STS (BitVec.ofNat 64 (3 + k % 2 ^ 35 * 2 ^ 29)) p

theorem orbitShown_keeps (s : State) (p k T : Nat) : KeepsStore s (orbitShown s p k T) :=
  .ite (.setReg (.updPart (.refl s))) (.setReg (.setReg (.updPart (.refl s))))

theorem orbitShown_part (s : State) (p k T : Nat) : (orbitShown s p k T).part p = orbitBegun (s.part p) k T := by
  unfold orbitShown
  simp only [ite_part, setReg_part, part_updPart_same, ite_self]

theorem orbitShown_reads (s : State) (p k T : Nat) : let t := orbitShown s p k T
    t.rd F.SCH_CONJ_conj p = T % 2 ^ 64 ∧ (s.schedStopped p = false → t.rd F.SCH_STS_plane p = 3) ∧
      (s.schedStopped p = true → t.reg .SCH_STS p = s.reg .SCH_STS p) := by
  have apart : Reg.key .SCH_CONJ p 0 0 0 ≠ Reg.key .SCH_STS p 0 0 0 := by rw [key_SCH_CONJ, key_SCH_STS]; omega
  have conj : ((s.updPart p fun q => orbitBegun q k T).setReg .SCH_CONJ (BitVec.ofNat 64 T) p).rd F.SCH_CONJ_conj p = T % 2 ^ 64 :=
    rd_setReg_word ⟨rfl, rfl, rfl⟩
  unfold orbitShown
  cases stopped : s.schedStopped p with
  | false =>
    rw [if_neg Bool.false_ne_true]
    refine ⟨(rd_setReg_ne _ _ _ _ _ _ _ _ _ _ _ _ (by exact apart)).trans conj, fun _ => ?_, nofun⟩
    rw [rd_setReg_field (f := F.SCH_STS_plane) (r := .SCH_STS) rfl, BitVec.toNat_ofNat, bits_mod _ _ _ _ (by decide)]
    change (3 + k % 2 ^ 35 * 2 ^ 29) % 2 ^ 4 = 3
    omega
  | true =>
    rw [if_pos rfl]
    refine ⟨conj, nofun, fun _ => ?_⟩
    rw [reg_setReg_ne _ _ _ _ _ _ _ _ _ _ _ _ apart.symm, updPart_reg]

/-- An orbit begins with its number shown, then its marks cleared, then the scheduled streams started (R68, R173). -/
theorem beginOrbit_eq (s : State) (p k T : Nat) : let v := marksCleared (orbitShown s p k T) p
    s.beginOrbit p k T = if v.schedStopped p then v
      else v.allStreams p fun st => if st.status = .faulted ∧ k ≠ 0 then st else st.restart := by
  have stopped : ((s.updPart p fun q => orbitBegun q k T).setReg .SCH_CONJ (BitVec.ofNat 64 T) p).schedStopped p =
      s.schedStopped p := schedStopped_congr (by rw [setReg_part, part_updPart_same]; rfl)
  unfold orbitShown
  rw [← stopped]
  rfl

/-- What follows the number shown writes cores and marks only (R173). -/
theorem beginOrbit_effect (s : State) (p k T : Nat) : let t := s.beginOrbit p k T
    t.mem = s.mem ∧ t.part p = orbitBegun (s.part p) k T ∧
      ∀ r : Reg, ¬ MarkKey (r.key p 0 0 0) → t.reg r p = (orbitShown s p k T).reg r p := by
  have marks := marksCleared_changes (orbitShown s p k T) p
  dsimp only
  rw [beginOrbit_eq]
  simp only [ite_mem, ite_part, ite_reg, allStreams_mem, allStreams_part, allStreams_reg, ite_self]
  exact ⟨((orbitShown_keeps s p k T).trans marks.toKeepsStore).mem,
    (marksCleared_part _ p).trans (orbitShown_part s p k T), fun r n => marks.reg r p 0 0 0 n⟩

theorem beginOrbit_shows (s : State) (p k T : Nat) : let t := s.beginOrbit p k T
    t.rd F.SCH_CONJ_conj p = T % 2 ^ 64 ∧ (s.schedStopped p = false → t.rd F.SCH_STS_plane p = 3) ∧
      (s.schedStopped p = true → t.reg .SCH_STS p = s.reg .SCH_STS p) := by
  have conj : ¬ MarkKey (Reg.key .SCH_CONJ p 0 0 0) := by
    rw [key_SCH_CONJ]
    rintro ⟨p', h⟩
    omega
  have sts : ¬ MarkKey (Reg.key .SCH_STS p 0 0 0) := by
    rw [key_SCH_STS]
    rintro ⟨p', h⟩
    omega
  obtain ⟨-, -, regs⟩ := beginOrbit_effect s p k T
  have shows := orbitShown_reads s p k T
  unfold State.rd at shows ⊢
  simp only [F.SCH_CONJ_conj, F.SCH_STS_plane, regs .SCH_CONJ conj, regs .SCH_STS sts] at shows ⊢
  exact shows

/-! ### The end of a run -/

/-- The run ends in ARMED with no stop and no freeze held (R185). -/
theorem endRun_part (s : State) (p T : Nat) : runOf ((s.endRun p T).part p) = runOf { s.part p with
    stopAt := none, freeze := none, ownFault := false, landOpen := [], fcastNow := none, state := .armed } := by
  unfold State.endRun
  rw [completeOp_runOf, setReg_part, wr_part, enterEvent_runOf, part_updPart_same, allStreams_part]

theorem endRun_mem (s : State) (p T : Nat) : (s.endRun p T).mem = s.mem := by
  unfold State.endRun
  extract_lets s1 s2 s3 s4
  have armed : KeepsStore s1 s4 :=
    .setReg (.wr (KeepsStore.trans (.updPart (.refl s1)) (enterEvent_changes s2 p .armed).toKeepsStore))
  rw [(completeOp_changes s4 p 0x14 0 0 T 0).mem, armed.mem]
  exact allStreams_mem _ _ _

theorem endRun_plane (s : State) (p T : Nat) : (s.endRun p T).rd F.SCH_STS_plane p = 2 := by
  have apart : Reg.key .SCH_STS p 0 0 0 ≠ Reg.key .SCH_FREEZE p 0 0 0 := by rw [key_SCH_STS, key_SCH_FREEZE]; omega
  have host : ¬ HostKey p (Reg.key .SCH_STS p 0 0 0) := by
    rw [key_SCH_STS]
    unfold HostKey
    omega
  unfold State.endRun
  rw [(completeOp_changes _ p 0x14 0 0 T 0).rd F.SCH_STS_plane p 0 0 0 host,
    rd_setReg_ne _ _ _ _ _ _ _ _ _ _ _ _ (by exact apart), rd_wr_same _ _ _ _ _ _ _ (by decide)]
  rfl

/-! ### CONJUNCTION -/

/-- Whether a freeze comes before the orbit that would begin at T (R193). -/
def freezeFirst (q : Part) (T : Nat) : Bool :=
  match q.freeze with
  | some f => f.frozen || decide (f.tf ≤ T)
  | none => false

/-- Whether the run has a stop at or before T (R185). -/
def stopsBy (q : Part) (T : Nat) : Bool :=
  match q.stopAt with
  | some c => decide (c ≤ T)
  | none => false

theorem freezeFirst_iff {q : Part} {T : Nat} :
    freezeFirst q T = true ↔ ∃ f, q.freeze = some f ∧ (f.frozen = true ∨ f.tf ≤ T) := by
  unfold freezeFirst
  split <;> simp [*]

theorem stopsBy_iff {q : Part} {T : Nat} : stopsBy q T = true ↔ ∃ c, q.stopAt = some c ∧ c ≤ T := by
  unfold stopsBy
  split <;> simp [*]

/-- A freeze that comes first leaves the orbit to it (R193); otherwise the run ends at its stop or its last orbit, or the next
orbit begins one period later (R68, R185). -/
theorem conjunction_exec {p : Fin 2} {s : State} {img : Image} (run : (s.part p).state = .running)
    (image : (s.part p).image = some img) :
    let q := s.part p
    let T := q.conj + 72 * ((img.length + 71) / 72)
    exec (.conjunction p) s =
      if freezeFirst q T then .next s
      else if stopsBy q T || (img.orbits != 0 && decide (img.orbits ≤ q.orbit + 1)) then .next (s.endRun p T)
      else .next (s.beginOrbit p (q.orbit + 1) T) := by
  have arm : exec (.conjunction p) s = execConjunction p s := rfl
  rw [arm]
  unfold execConjunction
  simp only [image, run, ne_eq, not_true_eq_false, if_false]
  rfl

theorem conjunction_held {p : Fin 2} {s : State} {img : Image} (run : (s.part p).state = .running)
    (image : (s.part p).image = some img) (f : Freeze) (held : (s.part p).freeze = some f)
    (first : f.frozen = true ∨ f.tf ≤ (s.part p).conj + 72 * ((img.length + 71) / 72)) :
    exec (.conjunction p) s = .next s :=
  (conjunction_exec run image).trans (if_pos (freezeFirst_iff.mpr ⟨f, held, first⟩))

/-- No freeze comes first when every freeze tick held lies after T. -/
theorem freezeFirst_false {q : Part} {T : Nat} (later : ∀ f, q.freeze = some f → f.frozen = false ∧ T < f.tf) :
    ¬ freezeFirst q T = true := by
  rw [freezeFirst_iff]
  rintro ⟨f, held, frozen | tick⟩
  · simp [(later f held).1] at frozen
  · exact Nat.not_le_of_lt (later f held).2 tick

theorem conjunction_ends {p : Fin 2} {s : State} {img : Image} (run : (s.part p).state = .running)
    (image : (s.part p).image = some img)
    (later : ∀ f, (s.part p).freeze = some f → f.frozen = false ∧ (s.part p).conj + 72 * ((img.length + 71) / 72) < f.tf)
    (last : (∃ c, (s.part p).stopAt = some c ∧ c ≤ (s.part p).conj + 72 * ((img.length + 71) / 72)) ∨
      (img.orbits ≠ 0 ∧ img.orbits ≤ (s.part p).orbit + 1)) :
    Completes (.conjunction p) s fun t => (t.part p).state = .armed ∧ t.rd F.SCH_STS_plane p = 2 ∧
      (t.part p).stopAt = none ∧ (t.part p).freeze = none ∧ SameMemory s t := by
  have ends : (stopsBy (s.part p) ((s.part p).conj + 72 * ((img.length + 71) / 72)) ||
      (img.orbits != 0 && decide (img.orbits ≤ (s.part p).orbit + 1))) = true := by
    simpa [stopsBy_iff] using last
  have part := endRun_part s p ((s.part p).conj + 72 * ((img.length + 71) / 72))
  refine ⟨_, (conjunction_exec run image).trans ((if_neg (freezeFirst_false later)).trans (if_pos ends)),
    congrArg Part.state part, endRun_plane _ _ _, congrArg Part.stopAt part, congrArg Part.freeze part, fun a => ?_⟩
  unfold State.byte
  rw [endRun_mem]

theorem conjunction_continues {p : Fin 2} {s : State} {img : Image} (run : (s.part p).state = .running)
    (image : (s.part p).image = some img)
    (later : ∀ f, (s.part p).freeze = some f → f.frozen = false ∧ (s.part p).conj + 72 * ((img.length + 71) / 72) < f.tf)
    (nostop : ∀ c, (s.part p).stopAt = some c → (s.part p).conj + 72 * ((img.length + 71) / 72) < c)
    (more : img.orbits = 0 ∨ (s.part p).orbit + 1 < img.orbits) :
    let T := (s.part p).conj + 72 * ((img.length + 71) / 72)
    Completes (.conjunction p) s fun t => (t.part p).state = .running ∧ (t.part p).orbit = (s.part p).orbit + 1 ∧
      (t.part p).conj = T ∧ t.rd F.SCH_CONJ_conj p = T % 2 ^ 64 ∧ SameMemory s t ∧
      (s.schedStopped p = false → t.rd F.SCH_STS_plane p = 3) ∧
      (s.schedStopped p = true → t.reg .SCH_STS p = s.reg .SCH_STS p) := by
  intro T
  have goes : ¬ (stopsBy (s.part p) T || (img.orbits != 0 && decide (img.orbits ≤ (s.part p).orbit + 1))) = true := by
    simp only [Bool.or_eq_true, Bool.and_eq_true, bne_iff_ne, decide_eq_true_eq, stopsBy_iff]
    rintro (⟨c, stop, before⟩ | ⟨limited, last⟩)
    · exact Nat.not_le_of_lt (nostop c stop) before
    · omega
  obtain ⟨conj, plane, kept⟩ := beginOrbit_shows s p ((s.part p).orbit + 1) T
  obtain ⟨mem, part, -⟩ := beginOrbit_effect s p ((s.part p).orbit + 1) T
  refine ⟨_, (conjunction_exec run image).trans ((if_neg (freezeFirst_false later)).trans (if_neg goes)),
    (congrArg Part.state part).trans run, congrArg Part.orbit part, congrArg Part.conj part, conj, fun a => ?_, plane, kept⟩
  unfold State.byte
  rw [mem]

/-! ### STOP -/

/-- Ceiling division gives enough pieces of n to reach x. -/
theorem le_mul_cdiv {x n : Nat} (h : 0 < n) : x ≤ n * cdiv x n := by
  have split : n * cdiv x n + (x + n - 1) % n = x + n - 1 := Nat.div_add_mod (x + n - 1) n
  have rest : (x + n - 1) % n < n := Nat.mod_lt _ h
  omega

section
variable {p : Fin 2} {r : Fin 65} {s : State} {o : OpenCmd}

theorem stop_elsewhere (ready : s.readyCmd p r 0x14 o) (away : s.isMaster p = false) :
    Completes (.stop p r) s fun t => Closed t p o 0x11 0 0 0 ∧ (t.part p).stopAt = (s.part p).stopAt := by
  have e : exec (.stop p r) s = .next (s.complete p o.src 0x11 0 0 0) := by
    change execStop p r s = _
    simp [execStop, readyCmd_fresh ready, away]
  have kept := congrArg Part.stopAt (complete_taken s p o.src 0x11 0 0 0).run
  exact ⟨_, e, (readyCmd_sole ready).closed _ _ _ _, kept⟩

/-- The conjunction a STOP names: whole periods after the last one, a horizon ahead (R185). -/
def stopConjunction (q : Part) (img : Image) : Nat := q.conj + img.period * cdiv (q.gtc + img.horizon - q.conj) img.period

/-- It is no earlier than one horizon ahead, wherever the last conjunction lies (R185). -/
theorem stopConjunction_ahead {q : Part} {img : Image} (long : 0 < img.length) :
    q.gtc + img.horizon ≤ stopConjunction q img := by
  have period : img.period = 72 * ((img.length + 71) / 72) := rfl
  have ahead : q.gtc + img.horizon - q.conj ≤ img.period * cdiv (q.gtc + img.horizon - q.conj) img.period :=
    le_mul_cdiv (by omega)
  unfold stopConjunction
  omega

/-- The state with the stop fixed at conjunction `c` and its notice on its way (R185). -/
def stopFixed (s : State) (p c : Nat) : State := (s.updPart p fun q => { q with stopAt := some c }).flood p kStop 0 c 0 0

theorem stopFixed_changes (s : State) (p c : Nat) : ChangesOnly AnyKey s (stopFixed s p c) :=
  ChangesOnly.trans (.updPart (.refl AnyKey s)) (flood_changes _ p kStop 0 c 0 0)

theorem stopFixed_opens (s : State) (p c : Nat) : ((stopFixed s p c).part p).opens = (s.part p).opens := by
  unfold stopFixed
  rw [flood_part, part_updPart_same]

theorem stopFixed_stopAt (s : State) (p c : Nat) : ((stopFixed s p c).part p).stopAt = some c := by
  unfold stopFixed
  rw [flood_part, part_updPart_same]

theorem stop_exec_running (ready : s.readyCmd p r 0x14 o) (master : s.isMaster p = true) {img : Image}
    (run : (s.part p).state = .running) (image : (s.part p).image = some img) : exec (.stop p r) s =
      .next (((stopFixed s p (stopConjunction (s.part p) img)).await p o).releaseSlot p o.src) := by
  change execStop p r s = _
  unfold execStop
  rw [readyCmd_fresh ready]
  simp only [master, run, image]
  rfl

theorem stop_running (ready : s.readyCmd p r 0x14 o) (master : s.isMaster p = true) (img : Image)
    (run : (s.part p).state = .running) (image : (s.part p).image = some img) :
    Completes (.stop p r) s fun t => ∃ c, (t.part p).stopAt = some c ∧ Waits t p o ∧
      (∃ k, c = (s.part p).conj + 72 * ((img.length + 71) / 72) * k) ∧
      (0 < img.length → (s.part p).conj ≤ (s.part p).gtc → (s.part p).gtc + img.horizon ≤ c) ∧
      (t.part p).slotHolder ≠ some o.src ∧ SameMemory s t ∧ SameEngines s t := by
  let c := stopConjunction (s.part p) img
  have sole : Sole (stopFixed s p c) p o := (readyCmd_sole ready).of_opens (stopFixed_opens s p c)
  have kept := (stopFixed_changes s p c).trans (await_changes _ p o o.src)
  refine ⟨_, stop_exec_running ready master run image, c, ?_, sole.waits, ⟨_, rfl⟩,
    fun long _ => stopConjunction_ahead long, ?_, kept.sameMemory, kept.sameEngines⟩
  · rw [releaseSlot_part, await_part]
    exact stopFixed_stopAt s p c
  · rw [releaseSlot_part]
    dsimp only
    split
    · exact nofun
    · next other => simpa using other

theorem stop_exec_armed (ready : s.readyCmd p r 0x14 o) (master : s.isMaster p = true) (armed : (s.part p).state = .armed) :
    exec (.stop p r) s = .next (((s.flood p kStop 0 0 0 0).disarm p 0 0).complete p o.src 0 0 0 0) := by
  change execStop p r s = _
  unfold execStop
  rw [readyCmd_fresh ready]
  simp only [master, armed]
  rfl

theorem stop_armed (ready : s.readyCmd p r 0x14 o) (master : s.isMaster p = true) (armed : (s.part p).state = .armed) :
    Completes (.stop p r) s fun t => (t.part p).state = .loaded ∧ (t.part p).t0 = none ∧ Closed t p o 0 0 0 0 := by
  have flooded : Sole (s.flood p kStop 0 0 0 0) p o := (readyCmd_sole ready).of_opens (by rw [flood_part])
  have sole := flooded.disarm (by rw [readyCmd_opcode ready]; rfl) 0
  obtain ⟨state, start⟩ := disarm_loaded (s.flood p kStop 0 0 0 0) p 0
  have run := (complete_taken ((s.flood p kStop 0 0 0 0).disarm p 0 0) p o.src 0 0 0 0).run
  have keepsState := congrArg Part.state run
  have keepsStart := congrArg Part.t0 run
  exact ⟨_, stop_exec_armed ready master armed, keepsState.trans state, keepsStart.trans start, sole.closed _ _ _ _⟩

end

/-! ### STOP_NOTICE -/

section
variable {q : Fin 32} {w : BitVec 256} {s : State} (kind : (noticeOf w).kind = kStop)
include kind

theorem stopNotice_known (known : s.knows (s.partOfPort q) (noticeOf w) = true) : exec (.stopNotice q w) s = .next s := by
  change execStopNotice q w s = _
  unfold execStopNotice
  exact flooded_known kind known _

theorem stopNotice_running (new : s.knows (s.partOfPort q) (noticeOf w) = false)
    (run : (s.part (s.partOfPort q)).state = .running) (tick : (noticeOf w).a ≠ 0) : Completes (.stopNotice q w) s fun t =>
      (t.part (s.partOfPort q)).stopAt = some (noticeOf w).a ∧ (t.part (s.partOfPort q)).state = .running ∧
      SameMemory s t ∧ SameEngines s t := by
  have heard : ((s.forward (s.partOfPort q) (noticeOf w)).part (s.partOfPort q)).state = .running := by rw [forward_part, run]
  have e : exec (.stopNotice q w) s = .next ((s.forward (s.partOfPort q) (noticeOf w)).updPart (s.partOfPort q)
      fun x => { x with stopAt := some (noticeOf w).a }) := by
    change execStopNotice q w s = _
    unfold execStopNotice
    rw [flooded_new kind new]
    simp only [heard, if_neg tick]
  have kept (f : Part → Part) : ChangesOnly AnyKey s ((s.forward (s.partOfPort q) (noticeOf w)).updPart (s.partOfPort q) f) :=
    .updPart (forward_changes _ _ _)
  refine ⟨_, e, ?_, ?_, (kept _).sameMemory, (kept _).sameEngines⟩
  · rw [part_updPart_same]
  · rw [part_updPart_same]
    exact heard

theorem stopNotice_armed (new : s.knows (s.partOfPort q) (noticeOf w) = false)
    (armed : (s.part (s.partOfPort q)).state = .armed) (tick : (noticeOf w).a = 0) : Completes (.stopNotice q w) s fun t =>
      (t.part (s.partOfPort q)).state = .loaded ∧ (t.part (s.partOfPort q)).t0 = none ∧ SameMemory s t := by
  have heard : ((s.forward (s.partOfPort q) (noticeOf w)).part (s.partOfPort q)).state = .armed := by rw [forward_part, armed]
  have e : exec (.stopNotice q w) s = .next ((s.forward (s.partOfPort q) (noticeOf w)).disarm (s.partOfPort q) 0 0) := by
    change execStopNotice q w s = _
    unfold execStopNotice
    rw [flooded_new kind new]
    simp only [heard, if_pos tick]
  obtain ⟨state, start⟩ := disarm_loaded (s.forward (s.partOfPort q) (noticeOf w)) (s.partOfPort q) 0
  exact ⟨_, e, state, start, ((forward_changes _ _ _).trans (endArming_changes _ _ 0 0).any).sameMemory⟩

end

/-! ### HALT_AT -/

section
variable {p : Fin 2} {r : Fin 65} {s : State} {o : OpenCmd}

theorem haltAt_elsewhere (ready : s.readyCmd p r 0x15 o) (away : s.isMaster p = false) :
    Completes (.haltAt p r) s fun t => Closed t p o 0x11 0 0 0 := by
  have e : exec (.haltAt p r) s = .next (s.complete p o.src 0x11 0 0 0) := by
    change execHaltAt p r s = _
    simp [execHaltAt, readyCmd_fresh ready, away]
  exact ⟨_, e, (readyCmd_sole ready).closed _ _ _ _⟩

theorem haltAt_tooSoon (ready : s.readyCmd p r 0x15 o) (master : s.isMaster p = true)
    (soon : o.arg0 < (s.part p).gtc + s.horizon p) : Completes (.haltAt p r) s fun t =>
      Closed t p o 0x13 0 ((s.part p).gtc + s.horizon p) 0 ∧ (t.part p).freeze = (s.part p).freeze := by
  have e : exec (.haltAt p r) s = .next (s.complete p o.src 0x13 0 ((s.part p).gtc + s.horizon p) 0) := by
    change execHaltAt p r s = _
    simp [execHaltAt, readyCmd_fresh ready, master, soon]
  have kept := congrArg Part.freeze (complete_taken s p o.src 0x13 0 ((s.part p).gtc + s.horizon p) 0).run
  exact ⟨_, e, (readyCmd_sole ready).closed _ _ _ _, kept⟩

/-- The HALT notice of a master for tick g (R186). -/
def haltNotice (s : State) (p g : Nat) : Notice :=
  { origin := s.ownPix p, kind := kHalt, code := 0x80, a := (s.part p).gtc, b := g, orbit := (s.part p).orbit }

theorem haltAt_adopts (ready : s.readyCmd p r 0x15 o) (master : s.isMaster p = true)
    (least : (s.part p).gtc + s.horizon p ≤ o.arg0) (run : s.running p = true) (free : (s.part p).freeze = none) :
    exec (.haltAt p r) s = .next ((((s.forward p (haltNotice s p o.arg0)).adopt p (haltNotice s p o.arg0) true).await
      p o).releaseSlot p o.src) := by
  change execHaltAt p r s = _
  unfold execHaltAt
  rw [readyCmd_fresh ready]
  simp only [master, Nat.not_lt.mpr least, run, free]
  rfl

theorem haltAt_freezes (ready : s.readyCmd p r 0x15 o) (master : s.isMaster p = true)
    (least : (s.part p).gtc + s.horizon p ≤ o.arg0) (ahead : (s.part p).gtc < o.arg0) (run : s.running p = true)
    (free : (s.part p).freeze = none) : Completes (.haltAt p r) s fun t => Waits t p o ∧ ∃ f, (t.part p).freeze = some f ∧
      f.tf = o.arg0 ∧ f.cause = 0x80 ∧ f.isLocal = false ∧ f.frozen = false ∧
      t.rd F.SCH_FREEZE_t_f p = o.arg0 % 2 ^ 64 ∧ SameMemory s t := by
  let n := haltNotice s p o.arg0
  have later : ((s.forward p n).part p).gtc < n.b := by rw [forward_part]; exact ahead
  have held : ((s.forward p n).part p).freeze = none := by rw [forward_part]; exact free
  have adopted := adopt_part later held true
  have sole : Sole ((s.forward p n).adopt p n true) p o := (readyCmd_sole ready).of_opens (by rw [adopted, forward_part])
  have kept : ChangesOnly AnyKey s ((((s.forward p n).adopt p n true).await p o).releaseSlot p o.src) :=
    ((forward_changes s p n).trans (adopt_changes later true)).trans (await_changes _ _ _ _)
  refine ⟨_, haltAt_adopts ready master least run free, sole.waits, adoptedFreeze n, ?_,
    rfl, rfl, rfl, rfl, ?_, kept.sameMemory⟩
  · rw [releaseSlot_part, await_part, adopted]
  · unfold State.releaseSlot State.await State.setOpen
    rw [updPart_rd, updPart_rd]
    exact adopt_shows later true

end

/-- Settles O24: CONJUNCTION, STOP, STOP_NOTICE and HALT_AT, each by the lemmas of its cases. -/
theorem orbitsAndStop : Obligations.OrbitsAndStop := by
  unfold Obligations.OrbitsAndStop
  refine ⟨fun p s img run image => ?conjunction, fun p r s o ready => ?stop, fun q w s => ?notice, fun p r s o ready => ?halt⟩
  case conjunction =>
    exact ⟨conjunction_held run image, fun later =>
      ⟨conjunction_ends run image later, conjunction_continues run image later⟩⟩
  case stop => exact ⟨stop_elsewhere ready, stop_running ready, stop_armed ready⟩
  case notice =>
    intro p n kind
    exact ⟨stopNotice_known kind, fun new => ⟨stopNotice_running kind new, stopNotice_armed kind new⟩⟩
  case halt => exact ⟨haltAt_elsewhere ready, haltAt_tooSoon ready, haltAt_freezes ready⟩

end Sys2Proof.Proofs
end

section
/-! SUPPORT. What a START (05 R184) needs beside the earlier files: a command that waits in its slot, a completion that sends
nothing, what a slip leaves of a run (R191–R193), and an event raised for the fault log (R472). -/

namespace Sys2Proof.Proofs

open Sys2Proof.Machine Sys2Proof.Laws

/-! ### Host commands -/

/-- A command that has run waits, in the control slot if it holds it. -/
theorem Sole.awaits {s : State} {p : Nat} {o : OpenCmd} (h : Sole s p o) : Waits (s.await p o) p o := by
  have released := h.waits
  unfold Waits State.openOf at released ⊢
  rwa [releaseSlot_part] at released

theorem awaits_changes (s : State) (p : Nat) (o : OpenCmd) : ChangesOnly AnyKey s (s.await p o) := by
  unfold State.await State.setOpen
  exact .updPart (.refl _ s)

/-- Completing a command sends nothing: its record waits or stands in registers (R410). -/
@[simp] theorem complete_out (s : State) (p : Nat) (src : CmdSrc) (status detail r0 r1 : Nat) :
    (s.complete p src status detail r0 r1).out = s.out := by
  have refused (u : State) : (u.refusalFlags p status).out = u.out := by
    unfold State.refusalFlags
    simp only [ite_out, flag_out, ite_self]
  unfold State.complete
  split
  · rfl
  · extract_lets s1 s2 c
    have taken : s2.out = s.out := by
      simp only [s2, s1, updPart_out, refused, State.releaseSlot]
    cases src with
    | ring r =>
      dsimp only
      split
      · exact taken
      · rw [updPart_out, count_out, taken]
    | mailbox =>
      dsimp only
      rw [flag_out, wr_out, foldl_keeps_view State.out _ _ fun _ _ _ => setReg_out _ _ _ _ _ _ _]
      exact taken

/-! ### Slips -/

/-- A slip changes nothing of a partition but the freeze it holds and whose fault that is (R191). -/
theorem slip_part (s : State) (p cause : Nat) :
    ∃ f own, (s.slip p cause).part p = { s.part p with freeze := f, ownFault := own } := by
  unfold State.slip
  split
  · simp only [State.ownFreeze, wr_part, setReg_part, part_updPart_same, flag_part]
    exact ⟨_, _, rfl⟩
  · exact ⟨_, _, flag_part _ _ _ _ _ _ _⟩

/-- A slip latches position and orbit in SCH_STS and leaves the plane shown (R193). -/
theorem slip_plane (s : State) (p cause : Nat) : (s.slip p cause).rd F.SCH_STS_plane p = s.rd F.SCH_STS_plane p := by
  have slip : Reg.key .SCH_STS p 0 0 0 ≠ Reg.key .SCH_SLIP p 0 0 0 := by rw [key_SCH_STS, key_SCH_SLIP]; omega
  have tick : Reg.key .SCH_STS p 0 0 0 ≠ Reg.key .SCH_SLIP_GTC p 0 0 0 := by rw [key_SCH_STS, key_SCH_SLIP_GTC]; omega
  have freeze : Reg.key .SCH_STS p 0 0 0 ≠ Reg.key .SCH_FREEZE p 0 0 0 := by rw [key_SCH_STS, key_SCH_FREEZE]; omega
  have evt : Reg.key .SCH_STS p 0 0 0 ≠ Reg.key .SCH_EVT p 0 0 0 := by rw [key_SCH_STS, key_SCH_EVT]; omega
  have cnt : Reg.key .SCH_STS p 0 0 0 ≠ Reg.key .SCH_EVT_CNT p 0 0 0 := by rw [key_SCH_STS, key_SCH_EVT_CNT]; omega
  have flagged : (s.flag F.SCH_EVT_slip F.SCH_EVT_CNT_slip_cnt p).rd F.SCH_STS_plane p = s.rd F.SCH_STS_plane p :=
    rd_flag_ne _ _ _ _ _ _ _ _ _ _ _ (by exact evt) (by exact cnt)
  unfold State.slip
  split
  · unfold State.ownFreeze
    dsimp only
    rw [rd_wr_apart (by decide), rd_wr_apart (by decide), rd_wr_ne _ _ _ _ _ _ _ _ _ _ _ _ (by exact slip),
      rd_wr_ne _ _ _ _ _ _ _ _ _ _ _ _ (by exact slip), rd_wr_ne _ _ _ _ _ _ _ _ _ _ _ _ (by exact slip),
      rd_setReg_ne _ _ _ _ _ _ _ _ _ _ _ _ (by exact tick), rd_setReg_ne _ _ _ _ _ _ _ _ _ _ _ _ (by exact freeze),
      updPart_rd, flagged]
  · exact flagged

/-! ### Fault events -/

/-- Merging an event leaves one of its class among those raised (R472). -/
theorem mergeRaised_cls (r : Raised) : ∀ l, ∃ x ∈ mergeRaised r l, x.cls = r.cls
  | [] => ⟨r, List.mem_singleton.mpr rfl, rfl⟩
  | y :: l => by
    unfold mergeRaised
    split
    · next same => exact ⟨_, List.mem_cons_self, same.1⟩
    · obtain ⟨x, mem, cls⟩ := mergeRaised_cls r l
      exact ⟨x, List.mem_cons_of_mem y mem, cls⟩

theorem record_raises (s : State) (p cls kind unit die eid addr info0 info1 : Nat) (ch : Bool) :
    ∃ x ∈ ((s.record p cls kind unit die eid addr info0 info1 ch).part p).raised, x.cls = cls := by
  unfold State.record
  rw [part_updPart_same]
  exact mergeRaised_cls _ _

end Sys2Proof.Proofs
end

section
/-! PROOFS. The start of a run (05 R184): what START, START_NOTICE and RUN_START do. -/

namespace Sys2Proof.Proofs

open Sys2Proof.Machine Sys2Proof.Laws

/-! ### START -/

/-- The state with T(0) fixed at T and its notice on its way (R184). -/
def startFixed (s : State) (p T : Nat) : State :=
  (s.updPart p fun q => { q with t0 := some T, lateStart := false }).flood p kStart 0 T 0 0

theorem startFixed_part (s : State) (p T : Nat) : ∃ seen,
    (startFixed s p T).part p = { s.part p with t0 := some T, lateStart := false, seen := seen } := by
  unfold startFixed
  rw [flood_part, part_updPart_same]
  exact ⟨_, rfl⟩

theorem startFixed_changes (s : State) (p T : Nat) : ChangesOnly AnyKey s (startFixed s p T) :=
  ChangesOnly.trans (.updPart (.refl AnyKey s)) (flood_changes _ p kStart 0 T 0 0)

theorem startFixed_sends (s : State) (p T : Nat) : ∃ ports n, (startFixed s p T).out = s.out ++ [.notice p ports n] ∧
    n.kind = kStart ∧ n.a = T ∧ n.origin = s.ownPix p := by
  unfold startFixed State.flood State.forward
  rw [out_emit, updPart_out, updPart_out]
  exact ⟨_, _, rfl, rfl, rfl, updPart_rd _ _ _ _ _ _ _ _⟩

section
variable {p : Fin 2} {r : Fin 65} {s : State} {o : OpenCmd}

/-- A START refused closes with the values given and leaves T(0) and the state as they were. -/
theorem start_refused (ready : s.readyCmd p r 0x13 o) {status detail r0 : Nat}
    (e : exec (.start p r) s = .next (s.complete p o.src status detail r0 0)) : Completes (.start p r) s fun t =>
      Closed t p o status detail r0 0 ∧ (t.part p).t0 = (s.part p).t0 := by
  have start := congrArg Part.t0 (complete_taken s p o.src status detail r0 0).run
  exact ⟨_, e, (readyCmd_sole ready).closed _ _ _ _, start⟩

theorem start_elsewhere (ready : s.readyCmd p r 0x13 o) (away : s.isMaster p = false) :
    Completes (.start p r) s fun t => Closed t p o 0x11 0 0 0 ∧ (t.part p).t0 = (s.part p).t0 ∧
      (t.part p).state = (s.part p).state ∧ t.out = s.out ∧ SameMemory s t ∧ SameEngines s t := by
  have e : exec (.start p r) s = .next (s.complete p o.src 0x11 0 0 0) := by
    change execStart p r s = _
    simp [execStart, readyCmd_fresh ready, away]
  have run := (complete_taken s p o.src 0x11 0 0 0).run
  have start := congrArg Part.t0 run
  have state := congrArg Part.state run
  have kept := complete_changes s p o.src 0x11 0 0 0
  exact ⟨_, e, (readyCmd_sole ready).closed _ _ _ _, start, state, complete_out _ _ _ _ _ _ _,
    kept.sameMemory, kept.sameEngines⟩

theorem start_uneven (ready : s.readyCmd p r 0x13 o) (master : s.isMaster p = true) (uneven : o.arg0 % 72 ≠ 0) :
    Completes (.start p r) s fun t => Closed t p o 0x02 0x08 0 0 ∧ (t.part p).t0 = (s.part p).t0 := by
  refine start_refused ready ?_
  change execStart p r s = _
  simp [execStart, readyCmd_fresh ready, master, uneven]

theorem start_tooSoon (ready : s.readyCmd p r 0x13 o) (master : s.isMaster p = true) (even : o.arg0 % 72 = 0)
    (given : o.arg0 ≠ 0) (soon : o.arg0 < (s.part p).gtc + 45000) : Completes (.start p r) s fun t =>
      Closed t p o 0x13 0 (((s.part p).gtc + 45000 + 71) / 72 * 72) 0 ∧ (t.part p).t0 = (s.part p).t0 := by
  refine start_refused ready ?_
  change execStart p r s = _
  simp [execStart, readyCmd_fresh ready, master, even, given, soon, cdiv]

/-- The T(0) that a START names: its argument, or for 0 the least multiple of 72 that is 225,000 ticks ahead (R184). -/
def startTick (gtc arg : Nat) : Nat := if arg = 0 then (gtc + 225000 + 71) / 72 * 72 else arg

theorem startTick_even {gtc arg : Nat} (even : arg % 72 = 0) : startTick gtc arg % 72 = 0 := by
  unfold startTick
  split
  · exact Nat.mul_mod_left _ _
  · exact even

theorem start_exec_good (ready : s.readyCmd p r 0x13 o) (master : s.isMaster p = true) (even : o.arg0 % 72 = 0)
    (good : o.arg0 = 0 ∨ (s.part p).gtc + 45000 ≤ o.arg0) :
    exec (.start p r) s = .next ((startFixed s p (startTick (s.part p).gtc o.arg0)).await p o) := by
  have ahead : ¬ (o.arg0 ≠ 0 ∧ o.arg0 < (s.part p).gtc + 45000) := by omega
  change execStart p r s = _
  unfold execStart
  rw [readyCmd_fresh ready]
  simp only [master, even, if_neg ahead]
  rfl

theorem start_good (ready : s.readyCmd p r 0x13 o) (master : s.isMaster p = true) (even : o.arg0 % 72 = 0)
    (good : o.arg0 = 0 ∨ (s.part p).gtc + 45000 ≤ o.arg0) : Completes (.start p r) s fun t =>
      let T := startTick (s.part p).gtc o.arg0
      (t.part p).t0 = some T ∧ (t.part p).lateStart = false ∧ Waits t p o ∧ T % 72 = 0 ∧
      (∃ ports n, t.out = s.out ++ [.notice p ports n] ∧ n.kind = kStart ∧ n.a = T ∧ n.origin = s.ownPix p) ∧
      SameMemory s t ∧ SameEngines s t := by
  let T := startTick (s.part p).gtc o.arg0
  obtain ⟨seen, part⟩ := startFixed_part s p T
  have sole : Sole (startFixed s p T) p o := (readyCmd_sole ready).of_opens (by rw [part])
  have out : ((startFixed s p T).await p o).out = (startFixed s p T).out := updPart_out _ _ _
  have kept := (startFixed_changes s p T).trans (awaits_changes _ p o)
  refine ⟨_, start_exec_good ready master even good, ?_, ?_, sole.awaits, startTick_even even,
    out ▸ startFixed_sends s p T, kept.sameMemory, kept.sameEngines⟩
  all_goals rw [await_part, part]

end

/-! ### START_NOTICE -/

section
variable {q : Fin 32} {w : BitVec 256} {s : State} (kind : (noticeOf w).kind = kStart)
include kind

theorem startNotice_known (known : s.knows (s.partOfPort q) (noticeOf w) = true) : exec (.startNotice q w) s = .next s := by
  change execStartNotice q w s = _
  unfold execStartNotice
  exact flooded_known kind known _

theorem startNotice_armed (new : s.knows (s.partOfPort q) (noticeOf w) = false)
    (armed : (s.part (s.partOfPort q)).state = .armed) : Completes (.startNotice q w) s fun t =>
      (t.part (s.partOfPort q)).t0 = some (noticeOf w).a ∧
      (t.part (s.partOfPort q)).lateStart = decide ((noticeOf w).a < (s.part (s.partOfPort q)).gtc + 72) ∧
      (t.part (s.partOfPort q)).state = .armed ∧ SameMemory s t ∧ SameEngines s t := by
  have heard : ((s.forward (s.partOfPort q) (noticeOf w)).part (s.partOfPort q)).state = .armed := by rw [forward_part, armed]
  have e : exec (.startNotice q w) s = .next ((s.forward (s.partOfPort q) (noticeOf w)).updPart (s.partOfPort q)
      fun x => { x with t0 := some (noticeOf w).a, lateStart := decide ((noticeOf w).a < x.gtc + 72) }) := by
    change execStartNotice q w s = _
    unfold execStartNotice
    rw [flooded_new kind new, if_pos heard]
  have kept (f : Part → Part) : ChangesOnly AnyKey s ((s.forward (s.partOfPort q) (noticeOf w)).updPart (s.partOfPort q) f) :=
    .updPart (forward_changes _ _ _)
  refine ⟨_, e, ?_, ?_, ?_, (kept _).sameMemory, (kept _).sameEngines⟩
  all_goals rw [part_updPart_same, forward_part]
  exact armed

end

/-! ### RUN_START -/

/-- The member runs from T: RUNNING in orbit 0, with the conjunction and the plane shown and no stop fixed (R184). -/
structure RunsFrom (t : State) (p T : Nat) : Prop where
  state : (t.part p).state = .running
  orbit : (t.part p).orbit = 0
  conj : (t.part p).conj = T
  shown : t.rd F.SCH_CONJ_conj p = T % 2 ^ 64
  plane : t.rd F.SCH_STS_plane p = 3
  stopAt : (t.part p).stopAt = none

/-- A slip leaves the run going (R191). -/
theorem RunsFrom.slip {t : State} {p T : Nat} (h : RunsFrom t p T) (cause : Nat) : RunsFrom (t.slip p cause) p T := by
  obtain ⟨f, own, part⟩ := slip_part t p cause
  have conj : F.SCH_CONJ_conj.reg.key p 0 0 0 ∉ slipKeys p := by
    simp only [F.SCH_CONJ_conj, slipKeys, List.mem_cons, List.not_mem_nil, or_false, key_SCH_CONJ, key_SCH_EVT,
      key_SCH_EVT_CNT, key_SCH_FREEZE, key_SCH_SLIP_GTC, key_SCH_SLIP, key_SCH_STS]
    omega
  exact ⟨by rw [part]; exact h.state, by rw [part]; exact h.orbit, by rw [part]; exact h.conj,
    (rd_slip _ _ _ _ _ _ _ _ conj).trans h.shown, (slip_plane _ _ _).trans h.plane, by rw [part]; exact h.stopAt⟩

/-- A partition from which its run begins: nothing is left of a start, a stop or a freeze (R184). -/
def runCleared (q : Part) : Part :=
  { q with t0 := none, stopAt := none, freeze := none, ownFault := false, lateStart := false }

/-- The state in RUNNING, with the last freeze's cause cleared (R184). -/
def runEntered (s : State) (p : Nat) : State :=
  (((s.updPart p runCleared).enterEvent p .running).setReg .SCH_SLIP 0 p).setReg .SCH_SLIP_GTC 0 p

theorem runEntered_runOf (s : State) (p : Nat) :
    runOf ((runEntered s p).part p) = runOf { runCleared (s.part p) with state := .running } := by
  unfold runEntered
  rw [setReg_part, setReg_part, enterEvent_runOf, part_updPart_same]

theorem runEntered_keeps (s : State) (p : Nat) : KeepsStore s (runEntered s p) :=
  .setReg (.setReg (KeepsStore.trans (.updPart (.refl s)) (enterEvent_changes _ p .running).toKeepsStore))

/-- The state with its first orbit begun at T and START completed (R184). -/
def runBegun (s : State) (p T : Nat) : State :=
  (((runEntered s p).beginOrbit p 0 T).allStreams p Stream.firstRun).completeOp p 0x13 0 0 T 0

theorem runBegun_runOf (s : State) (p T : Nat) :
    runOf ((runBegun s p T).part p) = orbitBegun (runOf { runCleared (s.part p) with state := .running }) 0 T := by
  obtain ⟨-, part, -⟩ := beginOrbit_effect (runEntered s p) p 0 T
  unfold runBegun
  rw [completeOp_runOf, allStreams_part, part, ← runEntered_runOf]
  rfl

theorem runBegun_mem (s : State) (p T : Nat) : (runBegun s p T).mem = s.mem := by
  obtain ⟨mem, -, -⟩ := beginOrbit_effect (runEntered s p) p 0 T
  unfold runBegun
  rw [(completeOp_changes _ p 0x13 0 0 T 0).mem, allStreams_mem, mem, (runEntered_keeps s p).mem]

/-- Completing START leaves what the schedule's registers show of the orbit begun. -/
theorem runBegun_rd (s : State) (p T : Nat) (f : Fld) (host : ¬ HostKey p (f.reg.key p 0 0 0)) :
    (runBegun s p T).rd f p = ((runEntered s p).beginOrbit p 0 T).rd f p := by
  unfold runBegun
  rw [(completeOp_changes _ p 0x13 0 0 T 0).rd f p 0 0 0 host]
  unfold State.rd
  rw [allStreams_reg]

theorem runBegun_runsFrom (s : State) (p T : Nat) : RunsFrom (runBegun s p T) p T := by
  have run := runBegun_runOf s p T
  have going : (runEntered s p).schedStopped p = false := by
    have free : ((runEntered s p).part p).freeze = none := congrArg Part.freeze (runEntered_runOf s p)
    unfold State.schedStopped
    rw [free]
  obtain ⟨conj, plane, -⟩ := beginOrbit_shows (runEntered s p) p 0 T
  refine ⟨congrArg Part.state run, congrArg Part.orbit run, congrArg Part.conj run,
    (runBegun_rd s p T _ ?_).trans conj, (runBegun_rd s p T _ ?_).trans (plane going), congrArg Part.stopAt run⟩
  all_goals
    simp only [F.SCH_CONJ_conj, F.SCH_STS_plane, HostKey, key_SCH_CONJ, key_SCH_STS]
    omega

section
variable {p : Fin 2} {s : State} {T : Nat}

theorem runStart_exec (armed : (s.part p).state = .armed) (start : (s.part p).t0 = some T) : exec (.runStart p) s =
    .next (if (s.part p).lateStart then (runBegun s p T).slip p 0x0F else runBegun s p T) := by
  change execRunStart p s = _
  unfold execRunStart
  simp only [start, armed]
  rfl

theorem runStart_runs {img : Image} (armed : (s.part p).state = .armed) (start : (s.part p).t0 = some T)
    (image : (s.part p).image = some img) : Completes (.runStart p) s fun t =>
      (t.part p).state = .running ∧ (t.part p).orbit = 0 ∧ (t.part p).conj = T ∧ t.rd F.SCH_CONJ_conj p = T % 2 ^ 64 ∧
      t.rd F.SCH_STS_plane p = 3 ∧ (t.part p).stopAt = none ∧ SameMemory s t ∧
      ((s.part p).lateStart = false → (t.part p).freeze = none) ∧
      ((s.part p).lateStart = true → ∃ f, (t.part p).freeze = some f ∧ f.cause = 0x0F ∧
        f.tf = (s.part p).gtc + img.horizon) := by
  have begun := runBegun_runsFrom s p T
  have run := runBegun_runOf s p T
  have free : ((runBegun s p T).part p).freeze = none := congrArg Part.freeze run
  have loaded : ((runBegun s p T).part p).image = some img := (congrArg Part.image run).trans image
  have tick := congrArg Part.gtc run
  have mem : SameMemory s (runBegun s p T) := fun a => by
    unfold State.byte
    rw [runBegun_mem]
  refine ⟨_, runStart_exec armed start, ?_⟩
  cases (s.part p).lateStart with
  | false =>
    obtain ⟨state, orbit, conj, shown, plane, stopAt⟩ := begun
    exact ⟨state, orbit, conj, shown, plane, stopAt, mem, fun _ => free, nofun⟩
  | true =>
    obtain ⟨state, orbit, conj, shown, plane, stopAt⟩ := begun.slip 0x0F
    exact ⟨state, orbit, conj, shown, plane, stopAt, fun a => (slip_byte _ _ _ a).trans (mem a), nofun,
      fun _ => ⟨_, slip_running _ p 0x0F img begun.state free loaded, rfl, congrArg (· + img.horizon) tick⟩⟩

end

/-- Settles O23: START, START_NOTICE and RUN_START, each by the lemmas of its cases. -/
theorem startRule : Obligations.StartRule := by
  unfold Obligations.StartRule
  refine ⟨fun p r s o ready => ?start, fun q w s => ?notice, fun p s T img armed start image => ?run⟩
  case start =>
    exact ⟨start_elsewhere ready, start_uneven ready, start_tooSoon ready, start_good ready⟩
  case notice =>
    intro p n kind
    exact ⟨startNotice_known kind, startNotice_armed kind⟩
  case run => exact runStart_runs armed start image

end Sys2Proof.Proofs
end

section
/-! PROOFS. The thermal forecast (05 R203): what FCAST_DEV does. -/

namespace Sys2Proof.Proofs

open Sys2Proof.Machine Sys2Proof.Laws

/-- FCAST_DEV sets its flag and raises an event of class THERMAL (R203, R467). -/
theorem fcastDev_exec {p : Fin 2} {j : Nat} {s : State} {img : Image} (image : (s.part p).image = some img)
    (bin : j < img.forecast.length) (run : s.running p = true) : exec (.fcastDev p j) s =
      .next ((s.flag F.SCH_EVT_fcast_dev F.SCH_EVT_CNT_fcast_cnt p).record p 6 1 0 (info0 := j)) := by
  change execFcastDev p j s = _
  unfold execFcastDev
  exact guarded_next (by simp [image, bin, run])

/-- Settles O27: the flag and its counter lie in registers apart, and an event raised is all that changes of the partition. -/
theorem forecastDeviation : Obligations.ForecastDeviation := by
  unfold Obligations.ForecastDeviation
  intro p j s img image bin run
  have apart : Reg.key .SCH_EVT p 0 0 0 ≠ Reg.key .SCH_EVT_CNT p 0 0 0 := by rw [key_SCH_EVT, key_SCH_EVT_CNT]; omega
  have running : (s.part p).state = .running := by simpa [State.running] using run
  obtain ⟨raised, part⟩ := record_part (s.flag F.SCH_EVT_fcast_dev F.SCH_EVT_CNT_fcast_cnt p) p 6 1 0 0xFF 0 0 j 0 false p
  rw [flag_part] at part
  have kept : ChangesOnly AnyKey s ((s.flag F.SCH_EVT_fcast_dev F.SCH_EVT_CNT_fcast_cnt p).record p 6 1 0 (info0 := j)) :=
    .record (.flag (.refl _ s) trivial trivial)
  refine ⟨_, fcastDev_exec image bin run, ?flag, ?count, record_raises .., ?state, ?orbit, ?conj, ?freeze, kept.sameMemory,
    kept.sameEngines⟩
  case flag => exact (record_rd ..).trans (rd_flag_same _ _ _ _ _ _ (by decide) apart)
  case count => exact (record_rd ..).trans (rd_flag_count _ _ _ _ _ _ (by decide) apart.symm)
  all_goals rw [part]
  exact running

end Sys2Proof.Proofs
end

section
/-! SUPPORT. Packets between packages (09 R356–R362): what sending and answering leave, what a partition holds of its requests, and
the answer to a narrow access of a gather thread. -/

namespace Sys2Proof.Proofs

open Sys2Proof.Machine Sys2Proof.Laws

/-! ### Sending -/

/-- Only ports' queues and what has left the part differ: storage, engines, registers and partitions are as before. -/
structure Sends (s t : State) : Prop extends KeepsStore s t where
  regs : t.regs = s.regs
  part : t.part = s.part
  out : ∃ l, t.out = s.out ++ l

namespace Sends

variable {s t u : State}

theorem refl (s : State) : Sends s s := ⟨.refl s, rfl, rfl, [], (List.append_nil _).symm⟩

theorem trans (h : Sends s t) (g : Sends t u) : Sends s u := by
  obtain ⟨l, hl⟩ := h.out
  obtain ⟨m, hm⟩ := g.out
  exact ⟨h.toKeepsStore.trans g.toKeepsStore, g.regs.trans h.regs, g.part.trans h.part, l ++ m, by
    rw [hm, hl, List.append_assoc]⟩

theorem sent (h : Sends s t) {e : Emit} (m : e ∈ s.out) : e ∈ t.out := by
  obtain ⟨l, hl⟩ := h.out
  rw [hl]
  exact List.mem_append_left l m

theorem emit (h : Sends s t) (e : Emit) : Sends s (t.emit e) := h.trans ⟨⟨rfl, rfl, rfl⟩, rfl, rfl, [e], rfl⟩

theorem foldl {α : Type} {f : State → α → State} (hf : ∀ a x, Sends a (f a x)) (l : List α) (h : Sends s t) :
    Sends s (l.foldl f t) := by
  induction l generalizing t with
  | nil => exact h
  | cons x l ih => exact ih (h.trans (hf t x))

theorem rd (h : Sends s t) (f : Fld) (p i j k : Nat) : t.rd f p i j k = s.rd f p i j k := by
  unfold State.rd State.reg
  rw [h.regs]

theorem e2eIn (h : Sends s t) (p pix : Nat) : t.e2eIn p pix = s.e2eIn p pix := by
  unfold State.e2eIn
  rw [h.part]

theorem e2eOut (h : Sends s t) (p pix : Nat) : t.e2eOut p pix = s.e2eOut p pix := by
  unfold State.e2eOut
  rw [h.part]

end Sends

theorem queuePacket_sends (s : State) (p dst src : Nat) (k : Packet) : Sends s (s.queuePacket p dst src k) := by
  refine ⟨queuePacket_keeps s p dst src k, ?_, ?_, [], ?_⟩ <;> unfold State.queuePacket <;> split
  · rfl
  · exact updPort_regs _ _ _
  · rfl
  · rfl
  · exact (List.append_nil _).symm
  · exact (List.append_nil _).symm

/-- A packet launched is sent (R356). -/
theorem launchPacket_sends (s : State) (p pix : Nat) (k : Packet) :
    Sends s (s.launchPacket p pix k) ∧ .packet p pix k ∈ (s.launchPacket p pix k).out :=
  ⟨(queuePacket_sends s _ _ _ _).emit _, List.mem_append_right _ List.mem_cons_self⟩

/-- The answer that `respond` gives a request (R356). -/
def responseTo (s : State) (p unit : Nat) (req : Packet) (op : Nat) (f : Packet → Packet) : Packet :=
  let k := f { emptyPacket with
    op := op, srcEid := s.eid p unit, addr := req.addr, seq := req.seq, tag := req.tag, srcSession := (s.part p).session,
    dstSession := req.srcSession, launch := (s.part p).gtc % 2 ^ 32 }
  { k with granules := k.data.length }

/-- An answer goes to the package that asked. -/
theorem respond_sends (s : State) (p unit : Nat) (req : Packet) (op : Nat) (f : Packet → Packet) :
    Sends s (s.respond p unit req op f) ∧
      .packet p (req.srcEid / 1024) (responseTo s p unit req op f) ∈ (s.respond p unit req op f).out :=
  ⟨(queuePacket_sends s _ _ _ _).emit _, List.mem_append_right _ List.mem_cons_self⟩

/-! ### What a partition holds of its requests -/

theorem part_updE2eOut (s : State) (p pix : Nat) (f : E2eOut → E2eOut) : (s.updE2eOut p pix f).part p =
    { s.part p with e2eOut := tabUpd e2eOutDefault (s.part p).e2eOut pix f } := part_updPart_same _ _ _

@[simp] theorem e2eOut_updE2eOut_same (s : State) (p pix : Nat) (f : E2eOut → E2eOut) :
    (s.updE2eOut p pix f).e2eOut p pix = f (s.e2eOut p pix) := by
  unfold State.e2eOut
  rw [part_updE2eOut]
  exact tabGet_tabUpd_same _ _ _ _

@[simp] theorem e2eIn_updE2eIn_same (s : State) (p pix : Nat) (f : E2eIn → E2eIn) :
    (s.updE2eIn p pix f).e2eIn p pix = f (s.e2eIn p pix) := by
  unfold State.e2eIn State.updE2eIn
  rw [part_updPart_same]
  exact tabGet_tabUpd_same _ _ _ _

theorem e2eOut_of_part {s t : State} {p : Nat} (h : (t.part p).e2eOut = (s.part p).e2eOut) (pix : Nat) :
    t.e2eOut p pix = s.e2eOut p pix := by
  unfold State.e2eOut
  rw [h]

theorem e2eOut_record (s : State) (p cls kind unit die eid addr info0 info1 : Nat) (ch : Bool) (q pix : Nat) :
    (s.record p cls kind unit die eid addr info0 info1 ch).e2eOut q pix = s.e2eOut q pix := by
  obtain ⟨_, part⟩ := record_part s p cls kind unit die eid addr info0 info1 ch q
  exact e2eOut_of_part (by rw [part]) pix

theorem length_removeAt {α : Type} : ∀ {l : List α} {i : Nat}, i < l.length → (removeAt l i).length + 1 = l.length
  | _ :: _, 0, _ => rfl
  | _ :: _, _ + 1, h => congrArg (· + 1) (length_removeAt (Nat.lt_of_succ_lt_succ h))

theorem part_unawait (s : State) (p : Nat) (a : Await) : (s.unawait p a).part p =
    { s.part p with awaits := removeAt (s.part p).awaits ((s.part p).awaits.findIdx (· == a)) } := part_updPart_same _ _ _

/-- One awaited answer fewer. -/
theorem unawait_length {s : State} {p : Nat} {a : Await} (m : a ∈ (s.part p).awaits) :
    ((s.unawait p a).part p).awaits.length + 1 = (s.part p).awaits.length := by
  rw [part_unawait]
  exact length_removeAt (List.findIdx_lt_length_of_exists ⟨a, m, beq_self_eq_true a⟩)

theorem mem_of_waiting {s : State} {p tag op : Nat} {a : Await} (w : s.waiting p tag op = some a) : a ∈ (s.part p).awaits :=
  List.mem_of_find?_eq_some w

/-! ### The answer to a thread's narrow access -/

/-- Storage, engines and registers are as before, and the engines that are not contained are the same ones. -/
structure KeepsThreads (s t : State) : Prop extends KeepsStore s t where
  regs : t.regs = s.regs
  twoPart : t.twoPart = s.twoPart
  state : ∀ q, (t.part q).state = (s.part q).state

namespace KeepsThreads

variable {s t u : State}

theorem refl (s : State) : KeepsThreads s s := ⟨.refl s, rfl, rfl, fun _ => rfl⟩

theorem trans (h : KeepsThreads s t) (g : KeepsThreads t u) : KeepsThreads s u :=
  ⟨h.toKeepsStore.trans g.toKeepsStore, g.regs.trans h.regs, g.twoPart.trans h.twoPart,
    fun q => (g.state q).trans (h.state q)⟩

theorem updPart {p : Nat} {f : Part → Part} (h : KeepsThreads s t) (hf : ∀ q, (f q).state = q.state) :
    KeepsThreads s (t.updPart p f) := by
  refine h.trans ⟨.updPart (.refl t), updPart_regs _ _ _, updPart_twoPart _ _ _, fun q => ?_⟩
  rw [part_updPart]
  split
  · exact hf _
  · rfl

theorem updE2eOut {p pix : Nat} {f : E2eOut → E2eOut} (h : KeepsThreads s t) : KeepsThreads s (t.updE2eOut p pix f) := by
  unfold State.updE2eOut
  exact h.updPart fun _ => rfl

theorem contained (h : KeepsThreads s t) (n : Nat) : t.contained (t.partOfTile n) = s.contained (s.partOfTile n) := by
  unfold State.contained State.partOfTile State.partOfHalf
  rw [h.state, h.twoPart]

end KeepsThreads

theorem learn_keeps (s : State) (p : Nat) (k : Packet) : KeepsThreads s (s.learn p k) := by
  unfold State.learn
  exact .updE2eOut (.refl s)

theorem part_learn (s : State) (p : Nat) (k : Packet) : (s.learn p k).part p = { s.part p with
    e2eOut := tabUpd e2eOutDefault (s.part p).e2eOut (k.srcEid / 1024) fun o => { o with session := k.srcSession } } :=
  part_updE2eOut _ _ _ _

theorem unawait_keeps (s : State) (p : Nat) (a : Await) : KeepsThreads s (s.unawait p a) := by
  unfold State.unawait
  exact .updPart (.refl s) fun _ => rfl

/-- Storage, cores, registers and partitions are as before: what answering threads leaves. -/
structure OnlyThreads (s t : State) : Prop where
  mem : t.mem = s.mem
  cores : t.cores = s.cores
  regs : t.regs = s.regs
  part : t.part = s.part

theorem OnlyThreads.refl (s : State) : OnlyThreads s s := ⟨rfl, rfl, rfl, rfl⟩

theorem OnlyThreads.trans {s t u : State} (h : OnlyThreads s t) (g : OnlyThreads t u) : OnlyThreads s u :=
  ⟨g.mem.trans h.mem, g.cores.trans h.cores, g.regs.trans h.regs, g.part.trans h.part⟩

theorem OnlyThreads.foldl {α : Type} {f : State → α → State} (hf : ∀ a x, OnlyThreads a (f a x)) :
    ∀ (l : List α) (s : State), OnlyThreads s (l.foldl f s)
  | [], s => .refl s
  | x :: l, s => (hf s x).trans (OnlyThreads.foldl hf l (f s x))

theorem answerThread_only (s : State) (x l i : Nat) (ans : Answer) : OnlyThreads s (s.answerThread x l i ans) := by
  unfold State.answerThread
  split
  · exact .refl s
  · exact ⟨rfl, rfl, rfl, rfl⟩

/-- In `u` the thread's outstanding access has its answer; storage and registers are as in `s`. -/
def Answered (s u : State) (x l i : Nat) (th : Thread) (c : Narrow) (ans : Answer) : Prop :=
  u.thread? x l i = some { th with access := some { c with answer := some ans } } ∧ SameMemory s u ∧ u.regs = s.regs

/-- A thread that is served and has an access outstanding takes the answer. -/
theorem answerThread_answered {s v : State} {x l i : Nat} {th : Thread} {c : Narrow} (k : KeepsThreads s v)
    (thread : s.thread? x l i = some th) (access : th.access = some c) (served : s.contained (s.partOfTile (x / 2)) = false)
    (ans : Answer) : Answered s (v.answerThread x l i ans) x l i th c ans := by
  have only := answerThread_only v x l i ans
  refine ⟨?_, fun a => ?_, only.regs.trans k.regs⟩
  · have updated : v.answerThread x l i ans =
        v.updThread x l i fun h => { h with access := h.access.map fun n => { n with answer := some ans } } :=
      if_neg (by rw [k.contained, served]; decide)
    rw [updated, thread?_updThread_some ((thread?_of_gathers k.gathers x l i).trans thread) (by exact fun _ => ⟨rfl, rfl⟩),
      access]
    rfl
  · unfold State.byte
    rw [only.mem, k.mem]

/-! ### Acknowledgements -/

/-- What an acknowledgement of the numbers up to `v` leaves of the requests sent (R222, R361). -/
def released (o : E2eOut) (v : Nat) : E2eOut :=
  { o with acked := max o.acked (min v o.issued), unacked := o.unacked.filter fun k => decide (min v o.issued < k.seq) }

/-- An acknowledgement releases requests, and changes beside that no more than threads that waited for it. -/
theorem acked_effect (s : State) (p key v : Nat) : let t := s.acked p key v
    t.e2eOut p key = released (s.e2eOut p key) v ∧ t.mem = s.mem ∧ t.cores = s.cores ∧ t.regs = s.regs := by
  unfold State.acked
  extract_lets n u mine l w t
  have only : OnlyThreads w t := .foldl (fun a y => by
    split
    · exact answerThread_only _ _ _ _ _
    · exact .refl a
    · exact .refl a) l w
  have kept : KeepsThreads s w := .updPart (.updE2eOut (.refl s)) fun _ => rfl
  refine ⟨?_, only.mem.trans kept.mem, only.cores.trans kept.cores, only.regs.trans kept.regs⟩
  have out : (t.part p).e2eOut = (u.part p).e2eOut :=
    (congrArg (fun q => (q p).e2eOut) only.part).trans (congrArg Part.e2eOut (part_updPart_same u p _))
  exact (e2eOut_of_part out key).trans (e2eOut_updE2eOut_same _ _ _ _)

/-- With nothing awaited an acknowledgement reaches no thread. -/
theorem acked_keepsThreads {s : State} {p : Nat} (idle : (s.part p).awaits = []) (key v : Nat) :
    KeepsThreads s (s.acked p key v) ∧ ((s.acked p key v).part p).awaits = [] := by
  unfold State.acked
  extract_lets n u mine l w
  have same : (u.part p).awaits = [] := (congrArg Part.awaits (part_updE2eOut _ _ _ _)).trans idle
  have empty : l = [] := by
    simp only [l, same]
    rfl
  rw [empty]
  have kept : KeepsThreads s w := .updPart (.updE2eOut (.refl s)) fun _ => rfl
  refine ⟨kept, ?_⟩
  simp only [List.foldl_nil, w, part_updPart_same, same]
  rfl

end Sys2Proof.Proofs
end

section
/-! PROOFS. Answers between packages (09 R357–R362): responses, acknowledgements, NAKs, ACK_SEND and retransmission. -/

namespace Sys2Proof.Proofs

open Sys2Proof.Machine Sys2Proof.Laws

/-! ### The row of a packet -/

theorem packetRow_next {s : State} {p op : Nat} {dst : BitVec 24} {h : BitVec 512} {data : List (Gran × BitVec 16)}
    (ours : s.portsOf p ≠ [] ∧ dst.toNat / 1024 = s.ownPix p) (row : (packetOf h data).op = op) (f : Packet → State) :
    s.packetRow p op dst h data f = .next (f (packetOf h data)) := by
  obtain ⟨ports, dest⟩ := ours
  unfold State.packetRow
  rw [if_neg (not_not_intro row), if_neg (not_or.mpr ⟨ports, not_not_intro dest⟩)]

/-- A packet of another boot session changes nothing in a row that asks whether it is for this one (R357). -/
theorem packetRow_foreign {s : State} {p op : Nat} {dst : BitVec 24} {h : BitVec 512} {data : List (Gran × BitVec 16)}
    {g : Packet → State} (ours : s.portsOf p ≠ [] ∧ dst.toNat / 1024 = s.ownPix p) (row : (packetOf h data).op = op)
    (foreign : (packetOf h data).dstSession ≠ (s.part p).session) :
    s.packetRow p op dst h data (fun k => if !s.forUs p k then s else g k) = .next s := by
  rw [packetRow_next ours row, if_pos (by simp [State.forUs, foreign])]

theorem ite_ours {s t : State} {p : Nat} {k : Packet} (mine : k.dstSession = (s.part p).session) :
    (if !s.forUs p k then s else t) = t := if_neg (by simp [State.forUs, mine])

theorem waiting_learn (s : State) (p tag op : Nat) (k : Packet) : (s.learn p k).waiting p tag op = s.waiting p tag op := by
  unfold State.waiting
  rw [part_learn]

/-! ### Requests lost -/

/-- What a STALE NAK or a failed queue pair leaves of the requests sent (R362, R366). -/
def lostAll (o : E2eOut) : E2eOut := { o with lost := o.lost ++ o.unacked, unacked := [], sync := true }

theorem loseRequests_effect (s : State) (p key : Nat) : let t := s.loseRequests p key
    t.e2eOut p key = lostAll (s.e2eOut p key) ∧ t.mem = s.mem := by
  unfold State.loseRequests
  extract_lets u mark t
  have part : t.part = u.part := by
    refine foldl_keeps_view State.part _ _ (fun _ _ _ => ?_) u
    rfl
  have mem : t.mem = u.mem := by
    refine foldl_keeps_view State.mem _ _ (fun _ _ _ => ?_) u
    rfl
  refine ⟨?_, mem.trans (updE2eOut_keeps (.refl s)).mem⟩
  exact (e2eOut_of_part (congrArg (fun q => (q p).e2eOut) part) key).trans (e2eOut_updE2eOut_same s p key _)

/-! ### Packets that answer -/

section

variable {p : Fin 2} {dst : BitVec 24} {h : BitVec 512} {data : List (BitVec 512 × BitVec 16)} {s : State}
variable {a : Await} {x l t : Nat} {th : Thread} {c : Narrow}

theorem loadRsp_exec (ours : s.portsOf p ≠ [] ∧ dst.toNat / 1024 = s.ownPix p) (row : (packetOf h data).op = 5)
    (mine : (packetOf h data).dstSession = (s.part p).session) (waits : s.waiting p (packetOf h data).tag 1 = some a)
    (who : a.who = .thread x l t) (sound : ∃ g rest, data = g :: rest ∧ g.2 = granCheck g.1) :
    exec (.loadRsp p dst h data) s = .next (((s.learn p (packetOf h data)).unawait p a).answerThread x l t
      (.value (bits (data.headD (0, 0)).1.toNat 0 (8 * max a.packet.bytes 8)))) := by
  obtain ⟨g, rest, rfl, check⟩ := sound
  change execLoadRsp p dst h _ s = _
  unfold execLoadRsp
  rw [packetRow_next ours row, ite_ours mine]
  dsimp only
  rw [waiting_learn, waits]
  dsimp only
  unfold State.deliverRead
  rw [who]
  exact congrArg _ (if_pos check)

theorem atomicRsp_exec (ours : s.portsOf p ≠ [] ∧ dst.toNat / 1024 = s.ownPix p) (row : (packetOf h []).op = 6)
    (mine : (packetOf h []).dstSession = (s.part p).session) (waits : s.waiting p (packetOf h []).tag 3 = some a)
    (who : a.who = .thread x l t) : exec (.atomicRsp p dst h) s =
      .next (((s.learn p (packetOf h [])).unawait p a).answerThread x l t (.value (packetOf h []).opv)) := by
  change execAtomicRsp p dst h s = _
  unfold execAtomicRsp
  rw [packetRow_next ours row, ite_ours mine]
  dsimp only
  rw [waiting_learn, waits]
  dsimp only
  rw [who]

/-- A response ends the wait of its request and answers the thread's access (R357). -/
theorem response_answers {tag op : Nat} (k : Packet) (waits : s.waiting p tag op = some a)
    (thread : s.thread? x l t = some th) (access : th.access = some c) (served : s.contained (s.partOfTile (x / 2)) = false)
    (ans : Answer) : let u := ((s.learn p k).unawait p a).answerThread x l t ans
    u.thread? x l t = some { th with access := some { c with answer := some ans } } ∧
      (u.part p).awaits.length + 1 = (s.part p).awaits.length ∧ SameMemory s u ∧ u.regs = s.regs := by
  obtain ⟨answer, mem, regs⟩ :=
    answerThread_answered ((learn_keeps s p k).trans (unawait_keeps _ p a)) thread access served ans
  refine ⟨answer, ?_, mem, regs⟩
  have waiting : a ∈ ((s.learn p k).part p).awaits := by
    rw [part_learn]
    exact mem_of_waiting waits
  rw [(answerThread_only _ x l t ans).part, unawait_length waiting, part_learn]

theorem ack_completes (ours : s.portsOf p ≠ [] ∧ dst.toNat / 1024 = s.ownPix p) (row : (packetOf h []).op = 7)
    (mine : (packetOf h []).dstSession = (s.part p).session) : Completes (.ack p dst h) s fun t =>
      let e := packetOf h []
      let o := s.e2eOut p (e.srcEid / 1024)
      t.e2eOut p (e.srcEid / 1024) = released { o with session := e.srcSession } e.seq ∧
      SameMemory s t ∧ t.regs = s.regs ∧ t.cores = s.cores := by
  have known := learn_keeps s p (packetOf h [])
  obtain ⟨out, mem, cores, regs⟩ :=
    acked_effect (s.learn p (packetOf h [])) p ((packetOf h []).srcEid / 1024) (packetOf h []).seq
  change Yields (execAck p dst h s) _
  unfold execAck
  rw [packetRow_next ours row, ite_ours mine]
  refine .next ⟨?_, fun a => ?_, regs.trans known.regs, cores.trans known.cores⟩
  · rw [out]
    unfold State.learn
    rw [e2eOut_updE2eOut_same]
  · unfold State.byte
    rw [mem, known.mem]

theorem nak_stale_completes (ours : s.portsOf p ≠ [] ∧ dst.toNat / 1024 = s.ownPix p) (row : (packetOf h []).op = 8)
    (mine : (packetOf h []).dstSession = (s.part p).session) (stale : (packetOf h []).aux % 256 = 1) :
    Completes (.nak p dst h) s fun t =>
      let e := packetOf h []
      t.e2eOut p (e.srcEid / 1024) = { lostAll (s.e2eOut p (e.srcEid / 1024)) with session := e.opv % 2 ^ 32 } ∧
      t.rd F.NET_EVT_stale p = 1 ∧ SameMemory s t := by
  have apart : Reg.key .NET_EVT p 0 0 0 ≠ Reg.key .NET_EVT_CNT1 p 0 0 0 := by rw [key_NET_EVT, key_NET_EVT_CNT1]; omega
  have cause : bits (packetOf h []).aux 0 8 = 1 := stale
  obtain ⟨out, mem⟩ := loseRequests_effect s p ((packetOf h []).srcEid / 1024)
  change Yields (execNak p dst h s) _
  unfold execNak
  rw [packetRow_next ours row, ite_ours mine]
  dsimp only
  rw [if_pos cause]
  refine .next ⟨?_, ?_, fun a => ?_⟩
  · rw [e2eOut_record, e2eOut_of_part (congrArg Part.e2eOut (flag_part _ _ _ _ _ _ _)), e2eOut_updE2eOut_same, out]
  · exact (record_rd ..).trans (rd_flag_same _ _ _ _ _ _ (by decide) apart)
  · rw [record_byte, flag_byte]
    unfold State.byte
    rw [(updE2eOut_keeps (.refl _)).mem, mem]

theorem nak_refused_exec (ours : s.portsOf p ≠ [] ∧ dst.toNat / 1024 = s.ownPix p) (row : (packetOf h []).op = 8)
    (mine : (packetOf h []).dstSession = (s.part p).session) (fresh : (packetOf h []).aux % 256 ≠ 1)
    (sound : (packetOf h []).aux % 256 ≠ 4)
    (waits : (s.part p).awaits.find? (fun a => a.tag == (packetOf h []).tag && a.packet.seq == (packetOf h []).seq &&
      decide (a.pix < 1024)) = some a) (who : a.who = .thread x l t) :
    exec (.nak p dst h) s = .next ((s.unawait p a).answerThread x l t (.failed .addrRange)) := by
  have notStale : ¬ bits (packetOf h []).aux 0 8 = 1 := fresh
  have notData : ¬ bits (packetOf h []).aux 0 8 = 4 := sound
  change execNak p dst h s = _
  unfold execNak
  rw [packetRow_next ours row, ite_ours mine]
  dsimp only
  rw [if_neg notStale, waits]
  dsimp only
  rw [who]
  dsimp only
  rw [if_neg notData]

end

/-! ### Acknowledging and sending again -/

theorem updE2eIn_keeps (s : State) (p pix : Nat) (f : E2eIn → E2eIn) : KeepsStore s (s.updE2eIn p pix f) := by
  unfold State.updE2eIn
  exact .updPart (.refl s)

/-- The cumulative acknowledgement of what a source's requests have come to (R359). -/
theorem sendAck_effect (s : State) (p src : Nat) : let t := s.sendAck p src
    t.e2eIn p src = { s.e2eIn p src with ackSent := (s.e2eIn p src).performed } ∧ KeepsStore s t ∧
    ∃ k : Packet, .packet p src k ∈ t.out ∧ k.op = 7 ∧ k.seq = (s.e2eIn p src).performed := by
  unfold State.sendAck
  extract_lets i base req t
  obtain ⟨sends, sent⟩ := respond_sends s p 255 req 7 id
  have dest : req.srcEid / 1024 = src := by
    change (src * 1024 + 255) / 1024 = src
    omega
  rw [dest] at sent
  refine ⟨?_, sends.toKeepsStore.trans (updE2eIn_keeps _ _ _ _), responseTo s p 255 req 7 id, ?_, rfl, rfl⟩
  · rw [e2eIn_updE2eIn_same, sends.e2eIn]
  · exact (updPart_out ..).symm ▸ sent

/-- The packet that goes when a request is launched again (R361). -/
def again (s : State) (p : Nat) (k : Packet) (extra : Nat) : Packet :=
  { k with flags := k.flags ||| 2 ||| extra, launch := (s.part p).gtc % 2 ^ 32 }

theorem relaunch_sends (s : State) (p pix : Nat) (k : Packet) (extra : Nat) :
    Sends s (s.relaunch p pix k extra) ∧ .packet p pix (again s p k extra) ∈ (s.relaunch p pix k extra).out :=
  launchPacket_sends s p pix (again s p k extra)

/-- Requests launched again are sent with retransmission set (R361). -/
theorem foldl_relaunch_sent (p pix : Nat) (l : List Packet) (s : State) {k : Packet} (m : k ∈ l) : ∃ r : Packet,
    .packet p pix r ∈ (l.foldl (fun a k => a.relaunch p pix k 0) s).out ∧ r.seq = k.seq ∧ r.addr = k.addr ∧ r.data = k.data ∧
      r.flags.testBit 1 = true := by
  induction l generalizing s with
  | nil => exact absurd m List.not_mem_nil
  | cons y l ih =>
    obtain rfl | m := List.mem_cons.mp m
    · have rest : Sends (s.relaunch p pix k 0) (l.foldl (fun a k => a.relaunch p pix k 0) (s.relaunch p pix k 0)) :=
        .foldl (fun a x => (relaunch_sends a p pix x 0).1) l (.refl _)
      refine ⟨again s p k 0, rest.sent (relaunch_sends s p pix k 0).2, rfl, rfl, rfl, ?_⟩
      simp only [again, Nat.testBit_or, show Nat.testBit 2 1 = true from rfl, Bool.or_true, Bool.true_or]
    · exact ih _ m

theorem e2eRetransmit_completes {p : Fin 2} {pix : Nat} {s : State} (near : pix < 1024) (waits : (s.e2eOut p pix).unacked ≠ []) :
    Completes (.e2eRetransmit p pix) s fun t => t.rd F.NET_EVT_retx p = 1 ∧
      t.rd F.NET_EVT_CNT1_retx_cnt p = (s.rd F.NET_EVT_CNT1_retx_cnt p + 1) % 2 ^ 16 ∧
      (∀ k ∈ (s.e2eOut p pix).unacked, ∃ r : Packet, .packet p pix r ∈ t.out ∧ r.seq = k.seq ∧ r.addr = k.addr ∧
        r.data = k.data ∧ r.flags.testBit 1 = true) ∧ (t.e2eOut p pix).unacked = (s.e2eOut p pix).unacked ∧ SameMemory s t ∧
      SameEngines s t := by
  have apart : Reg.key .NET_EVT p 0 0 0 ≠ Reg.key .NET_EVT_CNT1 p 0 0 0 := by rw [key_NET_EVT, key_NET_EVT_CNT1]; omega
  have unanswered : (s.e2eOut p pix).unacked.isEmpty = false := by
    rwa [List.isEmpty_eq_false_iff]
  change Yields (execE2eRetransmit p pix s) _
  unfold execE2eRetransmit
  extract_lets o mine loads atoms mcs u v w x
  have flagged : KeepsStore s u := (KeepsStore.refl s).flag
  have first : Sends u v := .foldl (fun a k => (relaunch_sends a p pix k 0).1) _ (.refl u)
  have others : Sends v (mcs.foldl (fun a k => a.relaunch p pix k 0) x) := .foldl (fun a k => (relaunch_sends a p pix k 0).1) _
    (.foldl (fun a _ => (relaunch_sends a p pix _ 4).1) _ (.foldl (fun a _ => (relaunch_sends a p pix _ 0).1) _ (.refl v)))
  have all : Sends u _ := first.trans others
  refine ⟨_, guarded_next (by simp [near, o, unanswered]), ?_, ?_, fun k m => ?_, ?_, ?_, ?_⟩
  · exact (all.rd _ _ _ _ _).trans (rd_flag_same _ _ _ _ _ _ (by decide) apart)
  · exact (all.rd _ _ _ _ _).trans (rd_flag_count _ _ _ _ _ _ (by decide) apart.symm)
  · obtain ⟨r, sent, same⟩ := foldl_relaunch_sent p pix _ u m
    exact ⟨r, others.sent sent, same⟩
  · rw [all.e2eOut, e2eOut_of_part (congrArg Part.e2eOut (flag_part _ _ _ _ _ _ _))]
  · exact (flagged.trans all.toKeepsStore).sameMemory
  · exact (flagged.trans all.toKeepsStore).sameEngines

/-- Settles O38: each answer packet by the lemma of its row, then ACK_SEND and E2E_RETRANSMIT. -/
theorem packetAnswers : Obligations.PacketAnswers := by
  unfold Obligations.PacketAnswers
  refine ⟨fun p dst h data s => ?packets, fun p pix s behind => ?ackSend, fun p pix s => e2eRetransmit_completes⟩
  case packets =>
    intro k e src ours here
    refine ⟨fun (foreign : e.dstSession ≠ _) => ⟨fun row => ?_, fun row => ?_, fun row => ?_, fun row => ?_⟩,
      fun mine => ⟨?loadRsp, ?atomicRsp, ?ack, ?stale, ?refused⟩⟩
    · change execLoadRsp p dst h data s = _
      exact packetRow_foreign here row foreign
    · change execAtomicRsp p dst h s = _
      exact packetRow_foreign here row foreign
    · change execAck p dst h s = _
      exact packetRow_foreign here row foreign
    · change execNak p dst h s = _
      exact packetRow_foreign here row foreign
    case loadRsp =>
      intro a x l t th c row waits who thread access served sound
      exact ⟨_, loadRsp_exec here row mine waits who sound, response_answers k waits thread access served _⟩
    case atomicRsp =>
      intro a x l t th c row waits who thread access served
      exact ⟨_, atomicRsp_exec here row mine waits who, response_answers e waits thread access served _⟩
    case ack =>
      intro row
      obtain ⟨t, next, out, kept⟩ := ack_completes here row mine
      refine ⟨t, next, ?_⟩
      dsimp only
      rw [show t.e2eOut p src = _ from out]
      exact ⟨rfl, rfl, rfl, rfl, kept⟩
    case stale =>
      intro row stale
      obtain ⟨t, next, out, kept⟩ := nak_stale_completes here row mine stale
      refine ⟨t, next, ?_⟩
      dsimp only
      rw [show t.e2eOut p src = _ from out]
      exact ⟨rfl, rfl, rfl, rfl, kept⟩
    case refused =>
      intro a x l t th c row fresh sound waits who thread access served
      exact ⟨_, nak_refused_exec here row mine fresh sound waits who,
        answerThread_answered (unawait_keeps s p a) thread access served _⟩
  case ackSend =>
    obtain ⟨i, kept, sent⟩ := sendAck_effect s p pix
    refine ⟨_, guarded_next (decide_eq_true behind), ?_, ?_, sent, kept.sameMemory, kept.sameEngines⟩
    · rw [i]
    · rw [i]

end Sys2Proof.Proofs
end

section
/-! PROOFS. RDMA operations that reach a service port (09 R365, R366; 11 R403): writes, reads and atomics of a far device on SRAM,
a SEMSIG by SEND, and what a host may not reach. -/

namespace Sys2Proof.Proofs

open Sys2Proof.Machine Sys2Proof.Laws

/-! ### Queue pairs -/

section

variable {s : State} {p : Nat} {qp : BitVec 24} {i c : Nat}

theorem onPeer_far (peer : s.peer p qp = .far i) (host far : Nat → State) : s.onPeer p qp host far = .next (far i) := by
  unfold State.onPeer
  rw [peer]

theorem onPeer_host (peer : s.peer p qp = .host c) (host far : Nat → State) : s.onPeer p qp host far = .next (host c) := by
  unfold State.onPeer
  rw [peer]

end

/-! ### Nothing leaves the part at an access to SRAM -/

theorem landed_out (s : State) (p a : Nat) : (s.landed p a).out = s.out := by
  unfold State.landed
  split
  · rfl
  · split
    · rfl
    · rw [ite_out, countSat_out, wr_out, flag_out, ite_self]

theorem sramRead_out (s : State) (a : Nat) : (s.sramRead a).1.out = s.out := by
  have noted (t : State) (w : Nat) (ue : Bool) : (t.srmLast a w ue).out = t.out := by
    unfold State.srmLast
    rw [wr_out, wr_out, wr_out]
  have fixed (t : State) (f : Tab (List Nat)) : ({ t with sramFix := f } : State).out = t.out := rfl
  have counted (t : State) (p u : Nat) : (t.noteUe p u).out = t.out := rfl
  unfold State.sramRead
  dsimp only
  split
  · split <;> rw [ite_out, record_out, fixed, noted, count_out, ite_self]
  · split
    · rw [ite_out, record_out, fixed, noted, count_out, ite_self]
    · dsimp only
      rw [record_out, counted, noted, count_out, setSramSide_out, ite_out, record_out, fixed, noted, count_out, ite_self]

theorem writeGran_sram_out {s t : State} {p a : Nat} {g : Gran} {check : BitVec 16} (home : s.home p a = .sram a)
    (h : s.writeGran p a g check = some t) : t.out = s.out := by
  unfold State.writeGran at h
  rw [home] at h
  rw [← Option.some.inj h, landed_out]
  rfl

/-! ### SRAM by granules and by words -/

theorem putBytes_nil (s : State) (p a : Nat) : ∀ n, s.putBytes p a n [] = s
  | 0 => rfl
  | _ + 1 => rfl

/-- Bytes that are one granule of SRAM are written whole (R365). -/
theorem putBytes_sram {s : State} {p a : Nat} {bs : List Byte} (length : bs.length = 64) (aligned : a % 64 = 0)
    (home : s.home p a = .sram a) : let t := s.putBytes p a (64 + 1) bs
    StoresBytes s t a bs ∧ SameEngines s t ∧ t.out = s.out := by
  let g : Gran := BitVec.ofNat 512 (ofLE bs)
  obtain ⟨t, write, bytes, engines⟩ := writeGran_sram g (granCheck g) aligned home
  have put : s.putBytes p a (64 + 1) bs = t := by
    unfold State.putBytes
    have full : bs.isEmpty = false := by
      rw [List.isEmpty_eq_false_iff]
      rintro rfl
      exact absurd length (by decide)
    rw [full, if_neg (by decide), aligned]
    dsimp only
    rw [List.take_of_length_le (Nat.le_of_eq length), if_pos ⟨rfl, length⟩, List.drop_of_length_le (Nat.le_of_eq length),
      putBytes_nil]
    exact congrArg (Option.getD · s) write
  rw [put]
  refine ⟨fun x => ?_, engines, writeGran_sram_out home write⟩
  rw [bytes, length]
  split
  · rw [byteAt_ofNat (by omega), byteAt_ofLE]
  · rfl

/-- A granule of SRAM that passes its check is read for the outside as its bytes (R365, R463). -/
theorem readOut_sram {s : State} {p a : Nat} (aligned : a % 64 = 0) (home : s.home p a = .sram a)
    (sound : (s.sramRead a).2.check = granCheck (s.sramRead a).2.data) :
    s.readOut p a 64 = ((s.sramRead a).1, some (toLE 64 (s.sramRead a).2.data.toNat)) := by
  have base : a / 64 * 64 = a := by omega
  have one : (a + 64 + 63) / 64 - a / 64 = 0 + 1 := by omega
  have read : s.readGran p a = some (s.sramRead a) := by
    unfold State.readGran
    rw [home]
    dsimp only
    rw [base]
  unfold State.readOut
  rw [base, one, aligned]
  unfold State.loadGrans
  have whole (x : Nat) : (toLE 64 x).take 64 = toLE 64 x := List.take_of_length_le (Nat.le_of_eq (length_toLE 64 x))
  rw [read]
  simp only [State.loadGrans, Option.map_some, List.all_cons, List.all_nil, sound, beq_self_eq_true, Bool.and_self,
    if_true, checkedBytes, List.flatMap_cons, List.flatMap_nil, List.append_nil, List.drop_zero, whole]

/-- An atomic on a word of SRAM whose granule passes its check (R229, R230): the old value, the result stored, no other byte and no
engine changed. -/
theorem atomic_sram {s : State} {p a : Nat} (room : a % 64 + 8 ≤ 64) (home : s.home p a = .sram a)
    (base : s.home p (a / 64 * 64) = .sram (a / 64 * 64)) (ok : (s.sramRead (a / 64 * 64)).2.ok = true) (op v c : Nat) :
    let old := bits (s.sramRead (a / 64 * 64)).2.data.toNat (8 * (a % 64)) 64
    ∃ t, s.atomic p a op true v c = some (t, some old) ∧ StoresBytes s t a (toLE 8 (atomicResult op true old v c)) ∧
      SameEngines s t ∧ t.out = s.out := by
  intro old
  have read : s.readGran p a = some (s.sramRead (a / 64 * 64)) := by
    unfold State.readGran
    rw [home]
  obtain ⟨t, part, bytes, engines⟩ := writePart_sram (bs := toLE 8 (atomicResult op true old v c)) (by rwa [length_toLE]) home
    base ok
  unfold State.writePart at part
  rw [read] at part
  dsimp only at part
  rw [ok, if_neg (by decide), Option.map_eq_some_iff] at part
  obtain ⟨u, write, e⟩ := part
  obtain rfl : u = t := congrArg Prod.fst e
  refine ⟨u, ?_, bytes, engines, ?_⟩
  · unfold State.atomic
    rw [read]
    dsimp only
    rw [ok, if_neg (by decide), if_pos rfl, write]
    rfl
  · rw [writeGran_sram_out (((sramRead_keeps s _).home _ _).trans base) write, sramRead_out]

/-! ### A far device's operations -/

theorem arriving_signal (s : State) (n sem x : Nat) :
    ((s.signal n sem x).core n).arriving = (s.core n).arriving ++ [(sem, x)] := congrArg Core.arriving (core_updCore_same s n _)

/-- An atomic on a sound aligned word of SRAM stores its result and answers the old value (R365). -/
theorem farAtomic_effect {s : State} {va : BitVec 64} (p : Nat) (qp : BitVec 24) (aligned : va.toNat % 8 = 0)
    (inside : s.vaMemory p va 8 = true) (home : s.home p (vaLocal va) = .sram (vaLocal va))
    (base : s.home p (vaLocal va / 64 * 64) = .sram (vaLocal va / 64 * 64))
    (ok : (s.sramRead (vaLocal va / 64 * 64)).2.ok = true) (op v c : Nat) :
    let old := bits (s.sramRead (vaLocal va / 64 * 64)).2.data.toNat (8 * (vaLocal va % 64)) 64
    let t := s.farAtomic p qp va op v c
    StoresBytes s t (vaLocal va) (toLE 8 (atomicResult op true old v c)) ∧ t.out = s.out ++ [.roceAtomic p qp.toNat old] ∧
      SameEngines s t := by
  have room : vaLocal va % 64 + 8 ≤ 64 := by
    have low : vaLocal va = va.toNat % 2 ^ 41 := rfl
    omega
  obtain ⟨t, atomic, bytes, engines, quiet⟩ := atomic_sram room home base ok op v c
  intro old u
  have done : u = t.emit (.roceAtomic p qp.toNat old) := by
    simp only [u]
    unfold State.farAtomic
    rw [if_neg (not_not_intro aligned), inside, if_neg (by decide), atomic]
  rw [done]
  exact ⟨bytes, congrArg (· ++ _) quiet, engines⟩

section

variable {s : State} {p : Fin 2} {qp : BitVec 24} {rkey : BitVec 32} {va : BitVec 64} {i : Nat} (peer : s.peer p qp = .far i)

include peer

theorem rdmaWrite_exec_far (data : List Byte) : exec (.rdmaWrite p qp rkey va data) s =
    .next (if s.vaMemory p va data.length then (s.putBytes p (vaLocal va) (data.length + 1) data).emit (.roceAck p qp.toNat)
      else s.nakAccess p qp) := onPeer_far peer _ _

theorem rdmaWrite_completes {data : List Byte} (length : data.length = 64) (aligned : vaLocal va % 64 = 0)
    (inside : s.vaMemory p va 64 = true) (home : s.home p (vaLocal va) = .sram (vaLocal va)) :
    Completes (.rdmaWrite p qp rkey va data) s fun t => StoresBytes s t (vaLocal va) data ∧
      t.out = s.out ++ [.roceAck p qp.toNat] ∧ SameEngines s t := by
  obtain ⟨bytes, engines, quiet⟩ := putBytes_sram length aligned home
  refine ⟨_, (rdmaWrite_exec_far peer data).trans (congrArg _ (if_pos (length ▸ inside))), ?_⟩
  rw [length]
  exact ⟨bytes, congrArg (· ++ _) quiet, engines⟩

theorem rdmaRead_outside {n : Nat} (outside : s.vaMemory p va n = false) :
    exec (.rdmaRead p qp rkey va n) s = .next (s.emit (.roceNak p qp.toNat 2)) := by
  change execRdmaRead p qp rkey va n s = _
  unfold execRdmaRead
  rw [onPeer_far peer, outside]
  rfl

theorem rdmaRead_completes (aligned : vaLocal va % 64 = 0) (inside : s.vaMemory p va 64 = true)
    (home : s.home p (vaLocal va) = .sram (vaLocal va))
    (sound : (s.sramRead (vaLocal va)).2.check = granCheck (s.sramRead (vaLocal va)).2.data) :
    Completes (.rdmaRead p qp rkey va 64) s fun t =>
      t.out = s.out ++ [.roceData p qp.toNat (toLE 64 (s.sramRead (vaLocal va)).2.data.toNat)] ∧ SameMemory s t ∧
        SameEngines s t := by
  have kept := sramRead_keeps s (vaLocal va)
  change Yields (execRdmaRead p qp rkey va 64 s) _
  unfold execRdmaRead
  rw [onPeer_far peer, inside, readOut_sram aligned home sound]
  exact .next ⟨congrArg (· ++ _) (sramRead_out s _), kept.sameMemory, kept.sameEngines⟩

theorem fetchAdd_exec_far (v : BitVec 64) : exec (.fetchAdd p qp va v) s = .next (s.farAtomic p qp va 0 v.toNat 0) :=
  onPeer_far peer _ _

theorem cmpSwap_exec_far (c v : BitVec 64) : exec (.cmpSwap p qp va c v) s = .next (s.farAtomic p qp va 3 v.toNat c.toNat) :=
  onPeer_far peer _ _

theorem roceSend_semsig_completes {h : BitVec 512} (row : (packetOf h []).op = 4) (core : (packetOf h []).addr % 1024 < 64)
    (own : s.partOfCore ((packetOf h []).addr % 1024) = p) : Completes (.roceSend p qp h) s fun t =>
      let k := packetOf h []
      (t.core (k.addr % 1024)).arriving = (s.core (k.addr % 1024)).arriving ++ [(bits k.opv 0 6, bits k.opv 6 16)] ∧
      (∃ r : Packet, t.out = s.out ++ [.roceSend p qp.toNat r] ∧ r.op = 7 ∧ r.tag = k.tag) ∧ t.regs = s.regs ∧
      SameMemory s t := by
  have performed : s.perform p (packetOf h []) = (s.signal ((packetOf h []).addr % 1024) (bits (packetOf h []).opv 0 6)
      (bits (packetOf h []).opv 6 16), .ok 0) := by
    unfold State.perform State.doSemsig
    rw [row, if_neg (by decide), if_neg (by decide), if_neg (by omega)]
  change Yields (execRoceSend p qp h s) _
  unfold execRoceSend
  dsimp only
  rw [onPeer_far peer, if_pos (.inr row), performed, row]
  dsimp only
  refine .next ⟨?_, ⟨_, rfl, rfl, rfl⟩, rfl, fun _ => rfl⟩
  exact arriving_signal s _ _ _

end

/-- The result of FETCH_ADD (R365). -/
theorem atomicResult_add {old : Nat} (h : old < 2 ^ 64) (v : BitVec 64) :
    atomicResult 0 true old v.toNat 0 = (old + v.toNat) % 2 ^ 64 := by
  change (old % 2 ^ 64 + v.toNat % 2 ^ 64) % 2 ^ 64 = _
  rw [Nat.mod_eq_of_lt h, Nat.mod_eq_of_lt v.isLt]

/-- The result of CMP_SWAP (R365). -/
theorem atomicResult_cas {old : Nat} (h : old < 2 ^ 64) (v c : BitVec 64) :
    atomicResult 3 true old v.toNat c.toNat = if old = c.toNat then v.toNat else old := by
  have whole : old % 18446744073709551616 = old := Nat.mod_eq_of_lt h
  simp [atomicResult, whole, Nat.mod_eq_of_lt v.isLt, Nat.mod_eq_of_lt c.isLt]

theorem farAtomic_misaligned {s : State} {va : BitVec 64} (misaligned : va.toNat % 8 ≠ 0) (p : Nat) (qp : BitVec 24)
    (op v c : Nat) : s.farAtomic p qp va op v c = s.emit (.roceNak p qp.toNat 1) := if_pos misaligned

/-! ### What a host may not reach -/

section

variable {s : State} {p : Fin 2} {qp : BitVec 24} {rkey : BitVec 32} {va : BitVec 64} {c : Nat} (peer : s.peer p qp = .host c)
  (noReg : rkey.toNat ≠ (s.conn p c).regKey) (noDb : rkey.toNat ≠ (s.conn p c).dbKey)

include peer noReg noDb

theorem rdmaWrite_foreignKey (data : List Byte) :
    exec (.rdmaWrite p qp rkey va data) s = .next (s.emit (.roceNak p qp.toNat 2)) := by
  change execRdmaWrite p qp rkey va data s = _
  unfold execRdmaWrite
  dsimp only
  rw [onPeer_host peer, if_neg fun h => noReg h.1, if_neg fun h => noDb h.1]
  rfl

theorem rdmaRead_foreignKey (n : Nat) :
    exec (.rdmaRead p qp rkey va n) s = .next (s.emit (.roceNak p qp.toNat 2)) := by
  change execRdmaRead p qp rkey va n s = _
  unfold execRdmaRead
  dsimp only
  rw [onPeer_host peer, if_neg fun h => noReg h.1, if_neg fun h => noDb h.1]
  rfl

end

/-- Settles O40: a far device's write, read, atomics and SEMSIG, each by the lemma of its row, and a host's operations outside its
regions. -/
theorem remoteMemoryAccess : Obligations.RemoteMemoryAccess := by
  unfold Obligations.RemoteMemoryAccess
  intro p qp rkey va s a told
  refine ⟨fun i far => ⟨fun data outside => ?outside, fun data => rdmaWrite_completes far, ?read,
    fun n => rdmaRead_outside far, ?atomics, fun misaligned c v => ?misaligned, fun h => ?send⟩,
    fun c host => ⟨fun e v => ?_, ?keys⟩⟩
  case outside => exact (rdmaWrite_exec_far far data).trans (congrArg _ (if_neg (by rw [outside]; decide)))
  case read => exact fun inside aligned home sound => rdmaRead_completes far aligned inside home sound
  case atomics =>
    intro aligned inside home base ok old
    have effect := farAtomic_effect p qp aligned inside home base ok
    refine ⟨fun v => ?_, fun c v => ?_⟩
    · obtain ⟨bytes, answered, engines⟩ := effect 0 v.toNat 0
      rw [atomicResult_add (bits_lt _ _ _)] at bytes
      exact ⟨_, fetchAdd_exec_far far v, bytes, answered, engines⟩
    · obtain ⟨bytes, answered, engines⟩ := effect 3 v.toNat c.toNat
      rw [atomicResult_cas (bits_lt _ _ _)] at bytes
      exact ⟨_, cmpSwap_exec_far far c v, bytes, answered, engines⟩
  case misaligned =>
    exact ⟨(fetchAdd_exec_far far v).trans (congrArg _ (farAtomic_misaligned misaligned _ _ _ _ _)),
      (cmpSwap_exec_far far c v).trans (congrArg _ (farAtomic_misaligned misaligned _ _ _ _ _))⟩
  case send => exact roceSend_semsig_completes far
  case keys => exact fun noReg noDb => ⟨rdmaWrite_foreignKey host noReg noDb, rdmaRead_foreignKey host noReg noDb⟩
  exact ⟨onPeer_host host _ _, onPeer_host host _ _⟩

end Sys2Proof.Proofs
end

section
/-! PROOFS. Queue pairs and service ports (09 R323, R364–R366; 11 R412; 12 R452): answers to this package's own operations, a failed
queue pair, PCS lock, congestion, flow control and router advertisements. -/

namespace Sys2Proof.Proofs

open Sys2Proof.Machine Sys2Proof.Laws

/-! ### Answers -/

theorem roceAck_exec {s : State} {p : Fin 2} {qp : BitVec 24} (stands : s.peer p qp ≠ .none) (seq : Nat) :
    exec (.roceAck p qp seq) s = .next (s.acked p (s.peer p qp).key seq) := by
  change execRoceAck p qp seq s = _
  unfold execRoceAck State.onPeer
  cases peer : s.peer p qp with
  | host c => rfl
  | far i => rfl
  | none => exact absurd peer stands

section

variable {s : State} {p : Fin 2} {qp : BitVec 24} {i : Nat} {a : Await} {x l t : Nat} {th : Thread} {c : Narrow}

theorem unawait_lone (lone : (s.part p).awaits = [a]) : ((s.unawait p a).part p).awaits = [] := by
  rw [part_unawait, lone]
  simp [removeAt, List.findIdx_cons]

/-- The one request a queue pair waits for is taken; its answer acknowledges what went before it (R365). -/
theorem taken_keepsThreads (lone : (s.part p).awaits = [a]) (key v : Nat) :
    KeepsThreads s ((s.unawait p a).acked p key v) ∧ (((s.unawait p a).acked p key v).part p).awaits = [] := by
  obtain ⟨kept, empty⟩ := acked_keepsThreads (unawait_lone lone) key v
  exact ⟨(unawait_keeps s p a).trans kept, empty⟩

variable (peer : s.peer p qp = .far i) (who : a.who = .thread x l t) (thread : s.thread? x l t = some th)
  (access : th.access = some c) (served : s.contained (s.partOfTile (x / 2)) = false) (lone : (s.part p).awaits = [a])
  (entry : a.pix = 1024 + i)

include peer who thread access served lone entry

theorem rdmaReadResponse_completes {data : List Byte} (read : a.packet.op = 1) (size : a.packet.bytes = 8) :
    Completes (.rdmaReadResponse p qp data) s fun u => (u.part p).awaits = [] ∧ SameMemory s u ∧ u.regs = s.regs ∧
      u.thread? x l t = some { th with access := some { c with answer := some (.value (leAt data 0 8)) } } := by
  have first : (s.part p).awaits.find? (fun a => a.pix == 1024 + i && a.packet.op == 1) = some a := by
    rw [lone]
    simp [entry, read]
  have taken : let v := if a.packet.seq = 0 then s.unawait p a else (s.unawait p a).acked p (1024 + i) a.packet.seq
      KeepsThreads s v ∧ (v.part p).awaits = [] := by
    dsimp only
    split
    · exact ⟨unawait_keeps s p a, unawait_lone lone⟩
    · exact taken_keepsThreads lone _ _
  obtain ⟨kept, empty⟩ := taken
  obtain ⟨answer, mem, regs⟩ := answerThread_answered kept thread access served (.value (leAt data 0 8))
  change Yields (execRdmaReadResponse p qp data s) _
  unfold execRdmaReadResponse
  dsimp only
  rw [onPeer_far peer, first]
  dsimp only
  unfold State.deliverRead
  rw [who]
  dsimp only
  rw [if_pos rfl, size, if_neg (show ¬ 8 = 0 by decide)]
  refine .next ⟨?_, mem, regs, answer⟩
  rw [(answerThread_only _ x l t _).part, empty]

theorem atomicAcknowledge_completes {old : BitVec 64} (atomic : a.packet.op = 3) :
    Completes (.atomicAcknowledge p qp old) s fun u => (u.part p).awaits = [] ∧ SameMemory s u ∧ u.regs = s.regs ∧
      u.thread? x l t = some { th with access := some { c with answer := some (.value old.toNat) } } := by
  have first : (s.part p).awaits.find? (fun a => a.pix == 1024 + i && a.packet.op == 3) = some a := by
    rw [lone]
    simp [entry, atomic]
  obtain ⟨kept, empty⟩ := taken_keepsThreads lone (1024 + i) a.packet.seq
  obtain ⟨answer, mem, regs⟩ := answerThread_answered kept thread access served (.value old.toNat)
  change Yields (execAtomicAcknowledge p qp old s) _
  unfold execAtomicAcknowledge
  dsimp only
  rw [onPeer_far peer, first]
  dsimp only
  rw [who]
  refine .next ⟨?_, mem, regs, answer⟩
  rw [(answerThread_only _ x l t _).part, empty]

end

/-! ### A queue pair that fails, and congestion -/

theorem transferData_failed_part (s : State) (n p id i : Nat) : (s.transferData n p id i none).part = s.part := by
  unfold State.transferData
  split
  · rfl
  · rfl

/-- Ending what waits for a queue pair leaves the record of the requests sent. -/
theorem failAwaits_e2eOut (s : State) (p key pix : Nat) : (s.failAwaits p key).e2eOut p pix = s.e2eOut p pix := by
  unfold State.failAwaits
  extract_lets l u
  have forgotten : (u.part p).e2eOut = (s.part p).e2eOut := by
    rw [show u.part p = _ from part_updPart_same s p _]
  refine e2eOut_of_part (Eq.trans (congrArg (fun q : Nat → Part => (q p).e2eOut) ?_) forgotten) pix
  refine foldl_keeps_view State.part _ _ (fun b a _ => ?_) u
  split
  · exact transferData_failed_part _ _ _ _ _
  · exact (answerThread_only _ _ _ _ _).part
  · rfl

theorem qpRetryExhaustion_completes {p : Fin 2} {i : Fin 4096} {s : State} (used : (s.farEntry p i).testBit 156 = true) :
    Completes (.qpRetryExhaustion p i) s fun t => (t.e2eOut p (1024 + i)).unacked = [] ∧
      (t.e2eOut p (1024 + i)).lost = (s.e2eOut p (1024 + i)).lost ++ (s.e2eOut p (1024 + i)).unacked ∧
      (t.part p).raised ≠ [] := by
  have out : (s.farFails p i).e2eOut p (1024 + i) = lostAll (s.e2eOut p (1024 + i)) := by
    unfold State.farFails
    rw [e2eOut_record, failAwaits_e2eOut, (loseRequests_effect s p (1024 + i)).1]
  refine ⟨s.farFails p i, guarded_next used, ?_, ?_, ?_⟩
  · rw [out]
    rfl
  · rw [out]
    rfl
  · obtain ⟨r, raised, -⟩ := record_raises ((s.loseRequests p (1024 + i)).failAwaits p (1024 + i)) p 4 10 i 0xFF 0 0 0 0 false
    exact List.ne_nil_of_mem raised

theorem mod_max_one_le (x n : Nat) : x % max n 1 ≤ n := by
  have := Nat.mod_lt x (show 0 < max n 1 by omega)
  omega

theorem congestionNotification_completes {p : Fin 2} {i : Fin 4096} {s : State} (used : (s.farEntry p i).testBit 156 = true) :
    Completes (.congestionNotificationPacket p i) s fun t =>
      let rate : Nat → Nat := fun _ => 2 ^ 32
      tabGet rate (t.part p).rates i ≤ tabGet rate (s.part p).rates i ∧
      (∀ j, j ≠ i.val → tabGet rate (t.part p).rates j = tabGet rate (s.part p).rates j) ∧ t.regs = s.regs ∧
      SameMemory s t ∧ SameEngines s t := by
  change Yields (execCongestionNotificationPacket p i s) _
  unfold execCongestionNotificationPacket
  extract_lets rate old f
  have drawn : KeepsStore s f.2 := ⟨rfl, rfl, rfl⟩
  refine ⟨_, guarded_next used, ?_, fun j ne => ?_, updPart_regs _ _ _, drawn.updPart.sameMemory, drawn.updPart.sameEngines⟩
  · rw [part_updPart_same]
    exact Nat.le_trans (Nat.le_of_eq (tabGet_tabSet_same rate _ _ _)) (mod_max_one_le _ _)
  · rw [part_updPart_same]
    exact tabGet_tabSet_ne rate _ _ _ _ ne

/-! ### PCS lock -/

theorem testBit_set {w b : Nat} (h : b < w) (x : Nat) : ((x ||| 2 ^ b) % 2 ^ w).testBit b = true := by
  simp [Nat.testBit_mod_two_pow, h]

theorem pcsLockGained_completes {o lane : Fin 4} {s : State} (lit : s.spLit o = true) (carries : s.spLane o lane = true) :
    Completes (.pcsLockGained o lane) s fun t =>
      (t.rd F.OE_SP_STS_pcs_lock 0 o).testBit lane = true ∧ SameMemory s t ∧ SameEngines s t := by
  have narrow : lane.val < F.OE_SP_STS_pcs_lock.width := lane.isLt
  change Yields (execPcsLockGained o lane s) _
  unfold execPcsLockGained
  extract_lets bit u
  have kept : KeepsStore s u := .wr (.refl s)
  refine ⟨_, guarded_next (by rw [lit, carries]; rfl), ?_, kept.wr.sameMemory, kept.wr.sameEngines⟩
  rw [rd_wr_same _ _ _ _ _ _ _ (by decide)]
  exact testBit_set narrow _

/-- Clearing a bit of a field's value leaves less than the field holds. -/
theorem pcsLock_cleared (s : State) (o lane : Nat) : let left := s.rd F.OE_SP_STS_pcs_lock 0 o - 2 ^ lane
    (s.wr F.OE_SP_STS_pcs_lock left 0 o).rd F.OE_SP_STS_pcs_lock 0 o = left := by
  intro left
  rw [rd_wr_same _ _ _ _ _ _ _ (by decide)]
  exact Nat.mod_eq_of_lt (Nat.lt_of_le_of_lt (Nat.sub_le _ _) (rd_lt _ _ _ _ _ _))

theorem pcsLockLoss_exec {o lane : Fin 4} {s : State} (locked : (s.rd F.OE_SP_STS_pcs_lock 0 o).testBit lane = true) :
    let u := s.wr F.OE_SP_STS_pcs_lock (s.rd F.OE_SP_STS_pcs_lock 0 o - 2 ^ lane.val) 0 o
    exec (.pcsLockLoss o lane) s = .next (if u.spLocked o then u else u.portConnsFail o) := by
  have odd : s.rd F.OE_SP_STS_pcs_lock 0 o / 2 ^ lane.val % 2 = 1 := by
    rwa [Nat.testBit_eq_decide_div_mod_eq, decide_eq_true_eq] at locked
  refine guarded_next (beq_iff_eq.mpr ?_)
  unfold bits
  rw [Nat.shiftRight_eq_div_pow]
  exact odd

/-- Settles O41: each row by the lemma of its own section. -/
theorem queuePairEvents : Obligations.QueuePairEvents := by
  unfold Obligations.QueuePairEvents
  refine ⟨fun p qp seq s => ?ack, fun p qp data old s i a x l t th c peer who thread access served lone => ?answers,
    fun p i s used => ⟨qpRetryExhaustion_completes used, congestionNotification_completes used⟩,
    fun o lane s => pcsLockGained_completes, fun o lane s locked => ?loss, fun o prio pause s => ?pause,
    fun o router life s => ?router⟩
  case ack =>
    intro key stands
    obtain ⟨out, mem, cores, regs⟩ := acked_effect s p key seq
    refine ⟨_, roceAck_exec stands seq, ?_, ?_, cores, regs, fun a => ?_⟩
    · rw [out]
      rfl
    · rw [out]
      rfl
    · unfold State.byte
      rw [mem]
  case answers =>
    exact ⟨fun entry read _ size => rdmaReadResponse_completes peer who thread access served lone entry read size,
      fun entry atomic => atomicAcknowledge_completes peer who thread access served lone entry atomic⟩
  case loss =>
    intro left u
    have lock : u.rd F.OE_SP_STS_pcs_lock 0 o = left := pcsLock_cleared s o lane
    have kept : KeepsStore s u := .wr (.refl s)
    refine ⟨lock, fun others => ⟨?_, kept.sameMemory, kept.sameEngines⟩, fun last => ?_⟩
    · exact (pcsLockLoss_exec locked).trans (congrArg _ (if_pos (bne_iff_ne.mpr (lock ▸ others))))
    · exact (pcsLockLoss_exec locked).trans (congrArg _ (if_neg (by unfold State.spLocked; rw [lock, last]; decide)))
  case pause =>
    refine ⟨fun same => ⟨_, if_pos same, ?_, fun j ne => tabGet_tabSet_ne natDefault _ _ _ _ ne, rfl, fun _ => rfl⟩,
      fun other => if_neg other⟩
    exact tabGet_tabSet_same natDefault _ _ _
  case router =>
    exact ⟨_, rfl, tabGet_tabSet_same routerDefault _ _ _, fun j ne => tabGet_tabSet_ne routerDefault _ _ _ _ ne, rfl,
      fun _ => rfl, rfl, rfl⟩

end Sys2Proof.Proofs
end

section
/-! PROOFS. Sequenced requests (09 R356–R360): a STORE of some bytes that carries a granule more than it stores is refused where that
granule would lie outside memory. -/

namespace Sys2Proof.Proofs

open Sys2Proof.Machine Sys2Proof.Laws

/-- The first of the bytes stored is read at their address. -/
theorem storesBytes_first {s t : State} {a : Nat} {bs : List Byte} (stored : StoresBytes s t a bs) (pos : 0 < bs.length) :
    t.byte a = bs.getD 0 0 := by
  rw [stored a, if_pos ⟨Nat.le_refl a, Nat.lt_add_of_pos_right pos⟩, Nat.sub_self]

/-- The last granule of SRAM: the addresses above it name no memory (R246). -/
def lastGranule : Nat := sramBase + 16 * tileBytes - 64

/-- A STORE of eight bytes to the last granule of SRAM, the first request of PIX 0, with two granules of data. -/
def overlongStore : Packet := { emptyPacket with op := 2, seq := 1, bytes := 8, addr := lastGranule, data := [(1, 0), (1, 0)] }

/-- An EID of the package after reset, where no placement has given it a PIX. -/
def resetEid : BitVec 24 := 0x3FFF * 1024

theorem overlongStore_premises : let s := State.reset
    let k := packetOf overlongStore.header overlongStore.data
    let inn := s.e2eIn 0 (k.srcEid / 1024)
    (k.op = 2 ∧ s.portsOf 0 ≠ [] ∧ resetEid.toNat / 1024 = s.ownPix 0) ∧ k.dstSession = 0 ∧ inn.session = k.srcSession ∧
    s.stalePacket 0 k = false ∧ k.seq = inn.performed + 1 ∧ inn.window = [] ∧ 0 < k.bytes ∧ k.local % k.bytes = 0 ∧
    k.local % 64 + k.bytes ≤ 64 ∧ s.home 0 k.local = .sram k.local ∧ (s.sramRead (k.local / 64 * 64)).2.ok = true := by
  decide +kernel

/-- It is performed as one with two granules, of which the second is no memory: a NAK, and the first byte stays 0, not 1. -/
theorem overlongStore_refused : let k := packetOf overlongStore.header overlongStore.data
    let bytes := granBytes (overlongStore.data.headD (0, 0)).1 0 k.bytes
    (State.reset.perform 0 k).2 = .nak 3 ∧ (State.reset.takeSeq 0 k).byte k.local = 0 ∧ 0 < bytes.length ∧
    bytes.getD 0 0 = 1 := by decide +kernel

/-- Refutes O37: the clause of a STORE of some bytes does not bound the granules its packet carries, and one whose second granule
would lie past the end of SRAM is answered with a NAK and stores nothing. -/
theorem not_packetRequests : ¬ Obligations.PacketRequests := by
  unfold Obligations.PacketRequests
  intro claim
  obtain ⟨⟨row, ports, dest⟩, session, known, young, next, window, part, aligned, room, home, ok⟩ :=
    overlongStore_premises
  obtain ⟨-, unstored, bytes, one⟩ := overlongStore_refused
  obtain ⟨-, accepted⟩ := claim 0 resetEid overlongStore.header overlongStore.data State.reset 2 _ (.inl ⟨rfl, rfl⟩) row ports dest
  obtain ⟨-, inOrder⟩ := accepted (.inl session)
  obtain ⟨-, -, -, -, narrow, -⟩ := inOrder known young
  obtain ⟨t, exec, stored, -⟩ := narrow rfl next window part aligned room home ok
  have taken : t = State.reset.takeSeq 0 (packetOf overlongStore.header overlongStore.data) := by
    change execStore 0 _ _ _ _ = _ at exec
    unfold execStore at exec
    exact (Host.Outcome.next.inj ((packetRow_next ⟨ports, dest⟩ row _).symm.trans exec)).symm
  have read := storesBytes_first stored bytes
  rw [taken] at read
  exact absurd (unstored.symm.trans (read.trans one)) (by decide)

end Sys2Proof.Proofs
end

section
/-! SUPPORT. HBM channels (07 R259–R269, R279–R282): what a refresh of a bank, an error taken on, a correction and the traffic
generator's steps do to the channel, its registers and storage, and what they leave. -/

namespace Sys2Proof.Proofs

open Sys2Proof.Machine Sys2Proof.Laws

/-! ### Frames -/

theorem KeepsStore.updChan {s t : State} {c : Nat} {f : Chan → Chan} (h : KeepsStore s t) : KeepsStore s (t.updChan c f) :=
  h.trans ⟨rfl, rfl, rfl⟩

theorem ChangesOnly.updChan {K : Nat → Prop} {s t : State} {c : Nat} {f : Chan → Chan} (h : ChangesOnly K s t) :
    ChangesOnly K s (t.updChan c f) := h.trans ⟨.updChan (.refl t), rfl, fun _ _ _ _ _ _ => rfl⟩

/-- Every byte outside storage granule `ph` reads as before, and the engines are as before. -/
structure KeepsOutside (ph : Nat) (s t : State) : Prop where
  byte : ∀ a, ¬ (ph * 64 ≤ a ∧ a < ph * 64 + 64) → t.byte a = s.byte a
  engines : SameEngines s t

namespace KeepsOutside

variable {ph : Nat} {s t u : State}

theorem refl (ph : Nat) (s : State) : KeepsOutside ph s s := ⟨fun _ _ => rfl, rfl, rfl⟩

theorem trans (h : KeepsOutside ph s t) (g : KeepsOutside ph t u) : KeepsOutside ph s u :=
  ⟨fun a n => (g.byte a n).trans (h.byte a n), g.engines.1.trans h.engines.1, g.engines.2.trans h.engines.2⟩

theorem store (h : KeepsOutside ph s t) (g : KeepsStore t u) : KeepsOutside ph s u :=
  h.trans ⟨fun a _ => g.sameMemory a, g.sameEngines⟩

theorem putRaw (h : KeepsOutside ph s t) (x : Gran) : KeepsOutside ph s (t.putRaw (ph * 64) x) := by
  refine h.trans ⟨fun a n => ?_, rfl, rfl⟩
  rw [byte_putRaw, length_toLE, if_neg n]

theorem setHbmSide (h : KeepsOutside ph s t) (x : Nat) (v : BitVec 128) : KeepsOutside ph s (t.setHbmSide x v) :=
  h.store ⟨rfl, rfl, rfl⟩

end KeepsOutside

/-- A flag set leaves a field of its own register beside it, if its counter lies in another register. -/
theorem rd_flag_beside {s : State} {f c g : Fld} {p i j : Nat}
    (h : g.reg = f.reg ∧ (g.lo + g.width ≤ f.lo ∨ f.lo + f.width ≤ g.lo) ∧ g.lo + g.width ≤ 64)
    (n : g.reg.key p i j 0 ≠ c.reg.key p i j 0) : (s.flag f c p i j).rd g p i j = s.rd g p i j := by
  unfold State.flag
  rw [rd_count_ne _ _ _ _ _ _ _ _ _ _ _ _ n, rd_wr_apart h]

/-- A slip shows in SCH_EVT, whether or not it sets a freeze tick (R191, R192). -/
theorem rd_slip_evt (s : State) (p cause : Nat) : (s.slip p cause).rd F.SCH_EVT_slip p = 1 := by
  have sts : Reg.key .SCH_EVT p 0 0 0 ≠ Reg.key .SCH_STS p 0 0 0 := by rw [key_SCH_EVT, key_SCH_STS]; omega
  have slip : Reg.key .SCH_EVT p 0 0 0 ≠ Reg.key .SCH_SLIP p 0 0 0 := by rw [key_SCH_EVT, key_SCH_SLIP]; omega
  have tick : Reg.key .SCH_EVT p 0 0 0 ≠ Reg.key .SCH_SLIP_GTC p 0 0 0 := by rw [key_SCH_EVT, key_SCH_SLIP_GTC]; omega
  have freeze : Reg.key .SCH_EVT p 0 0 0 ≠ Reg.key .SCH_FREEZE p 0 0 0 := by rw [key_SCH_EVT, key_SCH_FREEZE]; omega
  have cnt : Reg.key .SCH_EVT p 0 0 0 ≠ Reg.key .SCH_EVT_CNT p 0 0 0 := by rw [key_SCH_EVT, key_SCH_EVT_CNT]; omega
  have flagged : (s.flag F.SCH_EVT_slip F.SCH_EVT_CNT_slip_cnt p).rd F.SCH_EVT_slip p = 1 :=
    rd_flag_same _ _ _ _ _ _ (by decide) (by exact cnt)
  unfold State.slip
  split
  · unfold State.ownFreeze
    dsimp only
    rw [rd_wr_ne _ _ _ _ _ _ _ _ _ _ _ _ (by exact sts), rd_wr_ne _ _ _ _ _ _ _ _ _ _ _ _ (by exact sts),
      rd_wr_ne _ _ _ _ _ _ _ _ _ _ _ _ (by exact slip), rd_wr_ne _ _ _ _ _ _ _ _ _ _ _ _ (by exact slip),
      rd_wr_ne _ _ _ _ _ _ _ _ _ _ _ _ (by exact slip), rd_setReg_ne _ _ _ _ _ _ _ _ _ _ _ _ (by exact tick),
      rd_setReg_ne _ _ _ _ _ _ _ _ _ _ _ _ (by exact freeze), updPart_rd, flagged]
  · exact flagged

/-! ### The registers of a channel -/

theorem mode_ne_mtgCtl (c : Nat) : Reg.key .MCH_STS 0 c 0 0 ≠ Reg.key .MTG_CTL 0 c 0 0 := by
  rw [key_MCH_STS, key_MTG_CTL]; omega

theorem mode_ne_mtgSts (c : Nat) : Reg.key .MCH_STS 0 c 0 0 ≠ Reg.key .MTG_STS 0 c 0 0 := by
  rw [key_MCH_STS, key_MTG_STS]; omega

theorem memEvt_ne_cnt (p : Nat) : Reg.key .MEM_EVT p 0 0 0 ≠ Reg.key .MEM_EVT_CNT p 0 0 0 := by
  rw [key_MEM_EVT, key_MEM_EVT_CNT]; omega

/-- The registers of the memory system as a whole lie apart from those of its channels. -/
theorem memEvt_apart (c : Fin 640) (p x : Nat) (low : 0x80000 + c * 0x100 ≤ x) (high : x < 0x80100 + c * 0x100) :
    Reg.key .MEM_EVT p 0 0 0 ≠ x ∧ Reg.key .MEM_EVT_CNT p 0 0 0 ≠ x := by
  have := c.isLt
  rw [key_MEM_EVT, key_MEM_EVT_CNT]
  omega

/-! ### Refresh (R259–R262) -/

/-- The gap that a refresh of a bank now ends, as max_gap shows it (R260). -/
def shownGap (s : State) (p c bank : Nat) : Nat :=
  min (s.mclkOf ((s.part p).gtc - tabGet natDefault (s.chan c).lastRef bank)) 65535

theorem refreshBank_part (s : State) (p c bank q : Nat) : (s.refreshBank p c bank).part q = s.part q := by
  unfold State.refreshBank
  rw [updChan_part, wr_part]

theorem refreshBank_keeps (s : State) (p c bank : Nat) : KeepsStore s (s.refreshBank p c bank) :=
  .updChan (.wr (.refl s))

theorem refreshBank_lastRef (s : State) (p c bank x : Nat) :
    tabGet natDefault ((s.refreshBank p c bank).chan c).lastRef x =
      if x = bank then (s.part p).gtc else tabGet natDefault (s.chan c).lastRef x := by
  unfold State.refreshBank
  rw [chan_updChan_same, wr_chan]
  exact tabGet_tabSet natDefault _ _ _ _

theorem refreshBank_maxGap (s : State) (p c bank : Nat) : (s.refreshBank p c bank).rd F.MCH_STS_max_gap 0 c =
    max (s.rd F.MCH_STS_max_gap 0 c) (shownGap s p c bank) := by
  have shown : s.rd F.MCH_STS_max_gap 0 c < 2 ^ 16 := rd_lt _ _ _ _ _ _
  have gap : shownGap s p c bank ≤ 65535 := Nat.min_le_right _ _
  unfold State.refreshBank
  rw [updChan_rd, rd_wr_same _ _ _ _ _ _ _ (by decide)]
  exact Nat.mod_eq_of_lt (Nat.max_lt.mpr ⟨shown, Nat.lt_succ_of_le gap⟩)

/-- Refreshing banks one after another at one tick leaves each with that tick. -/
theorem foldl_refreshBank_lastRef (p c x : Nat) (l : List Nat) (s : State) :
    tabGet natDefault ((l.foldl (fun a b => a.refreshBank p c b) s).chan c).lastRef x =
      if x ∈ l then (s.part p).gtc else tabGet natDefault (s.chan c).lastRef x := by
  induction l generalizing s with
  | nil => rfl
  | cons b l ih =>
    rw [List.foldl_cons, ih, refreshBank_part, refreshBank_lastRef]
    by_cases m : x ∈ l <;> by_cases e : x = b <;> simp [m, e]

/-! ### Errors, rewrites, poison (R267, R269) -/

theorem upset_zero (s : State) (ph : Nat) : s.upset ph 0 = s := if_pos rfl

theorem upset_keeps (s : State) (ph : Nat) (flip : BitVec 640) : KeepsOutside ph s (s.upset ph flip) := by
  unfold State.upset
  split
  · exact .refl ph s
  · exact .setHbmSide (.putRaw (.refl ph s) _) _ _

theorem hbmRewrite_keeps (s : State) (ph : Nat) : KeepsOutside ph s (s.hbmRewrite ph) := by
  unfold State.hbmRewrite
  split
  · exact .refl ph s
  · exact .setHbmSide (.putRaw (.refl ph s) _) _ _

theorem hbmRewrite_regs (s : State) (ph : Nat) : (s.hbmRewrite ph).regs = s.regs := by
  unfold State.hbmRewrite
  split <;> rfl

theorem hbmRewrite_chan (s : State) (ph c : Nat) : (s.hbmRewrite ph).chan c = s.chan c := by
  unfold State.hbmRewrite
  split <;> rfl

theorem physChan_hbmPhys {loc g : Nat} (c : Nat) (hl : loc < chanLocs) (hg : g < 4) : physChan (hbmPhys c loc g) = c := by
  unfold physChan hbmPhys
  unfold chanLocs at *
  omega

theorem hbmUe_keeps (s : State) (p ph addr : Nat) : KeepsStore s (s.hbmUe p ph addr) := by
  have noted {t : State} {n : Nat} (h : ChangesOnly AnyKey s t) : ChangesOnly AnyKey s (t.noteUe p n) :=
    h.trans ⟨⟨rfl, rfl, rfl⟩, rfl, fun _ _ _ _ _ _ => rfl⟩
  unfold State.hbmUe
  exact (ChangesOnly.record (noted (.setReg (.flag (.flag (.refl _ s) trivial trivial) trivial trivial) trivial))).toKeepsStore

/-- An uncorrectable granule shows in its partition's and its channel's flags (R267). -/
theorem hbmUe_flags (s : State) (p ph addr : Nat) {c : Fin 640} (h : physChan ph = c) :
    (s.hbmUe p ph addr).rd F.MEM_EVT_ue p = 1 ∧ (s.hbmUe p ph addr).rd F.MCH_EVT_ue 0 c = 1 := by
  have noted (t : State) (n : Nat) (f : Fld) (i j : Nat) : (t.noteUe p n).rd f i j = t.rd f i j := rfl
  have own : Reg.key .MCH_EVT 0 c 0 0 ≠ Reg.key .MCH_EVT_CNT 0 c 0 0 := by rw [key_MCH_EVT, key_MCH_EVT_CNT]; omega
  have loc : Reg.key .MCH_EVT 0 c 0 0 ≠ Reg.key .MCH_ERR_LOC 0 c 0 0 := by rw [key_MCH_EVT, key_MCH_ERR_LOC]; omega
  have evt := memEvt_apart c p (Reg.key .MCH_EVT 0 c 0 0) (by rw [key_MCH_EVT]; omega) (by rw [key_MCH_EVT]; omega)
  have err := memEvt_apart c p (Reg.key .MCH_ERR_LOC 0 c 0 0) (by rw [key_MCH_ERR_LOC]; omega)
    (by rw [key_MCH_ERR_LOC]; omega)
  unfold State.hbmUe
  rw [h, record_rd, record_rd, noted, noted]
  constructor
  · rw [rd_setReg_ne _ _ _ _ _ _ _ _ _ _ _ _ (by exact err.1)]
    exact rd_flag_same _ _ _ _ _ _ (by decide) (by exact memEvt_ne_cnt p)
  · rw [rd_setReg_ne _ _ _ _ _ _ _ _ _ _ _ _ (by exact loc),
      rd_flag_ne _ _ _ _ _ _ _ _ _ _ _ (by exact evt.1.symm) (by exact evt.2.symm)]
    exact rd_flag_same _ _ _ _ _ _ (by decide) (by exact own)

/-! ### The traffic generator's steps (R280–R282) -/

/-- What the generator's steps leave: the engines, and the test that runs in the channel. -/
def testView (c : Nat) (s : State) : Tab Core × Tab Gather × Option Mtg := (s.cores, s.gathers, (s.chan c).mtg)

theorem testView_eq_iff {c : Nat} {s t : State} : testView c t = testView c s ↔
    t.cores = s.cores ∧ t.gathers = s.gathers ∧ (t.chan c).mtg = (s.chan c).mtg := by
  simp only [testView, Prod.mk.injEq]

theorem testView_ite {c : Nat} {p : Prop} {_ : Decidable p} {s t u : State} (h : testView c t = testView c s)
    (g : testView c u = testView c s) : testView c (if p then t else u) = testView c s := by split <;> assumption

theorem testView_setReg {c : Nat} {s t : State} {r : Reg} {v : Word} {p i j k : Nat} (h : testView c t = testView c s) :
    testView c (t.setReg r v p i j k) = testView c s := h

theorem testView_wr {c : Nat} {s t : State} {f : Fld} {v p i j k : Nat} (h : testView c t = testView c s) :
    testView c (t.wr f v p i j k) = testView c s := testView_setReg h

theorem mtgCheck_testView (s : State) (c : Nat) (m : Mtg) (flipped : Bool) (loc g : Nat) :
    testView c (s.mtgCheck c m flipped loc g) = testView c s := by
  unfold State.mtgCheck
  extract_lets ph raw want stored dec u data full diff bit v
  have counted : testView c u = testView c s := by
    clear_value dec
    cases dec with
    | none => rfl
    | some x => exact testView_ite rfl (testView_wr rfl)
  have latched : testView c v = testView c s := testView_ite counted (testView_setReg counted)
  exact testView_ite counted (testView_wr (testView_wr latched))

theorem mtgWrite_testView (s : State) (c : Nat) (m : Mtg) (flipped : Bool) (loc g : Nat) :
    testView c (s.mtgWrite c m flipped loc g) = testView c s := by
  unfold State.mtgWrite testView
  simp only [updChan_cores, updChan_gathers, chan_updChan_same]
  rfl

theorem mtgStep_testView (c : Nat) (m : Mtg) (s : State) (x : MtgStep) : testView c (State.mtgStep c m s x) = testView c s := by
  obtain ⟨loc, g, check, put⟩ := x
  unfold State.mtgStep
  cases check with
  | none =>
    cases put with
    | none => rfl
    | some f => exact mtgWrite_testView ..
  | some h =>
    cases put with
    | none => exact mtgCheck_testView ..
    | some f => exact (mtgWrite_testView ..).trans (mtgCheck_testView ..)

theorem foldl_mtgStep_testView (c : Nat) (m : Mtg) (l : List MtgStep) (s : State) :
    testView c (l.foldl (State.mtgStep c m) s) = testView c s :=
  foldl_keeps_view (testView c) _ l (fun a x _ => mtgStep_testView c m a x) s

/-- The end of a test (R281): the generator is idle and the channel in the mode it had. -/
theorem mtgEnd_effect (s : State) (c : Nat) {m : Mtg} (mode : m.mode < 4) : let t := s.mtgEnd c m
    (t.chan c).mtg = none ∧ t.rd F.MTG_STS_busy 0 c = 0 ∧ t.chanMode c = m.mode ∧ KeepsStore s t := by
  unfold State.mtgEnd
  refine ⟨?ended, ?busy, ?mode, .updChan (.wr (.wr (.refl s)))⟩
  case ended => rw [chan_updChan_same]
  case busy =>
    rw [updChan_rd, rd_wr_ne _ _ _ _ _ _ _ _ _ _ _ _ (by exact (mode_ne_mtgSts c).symm), rd_wr_same _ _ _ _ _ _ _ (by decide)]
    rfl
  case mode =>
    unfold State.chanMode
    rw [updChan_rd, rd_wr_same _ _ _ _ _ _ _ (by decide)]
    exact Nat.mod_eq_of_lt mode

end Sys2Proof.Proofs
end

section
/-! PROOFS. HBM upkeep (07 R259–R264, R269, R279–R282): refreshes, stack samples, rewrites, scrubbing and the traffic
generator. -/

namespace Sys2Proof.Proofs

open Sys2Proof.Machine Sys2Proof.Laws

/-! ### Refresh (R259, R260, R262) -/

/-- REFRESH_SLOT in a channel that keeps to its listed slots. -/
theorem refreshSlot_completes {c : Fin 640} {i pc bank at' : Nat} {r : RefreshSec} {s : State}
    (sec : s.refreshSec (s.partOfChan c) c = some r) (slot : r.slots[i]? = some (at', pc, bank))
    (listed : s.listedRefresh (s.partOfChan c) c = true) : Completes (.refreshSlot c i) s fun t =>
      tabGet natDefault (t.chan c).lastRef (16 * pc + bank) = (s.part (s.partOfChan c)).gtc ∧
      t.rd F.MCH_STS_max_gap 0 c =
        max (s.rd F.MCH_STS_max_gap 0 c) (shownGap s (s.partOfChan c) c (16 * pc + bank)) ∧
      SameMemory s t ∧ SameEngines s t := by
  have performed : exec (.refreshSlot c i) s = .next (s.refreshBank (s.partOfChan c) c (16 * pc + bank)) := by
    change execRefreshSlot c i s = _
    unfold execRefreshSlot
    simp only [sec, Option.bind_some, slot]
    exact guarded_next listed
  have kept := refreshBank_keeps s (s.partOfChan c) c (16 * pc + bank)
  refine ⟨_, performed, ?_, refreshBank_maxGap _ _ _ _, kept.sameMemory, kept.sameEngines⟩
  rw [refreshBank_lastRef, if_pos rfl]

/-- AUTONOMOUS_REFRESH in a channel in service that keeps to no listed slots. -/
theorem autonomousRefresh_completes {c : Fin 640} {b : Fin 32} {s : State} (service : s.chanMode c ≠ 0)
    (own : s.listedRefresh (s.partOfChan c) c = false) : Completes (.autonomousRefresh c b) s fun t =>
      tabGet natDefault (t.chan c).lastRef b = (s.part (s.partOfChan c)).gtc ∧
      (∀ x, x ≠ b.val → tabGet natDefault (t.chan c).lastRef x = tabGet natDefault (s.chan c).lastRef x) ∧
      t.rd F.MCH_STS_max_gap 0 c = max (s.rd F.MCH_STS_max_gap 0 c) (shownGap s (s.partOfChan c) c b) ∧
      SameMemory s t ∧ SameEngines s t := by
  have kept := refreshBank_keeps s (s.partOfChan c) c b
  refine completes_guarded rfl (by simp [service, own])
    ⟨?_, fun x other => ?_, refreshBank_maxGap _ _ _ _, kept.sameMemory, kept.sameEngines⟩
  · rw [refreshBank_lastRef, if_pos rfl]
  · rw [refreshBank_lastRef, if_neg other]

/-- PRE_RUN_REFRESH of a scheduled channel while a start is due. -/
theorem preRunRefresh_completes {c : Fin 640} {s : State} (mode : s.chanMode c = 2)
    (armed : (s.part (s.partOfChan c)).state = .armed) (due : (s.part (s.partOfChan c)).t0.isSome = true) :
    Completes (.preRunRefresh c) s fun t =>
      (∀ b, b < 32 → tabGet natDefault (t.chan c).lastRef b = (s.part (s.partOfChan c)).gtc) ∧
      SameMemory s t ∧ SameEngines s t := by
  have kept : KeepsStore s ((List.range 32).foldl (fun a b => a.refreshBank (s.partOfChan c) c b) s) :=
    .foldl _ (fun a b => refreshBank_keeps a _ c b) (.refl s)
  refine completes_guarded rfl (by simp [mode, armed, due]) ⟨fun b bank => ?_, kept.sameMemory, kept.sameEngines⟩
  rw [foldl_refreshBank_lastRef, if_pos (List.mem_range.mpr bank)]

/-! ### Stack samples (R263, R264) -/

/-- The key of a stack's status register. -/
def StackKey (k x : Nat) : Prop := x = Reg.key .MST_STS 0 k 0 0

/-- A stack's temperature shown (R263). -/
def tempShown (s : State) (k temp : Nat) : State :=
  let s := s.wr F.MST_STS_temp temp 0 k
  let s := s.wr F.MST_STS_temp_max (max temp (s.rd F.MST_STS_temp_max 0 k)) 0 k
  s.wr F.MST_STS_hot (b2n (decide (85 < temp))) 0 k

theorem tempShown_changes (s : State) (k temp : Nat) : ChangesOnly (StackKey k) s (tempShown s k temp) :=
  .wr (.wr (.wr (.refl _ s) rfl) rfl) rfl

theorem tempShown_reads (s : State) (k : Nat) (temp : BitVec 8) : let t := tempShown s k temp.toNat
    t.rd F.MST_STS_temp 0 k = temp.toNat ∧ t.rd F.MST_STS_temp_max 0 k = max temp.toNat (s.rd F.MST_STS_temp_max 0 k) ∧
    t.rd F.MST_STS_hot 0 k = b2n (decide (85 < temp.toNat)) := by
  have narrow : temp.toNat < 2 ^ 8 := temp.isLt
  have before : s.rd F.MST_STS_temp_max 0 k < 2 ^ 8 := rd_lt _ _ _ _ _ _
  unfold tempShown
  refine ⟨?temp, ?max, ?hot⟩
  case temp =>
    rw [rd_wr_apart (by decide), rd_wr_apart (by decide), rd_wr_same _ _ _ _ _ _ _ (by decide)]
    exact Nat.mod_eq_of_lt narrow
  case max =>
    rw [rd_wr_apart (by decide), rd_wr_same _ _ _ _ _ _ _ (by decide), rd_wr_apart (by decide)]
    exact Nat.mod_eq_of_lt (Nat.max_lt.mpr ⟨narrow, before⟩)
  case hot =>
    rw [rd_wr_same _ _ _ _ _ _ _ (by decide)]
    cases decide (85 < temp.toNat) <;> rfl

theorem tempShown_part (s : State) (k temp q : Nat) : (tempShown s k temp).part q = s.part q := by
  unfold tempShown
  rw [wr_part, wr_part, wr_part]

theorem tempShown_chan (s : State) (k temp c : Nat) : (tempShown s k temp).chan c = s.chan c := by
  unfold tempShown
  rw [wr_chan, wr_chan, wr_chan]

theorem tempShown_refreshSec (s : State) (k temp p c : Nat) : (tempShown s k temp).refreshSec p c = s.refreshSec p c := by
  unfold State.refreshSec
  rw [tempShown_part]

theorem tempShown_listedRefresh (s : State) (k : Fin 20) (temp p c : Nat) :
    (tempShown s k temp).listedRefresh p c = s.listedRefresh p c := by
  have apart : ¬ StackKey k (Reg.key .MCH_STS 0 c 0 0) := by
    have := k.isLt
    unfold StackKey
    rw [key_MCH_STS, key_MST_STS]
    omega
  unfold State.listedRefresh State.chanMode State.running
  rw [(tempShown_changes s k temp).rd _ _ _ _ _ (by exact apart), tempShown_part, tempShown_chan]

/-- The channels of a stack that keep to listed slots and whose ceiling a temperature passes (R263). -/
def passedCeiling (s : State) (p k temp : Nat) : List Nat := (List.range 32).filter fun c =>
  s.listedRefresh p (32 * k + c) &&
    (match s.refreshSec p (32 * k + c) with
     | some r => decide ((if r.hot then 95 else 85) < temp)
     | none => false)

theorem mem_passedCeiling {s : State} {p k temp c : Nat} {r : RefreshSec} (stack : c < 32)
    (listed : s.listedRefresh p (32 * k + c) = true) (sec : s.refreshSec p (32 * k + c) = some r)
    (above : (if r.hot then 95 else 85) < temp) : c ∈ passedCeiling s p k temp := by
  refine List.mem_filter.mpr ⟨List.mem_range.mpr stack, ?_⟩
  simp only [listed, sec, above, decide_true, Bool.and_self]

/-- A ceiling set in each of some channels of a stack. -/
def ceilingSet (k : Nat) (l : List Nat) (s : State) : State :=
  l.foldl (fun a c => a.updChan (32 * k + c) fun d => { d with ceiling := true }) s

theorem ceilingSet_ceiling (k c : Nat) (l : List Nat) (s : State) (h : c ∈ l ∨ (s.chan (32 * k + c)).ceiling = true) :
    ((ceilingSet k l s).chan (32 * k + c)).ceiling = true := by
  induction l generalizing s with
  | nil => exact h.resolve_left List.not_mem_nil
  | cons x l ih =>
    refine ih _ ?_
    rw [chan_updChan]
    rcases h with m | set
    · rcases List.mem_cons.mp m with rfl | m
      · exact .inr (by rw [if_pos rfl])
      · exact .inl m
    · right
      split
      · rfl
      · exact set

/-- A scheduled channel's ceiling passed (R263): its flag, a record, `ceiling` in each such channel, and a slip. -/
def ceilingPassed (s : State) (p k : Nat) (l : List Nat) : State :=
  let s := s.flag F.MEM_EVT_ceiling F.MEM_EVT_CNT_ceiling_cnt p
  let s := s.record p 6 2 k (info0 := (s.reg .MST_STS 0 k).toNat)
  (ceilingSet k l s).slip p 0x06

/-- The keys a ceiling passed may write. -/
def CeilingKey (p x : Nat) : Prop :=
  RunKey p x ∨ x = Reg.key .MEM_EVT p 0 0 0 ∨ x = Reg.key .MEM_EVT_CNT p 0 0 0

theorem not_runKey_memEvt (p : Nat) : ¬ RunKey p (Reg.key .MEM_EVT p 0 0 0) := by
  unfold RunKey HostKey
  rw [key_MEM_EVT]
  omega

theorem not_ceilingKey_stack (p : Nat) (k : Fin 20) : ¬ CeilingKey p (Reg.key .MST_STS 0 k 0 0) := by
  have := k.isLt
  unfold CeilingKey RunKey HostKey
  rw [key_MST_STS, key_MEM_EVT, key_MEM_EVT_CNT]
  omega

theorem slip_afterCeilings_changes (s : State) (p k : Nat) (l : List Nat) (info : Nat) :
    ChangesOnly (RunKey p) s ((ceilingSet k l (s.record p 6 2 k (info0 := info))).slip p 0x06) :=
  (ChangesOnly.foldl l (fun _ _ a => .updChan (.refl _ a)) (.record (.refl _ s))).trans (slip_changes _ p _)

theorem ceilingPassed_changes (s : State) (p k : Nat) (l : List Nat) :
    ChangesOnly (CeilingKey p) s (ceilingPassed s p k l) :=
  (ChangesOnly.flag (.refl _ s) (.inr (.inl rfl)) (.inr (.inr rfl))).trans
    ((slip_afterCeilings_changes _ p k l _).mono fun _ => .inl)

theorem ceilingPassed_effect (s : State) (p k : Nat) (l : List Nat) : let t := ceilingPassed s p k l
    (∀ c ∈ l, (t.chan (32 * k + c)).ceiling = true) ∧ t.rd F.MEM_EVT_ceiling p = 1 ∧ t.rd F.SCH_EVT_slip p = 1 := by
  refine ⟨fun c m => ?ceiling, ?event, rd_slip_evt _ p _⟩
  case ceiling =>
    unfold ceilingPassed
    rw [slip_chan]
    exact ceilingSet_ceiling k c l _ (.inl m)
  case event =>
    exact ((slip_afterCeilings_changes _ p k l _).rd _ _ _ _ _ (by exact not_runKey_memEvt p)).trans
      (rd_flag_same _ _ _ _ _ _ (by decide) (by exact memEvt_ne_cnt p))

theorem stackTempSample_exec (k : Fin 20) (temp : BitVec 8) (s : State) : exec (.stackTempSample k temp) s =
    let p := s.partOfHalf (k / 10)
    let u := tempShown s k temp.toNat
    let passed := passedCeiling u p k temp.toNat
    if passed.isEmpty then .next u else .next (ceilingPassed u p k passed) := by
  change execStackTempSample k temp s = _
  unfold execStackTempSample ceilingPassed ceilingSet passedCeiling tempShown
  rfl

/-- STACK_TEMP_SAMPLE. -/
theorem stackTempSample_completes (k : Fin 20) (temp : BitVec 8) (s : State) : let p := s.partOfHalf (k / 10)
    Completes (.stackTempSample k temp) s fun t => t.rd F.MST_STS_temp 0 k = temp.toNat ∧
      t.rd F.MST_STS_temp_max 0 k = max temp.toNat (s.rd F.MST_STS_temp_max 0 k) ∧
      t.rdB F.MST_STS_hot 0 k = decide (85 < temp.toNat) ∧ SameMemory s t ∧ SameEngines s t ∧
      (∀ c r, c < 32 → s.listedRefresh p (32 * k + c) = true → s.refreshSec p (32 * k + c) = some r →
        (if r.hot then 95 else 85) < temp.toNat → (t.chan (32 * k + c)).ceiling = true ∧ t.rd F.MEM_EVT_ceiling p = 1 ∧
          t.rd F.SCH_EVT_slip p = 1) := by
  intro p
  obtain ⟨temperature, highest, hot⟩ := tempShown_reads s k temp
  have shown := tempShown_changes s k temp.toNat
  have hotB {t : State} (e : t.rd F.MST_STS_hot 0 k = b2n (decide (85 < temp.toNat))) :
      t.rdB F.MST_STS_hot 0 k = decide (85 < temp.toNat) := by
    unfold State.rdB
    rw [e]
    cases decide (85 < temp.toNat) <;> rfl
  have passes (c : Nat) (r : RefreshSec) (stack : c < 32) (listed : s.listedRefresh p (32 * k + c) = true)
      (sec : s.refreshSec p (32 * k + c) = some r) (above : (if r.hot then 95 else 85) < temp.toNat) :
      c ∈ passedCeiling (tempShown s k temp.toNat) p k temp.toNat :=
    mem_passedCeiling stack (by rwa [tempShown_listedRefresh]) (by rwa [tempShown_refreshSec]) above
  rw [completes_iff_yields, stackTempSample_exec]
  refine .ite (fun none => .next ⟨temperature, highest, hotB hot, shown.sameMemory, shown.sameEngines, ?within⟩)
    (fun _ => .next ?beyond)
  case within =>
    intro c r stack listed sec above
    have mem := passes c r stack listed sec above
    rw [List.isEmpty_iff.mp none] at mem
    exact absurd mem List.not_mem_nil
  case beyond =>
    have after := ceilingPassed_changes (tempShown s k temp.toNat) p k (passedCeiling (tempShown s k temp.toNat) p k temp.toNat)
    have both := shown.any.trans after.any
    have stack (f : Fld) (h : f.reg = .MST_STS) := after.rd f 0 k 0 0 (by rw [h]; exact not_ceilingKey_stack p k)
    obtain ⟨ceiling, event, slip⟩ := ceilingPassed_effect (tempShown s k temp.toNat) p k
      (passedCeiling (tempShown s k temp.toNat) p k temp.toNat)
    refine ⟨(stack _ rfl).trans temperature, (stack _ rfl).trans highest, hotB ((stack _ rfl).trans hot),
      both.sameMemory, both.sameEngines, fun c r lt listed sec above => ⟨?_, event, slip⟩⟩
    exact ceiling c (passes c r lt listed sec above)

/-- Counts shown for channels one after another (R264). -/
def countsShown (k : Nat) (counts : List (BitVec 32 × Nat)) (s : State) : State :=
  counts.foldl (fun a x => a.wr F.MCH_CE_CNT_inner_cnt x.1.toNat 0 (32 * k + x.2)) s

theorem countsShown_cons (k n : Nat) (x : BitVec 32) (l : List (BitVec 32 × Nat)) (s : State) :
    countsShown k ((x, n) :: l) s = countsShown k l (s.wr F.MCH_CE_CNT_inner_cnt x.toNat 0 (32 * k + n)) := List.foldl_cons ..

theorem countsShown_reads (k i : Nat) : ∀ (counts : List (BitVec 32)) (n : Nat) (s : State),
    (countsShown k (counts.zipIdx n) s).rd F.MCH_CE_CNT_inner_cnt 0 (32 * k + i) =
      if n ≤ i ∧ i < n + counts.length then (counts.getD (i - n) 0).toNat
      else s.rd F.MCH_CE_CNT_inner_cnt 0 (32 * k + i)
  | [], n, s => by rw [List.length_nil, if_neg (by omega)]; rfl
  | x :: counts, n, s => by
    rw [List.zipIdx_cons, countsShown_cons, countsShown_reads k i counts (n + 1), List.length_cons]
    by_cases here : i = n
    · subst here
      rw [if_neg (by omega), if_pos (by omega), rd_wr_same _ _ _ _ _ _ _ (by decide), Nat.sub_self]
      exact Nat.mod_eq_of_lt x.isLt
    · have apart : Reg.key .MCH_CE_CNT 0 (32 * k + i) 0 0 ≠ Reg.key .MCH_CE_CNT 0 (32 * k + n) 0 0 := by
        rw [key_MCH_CE_CNT, key_MCH_CE_CNT]; omega
      rw [rd_wr_ne _ _ _ _ _ _ _ _ _ _ _ _ (by exact apart)]
      by_cases later : n + 1 ≤ i ∧ i < n + 1 + counts.length
      · rw [if_pos later, if_pos (by omega), show i - n = i - (n + 1) + 1 by omega, List.getD_cons_succ]
      · rw [if_neg later, if_neg (by omega)]

/-- INNER_CE_READ. -/
theorem innerCeRead_completes {k : Fin 20} {counts : List (BitVec 32)} {s : State} (all : counts.length = 32) :
    Completes (.innerCeRead k counts) s fun t =>
      (∀ i, i < 32 → t.rd F.MCH_CE_CNT_inner_cnt 0 (32 * k + i) = (counts.getD i 0).toNat) ∧
      SameMemory s t ∧ SameEngines s t := by
  have kept : KeepsStore s (countsShown k counts.zipIdx s) := .foldl _ (fun a _ => .wr (.refl a)) (.refl s)
  refine completes_guarded rfl (decide_eq_true all) ⟨fun i chan => ?_, kept.sameMemory, kept.sameEngines⟩
  exact (countsShown_reads k i counts 0 s).trans (if_pos (by omega))

/-! ### Rewrites and scrubbing (R269) -/

/-- HBM_REWRITE of the oldest rewrite queued. -/
theorem hbmRewrite_completes {c : Fin 640} {ph : Nat} {rest : List Nat} {s : State}
    (queued : (s.chan c).rewrites = ph :: rest) (mode : s.chanMode c ≠ 3) : Completes (.hbmRewrite c) s fun t =>
      (t.chan c).rewrites = rest ∧ t.regs = s.regs ∧ SameEngines s t ∧
      ∀ a, ¬ (ph * 64 ≤ a ∧ a < ph * 64 + 64) → t.byte a = s.byte a := by
  have performed : exec (.hbmRewrite c) s = .next ((s.updChan c fun d => { d with rewrites := rest }).hbmRewrite ph) := by
    change execHbmRewrite c s = _
    unfold execHbmRewrite
    simp only [queued, mode, if_false]
  have kept := hbmRewrite_keeps (s.updChan c fun d => { d with rewrites := rest }) ph
  refine ⟨_, performed, ?_, hbmRewrite_regs _ _, kept.engines, kept.byte⟩
  rw [hbmRewrite_chan, chan_updChan_same]

/-- A granule poisoned in place, no copy of it in a line buffer (R269). -/
def poisonedInPlace (s : State) (c ph : Nat) : State :=
  let side := (s.hbmSideOf ph).toNat
  let s := s.updChan c fun x => { x with
    lines0 := x.lines0.filter fun b => b.phys != ph, lines1 := x.lines1.filter fun b => b.phys != ph }
  s.setHbmSide ph (BitVec.ofNat 128 (side ||| 2 ^ 72 ||| 2 ^ 104))

theorem poisonedInPlace_keeps (s : State) (c ph : Nat) : KeepsStore s (poisonedInPlace s c ph) := ⟨rfl, rfl, rfl⟩

/-- What a scrub read does to its granule: nothing to a sound one, a rewrite of a corrected one, poison in place of an
uncorrectable one (R269). -/
def scrubGranule (s : State) (p c ph : Nat) : State :=
  match s.hbmDecode ph with
  | some (_, k) => if k = 0 then s else (s.hbmCe p ph k).hbmRewrite ph
  | none => (poisonedInPlace s c ph).hbmUe p ph 0

theorem scrubGranule_sound {s : State} {ph : Nat} {x : Gran} (sound : s.hbmDecode ph = some (x, 0)) (p c : Nat) :
    scrubGranule s p c ph = s := by
  unfold scrubGranule
  rw [sound]
  exact if_pos rfl

theorem scrubGranule_uncorrectable {s : State} {ph : Nat} (lost : s.hbmDecode ph = none) (p c : Nat) :
    scrubGranule s p c ph = (poisonedInPlace s c ph).hbmUe p ph 0 := by
  unfold scrubGranule
  rw [lost]

/-- The end of a scrub read: a pass over every channel ends with its last (R269). -/
def scrubEnd (s : State) (p : Nat) (last : Bool) : State :=
  if last then s.flag F.MEM_EVT_scrub_pass F.MEM_EVT_CNT_scrub_cnt p else s

theorem scrubEnd_changes (s : State) (p : Nat) (last : Bool) :
    ChangesOnly (fun x => x = Reg.key .MEM_EVT p 0 0 0 ∨ x = Reg.key .MEM_EVT_CNT p 0 0 0) s (scrubEnd s p last) :=
  .ite (.flag (.refl _ s) (.inl rfl) (.inr rfl)) (.refl _ s)

theorem scrubEnd_pass (s : State) (p : Nat) (last : Bool) : (scrubEnd s p last).rd F.MEM_EVT_scrub_pass p =
    if last then 1 else s.rd F.MEM_EVT_scrub_pass p := by
  cases last with
  | true => exact rd_flag_same _ _ _ _ _ _ (by decide) (by exact memEvt_ne_cnt p)
  | false => rfl

theorem scrubEnd_ue (s : State) (p : Nat) (last : Bool) : (scrubEnd s p last).rd F.MEM_EVT_ue p = s.rd F.MEM_EVT_ue p := by
  cases last with
  | true => exact rd_flag_beside (by decide) (by exact memEvt_ne_cnt p)
  | false => rfl

section

variable {c : Fin 640} {loc : Nat} {g : Fin 4} {flip : BitVec 640} {last : Bool} {s : State}

theorem scrubRead_exec (on : s.rdB F.MEM_CTL_scrub_en (s.partOfChan c) = true) (mode : s.chanMode c = 1 ∨ s.chanMode c = 2)
    (inside : loc < chanLocs) : exec (.scrubRead c loc g flip last) s = .next (scrubEnd
      (scrubGranule (s.upset (hbmPhys c loc g) flip) (s.partOfChan c) c (hbmPhys c loc g)) (s.partOfChan c) last) := by
  change execScrubRead c loc g flip last s = _
  unfold execScrubRead
  dsimp only
  rw [on, if_neg (by decide), if_neg (by omega)]
  rfl

/-- SCRUB_READ of a sound granule. -/
theorem scrubRead_sound {x : Gran} (on : s.rdB F.MEM_CTL_scrub_en (s.partOfChan c) = true)
    (mode : s.chanMode c = 1 ∨ s.chanMode c = 2) (inside : loc < chanLocs) (clean : flip = 0)
    (sound : s.hbmDecode (hbmPhys c loc g) = some (x, 0)) : Completes (.scrubRead c loc g flip last) s fun t =>
      SameMemory s t ∧ SameEngines s t ∧ t.rd F.MEM_EVT_scrub_pass (s.partOfChan c) =
        (if last then 1 else s.rd F.MEM_EVT_scrub_pass (s.partOfChan c)) := by
  subst clean
  have kept := scrubEnd_changes s (s.partOfChan c) last
  refine ⟨_, scrubRead_exec on mode inside, ?_⟩
  rw [upset_zero, scrubGranule_sound sound]
  exact ⟨kept.sameMemory, kept.sameEngines, scrubEnd_pass s _ last⟩

/-- SCRUB_READ of an uncorrectable granule. -/
theorem scrubRead_uncorrectable (on : s.rdB F.MEM_CTL_scrub_en (s.partOfChan c) = true)
    (mode : s.chanMode c = 1 ∨ s.chanMode c = 2) (inside : loc < chanLocs)
    (lost : (s.upset (hbmPhys c loc g) flip).hbmDecode (hbmPhys c loc g) = none) :
    Completes (.scrubRead c loc g flip last) s fun t =>
      t.rd F.MEM_EVT_ue (s.partOfChan c) = 1 ∧ t.rd F.MCH_EVT_ue 0 c = 1 ∧ SameEngines s t ∧
      ∀ a, ¬ (hbmPhys c loc g * 64 ≤ a ∧ a < hbmPhys c loc g * 64 + 64) → t.byte a = s.byte a := by
  let p := s.partOfChan c
  let ph := hbmPhys c loc g
  let u := (poisonedInPlace (s.upset ph flip) c ph).hbmUe p ph 0
  have performed : exec (.scrubRead c loc g flip last) s = .next (scrubEnd u p last) := by
    rw [scrubRead_exec on mode inside, scrubGranule_uncorrectable lost]
  have pass := scrubEnd_changes u p last
  have kept : KeepsOutside ph s (scrubEnd u p last) :=
    (upset_keeps s ph flip).store (((poisonedInPlace_keeps _ c ph).trans (hbmUe_keeps _ p ph 0)).trans pass.toKeepsStore)
  obtain ⟨whole, channel⟩ := hbmUe_flags (poisonedInPlace (s.upset ph flip) c ph) p ph 0 (physChan_hbmPhys c inside g.isLt)
  have apart := memEvt_apart c p (Reg.key .MCH_EVT 0 c 0 0) (by rw [key_MCH_EVT]; omega) (by rw [key_MCH_EVT]; omega)
  have beside := pass.rd F.MCH_EVT_ue 0 c 0 0 (not_or.mpr ⟨apart.1.symm, apart.2.symm⟩)
  exact ⟨_, performed, (scrubEnd_ue u p last).trans whole, beside.trans channel, kept.engines, kept.byte⟩

end

/-! ### Traffic generator (R279–R282) -/

theorem bits_one_eq_one {x i : Nat} : bits x i 1 = 1 ↔ x.testBit i = true := by
  unfold bits
  rw [Nat.testBit_eq_decide_div_mod_eq, decide_eq_true_eq, Nat.shiftRight_eq_div_pow, Nat.pow_one]

/-- The control register written by MTG_START: its RW fields (R279). -/
def mtgCtlSet (s : State) (c : Nat) (v : Word) : State := s.setReg .MTG_CTL (BitVec.ofNat 64 (bits v.toNat 2 9 * 4)) 0 c

/-- The test that the channel's registers ask for, and the mode to return to (R279, R281). -/
def mtgTest (s : State) (c : Nat) (v : Word) : Mtg :=
  { ctl := bits v.toNat 2 9 * 4, limit := (s.reg .MTG_LIMIT 0 c).toNat, seed := (s.reg .MTG_SEED 0 c).toNat,
    mode := s.chanMode c }

/-- A test under way (R279): the generator busy with its counts cleared, the channel in test mode. -/
def mtgBegun (s : State) (c : Nat) (m : Mtg) : State :=
  ((s.setReg .MTG_STS 1 0 c).wr F.MCH_STS_mode 3 0 c).updChan c fun d => { d with mtg := some m }

theorem mtgCtlSet_chanMode (s : State) (c : Nat) (v : Word) : (mtgCtlSet s c v).chanMode c = s.chanMode c :=
  rd_setReg_ne _ _ _ _ _ _ _ _ _ _ _ _ (by exact mode_ne_mtgCtl c)

theorem mtgBegun_effect (s : State) (c : Nat) (m : Mtg) : let t := mtgBegun s c m
    t.chanMode c = 3 ∧ t.rd F.MTG_STS_busy 0 c = 1 ∧ t.rd F.MTG_STS_errors 0 c = 0 ∧ (t.chan c).mtg = some m ∧
    KeepsStore s t := by
  have sts (f : Fld) (h : f.reg = .MTG_STS) : (mtgBegun s c m).rd f 0 c = bits 1 f.lo f.width := by
    unfold mtgBegun
    rw [updChan_rd, rd_wr_ne _ _ _ _ _ _ _ _ _ _ _ _ (by rw [h]; exact (mode_ne_mtgSts c).symm)]
    unfold State.rd
    rw [h, reg_setReg_same]
    rfl
  refine ⟨?mode, sts _ rfl, sts _ rfl, ?test, .updChan (.wr (.setReg (.refl s)))⟩
  case mode =>
    unfold mtgBegun State.chanMode
    rw [updChan_rd, rd_wr_same _ _ _ _ _ _ _ (by decide)]
    rfl
  case test =>
    unfold mtgBegun
    rw [chan_updChan_same]

section

variable {c : Fin 640} {v : Word} {s : State}

/-- MTG_START with a pattern in BOOTING or IDLE. -/
theorem mtgStart_starts (start : v.toNat.testBit 0 = true) (idle : (s.chan c).mtg = none)
    (state : (s.part (s.partOfChan c)).state = .booting ∨ (s.part (s.partOfChan c)).state = .idle)
    (pattern : bits v.toNat 2 3 ≠ 7) : Completes (.mtgStart c v) s fun t =>
      t.chanMode c = 3 ∧ t.rd F.MTG_STS_busy 0 c = 1 ∧ t.rd F.MTG_STS_errors 0 c = 0 ∧
      (∃ m, (t.chan c).mtg = some m ∧ m.mode = s.chanMode c) ∧ SameMemory s t ∧ SameEngines s t := by
  have bit : bits v.toNat 0 1 = 1 := bits_one_eq_one.mpr start
  let u := mtgCtlSet s c v
  have next : s.mtgCtl c v = mtgBegun u c (mtgTest u c v) := by
    unfold State.mtgCtl
    dsimp only
    rw [if_neg (by rw [setReg_chan, idle, bit]; decide), if_neg (by rcases state with e | e <;> simp [e, pattern])]
    rfl
  obtain ⟨test, busy, errors, runs, kept⟩ := mtgBegun_effect u c (mtgTest u c v)
  have same : KeepsStore s (mtgBegun u c (mtgTest u c v)) := (KeepsStore.setReg (.refl s)).trans kept
  refine completes_guarded rfl (by rw [bit]; rfl) ?_
  rw [next]
  exact ⟨test, busy, errors, ⟨_, runs, mtgCtlSet_chanMode s c v⟩, same.sameMemory, same.sameEngines⟩

/-- MTG_START in another state or with the reserved pattern. -/
theorem mtgStart_refused (start : v.toNat.testBit 0 = true) (idle : (s.chan c).mtg = none)
    (bad : (s.part (s.partOfChan c)).state ≠ .booting ∧ (s.part (s.partOfChan c)).state ≠ .idle ∨ bits v.toNat 2 3 = 7) :
    Completes (.mtgStart c v) s fun t =>
      t.rd F.MTG_STS_refused 0 c = 1 ∧ t.chanMode c = s.chanMode c ∧ (t.chan c).mtg = none ∧ SameMemory s t := by
  have bit : bits v.toNat 0 1 = 1 := bits_one_eq_one.mpr start
  have next : s.mtgCtl c v = (mtgCtlSet s c v).wr F.MTG_STS_refused 1 0 c := by
    unfold State.mtgCtl
    dsimp only
    rw [if_neg (by rw [setReg_chan, idle, bit]; decide), if_pos (by rcases bad with e | e <;> simp [e])]
    rfl
  have same : KeepsStore s ((mtgCtlSet s c v).wr F.MTG_STS_refused 1 0 c) := .wr (.setReg (.refl s))
  refine completes_guarded rfl (by rw [bit]; rfl) ?_
  rw [next]
  refine ⟨?refused, ?mode, ?test, same.sameMemory⟩
  case refused => rw [rd_wr_same _ _ _ _ _ _ _ (by decide)]; rfl
  case mode => exact (rd_wr_ne _ _ _ _ _ _ _ _ _ _ _ _ (by exact mode_ne_mtgSts c)).trans (mtgCtlSet_chanMode s c v)
  case test => exact idle

/-- MTG_STOP while a test runs. -/
theorem mtgStop_stops {m : Mtg} (runs : (s.chan c).mtg = some m) (mode : m.mode < 4) (steps : Nat) :
    Completes (.mtgStop c steps) s fun t => (t.chan c).mtg = none ∧ t.rd F.MTG_STS_busy 0 c = 0 ∧
      t.chanMode c = m.mode ∧ SameEngines s t ∧ (steps = 0 → SameMemory s t) := by
  let u := (m.steps.take steps).foldl (State.mtgStep c m) s
  have performed : exec (.mtgStop c steps) s = .next (u.mtgEnd c m) := by
    change execMtgStop c steps s = _
    unfold execMtgStop
    rw [runs]
  obtain ⟨cores, gathers, -⟩ := testView_eq_iff.mp (foldl_mtgStep_testView c m (m.steps.take steps) s)
  obtain ⟨ended, busy, back, kept⟩ := mtgEnd_effect u c mode
  refine ⟨_, performed, ended, busy, back, ⟨kept.cores.trans cores, kept.gathers.trans gathers⟩, fun zero => ?_⟩
  subst zero
  exact kept.sameMemory

theorem mtgStop_idle (idle : (s.chan c).mtg = none) (steps : Nat) : exec (.mtgStop c steps) s = .next s := by
  change execMtgStop c steps s = _
  unfold execMtgStop
  rw [idle]

/-- MTG_DONE: the test ends, or with loop set goes on. -/
theorem mtgDone_completes {m : Mtg} (runs : (s.chan c).mtg = some m) (mode : m.mode < 4) :
    Completes (.mtgDone c) s fun t => SameEngines s t ∧
      (m.ctl.testBit 10 = false → (t.chan c).mtg = none ∧ t.rd F.MTG_STS_done 0 c = 1 ∧
        t.rd F.MTG_STS_busy 0 c = 0 ∧ t.chanMode c = m.mode) ∧
      (m.ctl.testBit 10 = true → (t.chan c).mtg = some m) := by
  let u := (m.steps.foldl (State.mtgStep c m) s).countSat F.MTG_STS_passes 1 0 c
  have performed : exec (.mtgDone c) s =
      if bits m.ctl 10 1 = 1 then .next u else .next ((u.wr F.MTG_STS_done 1 0 c).mtgEnd c m) := by
    change execMtgDone c s = _
    unfold execMtgDone
    rw [runs]
  have view : testView c u = testView c s := testView_wr (foldl_mtgStep_testView c m m.steps s)
  obtain ⟨cores, gathers, test⟩ := testView_eq_iff.mp view
  rw [completes_iff_yields, performed]
  refine .ite (fun loop => .next ?loop) (fun single => .next ?single)
  case loop =>
    have set := bits_one_eq_one.mp loop
    exact ⟨⟨cores, gathers⟩, fun clear => absurd set (by simp [clear]), fun _ => test.trans runs⟩
  case single =>
    obtain ⟨ended, busy, back, kept⟩ := mtgEnd_effect (u.wr F.MTG_STS_done 1 0 c) c mode
    refine ⟨⟨kept.cores.trans ((wr_cores ..).trans cores), kept.gathers.trans ((wr_gathers ..).trans gathers)⟩,
      fun _ => ⟨ended, ?_, busy, back⟩, fun set => absurd (bits_one_eq_one.mpr set) single⟩
    unfold State.mtgEnd
    rw [updChan_rd, rd_wr_ne _ _ _ _ _ _ _ _ _ _ _ _ (by exact (mode_ne_mtgSts c).symm), rd_wr_apart (by decide),
      rd_wr_same _ _ _ _ _ _ _ (by decide)]
    rfl

end

/-- Settles O29: each command of a channel's upkeep by the lemma of its outcome. -/
theorem hbmUpkeep : Obligations.HbmUpkeep := by
  unfold Obligations.HbmUpkeep
  refine ⟨fun c i pc bank at' r s => ?slot, fun c b s => ?own, fun c s => ?preRun, stackTempSample_completes,
    fun k counts s => innerCeRead_completes, fun c ph rest s => hbmRewrite_completes, fun c loc g flip last s => ?scrub,
    fun c v s => ?start, fun c steps s => ?stop, fun c m s => mtgDone_completes⟩
  case slot => exact refreshSlot_completes
  case own => exact autonomousRefresh_completes
  case preRun => exact preRunRefresh_completes
  case scrub =>
    intro p ph on mode inside
    exact ⟨fun x => scrubRead_sound on mode inside, scrubRead_uncorrectable on mode inside⟩
  case start =>
    intro p start idle
    exact ⟨mtgStart_starts start idle, mtgStart_refused start idle⟩
  case stop => exact ⟨fun idle => mtgStop_idle idle steps, fun m runs mode => mtgStop_stops runs mode steps⟩

end Sys2Proof.Proofs
end

section
/-! SUPPORT. Collective engines (10 R381–R397): what accesses to memory and packets sent leave of them, reads of SRAM that pass, and
what an abort does to its group and to COL_ABORT. -/

namespace Sys2Proof.Proofs

open Sys2Proof.Machine Sys2Proof.Laws

/-! ### Reads of SRAM -/

/-- What a read hands on of a granule `g` with side field `d` (R465). -/
def handedOn (d : SramSide) (g : Gran) : Delivered :=
  if (ueWords d.err).isEmpty then
    if d.poison then poisonedOf g else { data := g, check := d.check, poisoned := false }
  else poisonedOf (errData g d.err)

theorem sramRead_delivers (s : State) (a : Nat) : (s.sramRead a).2 = handedOn (s.sramSide a) (s.rawGran a) := by
  unfold State.sramRead handedOn
  dsimp only
  split
  · split <;> rfl
  · split <;> rfl

/-- What a read hands on depends on the granule's bytes and side field only. -/
theorem sramRead_delivers_congr {s t : State} (mem : t.mem = s.mem) (sram : t.sram = s.sram) (a : Nat) :
    (t.sramRead a).2 = (s.sramRead a).2 := by
  rw [sramRead_delivers, sramRead_delivers]
  unfold State.sramSide State.rawGran State.byte
  rw [mem, sram]

theorem srmLast_sram (s : State) (a w : Nat) (ue : Bool) : (s.srmLast a w ue).sram = s.sram := by
  unfold State.srmLast
  rw [wr_sram, wr_sram, wr_sram]

/-- A read that passes leaves every side field as it was. -/
theorem sramRead_sram {s : State} {a : Nat} (ok : (s.sramRead a).2.ok = true) : (s.sramRead a).1.sram = s.sram := by
  have fixed (t : State) (f : Tab (List Nat)) : ({ t with sramFix := f } : State).sram = t.sram := rfl
  revert ok
  unfold State.sramRead
  dsimp only
  split
  · split <;> exact fun _ => by rw [ite_sram, record_sram, fixed, srmLast_sram, count_sram, ite_self]
  · split <;> exact fun ok => absurd ok (by simp [poisonedOf, Delivered.ok])

/-- The verified read of a list of granules, as `State.sramBytes` folds it. -/
def readStep (a : Nat) (x : State × List Byte × Bool) (i : Nat) : State × List Byte × Bool :=
  let d := x.1.sramRead (a + 64 * i)
  (d.1, x.2.1 ++ toLE 64 d.2.data.toNat, x.2.2 && d.2.ok)

/-- Storage with its side fields, engines and addresses' homes are as before. -/
structure KeepsSram (s t : State) : Prop extends KeepsMap s t where
  sram : t.sram = s.sram

theorem KeepsSram.refl (s : State) : KeepsSram s s := ⟨.refl s, rfl⟩

theorem KeepsSram.trans {s t u : State} (h : KeepsSram s t) (g : KeepsSram t u) : KeepsSram s u :=
  ⟨h.toKeepsMap.trans g.toKeepsMap, g.sram.trans h.sram⟩

theorem foldl_readStep_keeps (a : Nat) : ∀ (l : List Nat) (x : State × List Byte × Bool), (l.foldl (readStep a) x).2.2 = true →
    x.2.2 = true ∧ KeepsSram x.1 (l.foldl (readStep a) x).1
  | [], _, sound => ⟨sound, .refl _⟩
  | i :: l, x, sound => by
    obtain ⟨first, rest⟩ := foldl_readStep_keeps a l (readStep a x i) sound
    obtain ⟨before, ok⟩ := Bool.and_eq_true_iff.mp first
    exact ⟨before, .trans ⟨sramRead_keeps _ _, sramRead_sram ok⟩ rest⟩

/-- Reading bytes of SRAM that pass (R463) leaves storage as it was. -/
theorem sramBytes_keeps {s : State} {a n : Nat} (sound : (s.sramBytes a n).2.2 = true) : KeepsSram s (s.sramBytes a n).1 :=
  (foldl_readStep_keeps (a / 64 * 64) _ _ sound).2

/-- Bytes within one aligned granule pass if the granule does. -/
theorem sramBytes_sound {s : State} {a n : Nat} (aligned : a % 64 = 0) (pos : 0 < n) (room : n ≤ 64)
    (ok : (s.sramRead a).2.ok = true) : (s.sramBytes a n).2.2 = true := by
  have base : a / 64 * 64 = a := by omega
  have one : cdiv (a + n - a) 64 = 1 := by unfold cdiv; omega
  unfold State.sramBytes
  dsimp only
  rw [base, one]
  simpa using ok

/-! ### Writes of SRAM -/

/-- Bytes within one granule of SRAM that passes are stored, and no other byte changes (R213). -/
theorem putBytes_part_sram {s : State} {p a : Nat} {bs : List Byte} (nonempty : bs ≠ []) (inner : a % 64 ≠ 0)
    (room : a % 64 + bs.length ≤ 64) (home : s.home p a = .sram a) (base : s.home p (a / 64 * 64) = .sram (a / 64 * 64))
    (ok : (s.sramRead (a / 64 * 64)).2.ok = true) (n : Nat) : StoresBytes s (s.putBytes p a (n + 1) bs) a bs := by
  obtain ⟨t, part, bytes, -⟩ := writePart_sram room home base ok
  have put : s.putBytes p a (n + 1) bs = t := by
    unfold State.putBytes
    rw [List.isEmpty_eq_false_iff.mpr nonempty, if_neg (by decide)]
    dsimp only
    rw [List.take_of_length_le (by omega), List.drop_of_length_le (by omega), putBytes_nil, if_neg (by omega), part]
  rw [put]
  exact bytes

/-! ### Memory and the collective engines -/

theorem sramRead_colls (s : State) (a : Nat) : (s.sramRead a).1.colls = s.colls := by
  have noted (t : State) (w : Nat) (ue : Bool) : (t.srmLast a w ue).colls = t.colls := by
    unfold State.srmLast
    rw [wr_colls, wr_colls, wr_colls]
  have fixed (t : State) (f : Tab (List Nat)) : ({ t with sramFix := f } : State).colls = t.colls := rfl
  have counted (t : State) (p u : Nat) : (t.noteUe p u).colls = t.colls := rfl
  unfold State.sramRead
  dsimp only
  split
  · split <;> rw [ite_colls, record_colls, fixed, noted, count_colls, ite_self]
  · split
    · rw [ite_colls, record_colls, fixed, noted, count_colls, ite_self]
    · dsimp only
      rw [record_colls, counted, noted, count_colls, setSramSide_colls, ite_colls, record_colls, fixed, noted, count_colls, ite_self]

theorem hbmCe_colls (s : State) (p ph n : Nat) : (s.hbmCe p ph n).colls = s.colls := by
  unfold State.hbmCe
  dsimp only
  rw [ite_colls, updChan_colls, ageLog_colls, setReg_colls, flag_colls, record_colls, count_colls, flag_colls, flag_colls, ite_self]

theorem hbmUe_colls (s : State) (p ph a : Nat) : (s.hbmUe p ph a).colls = s.colls := by
  have counted (t : State) (p u : Nat) : (t.noteUe p u).colls = t.colls := rfl
  unfold State.hbmUe
  dsimp only
  rw [record_colls, counted, setReg_colls, flag_colls, flag_colls]

theorem hbmRead_colls (s : State) (p a ph : Nat) : (s.hbmRead p a ph).1.colls = s.colls := by
  have choice {c : Prop} {_ : Decidable c} {x y : State × Delivered} (hx : x.1.colls = s.colls) (hy : y.1.colls = s.colls) :
      (if c then x else y).1.colls = s.colls := by split <;> assumption
  unfold State.hbmRead
  split
  · exact choice (flag_colls _ _ _ _ _ _) (hbmUe_colls _ _ _ _)
  · next n _ =>
    have corrected : (if n = 0 then s else s.hbmCe p ph n).colls = s.colls := by rw [ite_colls, hbmCe_colls, ite_self]
    have flagged (f c : Fld) (i : Nat) : ((if n = 0 then s else s.hbmCe p ph n).flag f c 0 i).colls = s.colls :=
      (flag_colls _ _ _ _ _ _).trans corrected
    exact choice (flagged _ _ _) (choice corrected (choice corrected (flagged _ _ _)))

theorem readGran_colls {s t : State} {p a : Nat} {d : Delivered} (h : s.readGran p a = some (t, d)) : t.colls = s.colls := by
  unfold State.readGran at h
  split at h
  · exact (congrArg (·.1.colls) (Option.some.inj h)).symm.trans (sramRead_colls s _)
  · exact (congrArg (·.1.colls) (Option.some.inj h)).symm.trans (hbmRead_colls s _ _ _)
  · cases h
  · cases h

theorem landed_colls (s : State) (p a : Nat) : (s.landed p a).colls = s.colls := by
  unfold State.landed
  split
  · rfl
  · split
    · rfl
    · rw [ite_colls, countSat_colls, wr_colls, flag_colls, ite_self]

theorem writeGran_colls {s t : State} {p a : Nat} {g : Gran} {check : BitVec 16} (h : s.writeGran p a g check = some t) :
    t.colls = s.colls := by
  unfold State.writeGran at h
  split at h
  · rw [← Option.some.inj h, landed_colls]; rfl
  · rw [← Option.some.inj h]; rfl
  · cases h
  · cases h

theorem writePart_colls {s : State} {p a : Nat} {bs : List Byte} {r : State × Bool} (h : s.writePart p a bs = some r) :
    r.1.colls = s.colls := by
  unfold State.writePart at h
  split at h
  · cases h
  · next read =>
    split at h
    · rw [← Option.some.inj h]; exact readGran_colls read
    · obtain ⟨u, write, rfl⟩ := Option.map_eq_some_iff.mp h
      exact (writeGran_colls write).trans (readGran_colls read)

theorem atomic_colls {s : State} {p a op v c : Nat} {w8 : Bool} {r : State × Option Nat} (h : s.atomic p a op w8 v c = some r) :
    r.1.colls = s.colls := by
  unfold State.atomic at h
  split at h
  · cases h
  · next read =>
    split at h
    · rw [← Option.some.inj h]; exact readGran_colls read
    · obtain ⟨u, write, rfl⟩ := Option.map_eq_some_iff.mp h
      exact (writeGran_colls write).trans (readGran_colls read)

theorem putBytes_colls (p : Nat) : ∀ (n : Nat) (s : State) (a : Nat) (bs : List Byte), (s.putBytes p a n bs).colls = s.colls
  | 0, _, _, _ => rfl
  | n + 1, s, a, bs => by
    unfold State.putBytes
    split
    · rfl
    · dsimp only
      rw [putBytes_colls p n]
      split
      · cases write : s.writeGran p a (BitVec.ofNat 512 (ofLE (bs.take (64 - a % 64))))
            (granCheck (BitVec.ofNat 512 (ofLE (bs.take (64 - a % 64))))) with
        | none => rfl
        | some t => exact writeGran_colls write
      · split
        · next part => exact writePart_colls part
        · rfl

theorem sramBytes_colls (s : State) (a n : Nat) : (s.sramBytes a n).1.colls = s.colls := by
  have kept : ∀ (l : List Nat) (x : State × List Byte × Bool), (l.foldl (readStep (a / 64 * 64)) x).1.colls = x.1.colls := by
    intro l
    induction l with
    | nil => exact fun _ => rfl
    | cons i l ih => exact fun x => (ih _).trans (sramRead_colls _ _)
  exact kept _ _

theorem coll_of_colls {s t : State} (h : t.colls = s.colls) (e : Nat) : t.coll e = s.coll e := by
  unfold State.coll
  rw [h]

end Sys2Proof.Proofs
end

section
/-! SUPPORT. Aborted collectives (10 R396, R397): what telling the neighbours leaves as it was, and what an abort does to its group, to
COL_ABORT and to the abort flag. -/

namespace Sys2Proof.Proofs

open Sys2Proof.Machine Sys2Proof.Laws

/-! ### Packets queued at ports -/

/-- Everything but the ports is as before. -/
def OnlyPorts (s t : State) : Prop := ∃ ps, t = { s with ports := ps }

namespace OnlyPorts

theorem refl (s : State) : OnlyPorts s s := ⟨s.ports, rfl⟩

theorem trans {s t u : State} (h : OnlyPorts s t) (g : OnlyPorts t u) : OnlyPorts s u := by
  obtain ⟨_, rfl⟩ := h
  obtain ⟨_, rfl⟩ := g
  exact ⟨_, rfl⟩

theorem colls {s t : State} (h : OnlyPorts s t) : t.colls = s.colls := by
  obtain ⟨_, rfl⟩ := h
  rfl

theorem foldl {α : Type} {f : State → α → State} (hf : ∀ a x, OnlyPorts a (f a x)) :
    ∀ (l : List α) (s : State), OnlyPorts s (l.foldl f s)
  | [], s => refl s
  | x :: l, s => (hf s x).trans (foldl hf l (f s x))

end OnlyPorts

theorem collPacket_ports (s : State) (p e kind : Nat) (m : CollMsg) (credits cause : Nat) :
    OnlyPorts s (s.collPacket p e kind m credits cause) := by
  unfold State.collPacket
  split
  · exact .refl s
  · exact ⟨_, rfl⟩

theorem collTell_ports (s : State) (c : CollCtx) (gid seq tag cause : Nat) : OnlyPorts s (s.collTell c gid seq tag cause) :=
  .foldl (fun _ _ => collPacket_ports _ _ _ _ _ _ _) _ _

theorem collCredit_ports (s : State) (c : CollCtx) (m : CollMsg) : OnlyPorts s (s.collCredit c m) := by
  unfold State.collCredit
  split
  · exact .refl s
  · exact collPacket_ports _ _ _ _ _ _ _

theorem dropEarly_ports (s : State) (c : CollCtx) (gid seq : Nat) :
    OnlyPorts (s.updColl c.e fun x => { x with early := x.early.filter fun m => !(m.gid == gid && m.seq == seq) })
      (s.dropEarly c gid seq) :=
  .foldl (fun a m => collCredit_ports a c m) _ _

/-! ### Completion words and destinations -/

theorem addDone_colls (s : State) (p addr n : Nat) : (s.addDone p addr n).colls = s.colls := by
  unfold State.addDone
  split
  · rfl
  · split
    · next done => exact atomic_colls done
    · rfl

theorem collUndefine_colls (s : State) (c : CollCtx) (d : BitVec 512) : (s.collUndefine c d).colls = s.colls := by
  unfold State.collUndefine
  split
  · rfl
  · exact putBytes_colls _ _ _ _ _

/-! ### A group BROKEN -/

/-- The group of an operation that aborts (R397). -/
def brokenGroup (g : CollGroup) (seq cause : Nat) : CollGroup := { g with state := 2, cause := cause, aborted := seq }

theorem collBroken_coll (s : State) (p e gid seq cause port : Nat) : (s.collBroken p e gid seq cause port).coll e =
    { s.coll e with groups := tabUpd groupDefault10 (s.coll e).groups gid (brokenGroup · seq cause) } := by
  unfold State.collBroken
  dsimp only
  rw [record_coll, setReg_coll, flag_coll]
  exact coll_updColl_same s e _

theorem collBroken_group (s : State) (p e gid seq cause port : Nat) :
    (s.collBroken p e gid seq cause port).collGroup e gid = brokenGroup (s.collGroup e gid) seq cause := by
  unfold State.collGroup
  rw [collBroken_coll, tabGet_tabUpd_same]

/-- The group, cause, port and sequence number of an abort as COL_ABORT packs them (R397). -/
theorem bits_collAbort {gid cause port : Nat} (hg : gid < 2 ^ 8) (hc : cause < 2 ^ 4) (hp : port < 2 ^ 6) (seq : Nat) :
    let w := (BitVec.ofNat 64 (gid + cause * 2 ^ 8 + port * 2 ^ 12 + seq % 2 ^ 32 * 2 ^ 32)).toNat
    bits w 0 8 = gid ∧ bits w 8 4 = cause ∧ bits w 32 32 = seq % 2 ^ 32 := by
  simp only [bits, BitVec.toNat_ofNat, Nat.shiftRight_eq_div_pow]
  omega

/-- COL_ABORT names the group, the cause and the sequence number, and the abort flag is set (R397). -/
theorem collBroken_shows (s : State) (p e seq : Nat) {gid cause port : Nat} (hg : gid < 2 ^ 8) (hc : cause < 2 ^ 4)
    (hp : port < 2 ^ 6) : let t := s.collBroken p e gid seq cause port
    t.rd F.COL_ABORT_gid 0 e = gid ∧ t.rd F.COL_ABORT_cause 0 e = cause ∧ t.rd F.COL_ABORT_seq 0 e = seq % 2 ^ 32 ∧
      t.rd F.COL_EVT_abort 0 e = 1 := by
  obtain ⟨group, why, number⟩ := bits_collAbort hg hc hp seq
  have evt : Reg.key .COL_EVT 0 e 0 0 ≠ Reg.key .COL_ABORT 0 e 0 0 := by rw [key_COL_EVT, key_COL_ABORT]; omega
  have cnt : Reg.key .COL_EVT 0 e 0 0 ≠ Reg.key .COL_EVT_CNT 0 e 0 0 := by rw [key_COL_EVT, key_COL_EVT_CNT]; omega
  have shown (u : State) (f : Fld) (h : f.reg = .COL_ABORT) (v : Word) :
      (u.setReg .COL_ABORT v 0 e).rd f 0 e = bits v.toNat f.lo f.width := by
    unfold State.rd
    rw [h, reg_setReg_same]
  unfold State.collBroken
  dsimp only
  rw [record_rd, record_rd, record_rd, record_rd, shown _ _ rfl, shown _ _ rfl, shown _ _ rfl,
    rd_setReg_ne _ _ _ _ _ _ _ _ _ _ _ _ (by exact evt), rd_flag_same _ _ _ _ _ _ (by decide) (by exact cnt)]
  exact ⟨group, why, number, rfl⟩

/-! ### An operation aborted -/

/-- An operation that aborts before its group is marked: it and what is held for it are gone, the neighbours are told, and its
destination is undefined (R397). -/
def collDropped (s : State) (c : CollCtx) (d : BitVec 512) (seq cause : Nat) (lost : InFlight) : State :=
  let gid := cdGid d
  let s := if c.writes d then s.updColl c.e fun x => { x with undone := x.undone ++ [lost] } else s
  let s := s.updColl c.e fun x => { x with
    ops := x.ops.filter fun o => !(o.gid == gid && o.seq == seq), comets := x.comets.filter fun m => !(m.gid == gid && m.seq == seq) }
  (((s.dropEarly c gid seq).collTell c gid seq (cdTag d) cause).addDone c.p (cdDone d) (2 ^ 32)).collUndefine c d

theorem collAbort_eq (s : State) (c : CollCtx) (d : BitVec 512) (seq cause port : Nat) :
    ∃ lost, s.collAbort c d seq cause port = (collDropped s c d seq cause lost).collBroken c.p c.e (cdGid d) seq cause port :=
  ⟨_, rfl⟩

theorem collDropped_groups (s : State) (c : CollCtx) (d : BitVec 512) (seq cause : Nat) (lost : InFlight) :
    ((collDropped s c d seq cause lost).coll c.e).groups = (s.coll c.e).groups := by
  unfold collDropped
  extract_lets gid s1 s2
  have first : (s1.coll c.e).groups = (s.coll c.e).groups := by
    simp only [s1]
    split
    · rw [coll_updColl_same]
    · rfl
  have second : (s2.coll c.e).groups = (s1.coll c.e).groups := by simp only [s2, coll_updColl_same]
  have told := ((dropEarly_ports s2 c gid seq).trans (collTell_ports _ c gid seq (cdTag d) cause)).colls
  rw [coll_of_colls (((collUndefine_colls _ _ _).trans (addDone_colls _ _ _ _)).trans told), coll_updColl_same]
  exact second.trans first

/-- An abort marks its group, shows it in COL_ABORT and sets the abort flag (R397). -/
theorem collAbort_effect (s : State) (c : CollCtx) (d : BitVec 512) (seq : Nat) {cause port : Nat} (hc : cause < 2 ^ 4)
    (hp : port < 2 ^ 6) : let t := s.collAbort c d seq cause port
    t.collGroup c.e (cdGid d) = brokenGroup (s.collGroup c.e (cdGid d)) seq cause ∧ t.rd F.COL_ABORT_gid 0 c.e = cdGid d ∧
      t.rd F.COL_ABORT_cause 0 c.e = cause ∧ t.rd F.COL_ABORT_seq 0 c.e = seq % 2 ^ 32 ∧ t.rd F.COL_EVT_abort 0 c.e = 1 := by
  obtain ⟨lost, e⟩ := collAbort_eq s c d seq cause port
  intro t
  simp only [t, e]
  refine ⟨?_, collBroken_shows _ _ _ _ (bits_lt _ _ _) hc hp⟩
  rw [collBroken_group]
  unfold State.collGroup
  rw [collDropped_groups]

end Sys2Proof.Proofs
end

section
/-! PROOFS. Posted and triggered collectives (10 R381, R383, R396): COLLECTIVE_POST_TAKE and TRIGGER_FIRE. -/

namespace Sys2Proof.Proofs

open Sys2Proof.Machine Sys2Proof.Laws

/-! ### Posts -/

section

variable {e : Fin 4} {s : State}

/-- The state after an engine has read the descriptor at its place and stored its consumed count (R381): `d` is the state after the
reads. -/
def postTaken (s d : State) (e : Nat) : State :=
  let p := s.partOfOe e
  ((d.updColl e fun x => { x with consumed := x.consumed + 1 }).putBytes p (s.postBase p e + 16384 + 8) 2
    (toLE 8 ((s.coll e).consumed + 1))).wr F.COL_STS_consumed ((s.coll e).consumed + 1) 0 e

theorem postTaken_coll {d : State} (read : d.colls = s.colls) (e : Nat) :
    (postTaken s d e).coll e = { s.coll e with consumed := (s.coll e).consumed + 1 } := by
  unfold postTaken
  dsimp only
  rw [wr_coll, coll_of_colls (putBytes_colls _ _ _ _ _), coll_updColl_same, coll_of_colls read]

theorem postTaken_shows (s d : State) (e : Nat) :
    (postTaken s d e).rd F.COL_STS_consumed 0 e = ((s.coll e).consumed + 1) % 2 ^ 22 :=
  rd_wr_same _ _ _ _ _ _ _ (by decide)

/-- The consumed count is stored behind the ring's post count, and no other byte changes (R381). -/
theorem postTaken_stores {d : State} (read : KeepsSram s d) (e : Nat) :
    let p := s.partOfOe e
    let ring := s.postBase p e + 16384
    s.postBase p e % 64 = 0 → s.home p ring = .sram ring → s.home p (ring + 8) = .sram (ring + 8) → (s.sramRead ring).2.ok = true →
      StoresBytes s (postTaken s d e) (ring + 8) (toLE 8 ((s.coll e).consumed + 1)) := by
  intro p ring aligned home word ok
  let v := d.updColl e fun x => { x with consumed := x.consumed + 1 }
  have kept : KeepsSram s v := read.trans ⟨⟨⟨rfl, rfl, rfl⟩, rfl⟩, rfl⟩
  have base : (ring + 8) / 64 * 64 = ring := by simp only [ring]; omega
  have stored : StoresBytes v (v.putBytes p (ring + 8) (1 + 1) (toLE 8 ((s.coll e).consumed + 1))) (ring + 8)
      (toLE 8 ((s.coll e).consumed + 1)) := by
    refine putBytes_part_sram (List.ne_nil_of_length_pos (by rw [length_toLE]; decide)) (by simp only [ring]; omega)
      (by rw [length_toLE]; simp only [ring]; omega) ((kept.home _ _).trans word) ?_ ?_ 1
    · rw [base, kept.home, home]
    · rw [base, sramRead_delivers_congr kept.mem kept.sram, ok]
  intro x
  rw [← kept.sameMemory x, ← stored x]
  exact wr_byte _ _ _ _ _ _ _ _

end

/-- COLLECTIVE_POST_TAKE takes a posted descriptor whose words pass and whose counter word is sound (R381): it fires, or waits. -/
theorem postTake_exec {e : Fin 4} {s : State} : let p := s.partOfOe e
    let base := s.postBase p e
    let w := s.sramBytes (base + 16384) 16
    let d := w.1.sramBytes (base + 64 * ((s.coll e).consumed % 256)) 64
    let desc := BitVec.ofNat 512 (ofLE d.2.1)
    let u := postTaken s d.1 e
    let ahead := (leAt w.2.1 0 4 + 2 ^ 32 - (s.coll e).consumed % 2 ^ 32) % 2 ^ 32
    base ≠ 0 → s.collClosed p = false → 0 < ahead → ahead < 2 ^ 31 → (s.coll e).waiting.length + (s.coll e).ops.length < 256 →
    d.2.2 = true → u.wordOk p (cdTrig desc) = true → exec (.collectivePostTake e) s =
      .next (if u.collReady p desc then u.collFire p e desc true
        else u.updColl e fun c => { c with waiting := c.waiting ++ [desc] }) := by
  intro p base w d desc u ahead posted opens fresh near room sound word
  change execCollectivePostTake e s = _
  unfold execCollectivePostTake
  extract_lets x r post d' desc' s1 s2 s3
  have waits : ¬ (x.consumed % 2 ^ 32 = post ∨ 2 ^ 31 ≤ (post + 2 ^ 32 - x.consumed % 2 ^ 32) % 2 ^ 32) := by
    have count : ahead = (post + 2 ^ 32 - x.consumed % 2 ^ 32) % 2 ^ 32 := rfl
    omega
  have sound' : d'.2.2 = true := sound
  have word' : s3.wordOk p (cdTrig desc') = true := word
  rw [if_neg (not_or.mpr ⟨posted, by rw [opens]; decide⟩), if_neg waits, if_neg (Nat.not_le_of_lt room), sound', word']
  rfl

/-! ### Triggers -/

theorem triggerFire_sched {e : Fin 4} {i : Nat} {d : BitVec 512} {s : State} {img : Image}
    (opens : s.collClosed (s.partOfOe e) = false) (image : (s.part (s.partOfOe e)).image = some img)
    (listed : (schedEnts img.groups)[i]? = some d) (here : s.collEngine (s.partOfOe e) (cdGid d) = e.val)
    (runs : s.running (s.partOfOe e) = true) (goes : s.schedStopped (s.partOfOe e) = false) :
    exec (.triggerFire e true i) s = .next (s.collFire (s.partOfOe e) e d false) := by
  change execTriggerFire e true i s = _
  unfold execTriggerFire
  dsimp only
  rw [opens, if_neg (by decide), if_pos rfl, image]
  dsimp only
  rw [listed]
  dsimp only
  rw [here, runs, goes, if_neg (by simp)]

/-- The state in which the i-th waiting descriptor has left its trigger table (R383). -/
def triggered (s : State) (e i : Nat) : State := s.updColl e fun x => { x with waiting := removeAt x.waiting i }

theorem triggerFire_waiting {e : Fin 4} {i : Nat} {d : BitVec 512} {s : State}
    (opens : s.collClosed (s.partOfOe e) = false) (waits : (s.coll e).waiting[i]? = some d)
    (ready : s.collReady (s.partOfOe e) d = true) :
    exec (.triggerFire e false i) s = .next ((triggered s e i).collFire (s.partOfOe e) e d true) := by
  change execTriggerFire e false i s = _
  unfold execTriggerFire
  dsimp only
  rw [opens, if_neg (by decide), if_neg (by decide), waits]
  dsimp only
  rw [ready, if_neg (by decide)]
  rfl

theorem updGroup_group (s : State) (e gid : Nat) (f : CollGroup → CollGroup) :
    (s.updGroup e gid f).collGroup e gid = f (s.collGroup e gid) := by
  unfold State.updGroup State.collGroup
  rw [coll_updColl_same, tabGet_tabUpd_same]

/-- A descriptor fired on a group that is not READY takes the next sequence number and aborts with cause 8 (R386, R396). -/
theorem collFire_unready {s : State} {p e : Nat} {d : BitVec 512} {c : CollCtx} (ctx : s.collCtx p (cdGid d) = some c)
    (unready : (s.collGroup e (cdGid d)).state ≠ 1) (posted : Bool) :
    s.collFire p e d posted = (s.updGroup e (cdGid d) fun g => { g with fired := (s.collGroup e (cdGid d)).fired + 1 }).collAbort
      c d ((s.collGroup e (cdGid d)).fired + 1) 8 0x3F := by
  unfold State.collFire
  extract_lets gid gr seq u
  have ctx' : u.collCtx p gid = some c := ctx
  rw [ctx']
  dsimp only
  rw [if_pos (.inl unready)]

theorem triggerFire_unready {e : Fin 4} {i : Nat} {d : BitVec 512} {s : State} {c : CollCtx}
    (opens : s.collClosed (s.partOfOe e) = false) (waits : (s.coll e).waiting[i]? = some d)
    (ready : s.collReady (s.partOfOe e) d = true) (ctx : s.collCtx (s.partOfOe e) (cdGid d) = some c) (here : c.e = e.val)
    (unready : (s.collGroup e (cdGid d)).state ≠ 1) : let g := s.collGroup e (cdGid d)
    Completes (.triggerFire e false i) s fun t =>
      t.collGroup e (cdGid d) = { g with fired := g.fired + 1, state := 2, cause := 8, aborted := g.fired + 1 } ∧
      t.rd F.COL_ABORT_gid 0 e = cdGid d ∧ t.rd F.COL_ABORT_cause 0 e = 8 ∧
      t.rd F.COL_ABORT_seq 0 e = (g.fired + 1) % 2 ^ 32 ∧ t.rd F.COL_EVT_abort 0 e = 1 := by
  intro g
  have same : (triggered s e i).collGroup e (cdGid d) = g := by
    unfold triggered State.collGroup
    rw [coll_updColl_same]
    rfl
  have fired := collFire_unready (s := triggered s e i) (e := e) (p := s.partOfOe e) ctx (same ▸ unready) true
  obtain ⟨group, shown⟩ := collAbort_effect ((triggered s e i).updGroup e (cdGid d) fun x => { x with fired := g.fired + 1 }) c d
    (g.fired + 1) (cause := 8) (port := 0x3F) (by decide) (by decide)
  rw [same] at fired
  rw [here] at group shown
  rw [updGroup_group, same] at group
  exact ⟨_, (triggerFire_waiting opens waits ready).trans (congrArg _ fired), group, shown⟩

/-- Settles O42: a posted descriptor taken fires or waits, a trigger fires, and one on a group not READY aborts. -/
theorem collectivePosts : Obligations.CollectivePosts := by
  unfold Obligations.CollectivePosts
  refine ⟨fun e s => ?posts, ?triggers⟩
  case triggers =>
    intro e i d s p opens
    refine ⟨fun img image listed here runs goes => triggerFire_sched opens image listed here runs goes, fun waits ready => ?_⟩
    exact ⟨triggerFire_waiting opens waits ready, fun c ctx here unready => triggerFire_unready opens waits ready ctx here unready⟩
  case posts =>
    intro p base ring x w d desc u ahead posted opens fresh near room sound word
    have taken := postTake_exec posted opens fresh near room sound word
    have coll : u.coll e = { x with consumed := x.consumed + 1 } :=
      postTaken_coll ((sramBytes_colls _ _ _).trans (sramBytes_colls _ _ _)) e
    refine ⟨congrArg CollEng.consumed coll, postTaken_shows s d.1 e, fun aligned home wordHome ok => ?_, fun ready => ?_,
      fun below => ?_⟩
    · have ringSound : w.2.2 = true := sramBytes_sound (by simp only [ring]; omega) (by decide) (by decide) ok
      exact postTaken_stores ((sramBytes_keeps ringSound).trans (sramBytes_keeps sound)) e aligned home wordHome ok
    · exact taken.trans (congrArg _ (if_pos ready))
    · refine ⟨_, taken.trans (congrArg _ (if_neg (ne_true_of_eq_false below))), rfl, ?_⟩
      rw [coll_updColl_same]
      exact congrArg (fun y => y.waiting ++ [desc]) coll

end Sys2Proof.Proofs
end

section
/-! PROOFS. Collective packets (10 R386–R389, R396): the statement's states may hold landing buffers past those LAND_STS counts, and
the count of such a buffer lies on the mismatch flag, which an abort that undefines its destination there then loses. -/

namespace Sys2Proof.Proofs

open Sys2Proof.Machine Sys2Proof.Laws

/-! ### A mismatched packet -/

/-- A segment with another tag than the fired operation's sets the mismatch flag and aborts the operation (R386, R396). -/
theorem collData_mismatch {p : Fin 2} {h : BitVec 512} {data : List (BitVec 512 × BitVec 16)} {s : State} {c : CollCtx} {o : CollOp} :
    let m := collMsgOf (bits h.toNat 42 14) h data
    bits h.toNat 0 16 = 0x0C → s.collCtx p m.gid = some c → s.opOf c.e m.gid m.seq = some o → m.tag ≠ cdTag o.desc →
      exec (.collData p h data) s =
        .next ((s.flag F.COL_EVT_mismatch F.COL_EVT_CNT_mismatch_cnt 0 c.e).collAbort c o.desc o.seq 3 0x3F) := by
  intro m kind ctx runs tag
  change execCollData p h data s = _
  unfold execCollData
  rw [if_neg (not_not_intro kind)]
  dsimp only
  rw [ctx]
  dsimp only
  unfold State.collArrive
  dsimp only
  rw [runs]
  dsimp only
  rw [if_pos (by simpa using tag)]

/-- Marking a group BROKEN leaves the mismatch flag. -/
theorem collBroken_mismatch (s : State) (p e gid seq cause port : Nat) :
    (s.collBroken p e gid seq cause port).rd F.COL_EVT_mismatch 0 e = s.rd F.COL_EVT_mismatch 0 e := by
  have evt : Reg.key .COL_EVT 0 e 0 0 ≠ Reg.key .COL_ABORT 0 e 0 0 := by rw [key_COL_EVT, key_COL_ABORT]; omega
  have cnt : Reg.key .COL_EVT 0 e 0 0 ≠ Reg.key .COL_EVT_CNT 0 e 0 0 := by rw [key_COL_EVT, key_COL_EVT_CNT]; omega
  unfold State.collBroken
  dsimp only
  rw [record_rd, rd_setReg_ne _ _ _ _ _ _ _ _ _ _ _ _ (by exact evt), rd_flag_beside (by decide) (by exact cnt)]
  rfl

/-! ### The destination undefined -/

/-- A granule written to an open landing buffer while RUNNING is counted (R179). -/
theorem landed_counts {s : State} {p a j : Nat} {b : Landing} (runs : s.running p = true) (lands : s.landingAt p a = some (j, b))
    (isOpen : (s.part p).landOpen.contains j = true) : s.landed p a = s.countSat F.LAND_STS_count 1 p j := by
  unfold State.landed
  rw [runs, if_neg (by decide), lands]
  dsimp only
  rw [isOpen, if_pos rfl]

/-- An address has its home by the partition mode. -/
theorem home_of_mode {s t : State} (h : t.twoPart = s.twoPart) (p a : Nat) : t.home p a = s.home p a := by
  unfold State.home
  rw [h]

theorem collAddrs_of_mode {s t : State} (h : t.twoPart = s.twoPart) (p : Nat) (g : GroupEnt) (d : BitVec 512) :
    t.collAddrs p g d = s.collAddrs p g d := by
  simp only [State.collAddrs, State.wordOk, State.sramSpan, home_of_mode h]

/-- Registers, partitions and the partition mode are as before. -/
structure KeepsView (s t : State) : Prop where
  regs : t.regs = s.regs
  part : t.part = s.part
  twoPart : t.twoPart = s.twoPart

namespace KeepsView

variable {s t u : State}

theorem trans (h : KeepsView s t) (g : KeepsView t u) : KeepsView s u :=
  ⟨g.regs.trans h.regs, g.part.trans h.part, g.twoPart.trans h.twoPart⟩

theorem ite {c : Prop} {_ : Decidable c} (h : KeepsView s t) (g : KeepsView s u) : KeepsView s (if c then t else u) := by
  split <;> assumption

theorem updColl (s : State) (e : Nat) (f : CollEng → CollEng) : KeepsView s (s.updColl e f) := ⟨rfl, rfl, rfl⟩

end KeepsView

theorem OnlyPorts.keepsView {s t : State} (h : OnlyPorts s t) : KeepsView s t := by
  obtain ⟨_, rfl⟩ := h
  exact ⟨rfl, rfl, rfl⟩

/-- A destination of one granule of SRAM is undefined by one granule write (R237, R397). -/
theorem collUndefine_granule {s : State} {c : CollCtx} {d : BitVec 512} (writes : (c.writes d && s.collAddrs c.p c.g d) = true)
    (size : cdCount d * typeBytes (cdOtype d) = 64) (aligned : cdDst d % 64 = 0)
    (home : s.home c.p (cdDst d) = .sram (cdDst d)) :
    ∃ u, KeepsView s u ∧ s.collUndefine c d = u.landed c.p (cdDst d) := by
  let bs := toLE 64 (Config.freeNat s.free)
  let g : Gran := BitVec.ofNat 512 (ofLE bs)
  have whole : bs.length = 64 := length_toLE _ _
  refine ⟨s.takeFree.2.sramWrite (cdDst d) g (granCheck g), ⟨rfl, rfl, rfl⟩, ?_⟩
  have write : s.takeFree.2.writeGran c.p (cdDst d) g (granCheck g) =
      some ((s.takeFree.2.sramWrite (cdDst d) g (granCheck g)).landed c.p (cdDst d)) := by
    unfold State.writeGran
    rw [show s.takeFree.2.home c.p (cdDst d) = _ from home]
    dsimp only
    rw [Nat.div_mul_cancel (Nat.dvd_of_mod_eq_zero aligned)]
  unfold State.collUndefine
  rw [writes, if_neg (by decide)]
  dsimp only
  rw [size]
  change s.takeFree.2.putBytes c.p (cdDst d) (2 + 1) bs = _
  unfold State.putBytes
  rw [List.isEmpty_eq_false_iff.mpr (List.ne_nil_of_length_pos (by omega)), if_neg (by decide), aligned]
  dsimp only
  rw [List.take_of_length_le (Nat.le_of_eq whole), if_pos ⟨rfl, whole⟩, List.drop_of_length_le (Nat.le_of_eq whole), putBytes_nil]
  exact congrArg (Option.getD · _) write

/-- An operation without a completion word whose destination is one granule of SRAM aborts by that granule write. -/
theorem collDropped_granule {s : State} {c : CollCtx} {d : BitVec 512} (writes : (c.writes d && s.collAddrs c.p c.g d) = true)
    (size : cdCount d * typeBytes (cdOtype d) = 64) (aligned : cdDst d % 64 = 0)
    (home : s.home c.p (cdDst d) = .sram (cdDst d)) (done : cdDone d = 0) (seq cause : Nat) (lost : InFlight) :
    ∃ u, KeepsView s u ∧ collDropped s c d seq cause lost = u.landed c.p (cdDst d) := by
  have undone (t : State) (kept : KeepsView s t) : ∃ u, KeepsView s u ∧ t.collUndefine c d = u.landed c.p (cdDst d) := by
    obtain ⟨u, view, e⟩ := collUndefine_granule (s := t) (by rw [collAddrs_of_mode kept.twoPart, writes]) size aligned
      ((home_of_mode kept.twoPart _ _).trans home)
    exact ⟨u, kept.trans view, e⟩
  have noWord (t : State) : t.addDone c.p (cdDone d) (2 ^ 32) = t := if_pos (.inl done)
  unfold collDropped
  dsimp only
  rw [noWord]
  refine undone _ ?_
  have marked : KeepsView s (if c.writes d then s.updColl c.e fun x => { x with undone := x.undone ++ [lost] } else s) :=
    .ite (.updColl _ _ _) ⟨rfl, rfl, rfl⟩
  exact ((marked.trans (.updColl _ _ _)).trans ((KeepsView.updColl _ _ _).trans (dropEarly_ports _ c _ seq).keepsView)).trans
    (collTell_ports _ c _ seq _ cause).keepsView

/-! ### The counterexample -/

/-- The landing buffer whose LAND_STS register has the key of engine 0's COL_EVT. -/
def strayLanding : Nat := 0x5FE02

theorem key_strayLanding : Reg.key .COL_EVT 0 0 0 0 = Reg.key .LAND_STS 0 strayLanding 0 0 := by
  rw [key_COL_EVT, key_LAND_STS, strayLanding]

/-- The count of that buffer, raised by one write, turns a COL_EVT of abort and mismatch into one of neither. -/
theorem rd_mismatch_counted {s : State} (flags : (s.reg .COL_EVT 0 0).toNat = 3) :
    (s.countSat F.LAND_STS_count 1 0 strayLanding).rd F.COL_EVT_mismatch 0 0 = 0 := by
  have aliased (u : State) : u.reg .COL_EVT 0 0 = u.reg .LAND_STS 0 strayLanding := by
    unfold State.reg
    rw [key_strayLanding]
  have before : (s.reg .LAND_STS 0 strayLanding).toNat = 3 := by rw [← aliased, flags]
  unfold State.rd
  change bits ((s.countSat F.LAND_STS_count 1 0 strayLanding).reg .COL_EVT 0 0).toNat 1 1 = 0
  rw [aliased]
  unfold State.countSat State.wr State.rd
  change bits ((s.setReg .LAND_STS _ 0 strayLanding).reg .LAND_STS 0 strayLanding).toNat 1 1 = 0
  rw [reg_setReg_same]
  change bits (BitVec.ofNat 64 (putBits (s.reg .LAND_STS 0 strayLanding).toNat 0 24
    (min (bits (s.reg .LAND_STS 0 strayLanding).toNat 0 24 + 1) (2 ^ 24 - 1)))).toNat 1 1 = 0
  rw [before]
  decide

/-- As many empty landing buffers, and one of the first granule of SRAM. -/
def manyLandings : List Landing :=
  List.replicate strayLanding { base := 0, size := 0, expected := 0, opn := 0, deadline := 0 } ++
    [{ base := sramBase, size := 1, expected := 1, opn := 0, deadline := 0 }]

theorem find?_zipIdx_replicate {α : Type} {n : Nat} {x y : α} {q : α × Nat → Bool} (miss : ∀ i, q (x, i) = false)
    (hit : q (y, n) = true) : (List.replicate n x ++ [y]).zipIdx.find? q = some (y, n) := by
  have none' : (List.replicate n x).zipIdx.find? q = none := by
    refine List.find?_eq_none.mpr fun z m => ?_
    have first : z.1 = x := List.eq_of_mem_replicate (List.fst_mem_of_mem_zipIdx m)
    rw [show z = (x, z.2) from Prod.ext first rfl, miss]
    decide
  rw [List.zipIdx_append, List.find?_append, none', List.length_replicate]
  simp [hit]

/-- Engine 0's group 0, valid, without masked axes, of one member. -/
def lonelyGroup : List Byte := toLE 96 (1 + 256 ^ 65 + 256 ^ 72 + 256 ^ 74 + 256 ^ 76)

/-- An image of that group and those landing buffers. -/
def crowdedImage : Image :=
  { fl := 0, divisor := 0, length := 72, orbits := 0, members := 1, horizon := 256, hop := 0, build := 0, hash := [], plcHash := []
    streams := [], slots := [], budgets := [], refresh := [], landing := manyLandings, forecast := [], groups := lonelyGroup
    data := [] }

/-- A placement of one member. -/
def lonePlacement : Placement :=
  { topology := 0, dimX := 1, dimY := 1, dimZ := 1, master := 0, own := 0, hash := [], diameter := 0
    members := [{ pix := 0, x := 0, y := 0, z := 0, upstream := 255, serial := 0, ports := [] }] }

/-- The first operation of group 0: a broadcast of the first granule of SRAM onto itself. -/
def granuleOp : CollOp :=
  { desc := BitVec.ofNat 512 (16 * 2 ^ 32 + sramBase * 2 ^ 64 + sramBase * 2 ^ 128), gid := 0, seq := 1, last := 0 }

/-- A running partition that counts the first granule of SRAM as landing buffer `strayLanding`, with that operation fired and an
abort flagged before. -/
def strayCounted : State :=
  ((State.reset.updPart 0 fun q => { q with
      state := .running, placement := some lonePlacement, image := some crowdedImage, landOpen := [strayLanding] }).updColl 0
    fun x => { x with ops := [granuleOp] }).wr F.COL_EVT_abort 1 0 0

/-- A segment for that operation with another tag. -/
def mistagged : BitVec 512 := BitVec.ofNat 512 (0x0C + 2 ^ 64 + 2 ^ 96)

theorem strayCounted_lands {u : State} (part : u.part 0 = strayCounted.part 0) :
    ∃ b, u.landingAt 0 sramBase = some (strayLanding, b) := by
  have image : (u.part 0).image = some crowdedImage := by rw [part]; rfl
  unfold State.landingAt
  simp only [image, crowdedImage, manyLandings]
  rw [find?_zipIdx_replicate (fun _ => by simp) (by decide)]
  exact ⟨_, rfl⟩

theorem strayCounted_ready : let s := strayCounted
    let m := collMsgOf (bits mistagged.toNat 42 14) mistagged []
    bits mistagged.toNat 0 16 = 0x0C ∧ m.gid = 0 ∧ m.seq = 1 ∧ m.tag ≠ cdTag granuleOp.desc ∧ cdGid granuleOp.desc = 0 ∧
      s.opOf 0 0 1 = some granuleOp ∧ (s.part 0).state = .running ∧ (s.part 0).landOpen.contains strayLanding = true ∧
      ((s.flag F.COL_EVT_mismatch F.COL_EVT_CNT_mismatch_cnt 0 0).reg .COL_EVT 0 0).toNat = 3 := by decide +kernel

theorem strayCounted_group : let d := granuleOp.desc
    (strayCounted.collCtx 0 0).map (fun c => (c.p, c.e, c.writes d && strayCounted.collAddrs 0 c.g d)) = some (0, 0, true) ∧
      cdCount d * typeBytes (cdOtype d) = 64 ∧ cdDst d = sramBase ∧ strayCounted.home 0 sramBase = .sram sramBase ∧
      cdDone d = 0 := by decide +kernel

/-- The abort of that operation undefines the landing granule, whose count takes the mismatch flag away. -/
theorem strayCounted_loses {c : CollCtx} (part : c.p = 0) (engine : c.e = 0)
    (writes : (c.writes granuleOp.desc && strayCounted.collAddrs 0 c.g granuleOp.desc) = true) :
    ((strayCounted.flag F.COL_EVT_mismatch F.COL_EVT_CNT_mismatch_cnt 0 c.e).collAbort c granuleOp.desc granuleOp.seq 3
      0x3F).rd F.COL_EVT_mismatch 0 c.e = 0 := by
  obtain ⟨-, -, -, -, -, -, running, isOpen, flags⟩ := strayCounted_ready
  obtain ⟨-, size, dst, home, done⟩ := strayCounted_group
  let s := strayCounted.flag F.COL_EVT_mismatch F.COL_EVT_CNT_mismatch_cnt 0 c.e
  have mode : s.twoPart = strayCounted.twoPart := flag_twoPart _ _ _ _ _ _
  obtain ⟨lost, aborted⟩ := collAbort_eq s c granuleOp.desc granuleOp.seq 3 0x3F
  obtain ⟨u, kept, dropped⟩ := collDropped_granule (s := s) (c := c) (d := granuleOp.desc) (by rw [part, collAddrs_of_mode mode, writes]) size
    (by rw [dst]; decide) (by rw [dst, part]; exact (home_of_mode mode 0 sramBase).trans home) done granuleOp.seq 3 lost
  have view : u.part 0 = strayCounted.part 0 := (congrFun kept.part 0).trans (flag_part _ _ _ _ _ _ _)
  have runs : u.running 0 = true := by
    unfold State.running
    rw [view, running]
    rfl
  have counts : (u.reg .COL_EVT 0 0).toNat = 3 := by
    unfold State.reg
    rw [kept.regs, ← flags]
    simp only [s, engine]
    rfl
  obtain ⟨b, lands⟩ := strayCounted_lands view
  have landed := landed_counts runs lands (by rw [view]; exact isOpen)
  rw [aborted, collBroken_mismatch, dropped, dst, part, engine, landed]
  exact rd_mismatch_counted counts

/-- Refutes O43: nothing in the statement bounds an image's landing buffers, and the granule that an abort undefines in the buffer
whose LAND_STS register lies on COL_EVT clears the mismatch flag that the packet set. -/
theorem not_collectiveTraffic : ¬ Obligations.CollectiveTraffic := by
  unfold Obligations.CollectiveTraffic
  intro claim
  obtain ⟨packets, -⟩ := claim
  obtain ⟨kind, gid, seq, tag, group, runs, -⟩ := strayCounted_ready
  obtain ⟨member, -⟩ := strayCounted_group
  obtain ⟨c, ctx, told⟩ := Option.map_eq_some_iff.mp member
  obtain ⟨part, engine, writes⟩ : c.p = 0 ∧ c.e = 0 ∧ _ = true := by simpa only [Prod.mk.injEq] using told
  obtain ⟨-, here⟩ := packets 0 mistagged [] strayCounted
  have ctx' : strayCounted.collCtx (0 : Fin 2) (collMsgOf (bits mistagged.toNat 42 14) mistagged []).gid = some c := by
    rw [gid]
    exact ctx
  have op : strayCounted.opOf c.e (collMsgOf (bits mistagged.toNat 42 14) mistagged []).gid
      (collMsgOf (bits mistagged.toNat 42 14) mistagged []).seq = some granuleOp := by
    rw [engine, gid, seq]
    exact runs
  obtain ⟨-, fired, -⟩ := here c ctx'
  obtain ⟨mismatch, -⟩ := fired granuleOp op (group.trans gid.symm) seq.symm
  obtain ⟨t, e, -, flagged⟩ := mismatch kind tag
  obtain rfl := Host.Outcome.next.inj ((collData_mismatch kind ctx' op tag).symm.trans e)
  rw [strayCounted_loses part engine writes] at flagged
  exact absurd flagged (by decide)

end Sys2Proof.Proofs
end

section
/-! SUPPORT. What a partial reset's parts leave of host commands (11 R416, R417; 12 R442–R445): a RESET_UNIT in progress stays open when
ports go dark or train, and the partial resets in progress stay. -/

namespace Sys2Proof.Proofs

open Sys2Proof.Machine Sys2Proof.Laws

/-! ### Partitions by their number -/

theorem part_of_alias {p q : Nat} (h : p = 1 ↔ q = 1) (s : State) : s.part q = s.part p := by
  unfold State.part
  by_cases e : p = 1
  · rw [if_pos e, if_pos (h.mp e)]
  · rw [if_neg e, if_neg fun x => e (h.mpr x)]

/-- A change of one partition that keeps what a view shows of every partition. -/
theorem part_updPart_view {β : Type} (view : Part → β) {f : Part → Part} (hf : ∀ x, view (f x) = view x) (s : State) (p q : Nat) :
    view ((s.updPart p f).part q) = view (s.part q) := by
  rw [part_updPart]
  split
  · exact hf _
  · rfl

/-- Completing a command changes nothing of the other partition. -/
theorem complete_part_other {p q : Nat} (h : ¬ (p = 1 ↔ q = 1)) (s : State) (src : CmdSrc) (status detail r0 r1 : Nat) :
    (s.complete p src status detail r0 r1).part q = s.part q := by
  have other (u : State) (f : Part → Part) : (u.updPart p f).part q = u.part q := (part_updPart u p q f).trans (if_neg h)
  unfold State.complete
  split
  · rfl
  · extract_lets s1 s2 c
    have taken : s2.part q = s.part q := by
      simp only [s2, s1, other, refusalFlags_part, State.releaseSlot]
    cases src with
    | ring r =>
      dsimp only
      split
      · exact taken
      · rw [other, count_part, taken]
    | mailbox =>
      dsimp only
      rw [flag_part, wr_part, foldl_keeps_view (State.part · q) _ _ fun _ _ _ => setReg_part _ _ _ _ _ _ _ _]
      exact taken

/-! ### Commands that end -/

/-- The commands of a partition that are in progress and its partial resets. -/
def cmdsOf (q : Part) : List OpenCmd × List (Nat × Nat) := (q.opens, q.resets)

/-- Of host commands only some have ended, by their sources and none a RESET_UNIT; the partial resets in progress are as before. -/
structure Trims (s t : State) : Prop where
  resets : ∀ q, (t.part q).resets = (s.part q).resets
  opens : ∀ q, ∃ gone : CmdSrc → Bool, (t.part q).opens = (s.part q).opens.filter (fun x => !gone x.src) ∧
    ∀ src, gone src = true → ∃ x ∈ (s.part q).opens, x.src = src ∧ x.opcode ≠ 0x33

namespace Trims

variable {s t u : State}

theorem of_cmds (h : ∀ q, cmdsOf (t.part q) = cmdsOf (s.part q)) : Trims s t := by
  refine ⟨fun q => congrArg Prod.snd (h q), fun q => ⟨fun _ => false, ?_, fun _ x => absurd x Bool.false_ne_true⟩⟩
  exact (congrArg Prod.fst (h q)).trans (List.filter_eq_self.mpr fun _ _ => rfl).symm

theorem of_part (h : t.part = s.part) : Trims s t := of_cmds fun q => by rw [h]

theorem refl (s : State) : Trims s s := of_part rfl

theorem trans (h : Trims s t) (g : Trims t u) : Trims s u := by
  refine ⟨fun q => (g.resets q).trans (h.resets q), fun q => ?_⟩
  obtain ⟨gone, kept, why⟩ := h.opens q
  obtain ⟨gone', kept', why'⟩ := g.opens q
  refine ⟨fun src => gone' src || gone src, ?_, fun src e => ?_⟩
  · rw [kept', kept, List.filter_filter]
    exact List.filter_congr fun x _ => by rw [Bool.not_or]
  · rcases Bool.or_eq_true_iff.mp e with e | e
    · obtain ⟨x, m, named⟩ := why' src e
      rw [kept] at m
      exact ⟨x, (List.mem_filter.mp m).1, named⟩
    · exact why src e

theorem ite {c : Prop} {_ : Decidable c} (h : Trims s t) (g : Trims s u) : Trims s (if c then t else u) := by
  split <;> assumption

theorem foldl {α : Type} {f : State → α → State} (hf : ∀ a x, Trims a (f a x)) :
    ∀ (l : List α) (s : State), Trims s (l.foldl f s)
  | [], s => refl s
  | x :: l, s => (hf s x).trans (foldl hf l (f s x))

theorem updPart {p : Nat} {f : Part → Part} (h : Trims s t) (hf : ∀ q, cmdsOf (f q) = cmdsOf q) : Trims s (t.updPart p f) :=
  h.trans (of_cmds fun q => part_updPart_view cmdsOf hf t p q)

/-- What changes no partition keeps it. -/
theorem quiet (h : Trims s t) (e : u.part = t.part) : Trims s u := h.trans (of_part e)

theorem wr {f : Fld} {v p i j k : Nat} (h : Trims s t) : Trims s (t.wr f v p i j k) := h.quiet rfl

theorem emit {e : Emit} (h : Trims s t) : Trims s (t.emit e) := h.quiet rfl

theorem updPort {q : Nat} {f : Port → Port} (h : Trims s t) : Trims s (t.updPort q f) := h.quiet rfl

theorem updRing {k : Nat} {f : Ring → Ring} (h : Trims s t) : Trims s (t.updRing k f) := h.quiet rfl

/-- A command that is no RESET_UNIT completes (R409). -/
theorem complete {p : Nat} {x : OpenCmd} (h : Trims s t) (m : x ∈ (s.part p).opens) (other : x.opcode ≠ 0x33)
    (status detail r0 r1 : Nat) : Trims s (t.complete p x.src status detail r0 r1) := by
  have taken := complete_taken t p x.src status detail r0 r1
  have away {q : Nat} (n : ¬ (p = 1 ↔ q = 1)) := complete_part_other n t x.src status detail r0 r1
  refine ⟨fun q => ?_, fun q => ?_⟩
  · by_cases same : p = 1 ↔ q = 1
    · rw [← h.resets q, part_of_alias same, part_of_alias same t]
      exact congrArg (f := Part.resets) (a₁ := runOf _) (a₂ := runOf _) taken.run
    · rw [away same, h.resets q]
  · obtain ⟨gone, kept, why⟩ := h.opens q
    by_cases same : p = 1 ↔ q = 1
    · refine ⟨fun src => src == x.src || gone src, ?_, fun src e => ?_⟩
      · rw [part_of_alias same, taken.opens, ← part_of_alias same t, kept, List.filter_filter]
        exact List.filter_congr fun y _ => by rw [Bool.not_or]; rfl
      · rcases Bool.or_eq_true_iff.mp e with e | e
        · rw [part_of_alias same s]
          exact ⟨x, m, (beq_iff_eq.mp e).symm, other⟩
        · exact why src e
    · exact ⟨gone, by rw [away same, kept], why⟩

theorem foldl_complete {p status detail r0 r1 : Nat} : ∀ {l : List OpenCmd} {t : State}, Trims s t →
    (∀ x ∈ l, x ∈ (s.part p).opens ∧ x.opcode ≠ 0x33) → Trims s (l.foldl (fun a o => a.complete p o.src status detail r0 r1) t)
  | [], _, h, _ => h
  | x :: l, t, h, m => by
    obtain ⟨mem, other⟩ := m x List.mem_cons_self
    have first : Trims s (t.complete p x.src status detail r0 r1) := h.complete mem other status detail r0 r1
    exact foldl_complete (l := l) first fun y n => m y (List.mem_cons_of_mem x n)

end Trims

/-! ### Commands in progress -/

/-- Command `o` is the only one its source has open, whether or not its connection has been lost since. -/
def Held (s : State) (p : Nat) (o : OpenCmd) : Prop := ∃ b, Sole s p { o with orphan := b }

theorem Sole.held {s : State} {p : Nat} {o : OpenCmd} (h : Sole s p o) : Held s p o := ⟨o.orphan, h⟩

/-- A RESET_UNIT stays open when others end. -/
theorem Held.trims {s t : State} {p : Nat} {o : OpenCmd} (h : Held s p o) (reset : o.opcode = 0x33) (g : Trims s t) : Held t p o := by
  obtain ⟨b, sole⟩ := h
  obtain ⟨gone, kept, why⟩ := g.opens p
  have stays : gone o.src = false := by
    rw [← Bool.not_eq_true]
    intro e
    obtain ⟨x, m, src, other⟩ := why _ e
    have same : x = { o with orphan := b } := sole.eq_of_mem m src
    exact other (same ▸ reset)
  refine ⟨b, ?_⟩
  have whole : (s.part p).opens.filter (fun x => x.src == o.src) = [{ o with orphan := b }] := sole
  unfold Sole
  rw [kept, List.filter_filter, ← whole]
  refine List.filter_congr fun x _ => ?_
  by_cases e : x.src = o.src
  · simp [e, stays]
  · simp [e]

/-! ### The end of an arming -/

/-- A partition that enters LOADED aborts no RESET_UNIT: it is legal there (R417, R421). -/
theorem enterEvent_trims (s : State) (p : Nat) : Trims s (s.enterEvent p .loaded) := by
  have entered : Trims s (s.enter p .loaded) := by
    unfold State.enter
    dsimp only
    exact .wr (.updPart (.ite (.of_part rfl) (.refl s)) fun _ => rfl)
  refine entered.trans (Trims.foldl_complete (.refl _) fun x m => ?_)
  obtain ⟨mem, ends⟩ := List.mem_filter.mp m
  refine ⟨mem, fun reset => ?_⟩
  rw [enter_part, reset] at ends
  exact absurd ends (by rw [show legalIn 0x33 .loaded = true by decide]; simp)

theorem disarm_trims (s : State) (p status r0 : Nat) : Trims s (s.disarm p status r0) := by
  unfold State.disarm
  extract_lets u t
  have unarmed : Trims s u := .updPart (.refl s) fun _ => rfl
  have cleared : Trims s t := (unarmed.trans (enterEvent_trims u p)).wr
  refine .ite cleared (cleared.trans (Trims.foldl_complete (.refl t) fun x m => ?_))
  obtain ⟨mem, start⟩ := List.mem_filter.mp m
  obtain ⟨-, op⟩ := Bool.and_eq_true_iff.mp start
  exact ⟨mem, fun reset => absurd (reset.symm.trans (beq_iff_eq.mp op)) (by decide)⟩

theorem armBroken_trims (s : State) (p status : Nat) : Trims s (s.armBroken p status) := by
  unfold State.armBroken
  have told (kind code a : Nat) : Trims s (s.flood p kind code a 0 0) := by
    unfold State.flood State.forward
    exact .emit (.updPart (.refl s) fun _ => rfl)
  exact .ite ((told _ _ _).trans (disarm_trims _ _ _ _)) (.refl s)

/-! ### Ports -/

theorem alignRestart_trims (s : State) (q : Nat) : Trims s (s.alignRestart q) := by
  unfold State.alignRestart
  dsimp only
  exact .ite (.refl s) (.wr (.wr (.updPart (.refl s) fun _ => rfl)))

theorem computeRoutes_trims (s : State) (p : Nat) : Trims s (s.computeRoutes p) := by
  unfold State.computeRoutes
  split
  · exact .updPart (.refl s) fun _ => rfl
  · split
    · exact .refl s
    · exact .updPart (.of_part rfl) fun _ => rfl

theorem routesChanged_trims (s : State) (q : Nat) : Trims s (s.routesChanged q) := by
  unfold State.routesChanged
  dsimp only
  split
  case h_1 | h_2 => exact .updPart (.refl s) fun _ => rfl
  all_goals exact computeRoutes_trims s _

theorem portFlags_trims (s : State) (q : Nat) : Trims s (s.portFlags q) :=
  .trans (.wr (.refl s)) (Trims.foldl (fun a _ => .ite (.refl a) (.wr (.refl a))) _ _)

/-- A port state entered (R331, R332) ends no RESET_UNIT. -/
theorem setPortState_trims (s : State) (q st : Nat) : Trims s (s.setPortState q st) := by
  have restart (u : State) (h : Trims s u) (c : Bool) : Trims s (if c then u.alignRestart q else u) :=
    .ite (h.trans (alignRestart_trims u q)) h
  have broken (u : State) (h : Trims s u) (c : Bool) (p x : Nat) : Trims s (if c then u.armBroken p x else u) :=
    .ite (h.trans (armBroken_trims u p x)) h
  have routes (u : State) (h : Trims s u) (c d : Bool) : Trims s (if c then u else if d then u.routesChanged q else u) :=
    .ite h (.ite (h.trans (routesChanged_trims u q)) h)
  exact (routes _ (broken _ (restart _ (.wr (.wr (.refl s))) _) _ _ _) _ _).trans (portFlags_trims _ q)

theorem ringsOf_trims (s : State) (q : Nat) (rs : List (Nat × Nat)) (f : Ring → Ring) : Trims s (s.ringsOf q rs f) :=
  Trims.foldl (fun a _ => .updRing (.refl a)) rs s

theorem clearDelay_trims (s : State) (q : Nat) : Trims s (s.clearDelay q) := .wr (.updPort (.refl s))

theorem startTraining_trims (s : State) (q : Nat) (full : Bool) : Trims s (s.startTraining q full) := by
  have a : Trims s (((s.setPortState q ptTraining).clearDelay q).setFibre q fbLocking) :=
    .wr ((setPortState_trims s q ptTraining).trans (clearDelay_trims _ q))
  exact .updPort (a.trans (ringsOf_trims _ q laneRings _))

/-- A port that goes dark ends no RESET_UNIT. -/
theorem portDark_trims (s : State) (q : Nat) : Trims s (s.portDark q) := by
  have a : Trims s ((((s.setPortState q ptDark).clearDelay q).setFibre q fbDark).cometOff q) :=
    .wr (.wr ((setPortState_trims s q ptDark).trans (clearDelay_trims _ q)))
  exact .updPort (a.trans (ringsOf_trims _ q fibreRings _))

theorem portDark_keeps (s : State) (q : Nat) : KeepsStore s (s.portDark q) := by
  have dark : KeepsStore s (((s.setPortState q ptDark).clearDelay q).setFibre q fbDark |>.cometOff q) :=
    ((setPortState_changes s q ptDark).toKeepsStore.trans (clearDelay_keeps _ q)).wr.wr
  exact (dark.trans (ringsOf_keeps _ q fibreRings _)).updPort

end Sys2Proof.Proofs
end

section
/-! SUPPORT. The connections that a dark service port ends (11 R412): they orphan a ring's commands, and end none. -/

namespace Sys2Proof.Proofs

open Sys2Proof.Machine Sys2Proof.Laws

/-! ### Commands whose connection is lost -/

/-- A command stays open when commands only lose their connection. -/
theorem Held.orphaned {s t : State} {p : Nat} {o : OpenCmd} {g : OpenCmd → OpenCmd} (h : Held s p o)
    (hg : ∀ x, g x = x ∨ g x = { x with orphan := true }) (opens : (t.part p).opens = (s.part p).opens.map g) : Held t p o := by
  obtain ⟨b, sole⟩ := h
  have whole : (s.part p).opens.filter (fun x => x.src == o.src) = [{ o with orphan := b }] := sole
  have src (x : OpenCmd) : (g x).src = x.src := by rcases hg x with e | e <;> rw [e]
  have left : (t.part p).opens.filter (fun x => x.src == o.src) = [g { o with orphan := b }] := by
    rw [opens, List.filter_map, ← List.map_singleton, ← whole]
    exact congrArg (List.map g) (List.filter_congr fun x _ => by rw [Function.comp_apply, src])
  rcases hg { o with orphan := b } with e | e
  · exact ⟨b, left.trans (by rw [e])⟩
  · exact ⟨true, left.trans (by rw [e])⟩

/-- Storage is as before, and every RESET_UNIT in progress stays in progress. -/
structure KeepsResets (s t : State) : Prop where
  mem : t.mem = s.mem
  held : ∀ p o, o.opcode = 0x33 → Held s p o → Held t p o

namespace KeepsResets

variable {s t u : State}

theorem refl (s : State) : KeepsResets s s := ⟨rfl, fun _ _ _ h => h⟩

theorem trans (h : KeepsResets s t) (g : KeepsResets t u) : KeepsResets s u :=
  ⟨g.mem.trans h.mem, fun p o e x => g.held p o e (h.held p o e x)⟩

theorem of_trims (mem : t.mem = s.mem) (h : Trims s t) : KeepsResets s t := ⟨mem, fun _ _ e x => x.trims e h⟩

theorem foldl {α : Type} {f : State → α → State} (l : List α) (hf : ∀ a x, KeepsResets a (f a x)) (h : KeepsResets s t) :
    KeepsResets s (l.foldl f t) := by
  induction l generalizing t with
  | nil => exact h
  | cons x l ih => exact ih (h.trans (hf t x))

theorem ite {c : Prop} {_ : Decidable c} (h : KeepsResets s t) (g : KeepsResets s u) : KeepsResets s (if c then t else u) := by
  split <;> assumption

theorem wr {f : Fld} {v p i j k : Nat} (h : KeepsResets s t) : KeepsResets s (t.wr f v p i j k) :=
  h.trans (of_trims rfl (.wr (.refl t)))

theorem updPart {p : Nat} {f : Part → Part} (h : KeepsResets s t) (hf : ∀ q, cmdsOf (f q) = cmdsOf q) :
    KeepsResets s (t.updPart p f) := h.trans (of_trims (updPart_mem _ _ _) (.updPart (.refl t) hf))

/-- Commands of one partition lose their connection. -/
theorem orphan {p : Nat} {f : Part → Part} {g : OpenCmd → OpenCmd} (h : KeepsResets s t)
    (hg : ∀ x, g x = x ∨ g x = { x with orphan := true }) (hf : ∀ q, (f q).opens = q.opens.map g) :
    KeepsResets s (t.updPart p f) := by
  refine h.trans ⟨updPart_mem _ _ _, fun q o _ held => ?_⟩
  by_cases same : p = 1 ↔ q = 1
  · refine held.orphaned hg ?_
    rw [part_updPart, if_pos same, hf]
  · refine held.orphaned (g := id) (fun _ => .inl rfl) ?_
    rw [part_updPart, if_neg same, List.map_id]

end KeepsResets

/-! ### Connections -/

/-- What waits for a connection that fails ends in failure (R412). -/
theorem KeepsResets.failAwaits {s t : State} {p key : Nat} (h : KeepsResets s t) : KeepsResets s (t.failAwaits p key) := by
  unfold State.failAwaits
  dsimp only
  refine .foldl _ (fun a x => ?_) (.updPart h fun _ => rfl)
  split
  · refine .of_trims ?_ (.of_part (transferData_failed_part _ _ _ _ _))
    unfold State.transferData
    split <;> rfl
  · obtain ⟨mem, -, -, part⟩ := answerThread_only a _ _ _ _
    exact .of_trims mem (.of_part part)
  · exact .refl a

theorem connFail_keepsResets (s : State) (p c : Nat) : KeepsResets s (s.connFail p c) := by
  unfold State.connFail
  refine .ite (.refl s) (.wr (.wr (.failAwaits (.updPart (.ite (.wr ?_) ?_) fun _ => rfl))))
  all_goals
    refine .orphan (.foldl _ (fun a _ => .wr (.refl a)) (.foldl _ (fun a _ => .wr (.refl a)) (.refl s))) (fun x => ?_) fun _ => rfl
    split
    · split
      · exact .inr rfl
      · exact .inl rfl
    · exact .inl rfl

theorem portConnsFail_keepsResets (s : State) (sp : Nat) : KeepsResets s (s.portConnsFail sp) :=
  .foldl _ (fun a _ => .foldl _ (fun b _ => .ite (connFail_keepsResets b _ _) (.refl b)) (.refl a)) (.refl s)

theorem spDark_keepsResets (s : State) (sp : Nat) : KeepsResets s (s.spDark sp) :=
  .trans (.wr (.wr (.refl s))) (portConnsFail_keepsResets _ sp)

end Sys2Proof.Proofs
end

section
/-! SUPPORT. A partial reset that begins (12 R439, R442, R459): what goes dark, what is emptied and what of storage, engines and host
commands it leaves. -/

namespace Sys2Proof.Proofs

open Sys2Proof.Machine Sys2Proof.Laws

/-! ### Its stages -/

/-- The ports and service ports of the unit are dark, its cores' fences released. -/
def darkened (s : State) (u : ResetUnit) : State :=
  let s := ((List.range 32).filter u.hasPort).foldl State.portDark s
  let s := ((List.range 4).filter u.hasOe).foldl State.spDark s
  ((List.range 64).filter fun n => u.hasTile (n / 4)).foldl (fun a n => a.releaseFences n [.scu, .mxe, .vxe, .dmx]) s

/-- The unit's registers, engines, bridges, optics and ports are reset. -/
def emptied (s : State) (u : ResetUnit) : State := (s.clearRegs fun _ r i j => u.hasReg true r i j).clearUnit u true

/-- What stays through a partial reset, the straps' values and the groups are back, and the half's MGP is in its ROM. -/
def rebuilt (s : State) (p kind unit : Nat) : State :=
  let u := resetUnitOf kind unit
  let t := s.restoreUnit (emptied s u) u
  let t := ((List.range 4).filter u.hasOe).foldl (fun a o => (a.strapOptics o).collReset p o) t
  let t := if s.contained p then ((List.range 32).filter u.hasPort).foldl (fun a q => a.updPort q fun x => { x with dark := true }) t
    else t
  if kind = 1 then
    let t := t.updMgp unit fun _ => {}
    if t.mgpOf p = unit then t.wr F.HIF_STS_primary (1 - unit) p else t
  else t

/-- The reset is in progress in place of those it covers (R445). -/
def begun (s : State) (p kind unit : Nat) : State :=
  s.updPart p fun q =>
    { q with resets := (q.resets.filter fun x => !(resetUnitOf kind unit).covers (resetUnitOf x.1 x.2)) ++ [(kind, unit)] }

theorem startPartial_eq (s : State) (p kind unit : Nat) : s.startPartial p kind unit =
    (begun (rebuilt (darkened s (resetUnitOf kind unit)) p kind unit) p kind unit).resetCause p (kind + 2) unit := rfl

/-! ### Going dark -/

theorem releaseFences_keepsResets (s : State) (n : Nat) (es : List Eng) : KeepsResets s (s.releaseFences n es) :=
  .of_trims (releaseFences_changes s n es).mem (.of_part (funext fun q => releaseFences_part s n es q))

theorem darkened_keepsResets (s : State) (u : ResetUnit) : KeepsResets s (darkened s u) :=
  .foldl _ (fun a n => releaseFences_keepsResets a n _) (.foldl _ spDark_keepsResets
    (.foldl _ (fun a q => .of_trims (portDark_keeps a q).mem (portDark_trims a q)) (.refl s)))

/-- A unit without an optical engine goes dark leaving storage and engines. -/
theorem darkened_keeps {u : ResetUnit} (dry : ∀ o, u.hasOe o = false) (s : State) : KeepsStore s (darkened s u) := by
  have none : (List.range 4).filter u.hasOe = [] := List.filter_eq_nil_iff.mpr fun o _ => by rw [dry o]; exact Bool.false_ne_true
  unfold darkened
  dsimp only
  rw [none, List.foldl_nil]
  exact .foldl _ (fun a n => (releaseFences_changes a n _).toKeepsStore) (.foldl _ portDark_keeps (.refl s))

/-! ### What the rebuilding leaves -/

/-- Storage, engines and partitions are as before. -/
structure KeepsParts (s t : State) : Prop extends KeepsStore s t where
  part : t.part = s.part

namespace KeepsParts

variable {s t u : State}

theorem refl (s : State) : KeepsParts s s := ⟨.refl s, rfl⟩

theorem trans (h : KeepsParts s t) (g : KeepsParts t u) : KeepsParts s u :=
  ⟨h.toKeepsStore.trans g.toKeepsStore, g.part.trans h.part⟩

theorem ite {c : Prop} {_ : Decidable c} (h : KeepsParts s t) (g : KeepsParts s u) : KeepsParts s (if c then t else u) := by
  split <;> assumption

theorem foldl {α : Type} {f : State → α → State} (l : List α) (hf : ∀ a x, KeepsParts a (f a x)) (h : KeepsParts s t) :
    KeepsParts s (l.foldl f t) := by
  induction l generalizing t with
  | nil => exact h
  | cons x l ih => exact ih (h.trans (hf t x))

theorem setReg {r : Reg} {v : Word} {p i j k : Nat} (h : KeepsParts s t) : KeepsParts s (t.setReg r v p i j k) :=
  h.trans ⟨⟨rfl, rfl, rfl⟩, rfl⟩

theorem wr {f : Fld} {v p i j k : Nat} (h : KeepsParts s t) : KeepsParts s (t.wr f v p i j k) := h.setReg

theorem updPort {q : Nat} {f : Port → Port} (h : KeepsParts s t) : KeepsParts s (t.updPort q f) := h.trans ⟨⟨rfl, rfl, rfl⟩, rfl⟩

theorem updColl {e : Nat} {f : CollEng → CollEng} (h : KeepsParts s t) : KeepsParts s (t.updColl e f) :=
  h.trans ⟨⟨rfl, rfl, rfl⟩, rfl⟩

theorem updMgp {m : Nat} {f : Mgp → Mgp} (h : KeepsParts s t) : KeepsParts s (t.updMgp m f) :=
  h.trans ⟨⟨updMgp_mem _ _ _, updMgp_cores _ _ _, updMgp_gathers _ _ _⟩, funext fun _ => updMgp_part _ _ _ _⟩

theorem collReset {p e : Nat} (h : KeepsParts s t) : KeepsParts s (t.collReset p e) := .wr (.wr (.wr (.updColl h)))

theorem strapOptics {o : Nat} (h : KeepsParts s t) : KeepsParts s (t.strapOptics o) := h.wr.wr.wr

theorem restoreUnit {v : State} {x : ResetUnit} (h : KeepsParts s t) : KeepsParts s (v.restoreUnit t x) :=
  .foldl _ (fun a _ => .wr (.wr (.refl a))) (.foldl _ (fun a _ => .wr (.refl a)) (.foldl _ (fun a _ => .wr (.refl a)) h))

end KeepsParts

theorem rebuilt_keeps (s : State) (p kind unit : Nat) : KeepsParts (emptied s (resetUnitOf kind unit)) (rebuilt s p kind unit) := by
  have strapped (t : State) (l : List Nat) (h : KeepsParts (emptied s (resetUnitOf kind unit)) t) :
      KeepsParts (emptied s (resetUnitOf kind unit)) (l.foldl (fun a o => (a.strapOptics o).collReset p o) t) :=
    .foldl _ (fun a _ => .collReset (.strapOptics (.refl a))) h
  have darker (t : State) (l : List Nat) (h : KeepsParts (emptied s (resetUnitOf kind unit)) t) :
      KeepsParts (emptied s (resetUnitOf kind unit))
        (if s.contained p then l.foldl (fun a q => a.updPort q fun x => { x with dark := true }) t else t) :=
    .ite (.foldl _ (fun a _ => .updPort (.refl a)) h) h
  have ports := darker _ ((List.range 32).filter (resetUnitOf kind unit).hasPort)
    (strapped _ ((List.range 4).filter (resetUnitOf kind unit).hasOe) (.restoreUnit (v := s) (x := resetUnitOf kind unit) (.refl _)))
  exact .ite (.ite (.wr (.updMgp ports)) (.updMgp ports)) ports

/-! ### What is emptied -/

/-- A fold whose steps apply one idempotent change to what is seen of a state, or leave it, applies it once if any step does. -/
theorem foldl_applies {α β : Type} (view : State → β) {g : State → α → State} {f : β → β} {hit : α → Prop}
    (idem : ∀ b, f (f b) = f b) (does : ∀ s x, hit x → view (g s x) = f (view s))
    (spares : ∀ s x, ¬ hit x → view (g s x) = view s) :
    ∀ (l : List α) (s : State), (∃ x ∈ l, hit x) → view (l.foldl g s) = f (view s)
  | [], _, ⟨_, m, _⟩ => absurd m List.not_mem_nil
  | x :: l, s, hits => by
    rw [List.foldl_cons]
    by_cases here : hit x
    · by_cases later : ∃ y ∈ l, hit y
      · rw [foldl_applies view idem does spares l _ later, does s x here, idem]
      · rw [foldl_keeps_view view g l (fun a y m => spares a y fun e => later ⟨y, m, e⟩), does s x here]
    · obtain ⟨y, m, e⟩ := hits
      have later : y ∈ l := (List.mem_cons.mp m).resolve_left fun same => here (same ▸ e)
      rw [foldl_applies view idem does spares l _ ⟨y, later, e⟩, spares s x here]

/-- A core and a gather engine that have been reset keep the numbers their transfers and launches count from (R442). -/
def resetCore (k : Core) : Core := { nextTransfer := k.nextTransfer }
def resetGather (g : Gather) : Gather := { nextLaunch := g.nextLaunch }

/-- One core, or one gather engine, is reset with the requests it has out. -/
def emptyCore (s : State) (n : Nat) : State := (s.dropRequests n).updCore n resetCore
def emptyGather (s : State) (g : Nat) : State := (s.dropNarrow g).updGather g resetGather

/-- The cores and gather engines of a tile are reset. -/
def emptyTile (s : State) (t : Nat) : State := (span (2 * t) 2).foldl emptyGather ((span (4 * t) 4).foldl emptyCore s)

/-- The cores and gather engines of the unit's tiles are reset. -/
def emptyTiles (s : State) (u : ResetUnit) : State := ((List.range 16).filter u.hasTile).foldl emptyTile s

theorem mem_span {a n x : Nat} : x ∈ span a n ↔ a ≤ x ∧ x < a + n := by
  unfold span
  rw [List.mem_map]
  constructor
  · rintro ⟨i, m, rfl⟩
    have := List.mem_range.mp m
    omega
  · rintro ⟨low, high⟩
    exact ⟨x - a, List.mem_range.mpr (by omega), by omega⟩

theorem emptyCore_core (s : State) (x n : Nat) :
    (emptyCore s x).core n = if n = x then resetCore (s.core x) else s.core n := core_updCore _ _ _ _

theorem emptyGather_gather (s : State) (x g : Nat) :
    (emptyGather s x).gather g = if g = x then resetGather (s.gather x) else s.gather g := gather_updGather _ _ _ _

theorem foldl_emptyGather_core (l : List Nat) (s : State) (n : Nat) : (l.foldl emptyGather s).core n = s.core n :=
  foldl_keeps_view (State.core · n) emptyGather l (fun _ _ _ => rfl) s

theorem foldl_emptyCore_gather (l : List Nat) (s : State) (g : Nat) : (l.foldl emptyCore s).gather g = s.gather g :=
  foldl_keeps_view (State.gather · g) emptyCore l (fun _ _ _ => rfl) s

theorem emptyTile_core_ne {t n : Nat} (h : n / 4 ≠ t) (s : State) : (emptyTile s t).core n = s.core n := by
  refine (foldl_emptyGather_core _ _ n).trans (foldl_keeps_view (State.core · n) emptyCore _ (fun a x m => ?_) s)
  refine (emptyCore_core a x n).trans (if_neg ?_)
  have := mem_span.mp m
  omega

theorem emptyTile_core (s : State) (n : Nat) : (emptyTile s (n / 4)).core n = resetCore (s.core n) := by
  have here : ∃ x ∈ span (4 * (n / 4)) 4, n = x := ⟨n, mem_span.mpr (by omega), rfl⟩
  refine (foldl_emptyGather_core _ _ n).trans
    (foldl_applies (State.core · n) (f := resetCore) (fun _ => rfl) (fun a x e => ?_) (fun a x e => ?_) _ s here)
  · exact (emptyCore_core a x n).trans (by rw [if_pos e, e])
  · exact (emptyCore_core a x n).trans (if_neg e)

theorem emptyTile_gather_ne {t g : Nat} (h : g / 2 ≠ t) (s : State) : (emptyTile s t).gather g = s.gather g := by
  refine (foldl_keeps_view (State.gather · g) emptyGather _ (fun a x m => ?_) _).trans (foldl_emptyCore_gather _ s g)
  refine (emptyGather_gather a x g).trans (if_neg ?_)
  have := mem_span.mp m
  omega

theorem emptyTile_gather (s : State) (g : Nat) : (emptyTile s (g / 2)).gather g = resetGather (s.gather g) := by
  have here : ∃ x ∈ span (2 * (g / 2)) 2, g = x := ⟨g, mem_span.mpr (by omega), rfl⟩
  refine (foldl_applies (State.gather · g) (f := resetGather) (fun _ => rfl) (fun a x e => ?_) (fun a x e => ?_) _ _ here).trans
    (congrArg resetGather (foldl_emptyCore_gather _ s g))
  · exact (emptyGather_gather a x g).trans (by rw [if_pos e, e])
  · exact (emptyGather_gather a x g).trans (if_neg e)

theorem emptyTile_mem (s : State) (t : Nat) : (emptyTile s t).mem = s.mem :=
  (foldl_keeps_view State.mem emptyGather _ (fun _ _ _ => rfl) _).trans (foldl_keeps_view State.mem emptyCore _ (fun _ _ _ => rfl) s)

theorem emptyTile_part (s : State) (t : Nat) : (emptyTile s t).part = s.part :=
  (foldl_keeps_view State.part emptyGather _ (fun _ _ _ => rfl) _).trans
    (foldl_keeps_view State.part emptyCore _ (fun _ _ _ => rfl) s)

/-- What else is emptied of a unit is no storage, engine or command. -/
theorem emptied_keeps (s : State) (u : ResetUnit) :
    KeepsParts (emptyTiles (s.clearRegs fun _ r i j => u.hasReg true r i j) u) (emptied s u) := ⟨⟨rfl, rfl, rfl⟩, rfl⟩

theorem emptied_mem (s : State) (u : ResetUnit) : (emptied s u).mem = s.mem :=
  (emptied_keeps s u).mem.trans (foldl_keeps_view State.mem emptyTile _ (fun a t _ => emptyTile_mem a t) _)

theorem emptied_part (s : State) (u : ResetUnit) : (emptied s u).part = s.part :=
  (emptied_keeps s u).part.trans (foldl_keeps_view State.part emptyTile _ (fun a t _ => emptyTile_part a t) _)

theorem core_of_cores {s t : State} (h : t.cores = s.cores) (n : Nat) : t.core n = s.core n := by
  unfold State.core
  rw [h]

theorem gather_of_gathers {s t : State} (h : t.gathers = s.gathers) (g : Nat) : t.gather g = s.gather g := by
  unfold State.gather
  rw [h]

/-- A core of a tile of the unit is reset, any other is as it was. -/
theorem emptied_core {u : ResetUnit} {n : Nat} (h : n / 4 < 16 ∧ u.hasTile (n / 4) = true) (s : State) :
    (emptied s u).core n = resetCore (s.core n) := by
  have mine : ∃ t ∈ (List.range 16).filter u.hasTile, n / 4 = t :=
    ⟨n / 4, List.mem_filter.mpr ⟨List.mem_range.mpr h.1, h.2⟩, rfl⟩
  refine (core_of_cores (emptied_keeps s u).cores n).trans (foldl_applies (State.core · n) (f := resetCore) (fun _ => rfl)
    (fun a t e => ?_) (fun a t e => emptyTile_core_ne e a) _ _ mine)
  exact e ▸ emptyTile_core a n

theorem emptied_core_ne {u : ResetUnit} {n : Nat} (h : u.hasTile (n / 4) = false) (s : State) : (emptied s u).core n = s.core n := by
  refine (core_of_cores (emptied_keeps s u).cores n).trans
    (foldl_keeps_view (State.core · n) emptyTile _ (fun a t m => emptyTile_core_ne (fun e => ?_) a) _)
  rw [e, (List.mem_filter.mp m).2] at h
  exact Bool.noConfusion h

theorem emptied_gather {u : ResetUnit} {g : Nat} (h : g / 2 < 16 ∧ u.hasTile (g / 2) = true) (s : State) :
    (emptied s u).gather g = resetGather (s.gather g) := by
  have mine : ∃ t ∈ (List.range 16).filter u.hasTile, g / 2 = t :=
    ⟨g / 2, List.mem_filter.mpr ⟨List.mem_range.mpr h.1, h.2⟩, rfl⟩
  refine (gather_of_gathers (emptied_keeps s u).gathers g).trans (foldl_applies (State.gather · g) (f := resetGather) (fun _ => rfl)
    (fun a t e => ?_) (fun a t e => emptyTile_gather_ne e a) _ _ mine)
  exact e ▸ emptyTile_gather a g

/-- A unit without tiles is emptied leaving the engines as they were. -/
theorem emptied_keepsStore {u : ResetUnit} (bare : ∀ t, u.hasTile t = false) (s : State) : KeepsStore s (emptied s u) := by
  have none : (List.range 16).filter u.hasTile = [] := List.filter_eq_nil_iff.mpr fun t _ => by rw [bare t]; exact Bool.false_ne_true
  have same := (emptied_keeps s u).toKeepsStore
  unfold emptyTiles at same
  rw [none] at same
  exact ⟨same.mem, same.cores, same.gathers⟩

end Sys2Proof.Proofs
end

section
/-! SUPPORT. A partial reset that a RESET_UNIT begins (12 R442–R445, R459), and the command that waits for its end. -/

namespace Sys2Proof.Proofs

open Sys2Proof.Machine Sys2Proof.Laws

/-! ### The cause shown -/

theorem resetCause_changes (s : State) (p kind unit : Nat) :
    ChangesOnly (· = Reg.key .RST_CAUSE p 0 0 0) s (s.resetCause p kind unit) := .wr (.wr (.wr (.refl _ s) rfl) rfl) rfl

@[simp] theorem resetCause_part (s : State) (p kind unit q : Nat) : (s.resetCause p kind unit).part q = s.part q := by
  unfold State.resetCause
  rw [wr_part, wr_part, wr_part]

theorem resetCause_kind {s : State} {p kind unit : Nat} (small : kind < 16) : (s.resetCause p kind unit).rd F.RST_CAUSE_kind p = kind := by
  unfold State.resetCause
  rw [rd_wr_apart (by decide), rd_wr_apart (by decide), rd_wr_same _ _ _ _ _ _ _ (by decide)]
  exact Nat.mod_eq_of_lt small

theorem resetCause_unit {s : State} {p kind unit : Nat} (small : unit < 1024) :
    (s.resetCause p kind unit).rd F.RST_CAUSE_unit p = unit := by
  unfold State.resetCause
  rw [rd_wr_same _ _ _ _ _ _ _ (by decide)]
  exact Nat.mod_eq_of_lt small

/-! ### A partial reset begins -/

theorem Held.of_opens {s t : State} {p : Nat} {o : OpenCmd} (h : Held s p o) (e : (t.part p).opens = (s.part p).opens) : Held t p o := by
  obtain ⟨b, sole⟩ := h
  exact ⟨b, sole.of_opens e⟩

theorem rebuilt_mem (s : State) (p kind unit : Nat) : (rebuilt s p kind unit).mem = s.mem :=
  (rebuilt_keeps s p kind unit).mem.trans (emptied_mem s _)

theorem rebuilt_part (s : State) (p kind unit : Nat) : (rebuilt s p kind unit).part = s.part :=
  (rebuilt_keeps s p kind unit).part.trans (emptied_part s _)

theorem begun_opens (s : State) (p kind unit q : Nat) : ((begun s p kind unit).part q).opens = (s.part q).opens := by
  unfold begun
  rw [part_updPart]
  split <;> rfl

/-- The engines after a partial reset has begun are those its rebuilding left. -/
theorem startPartial_keeps (s : State) (p kind unit : Nat) :
    KeepsStore (rebuilt (darkened s (resetUnitOf kind unit)) p kind unit) (s.startPartial p kind unit) :=
  KeepsStore.trans (.updPart (.refl _)) (resetCause_changes _ p (kind + 2) unit).toKeepsStore

theorem startPartial_keepsResets (s : State) (p kind unit : Nat) : KeepsResets s (s.startPartial p kind unit) := by
  obtain ⟨mem, held⟩ := darkened_keepsResets s (resetUnitOf kind unit)
  refine ⟨(startPartial_keeps s p kind unit).mem.trans ((rebuilt_mem _ p kind unit).trans mem), fun q o reset h => ?_⟩
  refine (held q o reset h).of_opens ?_
  rw [startPartial_eq, resetCause_part]
  rw [begun_opens, rebuilt_part]

theorem startPartial_resets (s : State) (p kind unit : Nat) : (kind, unit) ∈ ((s.startPartial p kind unit).part p).resets := by
  rw [startPartial_eq, resetCause_part]
  unfold begun
  rw [part_updPart_same]
  exact List.mem_append_right _ (List.mem_singleton.mpr rfl)

theorem startPartial_core {s : State} {p kind unit n : Nat} (dry : ∀ o, (resetUnitOf kind unit).hasOe o = false)
    (mine : n / 4 < 16 ∧ (resetUnitOf kind unit).hasTile (n / 4) = true) :
    (s.startPartial p kind unit).core n = resetCore (s.core n) := by
  rw [core_of_cores (startPartial_keeps s p kind unit).cores, core_of_cores (rebuilt_keeps _ p kind unit).cores, emptied_core mine,
    core_of_cores (darkened_keeps dry s).cores]

theorem startPartial_core_ne {s : State} {p kind unit n : Nat} (dry : ∀ o, (resetUnitOf kind unit).hasOe o = false)
    (other : (resetUnitOf kind unit).hasTile (n / 4) = false) : (s.startPartial p kind unit).core n = s.core n := by
  rw [core_of_cores (startPartial_keeps s p kind unit).cores, core_of_cores (rebuilt_keeps _ p kind unit).cores, emptied_core_ne other,
    core_of_cores (darkened_keeps dry s).cores]

theorem startPartial_gather {s : State} {p kind unit g : Nat} (dry : ∀ o, (resetUnitOf kind unit).hasOe o = false)
    (mine : g / 2 < 16 ∧ (resetUnitOf kind unit).hasTile (g / 2) = true) :
    (s.startPartial p kind unit).gather g = resetGather (s.gather g) := by
  rw [gather_of_gathers (startPartial_keeps s p kind unit).gathers, gather_of_gathers (rebuilt_keeps _ p kind unit).gathers,
    emptied_gather mine, gather_of_gathers (darkened_keeps dry s).gathers]

/-- A unit with neither optical engine nor tile leaves every engine. -/
theorem startPartial_keepsStore {s : State} {p kind unit : Nat} (dry : ∀ o, (resetUnitOf kind unit).hasOe o = false)
    (bare : ∀ t, (resetUnitOf kind unit).hasTile t = false) : KeepsStore s (s.startPartial p kind unit) :=
  (darkened_keeps dry s).trans ((emptied_keepsStore bare _).trans ((rebuilt_keeps _ p kind unit).toKeepsStore.trans
    (startPartial_keeps s p kind unit)))

/-! ### The command that waits -/

theorem filter_updFirst {α : Type} {q : α → Bool} {y : α} (hy : q y = true) {x : α} :
    ∀ {l : List α}, l.filter q = [x] → (updFirst q (fun _ => y) l).filter q = [y]
  | [], h => absurd h (by simp)
  | z :: l, h => by
    unfold updFirst
    by_cases hz : q z = true
    · rw [List.filter_cons_of_pos hz] at h
      rw [if_pos hz, List.filter_cons_of_pos hy, (List.cons.inj h).2]
    · rw [List.filter_cons_of_neg hz] at h
      rw [if_neg hz, List.filter_cons_of_neg hz]
      exact filter_updFirst hy h

/-- A command that waits is still the only one of its source. -/
theorem Sole.await {s : State} {p : Nat} {o : OpenCmd} (h : Sole s p o) : Sole (s.await p o) p { o with stage := 1 } := by
  have whole : (s.part p).opens.filter (fun x => x.src == o.src) = [o] := h
  have mine : (({ o with stage := 1 } : OpenCmd).src == o.src) = true := beq_self_eq_true _
  have there := filter_updFirst (q := fun x : OpenCmd => x.src == o.src) mine whole
  unfold Sole
  rw [await_part]
  exact there

/-- The command waits for its reset, whether or not its connection is lost. -/
def WaitsReset (t : State) (p : Nat) (o : OpenCmd) : Prop := ∃ b, t.openOf p o.src = some { o with stage := 1, orphan := b }

theorem Held.waitsReset {t : State} {p : Nat} {o : OpenCmd} (h : Held t p { o with stage := 1 }) : WaitsReset t p o := by
  obtain ⟨b, sole⟩ := h
  exact ⟨b, sole.openOf⟩

/-- A RESET_UNIT whose reset is covered by one in progress has no further effect (R445). -/
theorem resetLater_covered {s : State} {p r kind width : Nat} {o : OpenCmd} (ready : s.readyCmd p r 0x33 o) (named : bits o.arg0 0 4 = kind)
    (covered : (s.part p).resetUnits.any (fun x => x.covers (resetUnitOf kind (bits o.arg1 0 width))) = true) :
    s.resetLater p r kind width = .next (s.await p o) := by
  have same : ((s.await p o).part p).resetUnits = (s.part p).resetUnits := by rw [await_part]; rfl
  unfold State.resetLater State.resetCommand
  rw [readyCmd_fresh ready]
  dsimp only
  rw [if_neg (not_not_intro named)]
  unfold State.askPartial
  rw [same, if_pos covered]

/-- Any other begins its reset. -/
theorem resetLater_begins {s : State} {p r kind width : Nat} {o : OpenCmd} (ready : s.readyCmd p r 0x33 o) (named : bits o.arg0 0 4 = kind)
    (free : (s.part p).resetUnits.any (fun x => x.covers (resetUnitOf kind (bits o.arg1 0 width))) = false) :
    s.resetLater p r kind width = .next ((s.await p o).startPartial p kind (bits o.arg1 0 width)) := by
  have same : ((s.await p o).part p).resetUnits = (s.part p).resetUnits := by rw [await_part]; rfl
  unfold State.resetLater State.resetCommand
  rw [readyCmd_fresh ready]
  dsimp only
  rw [if_neg (not_not_intro named)]
  unfold State.askPartial
  rw [same, if_neg (by rw [free]; exact Bool.false_ne_true)]

/-- A RESET_UNIT that begins a partial reset waits for its end (R443, R459). -/
theorem begins_waits {s : State} {p r kind width : Nat} {o : OpenCmd} (ready : s.readyCmd p r 0x33 o) (few : kind < 14)
    (narrow : width ≤ 10) {t : State} (e : t = (s.await p o).startPartial p kind (bits o.arg1 0 width)) :
    WaitsReset t p o ∧ (kind, bits o.arg1 0 width) ∈ (t.part p).resets ∧ t.rd F.RST_CAUSE_kind p = kind + 2 ∧
      t.rd F.RST_CAUSE_unit p = bits o.arg1 0 width ∧ SameMemory s t := by
  subst e
  obtain ⟨mem, held⟩ := startPartial_keepsResets (s.await p o) p kind (bits o.arg1 0 width)
  have unit : bits o.arg1 0 width < 1024 := Nat.lt_of_lt_of_le (bits_lt _ _ _) (Nat.pow_le_pow_right (by decide) narrow)
  refine ⟨(held p _ ?_ (readyCmd_sole ready).await.held).waitsReset, startPartial_resets _ _ _ _, ?_, ?_, fun a => ?_⟩
  · exact (readyCmd_opcode ready : o.opcode = 0x33)
  · exact resetCause_kind (by omega)
  · exact resetCause_unit unit
  · unfold State.byte
    rw [mem, (awaits_changes s p o).mem]

end Sys2Proof.Proofs
end

section
/-! SUPPORT. Resets that are done at once (12 R398, R423, R438, R442): of a partition, of engines of a core, of a collective engine and of
a gather engine. -/

namespace Sys2Proof.Proofs

open Sys2Proof.Machine Sys2Proof.Laws

/-! ### The command -/

/-- A RESET_UNIT that has passed its checks runs as its kind does. -/
theorem resetCommand_ready {s : State} {p r kind : Nat} {o : OpenCmd} (ready : s.readyCmd p r 0x33 o) (named : bits o.arg0 0 4 = kind)
    (f : OpenCmd → Res) : s.resetCommand p r kind f = f o := by
  unfold State.resetCommand
  rw [readyCmd_fresh ready]
  exact if_neg (not_not_intro named)

/-! ### The record written first -/

theorem writeRecord_mem (s : State) (p : Nat) (c : CplRec) : (s.writeRecord p c).mem = s.mem := by
  have told (e : Emit) : KeepsStore s ((s.emit e).count F.HIF_CQ_STS_written 1 p c.cq) := .wr (.emit (.refl s))
  exact (KeepsStore.ite (.wr (.updPart (told _))) (.updPart (told _))).mem

theorem recordNow_mem {s t : State} {p : Nat} {o : OpenCmd} (h : s.recordNow p o = some t) : t.mem = s.mem := by
  have done : (s.completeOk p o 0 0).mem = s.mem := (complete_changes s p o.src 0 0 0 0).mem
  unfold State.recordNow at h
  dsimp only at h
  split at h
  · rw [← Option.some.inj h, done]
  · split at h
    · rw [← Option.some.inj h, done]
    · split at h
      · exact absurd h (Option.some_ne_none t).symm
      · split at h
        · rw [← Option.some.inj h, writeRecord_mem, done]
        · rw [← Option.some.inj h, done]

/-- The mailbox takes its record at once (R406). -/
theorem recordNow_mailbox {s : State} {p : Nat} {o : OpenCmd} (h : o.src = .mailbox) : (s.recordNow p o).isSome = true := by
  unfold State.recordNow
  dsimp only
  rw [h]
  rfl

/-! ### A warm reset -/

theorem flashHeaters_mem (s : State) (h : Nat) : (s.flashHeaters h).mem = s.mem := by
  unfold State.flashHeaters
  dsimp only
  split <;> rfl

theorem warmHalf_mem (s : State) (h : Nat) : (s.warmHalf h).mem = s.mem := by
  unfold State.warmHalf
  dsimp only
  rw [updMgp_mem]
  exact flashHeaters_mem s h

theorem restart_mem (s : State) (p : Nat) (stopped wipe : Bool) : (s.restart p stopped wipe).mem = s.mem := by
  unfold State.restart
  dsimp only
  rw [wr_mem, (enter_changes _ p .booting).mem, updPart_mem]
  rfl

theorem restart_state (s : State) (p : Nat) (stopped wipe : Bool) : ((s.restart p stopped wipe).part p).state = .booting := by
  unfold State.restart
  dsimp only
  rw [wr_part, enter_part]

/-- Setting the optical registers to the straps' values leaves the cause of the reset (R433). -/
theorem strapOptics_cause {s : State} {o p : Nat} {f : Fld} (low : o < 4) (cause : f.reg = .RST_CAUSE) :
    (s.strapOptics o).rd f p = s.rd f p := by
  have light : f.reg.key p 0 0 0 ≠ Reg.key .OE_CTL 0 o 0 0 := by rw [cause, key_RST_CAUSE, key_OE_CTL]; omega
  have policy : f.reg.key p 0 0 0 ≠ Reg.key .OE_POLICY 0 o 0 0 := by rw [cause, key_RST_CAUSE, key_OE_POLICY]; omega
  have mode : f.reg.key p 0 0 0 ≠ Reg.key .OE_SP_STS 0 o 0 0 := by rw [cause, key_RST_CAUSE, key_OE_SP_STS]; omega
  unfold State.strapOptics
  rw [rd_wr_ne _ _ _ _ _ _ _ _ _ _ _ _ (by exact mode), rd_wr_ne _ _ _ _ _ _ _ _ _ _ _ _ (by exact policy),
    rd_wr_ne _ _ _ _ _ _ _ _ _ _ _ _ (by exact light)]

/-- The partition's halves are reset and its boot begins again. -/
def warmBegun (s : State) (p : Nat) : State :=
  ((s.halves p).foldl State.warmHalf (s.clearRegs (s.warmGone p))).restart p (s.part p).stopped false

/-- The cause of a warm reset and the count of them are shown. -/
def warmCaused (t : State) (p source n : Nat) : State :=
  (((t.setReg .RST_CAUSE 0 p).wr F.RST_CAUSE_kind 2 p).wr F.RST_CAUSE_source source p).wr F.RST_CAUSE_warm_cnt n p

/-- The partition's optical registers take the straps' values. -/
def warmStrapped (t : State) (p : Nat) : State := ((List.range 4).filter fun o => t.partOfOe o == p).foldl State.strapOptics t

/-- A warm reset shows its cause and count; what it does then is no register, storage or partition. -/
theorem warmReset_shown (s : State) (p source : Nat) :
    let v := warmStrapped (warmCaused (warmBegun s p) p source (s.rd F.RST_CAUSE_warm_cnt p + 1)) p
    KeepsParts v (s.warmReset p source) ∧ (s.warmReset p source).regs = v.regs := by
  intro v
  have shown : s.warmPart p source false =
      if p = 1 ∨ !v.twoPart then { v with vault := { v.vault with consent := false } } else v := rfl
  unfold State.warmReset
  rw [shown]
  dsimp only
  split
  · exact ⟨⟨⟨rfl, rfl, rfl⟩, rfl⟩, rfl⟩
  · exact ⟨⟨⟨rfl, rfl, rfl⟩, rfl⟩, rfl⟩

theorem warmStrapped_keeps (t : State) (p : Nat) : KeepsParts t (warmStrapped t p) :=
  .foldl _ (fun a _ => .strapOptics (.refl a)) (.refl t)

theorem warmStrapped_cause {t : State} {p : Nat} {f : Fld} (cause : f.reg = .RST_CAUSE) : (warmStrapped t p).rd f p = t.rd f p :=
  foldl_keeps_view (State.rd · f p) State.strapOptics _
    (fun _ _ m => strapOptics_cause (List.mem_range.mp (List.mem_filter.mp m).1) cause) t

theorem warmBegun_mem (s : State) (p : Nat) : (warmBegun s p).mem = s.mem :=
  (restart_mem _ p _ false).trans (foldl_keeps_view State.mem State.warmHalf _ (fun a h _ => warmHalf_mem a h) _)

theorem rd_of_regs {s t : State} (h : t.regs = s.regs) (f : Fld) (p : Nat) : t.rd f p = s.rd f p := by
  unfold State.rd State.reg
  rw [h]

/-- A warm reset by command leaves the partition booting with its cause, memory as it was (R438, R459). -/
theorem warmReset_boots (s : State) (p : Nat) : ((s.warmReset p 1).part p).state = .booting ∧
    (s.warmReset p 1).rd F.RST_CAUSE_kind p = 2 ∧ (s.warmReset p 1).rd F.RST_CAUSE_source p = 1 ∧
    (s.warmReset p 1).rd F.RST_CAUSE_warm_cnt p = (s.rd F.RST_CAUSE_warm_cnt p + 1) % 2 ^ 16 ∧ (s.warmReset p 1).mem = s.mem := by
  obtain ⟨⟨⟨mem, -, -⟩, part⟩, regs⟩ := warmReset_shown s p 1
  obtain ⟨⟨mem', -, -⟩, part'⟩ := warmStrapped_keeps (warmCaused (warmBegun s p) p 1 (s.rd F.RST_CAUSE_warm_cnt p + 1)) p
  have shown (f : Fld) (cause : f.reg = .RST_CAUSE) : (s.warmReset p 1).rd f p =
      (warmCaused (warmBegun s p) p 1 (s.rd F.RST_CAUSE_warm_cnt p + 1)).rd f p :=
    (rd_of_regs regs f p).trans (warmStrapped_cause cause)
  refine ⟨?_, ?_, ?_, ?_, ?_⟩
  · rw [part, part']
    unfold warmCaused
    rw [wr_part, wr_part, wr_part, setReg_part]
    exact restart_state _ p _ false
  · rw [shown _ rfl]
    unfold warmCaused
    rw [rd_wr_apart (by decide), rd_wr_apart (by decide), rd_wr_same _ _ _ _ _ _ _ (by decide)]
    rfl
  · rw [shown _ rfl]
    unfold warmCaused
    rw [rd_wr_apart (by decide), rd_wr_same _ _ _ _ _ _ _ (by decide)]
    rfl
  · rw [shown _ rfl]
    unfold warmCaused
    rw [rd_wr_same _ _ _ _ _ _ _ (by decide)]
    rfl
  · rw [mem, mem']
    unfold warmCaused
    rw [wr_mem, wr_mem, wr_mem, setReg_mem, warmBegun_mem]

/-! ### Engines, a collective engine, a gather engine -/

theorem resetFlag_changes (s : State) (p : Nat) :
    ChangesOnly (fun x => x = Reg.key .BOOT_EVT p 0 0 0 ∨ x = Reg.key .BOOT_EVT_CNT p 0 0 0) s (s.resetFlag p) :=
  .flag (.refl _ s) (.inl rfl) (.inr rfl)

theorem resetFlag_part (s : State) (p q : Nat) : (s.resetFlag p).part q = s.part q := flag_part _ _ _ _ _ _ _

theorem resetFlag_shown (s : State) (p : Nat) : (s.resetFlag p).rd F.BOOT_EVT_partial_reset p = 1 := by
  have apart : Reg.key .BOOT_EVT p 0 0 0 ≠ Reg.key .BOOT_EVT_CNT p 0 0 0 := by rw [key_BOOT_EVT, key_BOOT_EVT_CNT]; omega
  unfold State.resetFlag State.flag State.count
  rw [rd_wr_ne _ _ _ _ _ _ _ _ _ _ _ _ (by exact apart), rd_wr_same _ _ _ _ _ _ _ (by decide)]
  rfl

/-- The keys of a partition's boot and reset registers that a reset of engines writes, and the host interface's. -/
def BootKey (p x : Nat) : Prop := p * 0x4000000 + 0x380000 ≤ x ∧ x < p * 0x4000000 + 0x390028

theorem HostKey.boot {p x : Nat} (h : HostKey p x) : BootKey p x := by
  obtain ⟨low, high⟩ := h
  exact ⟨low, Nat.lt_of_lt_of_le high (Nat.add_le_add_left (by decide) _)⟩

/-- The flag, the cause and the completion of a reset that is done at once (R459). -/
def resetShown (s : State) (p kind u : Nat) (o : OpenCmd) : State :=
  ((s.resetFlag p).resetCause p (kind + 2) u).completeOk p o 0 0

theorem resetShown_changes (s : State) (p kind u : Nat) (o : OpenCmd) : ChangesOnly (BootKey p) s (resetShown s p kind u o) := by
  have flag := (resetFlag_changes s p).mono (L := BootKey p) fun x e => by
    rcases e with rfl | rfl
    · unfold BootKey; rw [key_BOOT_EVT]; omega
    · unfold BootKey; rw [key_BOOT_EVT_CNT]; omega
  have cause := (resetCause_changes (s.resetFlag p) p (kind + 2) u).mono (L := BootKey p) fun x e => by
    subst e; unfold BootKey; rw [key_RST_CAUSE]; omega
  have done := (complete_changes ((s.resetFlag p).resetCause p (kind + 2) u) p o.src 0 0 0 0).mono (L := BootKey p) fun _ =>
    HostKey.boot
  exact flag.trans (cause.trans done)

/-- What such a reset shows: its command closed, partial_reset, and its cause (R459). -/
theorem resetShown_shows {s : State} {p kind u : Nat} {o : OpenCmd} (sole : Sole s p o) (few : kind < 14) (small : u < 1024) :
    Closed (resetShown s p kind u o) p o 0 0 0 0 ∧ (resetShown s p kind u o).rd F.BOOT_EVT_partial_reset p = 1 ∧
      (resetShown s p kind u o).rd F.RST_CAUSE_kind p = kind + 2 ∧ (resetShown s p kind u o).rd F.RST_CAUSE_unit p = u := by
  have opened : Sole ((s.resetFlag p).resetCause p (kind + 2) u) p o :=
    sole.of_opens (by rw [resetCause_part, resetFlag_part])
  have kept := complete_changes ((s.resetFlag p).resetCause p (kind + 2) u) p o.src 0 0 0 0
  have evt : ¬ HostKey p (Reg.key .BOOT_EVT p 0 0 0) := by unfold HostKey; rw [key_BOOT_EVT]; omega
  have cause : ¬ HostKey p (Reg.key .RST_CAUSE p 0 0 0) := by unfold HostKey; rw [key_RST_CAUSE]; omega
  have apart : Reg.key .BOOT_EVT p 0 0 0 ≠ Reg.key .RST_CAUSE p 0 0 0 := by rw [key_BOOT_EVT, key_RST_CAUSE]; omega
  have flagged : ((s.resetFlag p).resetCause p (kind + 2) u).rd F.BOOT_EVT_partial_reset p = 1 :=
    ((resetCause_changes _ p (kind + 2) u).rd F.BOOT_EVT_partial_reset p 0 0 0 (by exact apart)).trans (resetFlag_shown s p)
  refine ⟨opened.closed 0 0 0 0, ?_, ?_, ?_⟩
  · exact (kept.rd F.BOOT_EVT_partial_reset p 0 0 0 (by exact evt)).trans flagged
  · exact (kept.rd F.RST_CAUSE_kind p 0 0 0 (by exact cause)).trans (resetCause_kind (by omega))
  · exact (kept.rd F.RST_CAUSE_unit p 0 0 0 (by exact cause)).trans (resetCause_unit small)

theorem resetNow_ready {s : State} {p r kind : Nat} {o : OpenCmd} (ready : s.readyCmd p r 0x33 o) (named : bits o.arg0 0 4 = kind)
    (f : Nat → State → State) :
    s.resetNow p r kind f = .next (resetShown (f (bits o.arg1 0 10) s) p kind (bits o.arg1 0 10) o) := resetCommand_ready ready named _

/-- The named engines of a core are cleared, their fences released. -/
def engineCleared (s : State) (n mask : Nat) : State :=
  (s.releaseFences n ([Eng.scu, .mxe, .vxe, .dmx].filter fun e => mask.testBit e.idx)).updCore n fun k => k.clear mask

theorem engineReset_keeps (s : State) (n mask : Nat) : KeepsParts (engineCleared s n mask) (s.engineReset n mask) := by
  have tag (t : State) : KeepsParts t (if mask.testBit 3 then (t.dropRequests n).setReg .DMX_ERR_TAG 0 0 n else t) :=
    .ite (.setReg ⟨⟨rfl, rfl, rfl⟩, rfl⟩) (.refl t)
  have latch (t : State) : KeepsParts t (if mask.testBit 2 then t.setReg .CHK_STS 0 0 n else t) := .ite (.setReg (.refl t)) (.refl t)
  have faults (t : State) :
      KeepsParts t ((List.range 4).foldl (fun a i => if mask.testBit i then a.setReg .ENG_FAULT 0 0 n i else a) t) :=
    .foldl _ (fun a _ => .ite (.setReg (.refl a)) (.refl a)) (.refl t)
  have all := (tag (engineCleared s n mask)).trans ((latch _).trans (faults _))
  exact .ite all (.setReg (.setReg (.setReg all)))

theorem engineCleared_mem (s : State) (n mask : Nat) : (engineCleared s n mask).mem = s.mem :=
  (releaseFences_changes s n _).mem

theorem engineCleared_part (s : State) (n mask q : Nat) : (engineCleared s n mask).part q = s.part q :=
  releaseFences_part s n _ q

theorem engineCleared_core (s : State) (n mask m : Nat) :
    (engineCleared s n mask).core m = if m = n then (s.core n).clear mask else s.core m := by
  have same (x : Nat) := core_of_cores (releaseFences_changes s n ([Eng.scu, .mxe, .vxe, .dmx].filter fun e => mask.testBit e.idx)).cores x
  unfold engineCleared
  rw [core_updCore, same, same]

/-- The fault of a named engine is cleared (R115). -/
theorem engineReset_fault {s : State} {n mask i : Nat} (low : i < 4) (named : mask.testBit i = true) :
    (s.engineReset n mask).reg .ENG_FAULT 0 n i = 0 := by
  have cleared (t : State) :
      ((List.range 4).foldl (fun a i => if mask.testBit i then a.setReg .ENG_FAULT 0 0 n i else a) t).reg .ENG_FAULT 0 n i = 0 := by
    refine foldl_applies (State.reg · .ENG_FAULT 0 n i) (f := fun _ => 0) (hit := (i = ·)) (fun _ => rfl) (fun a x e => ?_)
      (fun a x e => ?_) _ t ⟨i, List.mem_range.mpr low, rfl⟩
    · subst e
      rw [if_pos named, reg_setReg_same]
    · split
      · refine reg_setReg_ne _ _ _ _ _ _ _ _ _ _ _ _ ?_
        rw [key_ENG_FAULT, key_ENG_FAULT]
        omega
      · rfl
  have a : Reg.key .ENG_FAULT 0 n i 0 ≠ Reg.key .EXC_CNT_A 0 n 0 0 := by rw [key_ENG_FAULT, key_EXC_CNT_A]; omega
  have b : Reg.key .ENG_FAULT 0 n i 0 ≠ Reg.key .EXC_CNT_B 0 n 0 0 := by rw [key_ENG_FAULT, key_EXC_CNT_B]; omega
  have c : Reg.key .ENG_FAULT 0 n i 0 ≠ Reg.key .EXC_CNT_C 0 n 0 0 := by rw [key_ENG_FAULT, key_EXC_CNT_C]; omega
  unfold State.engineReset
  dsimp only
  split
  · exact cleared _
  · rw [reg_setReg_ne _ _ _ _ _ _ _ _ _ _ _ _ c, reg_setReg_ne _ _ _ _ _ _ _ _ _ _ _ _ b,
      reg_setReg_ne _ _ _ _ _ _ _ _ _ _ _ _ a]
    exact cleared _

theorem collReset_keeps (s : State) (p e : Nat) : KeepsParts s (s.collReset p e) := .collReset (.refl s)

/-- A collective engine that is reset runs nothing and holds nothing; the others are as they were (R398). -/
theorem collReset_coll (s : State) (p e : Nat) : ((s.collReset p e).coll e).ops = [] ∧ ((s.collReset p e).coll e).waiting = [] ∧
    ((s.collReset p e).coll e).comets = [] ∧ ∀ x, x ≠ e → (s.collReset p e).coll x = s.coll x := by
  unfold State.collReset
  dsimp only
  simp only [wr_coll, coll_updColl_same]
  refine ⟨trivial, trivial, trivial, fun x n => ?_⟩
  rw [coll_updColl, if_neg n]

theorem complete_colls (s : State) (p : Nat) (src : CmdSrc) (status detail r0 r1 : Nat) :
    (s.complete p src status detail r0 r1).colls = s.colls := by
  have refused (u : State) : (u.refusalFlags p status).colls = u.colls := by
    unfold State.refusalFlags
    simp only [ite_colls, flag_colls, ite_self]
  unfold State.complete
  split
  · rfl
  · extract_lets s1 s2 c
    have taken : s2.colls = s.colls := by
      simp only [s2, s1, updPart_colls, refused, State.releaseSlot]
    cases src with
    | ring r =>
      dsimp only
      split
      · exact taken
      · rw [updPart_colls, count_colls, taken]
    | mailbox =>
      dsimp only
      rw [flag_colls, wr_colls, foldl_keeps_view State.colls _ _ fun _ _ _ => setReg_colls _ _ _ _ _ _ _]
      exact taken

theorem resetShown_coll (s : State) (p kind u : Nat) (o : OpenCmd) (e : Nat) : (resetShown s p kind u o).coll e = s.coll e := by
  have same : (resetShown s p kind u o).colls = s.colls := by
    unfold resetShown State.completeOk State.resetCause State.resetFlag
    rw [complete_colls, wr_colls, wr_colls, wr_colls, flag_colls]
  unfold State.coll
  rw [same]

end Sys2Proof.Proofs
end

section
/-! SUPPORT. The end of a partial reset (12 R442–R445): reapplying the image and bringing light back end no RESET_UNIT. -/

namespace Sys2Proof.Proofs

open Sys2Proof.Machine Sys2Proof.Laws

/-! ### The image again -/

theorem Trims.setReg {s t : State} {r : Reg} {v : Word} {p i j k : Nat} (h : Trims s t) : Trims s (t.setReg r v p i j k) :=
  h.quiet rfl

theorem Trims.updStream {s t : State} {n : Nat} {e : Eng} {f : Stream → Stream} (h : Trims s t) : Trims s (t.updStream n e f) :=
  h.quiet rfl

theorem Trims.updChan {s t : State} {c : Nat} {f : Chan → Chan} (h : Trims s t) : Trims s (t.updChan c f) := h.quiet rfl

theorem Trims.updOe {s t : State} {o : Nat} {f : Oe → Oe} (h : Trims s t) : Trims s (t.updOe o f) := h.quiet rfl

theorem Trims.releaseFences {s t : State} {n : Nat} {es : List Eng} (h : Trims s t) : Trims s (t.releaseFences n es) :=
  h.quiet (funext fun q => releaseFences_part t n es q)

theorem Trims.roundQ {s t : State} {n : Int} {d : Nat} (h : Trims s t) : Trims s (t.roundQ n d).2 := by
  unfold State.roundQ
  dsimp only
  split
  · exact h
  · exact h.quiet rfl

theorem loadPort_trims (s : State) (q : Nat) : Trims s (s.loadPort q) := by
  unfold State.loadPort
  dsimp only
  split
  · exact .setReg (.wr (.refl s))
  · exact .setReg (.refl s)

theorem showDelay_trims (s : State) (q : Nat) : Trims s (s.showDelay q) := .wr (.wr (.wr (.roundQ (.roundQ (.refl s)))))

theorem loadStreamsOf_trims (s : State) (p : Nat) (img : Image) (ns : List Nat) : Trims s (s.loadStreamsOf p img ns) := by
  unfold State.loadStreamsOf
  refine Trims.foldl (fun a n => ?_) ns s
  refine Trims.trans (u := List.foldl _ (a.releaseFences n _) _) (.releaseFences (.refl a)) (Trims.foldl (fun b e => ?_) _ _)
  exact .ite (.refl b) (.updStream (.refl b))

theorem loadChannelsOf_trims (s : State) (img : Image) (cs : List Nat) : Trims s (s.loadChannelsOf img cs) :=
  Trims.foldl (fun a _ => .ite (.refl a) (.ite (.updChan (.wr (.wr (.refl a)))) (.wr (.wr (.refl a))))) cs s

theorem reapply_trims (s : State) (p : Nat) (u : ResetUnit) : Trims s (s.reapply p u) := by
  have ports (l : List Nat) : Trims s (l.foldl (fun a q => (a.loadPort q).showDelay q) s) :=
    Trims.foldl (fun a q => (loadPort_trims a q).trans (showDelay_trims _ q)) l s
  unfold State.reapply
  dsimp only
  split
  case h_1 => exact ports _
  case h_2 img _ =>
    have loaded (ns cs : List Nat) := ((ports ((List.range 32).filter u.hasPort)).trans (loadStreamsOf_trims _ p img ns)).trans
      (loadChannelsOf_trims _ img cs)
    exact .ite ((loaded _ _).quiet (funext fun q => allStreams_part _ p _ q)) (loaded _ _)

/-! ### Light again -/

theorem lightOn_trims (s : State) (o : Nat) : Trims s (s.lightOn o) := .updOe (.wr (.refl s))

theorem lightFibre_trims (s : State) (q : Nat) : Trims s (s.lightFibre q) :=
  .trans (.wr (.updPort ((startTraining_trims s q true).trans (ringsOf_trims _ q _ _)))) (ringsOf_trims _ q _ _)

theorem relightUnit_trims (s : State) (p : Nat) (u : ResetUnit) : Trims s (s.relightUnit p u) := by
  have lit : Trims s (((List.range 4).filter u.hasOe).foldl (fun a o => if a.lightEn o then a.lightOn o else a) s) :=
    Trims.foldl (fun a o => .ite (lightOn_trims a o) (.refl a)) _ s
  unfold State.relightUnit
  dsimp only
  split
  · exact .ite (lit.trans (lightFibre_trims _ _)) lit
  · exact lit
  · exact lit
  · exact lit

/-! ### The commands that it completes -/

/-- The commands that a partial reset covers and that wait for its end. -/
def coveredBy (u : ResetUnit) (o : OpenCmd) : Bool :=
  o.checked && o.opcode == 0x33 && o.stage == 1 && u.covers (resetUnitOf (bits o.arg0 0 4) (bits o.arg1 0 10))

theorem foldl_completeOk_part (p : Nat) : ∀ (l : List OpenCmd) (s : State),
    let t := l.foldl (fun a o => a.completeOk p o 0 0) s
    (t.part p).resets = (s.part p).resets ∧ ∀ x ∈ (t.part p).opens, x ∈ (s.part p).opens ∧ ∀ o ∈ l, x.src ≠ o.src
  | [], _ => ⟨rfl, fun _ m => ⟨m, fun _ n => absurd n List.not_mem_nil⟩⟩
  | o :: l, s => by
    have taken : Taken o.src (s.part p) ((s.completeOk p o 0 0).part p) := complete_taken s p o.src 0 0 0 0
    obtain ⟨resets, opens⟩ := foldl_completeOk_part p l (s.completeOk p o 0 0)
    refine ⟨resets.trans (congrArg (f := Part.resets) (a₁ := runOf _) (a₂ := runOf _) taken.run), fun x m => ?_⟩
    obtain ⟨still, others⟩ := opens x m
    rw [taken.opens] at still
    obtain ⟨here, away⟩ := List.mem_filter.mp still
    exact ⟨here, List.forall_mem_cons.mpr ⟨bne_iff_ne.mp away, others⟩⟩

end Sys2Proof.Proofs
end

section
/-! PROOFS. The resets of RESET_UNIT (11 R423; 12 R438–R445, R459). -/

namespace Sys2Proof.Proofs

open Sys2Proof.Machine Sys2Proof.Laws

/-! ### Each kind -/

/-- A reset of the partition (R423, R438). -/
theorem resetUnitWarm_boots {p : Fin 2} {r : Fin 65} {s t : State} {o : OpenCmd} (ready : s.readyCmd p r 0x33 o)
    (named : bits o.arg0 0 4 = 0) (written : s.recordNow p o = some t) : Completes (.resetUnitWarm p r) s fun v =>
      v = t.warmReset p 1 ∧ (v.part p).state = .booting ∧ v.rd F.RST_CAUSE_kind p = 2 ∧ v.rd F.RST_CAUSE_source p = 1 ∧
        v.rd F.RST_CAUSE_warm_cnt p = (t.rd F.RST_CAUSE_warm_cnt p + 1) % 2 ^ 16 ∧ SameMemory s v := by
  have run : exec (.resetUnitWarm p r) s = .next (t.warmReset p 1) := by
    change execResetUnitWarm p r s = _
    unfold execResetUnitWarm
    rw [resetCommand_ready ready named, written]
  obtain ⟨state, kind, source, count, mem⟩ := warmReset_boots t p
  refine ⟨_, run, rfl, state, kind, source, count, fun a => ?_⟩
  unfold State.byte
  rw [mem, recordNow_mem written]

theorem resetUnitHalf_runs {p : Fin 2} {r : Fin 65} {s t : State} {o : OpenCmd} (ready : s.readyCmd p r 0x33 o)
    (named : bits o.arg0 0 4 = 1) (written : s.recordNow p o = some t) :
    exec (.resetUnitHalf p r) s = .next (t.askPartial p 1 (bits o.arg1 0 1)) := by
  change execResetUnitHalf p r s = _
  unfold execResetUnitHalf
  rw [resetCommand_ready ready named, written]

/-- A command whose reset one in progress covers only waits (R445). -/
theorem covered_waits {i : Instr} {p r kind width : Nat} {s : State} {o : OpenCmd} (run : exec i s = s.resetLater p r kind width)
    (ready : s.readyCmd p r 0x33 o) (named : bits o.arg0 0 4 = kind)
    (covered : (s.part p).resetUnits.any (fun x => x.covers (resetUnitOf kind (bits o.arg1 0 width))) = true) :
    Completes i s fun t => Waits t p o ∧ t.regs = s.regs ∧ (t.part p).resets = (s.part p).resets ∧ SameMemory s t ∧
      SameEngines s t := by
  have kept := awaits_changes s p o
  exact ⟨_, run.trans (resetLater_covered ready named covered), (readyCmd_sole ready).awaits, updPart_regs _ _ _,
    by rw [await_part], kept.sameMemory, kept.sameEngines⟩

/-- Any other begins its reset and waits; `also` is what its unit adds. -/
theorem begun_waits {i : Instr} {p r kind width : Nat} {s : State} {o : OpenCmd} {also : State → Prop}
    (run : exec i s = s.resetLater p r kind width) (few : kind < 14) (narrow : width ≤ 10)
    (ready : s.readyCmd p r 0x33 o) (named : bits o.arg0 0 4 = kind)
    (adds : also ((s.await p o).startPartial p kind (bits o.arg1 0 width)))
    (free : (s.part p).resetUnits.any (fun x => x.covers (resetUnitOf kind (bits o.arg1 0 width))) = false) :
    Completes i s fun t => (∃ b, t.openOf p o.src = some { o with stage := 1, orphan := b }) ∧
      (kind, bits o.arg1 0 width) ∈ (t.part p).resets ∧ t.rd F.RST_CAUSE_kind p = kind + 2 ∧
      t.rd F.RST_CAUSE_unit p = bits o.arg1 0 width ∧ SameMemory s t ∧ also t := by
  obtain ⟨waits, begun, cause, unit, memory⟩ := begins_waits ready few narrow rfl
  exact ⟨_, run.trans (resetLater_begins ready named free), waits, begun, cause, unit, memory, adds⟩

/-- The cores and gather engines of a tile that is reset are clear, the other cores as they were (R442). -/
theorem startPartial_tile {s : State} (p unit : Nat) (low : unit < 16) :
    (∀ n, n / 4 = unit → (s.startPartial p 3 unit).core n = { nextTransfer := (s.core n).nextTransfer }) ∧
    (∀ g, g / 2 = unit → (s.startPartial p 3 unit).gather g = { nextLaunch := (s.gather g).nextLaunch }) ∧
    ∀ n, n / 4 ≠ unit → (s.startPartial p 3 unit).core n = s.core n :=
  ⟨fun _ e => startPartial_core (fun _ => rfl) ⟨by omega, beq_iff_eq.mpr e⟩,
    fun _ e => startPartial_gather (fun _ => rfl) ⟨by omega, beq_iff_eq.mpr e⟩,
    fun _ n => startPartial_core_ne (fun _ => rfl) (beq_eq_false_iff_ne.mpr n)⟩

theorem resetUnitTile_adds (s : State) (p : Nat) (o : OpenCmd) (unit : Nat) (low : unit < 16) :
    let t := (s.await p o).startPartial p 3 unit
    (∀ n, n / 4 = unit → t.core n = { nextTransfer := (s.core n).nextTransfer }) ∧
    (∀ g, g / 2 = unit → t.gather g = { nextLaunch := (s.gather g).nextLaunch }) ∧ ∀ n, n / 4 ≠ unit → t.core n = s.core n := by
  obtain ⟨cores, gathers, others⟩ := startPartial_tile (s := s.await p o) p unit low
  have kept := awaits_changes s p o
  refine ⟨fun n e => (cores n e).trans ?_, fun g e => (gathers g e).trans ?_, fun n e => (others n e).trans ?_⟩
  · rw [core_of_cores kept.cores]
  · rw [gather_of_gathers kept.gathers]
  · rw [core_of_cores kept.cores]

/-- A reset of engines of a core (R225, R442, R459). -/
theorem resetUnitEngine_clears {p : Fin 2} {r : Fin 65} {s : State} {o : OpenCmd} (ready : s.readyCmd p r 0x33 o)
    (named : bits o.arg0 0 4 = 5) : let u := bits o.arg1 0 10
    Completes (.resetUnitEngine p r) s fun t => Closed t p o 0 0 0 0 ∧
      t.core (bits u 0 6) = (s.core (bits u 0 6)).clear (bits u 6 4) ∧ (∀ n, n ≠ bits u 0 6 → t.core n = s.core n) ∧
      (∀ i, i < 4 → (bits u 6 4).testBit i = true → t.reg .ENG_FAULT 0 (bits u 0 6) i = 0) ∧
      t.rd F.BOOT_EVT_partial_reset p = 1 ∧ t.rd F.RST_CAUSE_kind p = 7 ∧ t.rd F.RST_CAUSE_unit p = u ∧ SameMemory s t := by
  intro u
  have cleared := engineReset_keeps s (bits u 0 6) (bits u 6 4)
  have shown := resetShown_changes (s.engineReset (bits u 0 6) (bits u 6 4)) p 5 u o
  have core (n : Nat) : (resetShown (s.engineReset (bits u 0 6) (bits u 6 4)) p 5 u o).core n =
      if n = bits u 0 6 then (s.core (bits u 0 6)).clear (bits u 6 4) else s.core n := by
    rw [core_of_cores shown.cores, core_of_cores cleared.cores, engineCleared_core]
  have sole : Sole (s.engineReset (bits u 0 6) (bits u 6 4)) p o :=
    (readyCmd_sole ready).of_opens (by rw [cleared.part, engineCleared_part])
  obtain ⟨closed, flag, cause, unit⟩ := resetShown_shows (kind := 5) (u := u) sole (by decide) (bits_lt _ _ _)
  have run : exec (.resetUnitEngine p r) s = .next (resetShown (s.engineReset (bits u 0 6) (bits u 6 4)) p 5 u o) := by
    change execResetUnitEngine p r s = _
    exact resetNow_ready ready named _
  refine ⟨_, run, closed, (core _).trans (if_pos rfl), fun n e => (core n).trans (if_neg e),
    fun i low bit => ?_, flag, cause, unit, fun a => ?_⟩
  · have apart : ¬ BootKey p (Reg.key .ENG_FAULT 0 (bits u 0 6) i 0) := by
      have := bits_lt u 0 6
      unfold BootKey
      rw [key_ENG_FAULT]
      omega
    exact (shown.reg _ _ _ _ _ apart).trans (engineReset_fault low bit)
  · unfold State.byte
    rw [shown.mem, cleared.mem, engineCleared_mem]

/-- A reset of a collective engine (R398, R459). -/
theorem resetUnitCollective_clears {p : Fin 2} {r : Fin 65} {s : State} {o : OpenCmd} (ready : s.readyCmd p r 0x33 o)
    (named : bits o.arg0 0 4 = 6) : let u := bits o.arg1 0 10
    Completes (.resetUnitCollective p r) s fun t => Closed t p o 0 0 0 0 ∧ (t.coll u).ops = [] ∧ (t.coll u).waiting = [] ∧
      (t.coll u).comets = [] ∧ (∀ e, e ≠ u → t.coll e = s.coll e) ∧ t.rd F.BOOT_EVT_partial_reset p = 1 ∧
      t.rd F.RST_CAUSE_kind p = 8 ∧ SameMemory s t ∧ SameEngines s t := by
  intro u
  have cleared := collReset_keeps s p u
  have shown := resetShown_changes (s.collReset p u) p 6 u o
  have kept : KeepsStore s (resetShown (s.collReset p u) p 6 u o) := cleared.toKeepsStore.trans shown.toKeepsStore
  have sole : Sole (s.collReset p u) p o := (readyCmd_sole ready).of_opens (by rw [cleared.part])
  obtain ⟨closed, flag, cause, -⟩ := resetShown_shows (kind := 6) (u := u) sole (by decide) (bits_lt _ _ _)
  obtain ⟨ops, waiting, comets, others⟩ := collReset_coll s p u
  have run : exec (.resetUnitCollective p r) s = .next (resetShown (s.collReset p u) p 6 u o) := by
    change execResetUnitCollective p r s = _
    exact resetNow_ready ready named _
  refine ⟨_, run, closed, ?_, ?_, ?_, fun e n => ?_, flag, cause, kept.sameMemory, kept.sameEngines⟩
  · rw [resetShown_coll, ops]
  · rw [resetShown_coll, waiting]
  · rw [resetShown_coll, comets]
  · rw [resetShown_coll, others e n]

/-- A reset of a gather engine (R442, R459). -/
theorem resetUnitGather_clears {p : Fin 2} {r : Fin 65} {s : State} {o : OpenCmd} (ready : s.readyCmd p r 0x33 o)
    (named : bits o.arg0 0 4 = 7) : let u := bits o.arg1 0 10
    Completes (.resetUnitGather p r) s fun t => Closed t p o 0 0 0 0 ∧
      t.gather u = { nextLaunch := (s.gather u).nextLaunch } ∧ (∀ g, g ≠ u → t.gather g = s.gather g) ∧ t.cores = s.cores ∧
      t.rd F.BOOT_EVT_partial_reset p = 1 ∧ t.rd F.RST_CAUSE_kind p = 9 ∧ SameMemory s t := by
  intro u
  have shown := resetShown_changes (emptyGather s u) p 7 u o
  have gather (g : Nat) : (resetShown (emptyGather s u) p 7 u o).gather g = if g = u then resetGather (s.gather u) else s.gather g := by
    rw [gather_of_gathers shown.gathers, emptyGather_gather]
  have sole : Sole (emptyGather s u) p o := (readyCmd_sole ready).of_opens rfl
  obtain ⟨closed, flag, cause, -⟩ := resetShown_shows (kind := 7) (u := u) sole (by decide) (bits_lt _ _ _)
  have run : exec (.resetUnitGather p r) s = .next (resetShown (emptyGather s u) p 7 u o) := by
    change execResetUnitGather p r s = _
    exact resetNow_ready ready named _
  exact ⟨_, run, closed, (gather u).trans (if_pos rfl), fun g n => (gather g).trans (if_neg n), shown.cores, flag, cause,
    fun a => by unfold State.byte; rw [shown.mem]; rfl⟩

/-! ### The end of a partial reset -/

/-- The reset has ended, the image is reapplied, light is back and partial_reset is set. -/
def reapplied (s : State) (p k : Nat) (u : ResetUnit) : State :=
  (((s.updPart p fun q => { q with resets := removeAt q.resets k }).reapply p u).relightUnit p u).resetFlag p

theorem partialResetDone_run {p : Fin 2} {k : Nat} {x : Nat × Nat} {s : State} (h : (s.part p).resets[k]? = some x) :
    let t := reapplied s p k (resetUnitOf x.1 x.2)
    exec (.partialResetDone p k) s =
      .next (((t.part p).opens.filter (coveredBy (resetUnitOf x.1 x.2))).foldl (fun a o => a.completeOk p o 0 0) t) := by
  change execPartialResetDone p k s = _
  unfold execPartialResetDone
  rw [h]
  rfl

theorem reapplied_trims (s : State) (p k : Nat) (u : ResetUnit) :
    Trims (s.updPart p fun q => { q with resets := removeAt q.resets k }) (reapplied s p k u) :=
  ((reapply_trims _ p u).trans (relightUnit_trims _ p u)).quiet (funext fun q => resetFlag_part _ p q)

/-- The end of a partial reset completes every command that it covers (R443, R445). -/
theorem partialResetDone_completes {p : Fin 2} {k : Nat} {x : Nat × Nat} {s : State} (h : (s.part p).resets[k]? = some x) :
    Completes (.partialResetDone p k) s fun t => (t.part p).resets = removeAt (s.part p).resets k ∧
      t.rd F.BOOT_EVT_partial_reset p = 1 ∧ ∀ o ∈ (s.part p).opens, o.checked = true → o.opcode = 0x33 → o.stage = 1 →
        (resetUnitOf x.1 x.2).covers (resetUnitOf (bits o.arg0 0 4) (bits o.arg1 0 10)) = true → t.openOf p o.src = none := by
  obtain ⟨resets, opens⟩ := reapplied_trims s p k (resetUnitOf x.1 x.2)
  have flag : (reapplied s p k (resetUnitOf x.1 x.2)).rd F.BOOT_EVT_partial_reset p = 1 := resetFlag_shown _ p
  have run := partialResetDone_run h
  have started := part_updPart_same s p fun q => { q with resets := removeAt q.resets k }
  generalize reapplied s p k (resetUnitOf x.1 x.2) = v at resets opens flag run
  obtain ⟨gone, kept, -⟩ := opens p
  rw [started] at kept
  obtain ⟨still, left⟩ := foldl_completeOk_part p ((v.part p).opens.filter (coveredBy (resetUnitOf x.1 x.2))) v
  refine ⟨_, run, ?_, ?_, fun o m checked opcode stage covers => List.find?_eq_none.mpr fun y n => ?_⟩
  · rw [still, resets, started]
  · have apart : ¬ HostKey p (Reg.key .BOOT_EVT p 0 0 0) := by unfold HostKey; rw [key_BOOT_EVT]; omega
    have done := ChangesOnly.foldl ((v.part p).opens.filter (coveredBy (resetUnitOf x.1 x.2)))
      (fun o _ a => complete_changes a p o.src 0 0 0 0) (.refl (HostKey p) v)
    exact (done.rd F.BOOT_EVT_partial_reset p 0 0 0 (by exact apart)).trans flag
  · obtain ⟨here, others⟩ := left y n
    rw [kept] at here
    have alive : gone y.src = false := by simpa using (List.mem_filter.mp here).2
    intro same
    have src : y.src = o.src := beq_iff_eq.mp same
    have mine : o ∈ (v.part p).opens.filter (coveredBy (resetUnitOf x.1 x.2)) := by
      rw [kept]
      refine List.mem_filter.mpr ⟨List.mem_filter.mpr ⟨m, by rw [← src, alive]; rfl⟩, ?_⟩
      simp [coveredBy, checked, opcode, stage, covers]
    exact others o mine src

/-- Settles O51: each kind of RESET_UNIT resets its unit, and the end of a partial reset completes what it covers. -/
theorem unitResets : Obligations.UnitResets := by
  unfold Obligations.UnitResets
  refine ⟨fun p r s o ready => ⟨fun named => ⟨recordNow_mailbox, fun t => resetUnitWarm_boots ready named⟩,
    fun named t => resetUnitHalf_runs ready named, fun named => ?_, fun named => ?_, fun named => ?_,
    fun named => resetUnitEngine_clears ready named, fun named _ => resetUnitCollective_clears ready named,
    fun named => resetUnitGather_clears ready named⟩, fun p k x s h => partialResetDone_completes h⟩
  · rw [named]
    exact ⟨covered_waits rfl ready named, begun_waits rfl (by decide) (by decide) ready named trivial⟩
  · rw [named]
    exact ⟨covered_waits rfl ready named, begun_waits rfl (by decide) (by decide) ready named
      (resetUnitTile_adds s p o _ (bits_lt _ _ _))⟩
  · have kept := (awaits_changes s p o).toKeepsStore.trans (startPartial_keepsStore (p := p) (kind := 4) (unit := bits o.arg1 0 5)
      (fun _ => rfl) fun _ => rfl)
    rw [named]
    exact ⟨covered_waits rfl ready named, begun_waits rfl (by decide) (by decide) ready named kept.sameEngines⟩

end Sys2Proof.Proofs
end
